-- ==== Sys2Proof/Word.lean ====
section
/-! DEFINITION. The words of the RLX-6432: bytes, times in nanoseconds, and fixed tables
(one entry per head, channel, section ...) with one reader and one writer. -/

namespace Sys2Proof

/-- One byte, as objects, records and frames carry it (R11, R460). -/
abbrev Byte := BitVec 8

/-- Microseconds in the model's nanoseconds. -/
def us (n : Nat) : Nat := n * 1000

/-- Milliseconds in the model's nanoseconds. -/
def ms (n : Nat) : Nat := n * 1000000

/-- Seconds in the model's nanoseconds. -/
def sec (n : Nat) : Nat := n * 1000000000

/-- Nanoseconds in milliseconds, rounded to nearest with ties away from zero (R506). -/
def msOf (t : Nat) : Nat := (2 * t + 1000000) / 2000000

/-- A table with one entry per resource of a fixed number (R4). -/
abbrev Tab (n : Nat) (α : Type) := Vector α n

def Tab.get {n : Nat} {α : Type} (t : Tab n α) (i : Fin n) : α := Vector.get t i

def Tab.put {n : Nat} {α : Type} (t : Tab n α) (i : Fin n) (x : α) : Tab n α :=
  Vector.set t i.val x i.isLt

def Tab.upd {n : Nat} {α : Type} (t : Tab n α) (i : Fin n) (f : α → α) : Tab n α :=
  Tab.put t i (f (Tab.get t i))

def Tab.all {n : Nat} {α : Type} (x : α) : Tab n α := Vector.replicate n x

/-- All indices of a table, in rising order. -/
def allFin (n : Nat) : List (Fin n) := List.finRange n

/-- Fold a change over all entries in rising order. -/
def foldFin {σ : Type} (n : Nat) (f : Fin n → σ → σ) (s : σ) : σ :=
  (allFin n).foldl (fun acc i => f i acc) s

/-- The index of a number inside a table, or none when it lies outside. -/
def finOf? (n : Nat) (i : Nat) : Option (Fin n) := if h : i < n then some ⟨i, h⟩ else none

/-- A counter that saturates at the largest UNSIGNED32 (R95, R125, R195 and others). -/
def satInc32 (c : Nat) : Nat := if c < 0xFFFFFFFF then c + 1 else 0xFFFFFFFF

/-- Increment that saturates at `cap`. -/
def satInc (cap c : Nat) : Nat := if c < cap then c + 1 else cap

end Sys2Proof
end

