-- ==== Sys2Proof/Syntax.lean ====
section
/-! DEFINITION. The commands of the block: one constructor of `Instr` per row of
`spec/opcode_table.json`, with the operands that the row's event carries. -/

namespace Sys2Proof

/-- The five ports of the device (R4, R393). -/
inductive PortId where
  | spi | cana | canb | eta | etb
  deriving DecidableEq, Repr

/-- The two CAN ports. -/
inductive CanPort where
  | a | b
  deriving DecidableEq, Repr

/-- The two Ethernet ports. -/
inductive EthPort where
  | a | b
  deriving DecidableEq, Repr

/-- Who makes a dictionary access: the port and the session number on it (R373). On CAN the number
is the server channel, 1 to 4. -/
structure Origin where
  port : PortId
  session : Nat
  deriving DecidableEq, Repr

/-- Which supervised rails fell below their falling thresholds (R32), whether VSUP fell so far that
the switches could no longer be held (R93) and whether it fell below 2.0 V, which loses the retention
latch (R47, R57). -/
structure RailDrop where
  vsup : Bool
  vio : Bool
  switchHold : Bool
  latch : Bool
  deriving DecidableEq, Repr

/-- What the terminals give a channel for one output sample: the voltages between SIG+ and SIG- and between REF+ and
REF-, at the modulator clocks up to the output instant, the newest first (R99, R106). Before the oldest the voltage
stood. -/
structure SampleIn where
  sig : List Rat
  ref : List Rat
  deriving DecidableEq, Repr

/-- The causes of R134. -/
inductive GuardCause where
  | collapse | compliance | sourceDown | clamp
  deriving DecidableEq, Repr

/-- What one checked channel measured during an injection, each sample with its time in ns since the injection began:
of a tone, V_REF by the auxiliary path in microvolts (R138); of a resonance check, the envelope of V_SIG as amplitude in
microvolts and phase relative to the source current in units of 0.01 degrees (R140). `clipped` is a CLIPPED sample in a
measurement interval. -/
inductive CheckValue where
  | tone (vref : List (Nat × Rat))
  | resonance (envelope : List (Nat × Rat × Rat))
  deriving DecidableEq, Repr

structure CheckMeas where
  ch : Fin 64
  value : CheckValue
  clipped : Bool
  deriving DecidableEq, Repr

/-- What an injection checks: a head (R136) or a free channel. -/
inductive CheckTarget where
  | head (h : Fin 32)
  | channel (ch : Fin 64)
  deriving DecidableEq, Repr

/-- Verdicts of R179. -/
inductive Verdict where
  | none | fullPos | fullNeg | partialEntry | retreat | orphan | broken
  deriving DecidableEq, Repr

/-- A verdict record on its way to the tracker (R180, R200). Times are counts of the 20 us grid;
`load` is in units of 10 kg when LOAD_VALID; speeds in mm/s; `signature` is its 14 bytes, least
significant first; `seq` is its number at the head (R200). -/
structure VerdictRec where
  verdict : Verdict
  exitTime : Nat
  trigTime : Option Nat
  reduced : Bool
  bridged : Bool
  dither : Nat
  load : Option Nat
  speed : Int
  exitSpeed : Int
  signature : Nat
  seq : Nat
  deriving DecidableEq, Repr

/-- A write that a core retires: to its register file, a store, to a port, or to a control register
(R341). -/
inductive Retire where
  | reg (num : BitVec 5) (value : BitVec 32)
  | store (addr : BitVec 26) (mask : BitVec 4) (data : BitVec 32)
  | port (addr : BitVec 26) (mask : BitVec 4) (data : BitVec 32)
  | control (num : BitVec 12) (value : BitVec 32)
  deriving DecidableEq, Repr

/-- What a core does in one window: the write that each of its 256 cycles retires, no cycle listed
retiring none, and the number of instructions retired (R341 to R343). -/
structure CoreWindow where
  cycles : List (Option Retire) := []
  retired : BitVec 32 := 0#32
  deriving DecidableEq, Repr

/-- A word of the on-chip flash: of the 4 MiB that hold the firmware, or of a bank of the configuration store, bank 1
when `second` (R340, R433). -/
inductive FlashPlace where
  | program (word : BitVec 20)
  | bank (second : Bool) (word : BitVec 15)
  deriving DecidableEq, Repr

/-- One read of the scrubber, or a read by Core A at its own address, with what SECDED finds (R340, R352, R353).
`coreAccess` is an access of Core A to the word that the scrubber has selected, a read or a store. A word with a
double-bit error comes as it is stored: seven check bits, then the data. A store hits the scrubber's word before the
write-back. -/
inductive MemRead where
  | clean
  | coreAccess (reads : Bool)
  | single
  | singleThenStore (mask : BitVec 4) (data : BitVec 32)
  | double (word : BitVec 39)
  | coreClean (addr : BitVec 18)
  | coreSingle (addr : BitVec 18)
  | coreDouble (addr : BitVec 18) (word : BitVec 39)
  | flashClean (place : FlashPlace)
  | flashSingle (place : FlashPlace)
  | flashDouble (place : FlashPlace) (word : BitVec 39)
  deriving DecidableEq, Repr

/-- Where a tick comes from (R315): the internal timer, or a SYNC on a port with its counter, none
when it carries no counter, and on ETA and ETB the datagram's SEQ (R420). A SYNC here is one that its port accepted:
the row is the tick that such a frame starts (log 30). -/
inductive TickSource where
  | timer
  | sync (port : PortId) (counter : Option Nat) (seq : Nat)
  deriving DecidableEq, Repr

/-- One request on an SDO server channel (R407), decoded: expedited or segmented transfers. -/
inductive SdoReq where
  | read (index sub : Nat)
  | write (index sub : Nat) (data : List Byte)
  | beginWrite (index sub total : Nat)
  | writeSegment (toggle : Bool) (data : List Byte) (last : Bool)
  | readSegment (toggle : Bool)
  | abort
  | unknown
  deriving DecidableEq, Repr

/-- What an Ethernet frame carries around its datagram (R415): destination and source, the first byte of a
MAC at the top, whether it has a VLAN tag, its EtherType and whether its FCS is right. -/
structure EthLink where
  dest : Nat
  source : Nat
  vlan : Bool := false
  etherType : Nat := 0x88B5
  fcsOk : Bool := true
  deriving DecidableEq, Repr

/-- The fields of a host datagram that vary (R408): port, the frame that brought it (none on SPI), session
and SEQ. -/
structure Hdr where
  port : PortId
  link : EthLink := { dest := 0, source := 0 }
  session : Nat
  seq : Nat
  deriving DecidableEq, Repr

/-- The peer of a datagram: the source MAC, 0 on SPI. -/
def Hdr.peer (h : Hdr) : Nat := match h.port with
  | .eta | .etb => h.link.source
  | .spi | .cana | .canb => 0

/-- One item of a READ body (R411). -/
structure ReadItem where
  index : Nat
  sub : Nat
  offset : Nat
  maxlen : Nat
  deriving DecidableEq, Repr

/-- One item of a WRITE body (R412). -/
structure WriteItem where
  index : Nat
  sub : Nat
  offset : Nat
  total : Nat
  data : List Byte
  deriving DecidableEq, Repr

/-- One RPDO block of a PD_HOST body (R413): the RPDO number, from 1, and its data. -/
structure PdBlock where
  number : Nat
  data : List Byte
  deriving DecidableEq, Repr

/-- Why a datagram is not taken (R409, R410). -/
inductive Malformation where
  | tooShort
  | badVersion
  | badType
  | badHeader
  deriving DecidableEq, Repr

/-- What identification of the eMMC finds (R454, R455, R470). `userSlots` is the size of the
user area in 64-byte slots, from which the window is taken (R457). -/
structure CardFacts where
  answers : Bool
  suitable : Bool
  bus4 : Bool
  hs52 : Bool
  /-- It has a cache (R456). -/
  cache : Bool
  userSlots : Nat
  deriving DecidableEq, Repr

/-- The commands of the block. -/
inductive Instr where
  -- supplies, clock, reset, standby (02)
  | resetnLow
  | brownout (rails : RailDrop)
  | supplyRelease (pllLocks : Bool)
  | boot
  | bootPllLockTimeout
  | vexcLowSet
  | vexcLowClear
  | clkinMissing
  | clockFreqError
  | pllLockLoss
  | hibernateCommand (o : Origin) (value : Nat)
  | stbynLowQualified
  | stbyStuckSet
  | stbyStuckClear
  | wake (pllLocks : Bool)
  | stbynRiseWake (waknLow pllLocks : Bool)
  | hibernateSupplyLoss
  -- terminals and sources (03)
  | clampFlagSet (t : Fin 192) (conducting : Bool)
  | clfClearWrite (o : Origin) (k : Fin 6) (value : Nat) (live : BitVec 32)
  | excHoldWrite (o : Origin) (high : Bool) (value : Nat)
  | excStart (src : Fin 64)
  | excRampComplete (src : Fin 64)
  | excStop (src : Fin 64)
  | excDischargeComplete (src : Fin 64)
  | excDischargeTimeout (src : Fin 64)
  | complianceSet (src : Fin 64)
  | complianceClear (src : Fin 64)
  | unsettledSpanEnd (ch : Fin 64)
  -- channels and wheel recognition (04, 06)
  | channelOutputSample (ch : Fin 64) (m : SampleIn)
  | slotClose (h : Fin 32) (slot : Fin 2)
  | fitLost (h : Fin 32)
  | overspeed (h : Fin 32) (slot : Fin 2)
  | wreCauseClear (h : Fin 32)
  -- tracker (09)
  | triggerEvent (h : Fin 32) (neg : Bool) (time : Nat)
  | traversalVerdict (h : Fin 32) (v : VerdictRec)
  | groupGapTimeout (h : Fin 32)
  | trackerWindowUpdate
  | predictionFailed (e : Fin 128)
  | trackerFullClear
  -- Bellringer (07), range monitor (04), channel guard (05)
  | bellringerStep
  | overloadForcedChange (ch : Fin 64)
  | rangeFinerRequest (ch : Fin 64)
  | guardCauseRaised (ch : Fin 64) (c : GuardCause)
  | guardCauseDropped (ch : Fin 64) (c : GuardCause)
  | checkRequestDue (h : Fin 32)
  | freeChannelCheckDue (ch : Fin 64)
  | checkNow (o : Origin) (mask : Nat)
  | guardCheckEnd (t : CheckTarget) (results : List CheckMeas)
  | testStarvedSet (h : Fin 32)
  | rebaseRequest (h : Fin 32)
  | rebaseComplete (h : Fin 32)
  | captureCmdArm (o : Origin) (h : Fin 32) (value : Nat)
  -- Tally and sections (08)
  | tallyCycle (dieTemp : Int)
  | clearDelayExpiry (n : Fin 48)
  | restoreRequest (o : Origin) (n : Fin 48) (value : Nat)
  | restoreWithdraw (o : Origin) (n : Fin 48) (value : Nat)
  | restoreExpiry (n : Fin 48)
  | disturbCmd (o : Origin) (n : Fin 48) (value : Nat)
  -- permits (10)
  | dropElapsed (p : Fin 16)
  | droptestCmd (o : Origin) (mask : Nat)
  | readbackFault (p : Fin 16)
  | tallyStall
  | inhibitWrite (o : Origin) (value : Nat)
  | lockoutCmd (o : Origin) (mask : Nat)
  | ackDebouncedEdge (pressed : Bool)
  | ackStuckSet
  | ackHighQualified
  | ackArm (o : Origin) (value : Nat)
  | ackArmWithdraw (o : Origin) (value : Nat)
  | ackArmExpiry
  -- moment engine (11)
  | tick (src : TickSource) (cycles : Nat)
  | tickOverrun (src : TickSource) (cycles : Nat)
  | syncLost
  | warmupEnd (src : TickSource) (cycles : Nat)
  | modeCmdFollow (o : Origin)
  | modeCmdHold (o : Origin)
  | modeCmdOff (o : Origin)
  | modeCmdFade (o : Origin)
  | lawEnableWrite (o : Origin) (value : Nat)
  | lawReset (o : Origin) (mask : Nat)
  -- twin execution, fatal handler, dump (12, 17)
  | reeveCompare (a b : CoreWindow) (delay0 delay1 : BitVec 224)
  | delayParityError (second : Bool) (data : BitVec 224) (parity : BitVec 28)
  | scrubRead (r : MemRead)
  | pulseTimeout
  | stopTestCmd (o : Origin) (value : Nat)
  | debugRequest (trstnHigh : Bool)
  | debugExit
  | fatalHandlerEntry
  | dumpWriteDone (headerOk : Bool)
  | dumpTimeout (headerOk : Bool)
  -- dictionary and ports (13, 14)
  | sdoRequest (p : CanPort) (chan : Fin 4) (r : SdoReq)
  | sdoSegmentTimeout (chan : Fin 4)
  | writeJudgement
  | genericWrite (o : Origin) (index sub : Nat) (data : List Byte)
  | nmtStart (p : CanPort)
  | nmtStop (p : CanPort)
  | nmtEnterPreoperational (p : CanPort)
  | nmtResetCommunication (p : CanPort)
  | rpdoReceived (p : CanPort) (n : Fin 8) (data : List Byte)
  | rpdoTimeout (p : PortId) (n : Fin 8)
  | tpdoEventTimer (n : Fin 16)
  | srdoRefresh (n : Fin 8)
  | heartbeatSend (p : PortId)
  | hbConsumerMiss (p : CanPort) (entry : Fin 4)
  | canErrorPassive (p : CanPort) (busOff : Bool)
  | busOffRecovery (p : CanPort)
  | openPlain (h : Hdr)
  | openTakeover (h : Hdr) (target : Nat)
  | closeSession (h : Hdr)
  | readItems (h : Hdr) (items : List ReadItem)
  | writeItems (h : Hdr) (items : List WriteItem)
  | nopRequest (h : Hdr)
  | pdHost (p : EthPort) (link : EthLink) (seq : Nat) (blocks : List PdBlock)
  | spiFrameReceived (bytes : List Byte)
  | spiFrameCrcError
  | spiFrameDelivered
  | sessionTimeout (slot : Fin 4)
  | sessionEnd (o : Origin) (value : Nat)
  | authRequest (o : Origin) (level : Nat)
  | authChallenge (o : Origin)
  | authResponse (o : Origin) (response : List Byte)
  | authChallengeExpiry (slot : Fin 4)
  | authLockoutEnd (p : PortId)
  | deviceKey (o : Origin) (key : List Byte)
  | errorHistoryClear (o : Origin) (value : Nat)
  -- configuration (15)
  | cfgCheck (o : Origin)
  | cfgCheckDone
  | cfgDiscard (o : Origin)
  | cfgStore (o : Origin)
  | cfgStoreDone (flashOk : Bool)
  | cfgActivate (o : Origin)
  | activationEffect (programOk : Bool)
  | cfgAdopt (o : Origin)
  | cfgAdoptDone (flashOk : Bool)
  | cfgLoadShadow (o : Origin)
  | cfgImageWrite (o : Origin) (image : List Byte)
  | expectedDigestWrite (o : Origin) (value : Nat)
  | epochArm (o : Origin) (value : Nat)
  | epochDisarm (o : Origin) (value : Nat)
  -- recorder and dump windows (16, 17)
  | bookOpen (card : CardFacts)
  | emmcRetry (card : CardFacts)
  | sectorFlushDue
  | sectorWriteDone (ok : Bool)
  | timeRecordDue
  | emmcResetReopen (card : CardFacts)
  | recClear (o : Origin)
  | recFound (o : Origin)
  | recorderCmdDone
  | correlate (o : Origin) (value : Nat)
  | readWindow (o : Origin)
  | dumpWindow (o : Origin)
  -- rows added at the end of the table
  | permitDueEdge (p : Fin 16)
  | readbackSample (p : Fin 16) (level : Bool)
  | canErrorActive (p : CanPort)
  | heartbeatReceived (p : CanPort) (node : Nat)
  | ethLinkDown (p : EthPort) (beaconOnly : Bool)
  | ethLinkUp (p : EthPort)
  | extestEntry
  | extestExit
  | malformedDatagram (h : Hdr) (typ : Nat) (m : Malformation)
  | lostRxExpiry (p : PortId)
  | lossHoldExpiry
  | sectorBusyTimeout
  | supplyVoltageUpdate (vsup vio vexc : BitVec 16)
  deriving DecidableEq, Repr

end Sys2Proof
end

