-- ==== Sys2Proof/WellFormed.lean ====
section
/-! DEFINITION. Which commands are well formed: operand values that the rows' fields can hold. The
index operands (head, channel, source, section, permit, law ...) are bounded by their types (R4). A
command that is not well formed is no event of the hardware; `exec` is total on it all the same. -/

namespace Sys2Proof

/-- A value of `n` bytes. -/
def fitsBytes (n v : Nat) : Bool := decide (v < 256 ^ n)

/-- Session numbers are 8 bits, the CAN channels 1 to 4 (R373, R426). -/
def Origin.wf (o : Origin) : Bool :=
  match o.port with
  | .cana | .canb => decide (1 ≤ o.session) && decide (o.session ≤ 4)
  | .spi | .eta | .etb => decide (o.session < 256)

/-- MAC addresses of 48 bits and an EtherType of 16 (R415). -/
def EthLink.wf (f : EthLink) : Bool := fitsBytes 6 f.dest && fitsBytes 6 f.source && fitsBytes 2 f.etherType

/-- Header fields: 8-bit session, 16-bit SEQ; datagrams travel on SPI, ETA and ETB (R408). -/
def Hdr.wf (h : Hdr) : Bool :=
  (match h.port with | .spi | .eta | .etb => true | .cana | .canb => false) && h.link.wf
    && decide (h.session < 256) && decide (h.seq < 2 ^ 16)

/-- A host body is at most 1,488 bytes (R408). -/
def bodyMax : Nat := 1488

def ReadItem.wf (r : ReadItem) : Bool :=
  fitsBytes 2 r.index && fitsBytes 1 r.sub && fitsBytes 4 r.offset && fitsBytes 2 r.maxlen

def WriteItem.wf (w : WriteItem) : Bool :=
  fitsBytes 2 w.index && fitsBytes 1 w.sub && fitsBytes 4 w.offset && fitsBytes 4 w.total
    && decide (w.data.length ≤ bodyMax)

/-- A channel has an input at the output instant (R99). -/
def SampleIn.wf (m : SampleIn) : Bool := !m.sig.isEmpty && !m.ref.isEmpty

/-- Fields of a verdict record (R180, R200). -/
def VerdictRec.wf (v : VerdictRec) : Bool :=
  decide (v.exitTime < 2 ^ 32) && (match v.trigTime with | none => true | some t => decide (t < 2 ^ 32))
    && decide (v.dither < 256) && (match v.load with | none => true | some l => decide (l < 2 ^ 16))
    && decide (v.signature < 256 ^ 14) && decide (v.seq < 2 ^ 16)

def SdoReq.wf : SdoReq → Bool
  | .read i s => fitsBytes 2 i && fitsBytes 1 s
  | .write i s d => fitsBytes 2 i && fitsBytes 1 s && decide (1 ≤ d.length) && decide (d.length ≤ 56)
  | .beginWrite i s t => fitsBytes 2 i && fitsBytes 1 s && fitsBytes 4 t
  | .writeSegment _ d _ => decide (1 ≤ d.length) && decide (d.length ≤ 56)
  | .readSegment _ => true
  | .abort => true
  | .unknown => true

def CardFacts.wf (c : CardFacts) : Bool := decide (c.userSlots < 2 ^ 32)

/-- A tone has samples in the 5.0 ms of its demodulation (R138); amplitudes are not negative, and each of five points
has 20 envelope samples in the last 0.4 ms of its 1.0 ms (R140). -/
def CheckValue.wf : CheckValue → Bool
  | .tone v => v.any (fun x => decide (500000 ≤ x.1) && decide (x.1 < 5500000))
  | .resonance l => l.all (fun x => decide (0 ≤ x.2.1)) && (List.range 5).all (fun k =>
      decide ((l.filter (fun x => decide (k * 1000000 + 600000 ≤ x.1) && decide (x.1 < (k + 1) * 1000000))).length = 20))

/-- Well-formed commands. -/
def Instr.wellFormed : Instr → Bool
  | .hibernateCommand o v => o.wf && fitsBytes 2 v
  | .clfClearWrite o _ v _ => o.wf && fitsBytes 4 v
  | .excHoldWrite o _ v => o.wf && fitsBytes 4 v
  | .channelOutputSample _ m => m.wf
  | .triggerEvent _ _ t => fitsBytes 4 t
  | .traversalVerdict _ v => v.wf
  | .checkNow o m => o.wf && fitsBytes 4 m
  | .guardCheckEnd _ rs => rs.all (fun r => r.value.wf)
  | .captureCmdArm o _ v => o.wf && fitsBytes 1 v
  | .restoreRequest o _ v | .restoreWithdraw o _ v | .disturbCmd o _ v => o.wf && fitsBytes 2 v
  | .droptestCmd o m | .lockoutCmd o m => o.wf && fitsBytes 2 m
  | .inhibitWrite o v => o.wf && fitsBytes 2 v
  | .ackArm o v | .ackArmWithdraw o v => o.wf && fitsBytes 2 v
  | .tick src _ | .tickOverrun src _ | .warmupEnd src _ =>
    (match src with
     | .timer => true
     | .sync p c q => p != .spi && fitsBytes 2 q && (match c with | none => true | some n => decide (n < 256)))
  | .modeCmdFollow o | .modeCmdHold o | .modeCmdOff o | .modeCmdFade o => o.wf
  | .lawEnableWrite o v => o.wf && fitsBytes 2 v
  | .lawReset o m => o.wf && fitsBytes 2 m
  | .reeveCompare a b _ _ => decide (a.cycles.length ≤ 256) && decide (b.cycles.length ≤ 256)
  | .stopTestCmd o v => o.wf && fitsBytes 2 v
  | .sdoRequest _ _ r => r.wf
  | .genericWrite o i s d => o.wf && fitsBytes 2 i && fitsBytes 1 s && decide (d.length ≤ 65536)
  | .rpdoReceived _ _ d => decide (d.length ≤ 64)
  | .rpdoTimeout _ _ => true
  | .openPlain h | .closeSession h | .nopRequest h => h.wf
  | .malformedDatagram h t _ => h.wf && h.port != .spi && fitsBytes 1 t
  | .openTakeover h t => h.wf && fitsBytes 1 t
  | .readItems h is => h.wf && decide (1 ≤ is.length) && decide (is.length ≤ 32) && is.all ReadItem.wf
  | .writeItems h is => h.wf && decide (1 ≤ is.length) && decide (is.length ≤ 32) && is.all WriteItem.wf
  | .pdHost _ f q bs => f.wf && fitsBytes 2 q && bs.all (fun b => fitsBytes 1 b.number && decide (b.data.length ≤ 64))
  | .spiFrameReceived bs => decide (bs.length ≤ 1536)
  | .sessionEnd o v => o.wf && fitsBytes 1 v
  | .authRequest o l => o.wf && fitsBytes 1 l
  | .authChallenge o => o.wf
  | .authResponse o r => o.wf && decide (r.length ≤ bodyMax)
  | .deviceKey o k => o.wf && decide (k.length ≤ bodyMax)
  | .errorHistoryClear o v => o.wf && fitsBytes 1 v
  | .cfgCheck o | .cfgDiscard o | .cfgStore o | .cfgActivate o | .cfgAdopt o | .cfgLoadShadow o => o.wf
  | .cfgImageWrite o i => o.wf && decide (i.length ≤ 65536)
  | .expectedDigestWrite o v => o.wf && fitsBytes 8 v
  | .epochArm o v | .epochDisarm o v => o.wf && fitsBytes 4 v
  | .bookOpen c | .emmcRetry c | .emmcResetReopen c => c.wf
  | .recClear o | .recFound o | .readWindow o | .dumpWindow o => o.wf
  | .correlate o v => o.wf && fitsBytes 8 v
  | .heartbeatReceived _ n => decide (1 ≤ n) && decide (n ≤ 127)
  | .busOffRecovery _ | .canErrorActive _ | .canErrorPassive _ _ => true
  | .hbConsumerMiss _ _ | .heartbeatSend _ | .srdoRefresh _ | .tpdoEventTimer _ => true
  | .nmtStart _ | .nmtStop _ | .nmtEnterPreoperational _ | .nmtResetCommunication _ => true
  | .resetnLow | .brownout _ | .supplyRelease _ | .boot | .bootPllLockTimeout | .vexcLowSet
  | .vexcLowClear | .clkinMissing | .clockFreqError | .pllLockLoss | .stbynLowQualified
  | .stbyStuckSet | .stbyStuckClear | .wake _ | .stbynRiseWake _ _ | .hibernateSupplyLoss => true
  | .clampFlagSet _ _ | .excStart _ | .excRampComplete _ | .excStop _ | .excDischargeComplete _
  | .excDischargeTimeout _ | .complianceSet _ | .complianceClear _ | .unsettledSpanEnd _ => true
  | .slotClose _ _ | .fitLost _ | .overspeed _ _ | .wreCauseClear _ => true
  | .groupGapTimeout _ | .trackerWindowUpdate | .predictionFailed _ | .trackerFullClear => true
  | .bellringerStep | .overloadForcedChange _ | .rangeFinerRequest _ | .guardCauseRaised _ _
  | .guardCauseDropped _ _ | .checkRequestDue _ | .freeChannelCheckDue _ | .testStarvedSet _
  | .rebaseRequest _ | .rebaseComplete _ => true
  | .tallyCycle t => decide (-32768 ≤ t) && decide (t ≤ 32767)
  | .clearDelayExpiry _ | .restoreExpiry _ => true
  | .dropElapsed _ | .readbackFault _ | .tallyStall | .ackDebouncedEdge _ | .ackStuckSet
  | .ackHighQualified | .ackArmExpiry | .permitDueEdge _ | .readbackSample _ _ => true
  | .syncLost => true
  | .scrubRead _ | .delayParityError _ _ _ | .pulseTimeout | .debugRequest _ | .debugExit
  | .fatalHandlerEntry | .dumpWriteDone _ | .dumpTimeout _ => true
  | .sdoSegmentTimeout _ | .writeJudgement => true
  | .spiFrameCrcError | .spiFrameDelivered | .sessionTimeout _ | .authChallengeExpiry _
  | .authLockoutEnd _ => true
  | .cfgCheckDone | .cfgStoreDone _ | .activationEffect _ | .cfgAdoptDone _ => true
  | .sectorFlushDue | .sectorWriteDone _ | .timeRecordDue | .recorderCmdDone => true
  | .ethLinkDown _ _ | .ethLinkUp _ | .extestEntry | .extestExit | .lostRxExpiry _ | .lossHoldExpiry
  | .sectorBusyTimeout => true
  | .supplyVoltageUpdate _ _ _ => true

end Sys2Proof
end

