-- ==== Sys2Proof/Machine/Bits.lean ====
section
/-! DEFINITION. Byte order, bit fields, signed readings and the roundings that several chapters share
(R11, R506, R312). -/

namespace Sys2Proof.Machine

/-- The `n` bytes of a value, least significant first (R11). -/
def leBytes : Nat → Nat → List Byte
  | 0, _ => []
  | n + 1, v => BitVec.ofNat 8 v :: leBytes n (v / 256)

/-- The number that bytes spell, least significant first (R11). -/
def ofLe : List Byte → Nat
  | [] => 0
  | b :: bs => b.toNat + 256 * ofLe bs

/-- The number that bytes spell, most significant first. -/
def ofBe (bs : List Byte) : Nat := ofLe bs.reverse

/-- Bits `hi` down to `lo` of a number. -/
def field (v hi lo : Nat) : Nat := v / 2 ^ lo % 2 ^ (hi - lo + 1)

/-- Bit `i` of a number. -/
def bitOf (v i : Nat) : Bool := v / 2 ^ i % 2 == 1

/-- Byte `i` of a value. -/
def byteOf (v i : Nat) : Nat := v / 256 ^ i % 256

/-- The `n` bytes of a value from byte `i` on, as a number. -/
def bytesOf (v i n : Nat) : Nat := v / 256 ^ i % 256 ^ n

/-- `n` bits read as two's complement. -/
def toSigned (n v : Nat) : Int := if v % 2 ^ n < 2 ^ (n - 1) then (v % 2 ^ n : Nat) else (v % 2 ^ n : Nat) - (2 ^ n : Nat)

/-- Two's complement of `n` bits. -/
def ofSigned (n : Nat) (x : Int) : Nat := (x % (2 ^ n : Nat)).toNat

/-- 1 for true. -/
def b2n (b : Bool) : Nat := if b then 1 else 0

/-- A number whose bit `i` is `f i`, for i below `n`. -/
def mapBits (n : Nat) (f : Nat → Bool) : Nat :=
  (List.range n).foldl (fun acc i => if f i then acc + 2 ^ i else acc) 0

/-- Nearest integer, ties away from zero (R506). -/
def roundAway (q : Rat) : Int :=
  if 0 ≤ q then (q + 1 / 2).floor else -((-q + 1 / 2).floor)

/-- Nearest integer, ties towards plus infinity (R312). -/
def roundUpTies (q : Rat) : Int := (q + 1 / 2).floor

/-- Nearest integer of `x / 2^k`, ties towards plus infinity (R312). -/
def shiftRound (x : Int) (k : Nat) : Int := (x + (2 ^ k / 2 : Nat)) / (2 ^ k : Nat)

/-- Saturate to `n` bits signed. -/
def satS (n : Nat) (x : Int) : Int :=
  if x < -((2 : Int) ^ (n - 1)) then -((2 : Int) ^ (n - 1))
  else if (2 : Int) ^ (n - 1) - 1 < x then (2 : Int) ^ (n - 1) - 1 else x

/-- Saturate to `n` bits unsigned. -/
def satU (n : Nat) (x : Int) : Nat := if x < 0 then 0 else if x.toNat < 2 ^ n then x.toNat else 2 ^ n - 1

/-- Limit to lo .. hi. -/
def clampI (lo hi x : Int) : Int := if x < lo then lo else if hi < x then hi else x

def absR (q : Rat) : Rat := if q < 0 then -q else q

def minR (a b : Rat) : Rat := if a ≤ b then a else b

def maxR (a b : Rat) : Rat := if a ≤ b then b else a

/-- Largest n with n * n ≤ x, by halving steps from a power of two; `k` bits are enough when
x < 4 ^ k. -/
def isqrtFrom : Nat → Nat → Nat → Nat
  | 0, _, acc => acc
  | k + 1, x, acc =>
    let t := acc + 2 ^ k
    isqrtFrom k x (if t * t ≤ x then t else acc)

def isqrt (x : Nat) : Nat := isqrtFrom 64 x 0

/-- A list padded with zero bytes, or cut, to `n` bytes. -/
def padBytes (n : Nat) (bs : List Byte) : List Byte := (bs ++ List.replicate n 0#8).take n

/-- A byte string of ASCII characters, padded with 0x00 (R367). -/
def asciiLe (n : Nat) (cs : List Nat) : Nat := ofLe (padBytes n (cs.map (BitVec.ofNat 8)))

/-- True when all elements of a list differ. -/
def distinct {α : Type} [DecidableEq α] : List α → Bool
  | [] => true
  | x :: xs => !(xs.contains x) && distinct xs

end Sys2Proof.Machine
end

