-- ==== Sys2Proof/Machine/Crypto.lean ====
section
/-! DEFINITION. The check sums and the hash that the spec names: CRC-32C (R386, R416, R434, R460),
SHA-256 and HMAC-SHA-256 (R428, R438, R474). CRC-32 and CRC-64 (R263, R461). The definitions of
SHA-256, HMAC and CRC-32C stand outside the spec (log 25). -/

namespace Sys2Proof.Machine

/-- `n` shifts of a reflected CRC register. -/
def crcShift (poly : Nat) : Nat → Nat → Nat
  | 0, c => c
  | n + 1, c => crcShift poly n (if c % 2 == 1 then (c / 2) ^^^ poly else c / 2)

def crcRun (poly : Nat) (c : Nat) (bs : List Byte) : Nat :=
  bs.foldl (fun c b => crcShift poly 8 (c ^^^ b.toNat)) c

/-- CRC-32C (Castagnoli): reflected polynomial 0x82F63B78, start and final exclusive-or all ones. -/
def crc32c (bs : List Byte) : Nat := crcRun 0x82F63B78 0xFFFFFFFF bs ^^^ 0xFFFFFFFF

/-- The CRC-32 of records and the label (R461): reflected polynomial 0xEDB88320. -/
def crc32 (bs : List Byte) : Nat := crcRun 0xEDB88320 0xFFFFFFFF bs ^^^ 0xFFFFFFFF

/-- `n` shifts of the CRC-64 register, most significant bit first. -/
def crc64Shift : Nat → Nat → Nat
  | 0, c => c
  | n + 1, c =>
    crc64Shift n
      (if c ≥ 2 ^ 63 then (2 * c % 2 ^ 64) ^^^ 0x42F0E1EBA9EA3693 else 2 * c % 2 ^ 64)

/-- The CRC-64 of R263: polynomial 0x42F0E1EBA9EA3693, start 0, no reflection, no final
exclusive-or. -/
def crc64 (bs : List Byte) : Nat :=
  bs.foldl (fun c b => crc64Shift 8 (c ^^^ (b.toNat * 2 ^ 56))) 0

/-- Word `i` of `n` words of 32 bits that stand in one number, the first word at the top. -/
def packedWord (n packed i : Nat) : BitVec 32 := BitVec.ofNat 32 (packed / 2 ^ (32 * (n - 1 - i)))

/-- The 64 constants of SHA-256 as one number: the first 32 bits behind the point of the cube roots of the
first 64 primes, in order. -/
def shaConstants : Nat :=
  0x428a2f9871374491b5c0fbcfe9b5dba53956c25b59f111f1923f82a4ab1c5ed5d807aa9812835b01243185be550c7dc372be5d7480deb1fe9bdc06a7c19bf174e49b69c1efbe47860fc19dc6240ca1cc2de92c6f4a7484aa5cb0a9dc76f988da983e5152a831c66db00327c8bf597fc7c6e00bf3d5a7914706ca63511429296727b70a852e1b21384d2c6dfc53380d13650a7354766a0abb81c2c92e92722c85a2bfe8a1a81a664bc24b8b70c76c51a3d192e819d6990624f40e3585106aa07019a4c1161e376c082748774c34b0bcb5391c0cb34ed8aa4a5b9cca4f682e6ff3748f82ee78a5636f84c878148cc7020890befffaa4506cebbef9a3f7c67178f2

/-- What the chaining value starts from: the same of the square roots of the first eight primes. -/
def shaStart : List (BitVec 32) :=
  (List.range 8).map (packedWord 8 0x6a09e667bb67ae853c6ef372a54ff53a510e527f9b05688c1f83d9ab5be0cd19)

/-- Three turns of a word to the right, added bit by bit. -/
def turns (x : BitVec 32) (i j k : Nat) : BitVec 32 := x.rotateRight i ^^^ x.rotateRight j ^^^ x.rotateRight k

/-- Two turns and one shift of a word to the right, added bit by bit. -/
def turnsShift (x : BitVec 32) (i j k : Nat) : BitVec 32 := x.rotateRight i ^^^ x.rotateRight j ^^^ x >>> k

/-- The message schedule, latest word first: `n` words more. -/
def shaExtend : Nat → List (BitVec 32) → List (BitVec 32)
  | 0, ws => ws
  | n + 1, ws =>
    shaExtend n ((turnsShift (ws.getD 1 0#32) 17 19 10 + ws.getD 6 0#32
      + turnsShift (ws.getD 14 0#32) 7 18 3 + ws.getD 15 0#32) :: ws)

/-- One round: the chaining value, and the sum of the round's constant and its schedule word. -/
def shaRound (v : List (BitVec 32)) (kw : BitVec 32) : List (BitVec 32) :=
  match v with
  | [a, b, c, d, e, f, g, h] =>
    let choice := g ^^^ (e &&& (f ^^^ g))
    let majority := (a &&& b) ||| (c &&& (a ||| b))
    let sum := h + turns e 6 11 25 + choice + kw
    [sum + turns a 2 13 22 + majority, a, b, c, d + sum, e, f, g]
  | _ => v

/-- Words of four bytes, the most significant first. -/
def bigWords : Nat → List Byte → List (BitVec 32)
  | n + 1, b0 :: b1 :: b2 :: b3 :: rest => (b0 ++ b1 ++ b2 ++ b3) :: bigWords n rest
  | _, _ => []

/-- One block of 64 bytes. -/
def shaCompress (v : List (BitVec 32)) (block : List Byte) : List (BitVec 32) :=
  let schedule := (shaExtend 48 (bigWords 16 block).reverse).reverse
  let rounds := schedule.zipIdx.foldl (fun x w => shaRound x (packedWord 64 shaConstants w.2 + w.1)) v
  List.zipWith (· + ·) v rounds

/-- The blocks of a message, at most `n`. -/
def shaRun : Nat → List (BitVec 32) → List Byte → List (BitVec 32)
  | n + 1, v, b :: bs => shaRun n (shaCompress v ((b :: bs).take 64)) ((b :: bs).drop 64)
  | _, v, _ => v

/-- What follows a message of `n` bytes: a one bit, zeros, and its length in bits. -/
def shaTail (n : Nat) : List Byte :=
  0x80#8 :: (List.replicate ((183 - n % 64) % 64) 0#8 ++ (leBytes 8 (8 * n)).reverse)

/-- SHA-256 of a byte string: 32 bytes. -/
def sha256 (bs : List Byte) : List Byte :=
  (shaRun (bs.length / 64 + 2) shaStart (bs ++ shaTail bs.length)).flatMap (fun w => (leBytes 4 w.toNat).reverse)

/-- HMAC-SHA-256 with a key of at most 64 bytes. -/
def hmacSha256 (key msg : List Byte) : List Byte :=
  let k := padBytes 64 key
  sha256 (k.map (fun b => b ^^^ 0x5C#8) ++ sha256 (k.map (fun b => b ^^^ 0x36#8) ++ msg))

end Sys2Proof.Machine
end

