-- ==== Sys2Proof/Config.lean ====
section
/-! DEFINITION. What the spec leaves to the individual device or leaves open: constants and free
values WITHOUT A BODY, so that no proof can lean on a number (log 5). Free values take the model's
counter `fresh`, so each use is a new one. -/

namespace Sys2Proof.Config

/-- VSUP_MV, VIO_MV and VEXC_MV as measured before the first update (R66). -/
opaque bootMv : Nat → Nat → BitVec 16
/-- DIE_TEMP as measured before the first Tally cycle (R66). -/
opaque bootTemp : Nat → BitVec 16
/-- A 32-bit word of program flash, by its number: the firmware (R340). -/
opaque flashWord : Nat → BitVec 32
/-- The 28 bytes that enter Core A in a cycle, but for what the cycle is known to bring (R339). -/
opaque stageRest : Nat → BitVec 224
/-- What entered Core B last in a window, by its number (R339). -/
opaque windowInput : Nat → BitVec 224
/-- What has entered the cores and stands in the delay registers at the end of boot (R339): Core A, Core B, first stage,
second stage. -/
opaque bootStage : Nat → Nat → BitVec 224
/-- Byte of a stage at which the word of a read begins (R339, R340). -/
opaque stageByte : Nat
/-- Bit of a stage that carries debug requests (R339). -/
opaque stageDebugBit : Nat
/-- Byte address of a bank of the configuration store in flash; bank 1 for `true` (R352, R433). -/
opaque bankBase : Bool → Nat
/-- The seven check bits that the SECDED code gives a data word (R352). -/
opaque secded : BitVec 32 → BitVec 7

/-- SERIAL of the device, 64 bits (R386). -/
opaque serial : BitVec 64
/-- SILICON_REV (R386). -/
opaque siliconRev : BitVec 16
/-- FW_VERSION: major, minor, patch (R386). -/
opaque fwVersion : BitVec 32
/-- FW_IMAGE_CRC of the firmware image checked at boot (R386). -/
opaque fwImageCrc : BitVec 32
/-- Miomet's vendor-ID in the CANopen identity (R385). -/
opaque vendorId : BitVec 32

/-- Miomet's manufacturer identity in the IDCODE (R62). -/
opaque jtagManufacturer : BitVec 11

/-- exp(-2πx): what stands of a step after x periods of a pole's corner frequency (R99). -/
opaque expTurns : Rat → Rat
/-- Cosine of an angle in turns (R104, R138). -/
opaque cosine : Rat → Rat
/-- Angle of a point (x, y) in turns (R99). -/
opaque angle : Rat → Rat → Rat
/-- Error of a channel's modulator at an instant, of which the spec gives limits (R129 to R132). -/
opaque modulatorError : Nat → Nat → Rat
/-- Coefficients of stage 7 by its decimation, of which the spec gives the response (R101). -/
opaque firTap : Nat → Nat → Rat
/-- By how much the demodulator's references make up for the gain of the chain at a carrier in units of 0.1 kHz
(R99, R104). -/
opaque carrierGain : Rat → Rat
/-- By how many turns they do so for its delay (R99, R104). -/
opaque carrierLag : Rat → Rat
/-- VALUE of a CLIPPED sample: "not specified" (R113). -/
opaque clippedValue : Nat → BitVec 24
/-- The last LSB of a linearised value, which R153 allows to differ by at most one. -/
opaque linearisationError : Nat → Int
/-- The device's random source for AUTH_CHALLENGE (R428). -/
opaque challenge : Nat → BitVec 128
/-- SPEED of a verdict that is not FULL, which R182 does not give. -/
opaque partialSpeed : Nat → BitVec 32
/-- SIG_A at a stop that no signature comparison raised (R361). -/
opaque stopSigA : Nat → BitVec 32
/-- SIG_B at a stop that no signature comparison raised (R361). -/
opaque stopSigB : Nat → BitVec 32
/-- Program counters and MISRs at a stop, which depend on the firmware: bytes 256 to 271 of the CORE block
(R493). -/
opaque coreByte : Nat → Nat → BitVec 8
/-- Registers of both cores after the windows of boot, in which the firmware has run (R338, R354). -/
opaque coreReg : Nat → Nat → BitVec 32
/-- Bytes of SRAM after the windows of boot (R340, R354). -/
opaque sramByte : Nat → Nat → BitVec 8
/-- Bytes of a dump's blocks that were written when a block write failed or 10 s had passed (R491). -/
opaque dumpWritten : Nat → Nat
/-- FATAL_RECORD in a dump whose FATAL record got no number (R465, R468, R492). -/
opaque fatalNumber : Nat → BitVec 32
/-- The checksum that EN 50325-5 defines for an SRDO, of its communication and mapping values as one
number; the standard is not part of the spec (R405). -/
opaque srdoChecksum : Nat → BitVec 16

/-- A store that power or a reset cut short left a header that reads (R435). -/
opaque tornHeader : Nat → Bool
/-- What then stands as the CHECK_WORD of that bank (R435). -/
opaque tornCheck : Nat → BitVec 32
/-- Whether an ADOPT that is cut short was still writing the bank, and not programming its ACT_COUNT (R435, R445). -/
opaque tornAdopt : Nat → Bool
/-- ACT_COUNT whose programming power or a reset cut short was programmed (R435). -/
opaque tornProgram : Nat → Bool
/-- ACT_COUNT whose programming power or a reset cut short was left unreadable (R435). -/
opaque tornWord : Nat → Bool
/-- A sector whose writing power or a reset cut short holds its new contents (R456, R461). -/
opaque tornSector : Nat → Bool

/-- Code of the emergency that reports the return from error passive, which R406 does not give. -/
opaque backToActive : BitVec 16
/-- Code of the emergency that reports the way into bus-off, which R406 does not give. -/
opaque toBusOff : BitVec 16
/-- SOURCE of the emergency 0xFF11, which R406 does not give. -/
opaque srdoSource : BitVec 8

end Sys2Proof.Config
end

