-- ==== Sys2Proof/Machine/State.lean ====
section
/-! DEFINITION. The state of the RLX-6432 as plain data: every register, FIFO, counter, mode and pin
that the spec names (INVENTORY.md lists each with its rule and its reset value), the queue of waiting
commands, and the model's own clock, counter of free values and list of messages sent. -/

namespace Sys2Proof.Machine

/-- Where the device is in its life (R32, R46, R48, R53, R57, R59, R387). `clockHeld` is the state
after a clock fault: cores held, ports silent (R484). `debugHalted` is Core A under the debugger
(R357, R485). -/
inductive Phase where
  | unpowered | inReset | running | hibernate | stopped | clockHeld | debugHalted
  deriving DecidableEq, Repr

/-- Instructions of the test access port (R62). -/
inductive TapInstr where
  | bypass | idcode | samplePreload | extest
  deriving DecidableEq, Repr

/-- The test access port (R62, R63): the instruction it holds, IDCODE after its reset, and the update latches of the
boundary register, one bit per cell in the order of `boundaryCells`. -/
structure Tap where
  instr : TapInstr := .idcode
  latches : BitVec 71 := 0#71
  deriving DecidableEq, Repr

/-- Supplies, reset, standby, die temperature (chapter 02). -/
structure Power where
  phase : Phase := .inReset
  vsupOk : Bool := true
  vioOk : Bool := true
  vexcLow : Bool := false
  vsupMv : Nat := 0
  vioMv : Nat := 0
  vexcMv : Nat := 0
  dieTemp : Int := 0
  thermalWarn : Bool := false
  thermalTrip : Bool := false
  stbynHigh : Bool := true
  stbyStuck : Bool := false
  resetnLow : Bool := false
  /-- A wake is PENDING (R55), and the PLL locks within 1 ms when it is executed. -/
  wakePending : Bool := false
  wakeLocks : Bool := false
  /-- Retention latch of start causes, laid out as RESET_CAUSE (R47, R68); POR is bit 0. -/
  latch : BitVec 6 := 1#6
  resetCause : BitVec 6 := 0#6
  clockFault : Bool := false
  tap : Tap := {}
  bootAt : Nat := 0
  /-- HIBERNATE entry runs (R53): its trigger was accepted at `entryAt`. -/
  entering : Bool := false
  entryAt : Nat := 0
  /-- Instant at which the present reset began: the reset sequence of R92 runs from there. -/
  resetAt : Nat := 0
  deriving DecidableEq, Repr

/-- State of one excitation source (R86, R98). -/
inductive ExcState where
  | off | settling | on | discharging
  deriving DecidableEq, Repr

/-- One source EXnn (chapter 03). `onHist` keeps the ON intervals that a sample's centre instant can
still fall into (R121); `onFrom` is the start of the present one. -/
structure Source where
  st : ExcState := .off
  pending : Bool := false
  compliance : Bool := false
  dischIncomplete : Bool := false
  /-- Current that the latest ramp leads to, units of 10 uA (R76). -/
  current : Nat := 0
  /-- Level at the start of that ramp, units of 10 uA (R86, R87, R89). -/
  base : Rat := 0
  /-- EXC_CFG word the running sequence uses. -/
  word : Nat := 0
  /-- N of the channel that the running sequence excites (R79, R109). -/
  chop : Nat := 0
  /-- Current change latched while SETTLING (R86). -/
  latched : Option Nat := none
  /-- Instant at which the present ramp or stop sequence began. -/
  seqAt : Nat := 0
  /-- Instant of step 1 of the latest start: a chopped source reverses from there on (R87). -/
  startAt : Nat := 0
  onFrom : Nat := 0
  onHist : List (Nat × Nat) := []
  deriving DecidableEq, Repr

/-- Terminals and their switches (R74, R75, R84, R91, R95). A bit of `forceSw`, `returnSw` or
`dischargeSw` says that a running sequence has taken the terminal for that switch; `forceClosed`,
`returnClosed` and `dischargeClosed` say which switches are closed at the present instant. -/
structure Terminals where
  clf : BitVec 192 := 0#192
  cla : BitVec 192 := 0#192
  clfEvents : Nat := 0
  hold : BitVec 64 := 0#64
  forceSw : BitVec 192 := 0#192
  returnSw : BitVec 192 := 0#192
  senseSw : BitVec 192 := 0#192
  dischargeSw : BitVec 192 := 0#192
  deriving DecidableEq, Repr

/-- Findings of R144 with their codes of R159. -/
inductive Finding where
  | none | pass | drift | failOpen | failShort | failPhase | failResonance | void
  deriving DecidableEq, Repr

/-- Fields of CHECK_RESULT (R160). -/
structure CheckFields where
  mag : Nat := 0
  phase : Int := 0
  fr : Nat := 0
  q : Nat := 0
  deriving DecidableEq, Repr

/-- Range monitor and sample words of one channel (chapter 04). -/
structure Channel where
  gain : Nat := 0
  sampleA : BitVec 32 := 0#32
  sampleP : BitVec 32 := 0#32
  rtdMohm : Nat := 0
  overload : Bool := false
  /-- The present overload has been counted (R117). -/
  overCounted : Bool := false
  pendFiner : Bool := false
  pendCoarser : Bool := false
  pendSince : Nat := 0
  overloadCount : Nat := 0
  forcedChanges : Nat := 0
  rangeChanges : Nat := 0
  /-- Begin of the 100 ms history below 35 %, and of the 1 ms history: both restart at every range change (R114). -/
  histFrom : Nat := 0
  peakFrom : Nat := 0
  /-- Instant of the latest forced change, while no other change has followed (R115). -/
  forcedAt : Option Nat := none
  /-- Instant at which the filters were last cleared (R123). -/
  clearedAt : Nat := 0
  /-- Recent range changes: switch instant and the code in force before it (R118, R119). -/
  seams : List (Nat × Nat) := []
  /-- Centre instant of the latest output sample (R100). -/
  lastCentre : Option Nat := none
  /-- The UNSETTLED span before the present one. -/
  unsetPrev : Option (Nat × Nat) := none
  /-- UNSETTLED span (R88, R103): begin, and end when the ramp has completed. -/
  unsetFrom : Option Nat := none
  unsetTo : Option Nat := none
  /-- Latest injection of the guard (R142): begin and end. It goes on over an activation. -/
  injFrom : Option Nat := none
  injTo : Option Nat := none
  deriving DecidableEq, Repr

/-- Channel guard of one channel (chapter 05). -/
structure ChGuard where
  collapse : Bool := false
  compliance : Bool := false
  sourceDown : Bool := false
  clamp : Bool := false
  collapseRun : Nat := 0
  linValue : Int := 0
  linClipped : Bool := false
  lastFinding : Finding := .none
  /-- Finding of the latest complete check (R151). -/
  lastComplete : Finding := .none
  lastWindow : Finding := .none
  checkRunning : Bool := false
  /-- A forced range change or a CLF fell into the running injection (R144 row 1). -/
  voided : Bool := false
  checkCount : Nat := 0
  checkedAt : Option Nat := none
  result : CheckFields := {}
  tempFallback : Bool := false
  /-- Temperature latched for the Tally cycle (R154). -/
  tau : Rat := 0
  /-- Start of the free time of a free channel's cadence (R136). -/
  freeCheckFrom : Nat := 0
  deriving DecidableEq, Repr

/-- Guard state of a head (R149). -/
inductive GState where
  | inService | disturbed | awaitingCheck
  deriving DecidableEq, Repr

/-- Channel guard of one head (R145 to R151). -/
structure HeadGuard where
  gs : GState := .disturbed
  starved : Bool := false
  loadFault : Bool := false
  /-- The head's free time at the end of the last complete check (R146). -/
  freeMark : Nat := 0
  checkedAt : Option Nat := none
  sourcesOnAt : Option Nat := none
  /-- The head entered DISTURBED or AWAITING_CHECK from IN_SERVICE since the last Tally cycle. -/
  raised : Bool := false
  deriving DecidableEq, Repr

/-- Sides of a head (R162). -/
inductive Side where
  | a | b
  deriving DecidableEq, Repr

/-- Regions of a head (R162). -/
inductive Region where
  | sideA | z1 | mid | z2 | sideB
  deriving DecidableEq, Repr

/-- One bin of the signature (R189): sum of weights, and weighted sum of the amplitude deviation. -/
structure Bin where
  w : Rat := 0
  sum : Rat := 0
  deriving DecidableEq, Repr

/-- One fitted sample kept while a capture is armed (R192): instant, position, speed and the
deviations of both systems. -/
structure CaptureSample where
  at_ : Nat
  s : Rat
  v : Rat
  dA1 : Rat
  dP1 : Rat
  dA2 : Rat
  dP2 : Rat
  deriving DecidableEq, Repr

/-- A traversal in progress (R176 to R189). -/
structure Traversal where
  entry : Side
  /-- The start of the traversal was not seen (R179). -/
  orphan : Bool := false
  /-- Both zones were entered (R178). -/
  both : Bool := false
  trigTime : Option Nat := none
  trigSent : Bool := false
  reduced : Bool := false
  bridged : Bool := false
  dither : Nat := 0
  lastDir : Int := 0
  /-- Latest crossing instants of the two centre lines, as steps of the 20 us grid since boot (R182). -/
  cross1 : Option Nat := none
  cross2 : Option Nat := none
  -- load of a strip head (R187): Q, samples and conditions of each strip's final monotonic pass
  q1 : Rat := 0
  q2 : Rat := 0
  qn1 : Nat := 0
  qn2 : Nat := 0
  qb1 : Bool := false
  qb2 : Bool := false
  -- signature of the final pass through the exit side's zone (R189), one set per zone
  bins1 : List Bin := []
  bins2 : List Bin := []
  peak1 : Rat := 0
  peak2 : Rat := 0
  eSum1 : Rat := 0
  eN1 : Nat := 0
  eSum2 : Rat := 0
  eN2 : Nat := 0
  /-- A sample of the traversal was unknown, or it began before the arming: no capture (R192). -/
  capVoid : Bool := false
  deriving DecidableEq, Repr

/-- The last interval of a wheel inside the load window of an inductive head, in centre instants, with its end when it
has ended, and what the load channel gave in it: samples, their weights and weighted sum, and whether R186 spoils it
(R185, R186). -/
structure LoadAcc where
  from_ : Option Nat := none
  to_ : Option Nat := none
  n : Nat := 0
  w : Rat := 0
  sum : Rat := 0
  bad : Bool := false
  deriving DecidableEq, Repr

/-- One slot of a head: one wheel (R169 to R171). Positions in 1/16 mm, speeds in 1/16 mm per second;
`e2` is the square of the fit residual. -/
structure Slot where
  s : Rat
  g : Rat
  v : Rat
  e2 : Rat
  /-- Region, with the 0.5 mm of R175. -/
  region : Region := .sideA
  orphan : Bool := false
  openedAt : Nat
  lowSince : Option Nat := none
  residRun : Nat := 0
  speedRun : Nat := 0
  /-- Speeds of the last 100 ms with their instants (R306). -/
  vHist : List (Nat × Rat) := []
  trav : Option Traversal := none
  /-- Load window, followed while the slot is open: it may reach beyond the zones (R185, R194). -/
  load : LoadAcc := {}
  /-- Time of the latest trigger event of this wheel (R177). -/
  trig : Option Nat := none
  /-- Samples kept while a capture is armed, newest first (R192). -/
  cap : List CaptureSample := []
  deriving DecidableEq, Repr

/-- A candidate of SEARCH: position and gain on consecutive known samples (R171). -/
structure Candidate where
  n : Nat
  first : Rat
  last : Rat
  gain : Rat
  deriving DecidableEq, Repr

/-- The latest linearised sample of a channel as its head takes it. -/
structure HeadSample where
  val : Int
  phase : Int
  known : Bool
  weight : Rat
  /-- Centre instant (R100). -/
  centre : Nat
  deriving DecidableEq, Repr

/-- A rebase that averages (R168): its start, and count and sum of the known samples of system 1
(amplitude, phase), system 2 and the load channel, with the number of all samples. -/
structure RebaseAcc where
  startAt : Nat
  n1 : Nat := 0
  all1 : Nat := 0
  a1 : Int := 0
  p1 : Int := 0
  n2 : Nat := 0
  all2 : Nat := 0
  a2 : Int := 0
  p2 : Int := 0
  nl : Nat := 0
  alll : Nat := 0
  al : Int := 0
  deriving DecidableEq, Repr

/-- Messages of the WRE on their way to the tracker (R177, R180). -/
inductive WreMsg where
  | trigger (neg : Bool) (time : Nat)
  | verdict (v : VerdictRec)
  deriving DecidableEq, Repr

/-- The WRE causes of R190. -/
structure WreCauses where
  unknownLong : Bool := false
  jump : Bool := false
  fitLost : Bool := false
  overspeed : Bool := false
  orphan : Bool := false
  deriving DecidableEq, Repr

/-- Counters and last verdict of a head (R195, R200). -/
structure HeadCounts where
  fullPos : Nat := 0
  fullNeg : Nat := 0
  partialEntry : Nat := 0
  retreat : Nat := 0
  broken : Nat := 0
  bridged : Nat := 0
  seq : Nat := 0
  lastAxle : Option VerdictRec := none
  deriving DecidableEq, Repr

/-- Baselines of a head (R168, R195), in the units of the sample word. -/
structure Baselines where
  a1 : Int := 0
  p1 : Int := 0
  a2 : Int := 0
  p2 : Int := 0
  load : Option Int := none
  deriving DecidableEq, Repr

/-- Wheel recognition of one head (chapter 06). -/
structure Head where
  slots : Tab 2 (Option Slot) := Tab.all none
  cand : Option Candidate := none
  wholeSearch : Bool := true
  causes : WreCauses := {}
  claimTie : Bool := false
  /-- A WRE cause or CLAIM_TIE was raised since the last Tally cycle (R191, R249). -/
  raised : Bool := false
  /-- Since when the head has had no open slot and only known samples (R190). -/
  quietFrom : Option Nat := none
  base : Baselines := {}
  sys1 : Option HeadSample := none
  sys2 : Option HeadSample := none
  load : Option HeadSample := none
  unknownFrom : Option Nat := none
  lastKnownAt : Option Nat := none
  /-- A bridged or rejected span that SEARCH has still to judge: its begin and end (R173). -/
  judge : Option (Nat × Nat) := none
  /-- A tracker window overlapped the sensing length during the unknown span (R173). -/
  windowSeen : Bool := false
  counts : HeadCounts := {}
  rebase : Option RebaseAcc := none
  /-- The head's free time at the end of the last rebase (R168). -/
  rebaseMark : Nat := 0
  /-- A third wheel needs a slot on the latest known sample (R172). -/
  third : Bool := false
  /-- Per slot place, the latest closed wheel that gave a trigger event: its time, and the last s
  (R302). -/
  closed : Tab 2 (Option (Nat × Rat)) := Tab.all none
  captureCmd : Nat := 0
  /-- The captured templates: 520 bytes, least significant first (R192). -/
  capture : Nat := 0
  out : List WreMsg := []
  deriving DecidableEq, Repr

/-- Event classes of R201, in their order. -/
inductive OfferClass where
  | excitation | range | check | rebase
  deriving DecidableEq, Repr

/-- A pending offer (R201). `ch` is its channel, `src` the source of an EXCITATION offer and
`newCurrent` its current change, none for a start. -/
structure Offer where
  cls : OfferClass
  head : Fin 32
  ch : Option (Fin 64) := none
  src : Option (Fin 64) := none
  newCurrent : Option Nat := none
  /-- A RANGE offer asks for a finer range, not a coarser one (R114). -/
  finer : Bool := false
  span : Nat
  offeredAt : Nat
  deriving DecidableEq, Repr

/-- A running span (R207): the heads on which it runs, its end and, for a CHECK, the end of its
injection and the channels under it. -/
structure Span where
  cls : OfferClass
  own : Fin 32
  heads : List (Fin 32)
  endAt : Nat
  injEnd : Nat
  chans : List (Fin 64)
  /-- The injection still runs (CHECK), or the averaging (REBASE). -/
  active : Bool
  deriving DecidableEq, Repr

/-- What the Bellringer shows per head (R204 to R206, R215). -/
structure BellHead where
  approach : Option Nat := none
  free : Bool := false
  /-- GAP in ns; none when unbounded (R206). -/
  gap : Option Nat := none
  /-- Free time until `freeFrom`, and the instant since which the head is FREE (R146). -/
  freeAcc : Nat := 0
  freeFrom : Option Nat := none
  deriving DecidableEq, Repr

/-- The Bellringer (chapter 07). -/
structure Bell where
  heads : Tab 32 BellHead := Tab.all {}
  offers : List Offer := []
  spans : List Span := []
  rungExc : Nat := 0
  rungRange : Nat := 0
  rungCheck : Nat := 0
  rungRebase : Nat := 0
  abandoned : Nat := 0
  intrusions : Nat := 0
  /-- Offers rung at the latest step, carried out from the start of the next one (R207). -/
  rung : List Offer := []
  /-- Instant of the latest coordinate step. -/
  stepAt : Nat := 0
  deriving DecidableEq, Repr

/-- Section states (R232). -/
inductive SState where
  | disturbed | ras | occupied | clearing | clear
  deriving DecidableEq, Repr

/-- States of a restore request (R243). -/
inductive RState where
  | idle | pending | granted | refused | expired | withdrawn
  deriving DecidableEq, Repr

/-- One section (chapter 08). Instants are in ns of model time. -/
structure Section where
  st : SState := .disturbed
  count : Nat := 0
  /-- DIST_CAUSE (R242). -/
  distCause : BitVec 8 := 1#8
  sweepIn : Nat := 0
  sweepOut : Nat := 0
  /-- Latest instant that counts for T0 since the section entered OCCUPIED or RAS (R228). -/
  mark : Option Nat := none
  /-- Of the running Tally cycle: causes raised (R230), an entry opened or refuted (R227), and the
  latest instant of R228. -/
  raised : BitVec 8 := 0#8
  touched : Bool := false
  cycleMark : Option Nat := none
  t0 : Nat := 0
  rstate : RState := .idle
  reason : Nat := 0
  reqBy : Option Origin := none
  reqAt : Nat := 0
  held : Bool := false
  provRefs : Nat := 0
  countIn : Nat := 0
  countOut : Nat := 0
  headDist : Bool := false
  unused : Bool := true
  clearRemain : Nat := 0
  deriving DecidableEq, Repr

/-- States of a tracker entry (R245). -/
inductive EState where
  | free | provisional | running | atHead | parked
  deriving DecidableEq, Repr

/-- One tracker entry (R245 to R258, R270). Window edges in 1/16 mm. -/
structure Entry where
  st : EState := .free
  head : Fin 32 := 0
  neg : Bool := false
  newAxle : Bool := false
  axleId : Nat := 0
  /-- Trigger time or exit instant, counts of the 20 us grid. -/
  tRef : Nat := 0
  sideASec : Option (Fin 48) := none
  sideBSec : Option (Fin 48) := none
  sec : Option (Fin 48) := none
  link : Option (Fin 128) := none
  origin : Int := 0
  rear : Int := 0
  front : Int := 0
  speed : Int := 0
  load : Option Nat := none
  group : Nat := 0
  /-- Slot of the head that opened the entry; its last s once it has closed (R302). -/
  slot : Fin 2 := 0
  lastS : Option Rat := none
  parkedAt : Nat := 0
  /-- Instant t_x at which the window started (R256), in ns. -/
  startAt : Nat := 0
  /-- The window stopped when the entry was PARKED (R258). -/
  halted : Bool := false
  openedAt : Nat := 0
  /-- Tally has taken the confirmation of this entry (R19, R304). -/
  taken : Bool := false
  deriving DecidableEq, Repr

/-- A member of a passage group (R261 to R263). -/
structure GroupMember where
  exitTime : Nat
  exitSpeed : Int
  load : Option Nat
  signature : Nat
  axleId : Nat
  deriving DecidableEq, Repr

/-- The open group of a head (R261). -/
structure Group where
  number : Nat
  neg : Bool
  members : List GroupMember
  deriving DecidableEq, Repr

/-- LAST_GROUP (R271), with the AXLE_IDs that the GROUP record carries. -/
structure GroupInfo where
  head : Fin 32 := 0
  steady : Bool := false
  loadsValid : Bool := false
  neg : Bool := false
  number : Nat := 0
  n : Nat := 0
  fingerprint : Nat := 0
  firstExit : Nat := 0
  lastExit : Nat := 0
  firstAxle : Nat := 0
  lastAxle : Nat := 0
  deriving DecidableEq, Repr

/-- Tracker counters (R267). -/
structure TrackCounts where
  opened : Nat := 0
  confirmed : Nat := 0
  refutedVerdict : Nat := 0
  refutedPrediction : Nat := 0
  releasedEarly : Nat := 0
  confirmedOnly : Nat := 0
  claimTies : Nat := 0
  deriving DecidableEq, Repr

/-- A trigger matched at the present grid instant, kept for ties (R249). -/
structure Claim where
  entry : Fin 128
  head : Fin 32
  pred : Fin 128
  dist : Rat
  time : Nat
  deriving DecidableEq, Repr

/-- The axle tracker (chapter 09). -/
structure Tracker where
  entries : Tab 128 Entry := Tab.all {}
  nextAxle : Nat := 1
  nextGroup : Nat := 1
  counts : TrackCounts := {}
  full : Bool := false
  groups : Tab 32 (Option Group) := Tab.all none
  lastGroup : GroupInfo := {}
  claims : List Claim := []
  /-- Axles that join a residue and are not published yet (R304). -/
  joins : List (Fin 48 × Rat × Rat) := []
  /-- Instant of the latest window update (R256). -/
  stepAt : Nat := 0
  /-- Since when at least 8 entries have been FREE (R264). -/
  roomFrom : Option Nat := none
  deriving DecidableEq, Repr

/-- Mass residue of a section (R304): kilograms, position in 1/16 mm. -/
structure Residue where
  mass : Rat := 0
  pos : Rat := 0
  n : Nat := 0
  deriving DecidableEq, Repr

/-- A tracker result delivered to Tally (R19, R227, R251). -/
inductive TallyItem where
  /-- A FULL verdict: head, record, entry, AXLE_ID, group, sections left and entered. -/
  | confirmed (h : Fin 32) (v : VerdictRec) (entry : Option (Fin 128)) (axle group : Nat)
      (fromSec toSec : Option (Fin 48))
  /-- An entry opened that references the two sections. -/
  | opened (fromSec toSec : Option (Fin 48))
  /-- An entry refuted: head, verdict flags and record, by whom, entry, AXLE_ID, sections, T_REF and
  refutation instant on the grid. `refs` says whether it referenced sections (PROVISIONAL). -/
  | refuted (h : Fin 32) (flags : Nat) (by_ : Nat) (entry : Fin 128) (axle : Nat)
      (fromSec toSec : Option (Fin 48)) (tRef instant : Nat) (dither : Nat) (exitSpeed : Int)
      (refs : Bool)
  | group (g : GroupInfo)
  deriving DecidableEq, Repr

/-- A change of a head's recorded condition since the last cycle, for the HEAD record (R465). -/
structure HeadShown where
  gs : GState := .disturbed
  causes : WreCauses := {}
  starved : Bool := false
  claimTie : Bool := false
  deriving DecidableEq, Repr

/-- What Tally has published (R221, R377). -/
structure Published where
  sections : Tab 48 Section := Tab.all { unused := false }
  tracker : Tracker := {}
  untracked : Tab 48 Nat := Tab.all 0
  claimTies : Nat := 0
  cycles : Nat := 0
  /-- Tally has published since boot; the defaults of R371 stand before. -/
  any : Bool := false
  deriving DecidableEq, Repr

/-- Events for the ACK record (R465): event code, press length in ms, origin. -/
structure AckEvent where
  event : Nat
  press : Nat
  by_ : Option Origin
  deriving DecidableEq, Repr

/-- RESTORE_CMD writes and session ends that Tally has not taken (R234, R235, R370). -/
inductive RestoreIn where
  | request (n : Fin 48) (o : Origin) (at_ : Nat)
  | withdraw (n : Fin 48) (o : Origin)
  | ended (o : Origin)
  deriving DecidableEq, Repr

/-- ACK_ARM writes that Tally has not taken (R292, R370). -/
inductive ArmIn where
  | arm (o : Origin) (at_ : Nat)
  | withdraw (o : Origin)
  deriving DecidableEq, Repr

/-- Tally (chapter 08): inputs not yet taken, working sections and the publication. -/
structure Tally where
  inbox : List TallyItem := []
  restoreIn : List RestoreIn := []
  /-- RESTORE records of the running cycle: section, RESTORE_STATUS, port and session (R465). -/
  restoreRecs : List (Fin 48 × Nat × Option Origin) := []
  disturbIn : List (Fin 48) := []
  ackIn : Bool := false
  /-- INHIBIT as Tally has taken it (R370). -/
  inhibit : BitVec 16 := 0#16
  armIn : List ArmIn := []
  lockIn : BitVec 16 := 0#16
  dropIn : BitVec 16 := 0#16
  readbackIn : BitVec 16 := 0#16
  stallIn : Bool := false
  /-- The rise of THERMAL_TRIP has been taken (R230, R287). -/
  tripTaken : Bool := false
  ackEvents : List AckEvent := []
  /-- A SECTION record of every used section is due (R465, boot and activation). -/
  allRecords : Bool := false
  /-- HEAD records of the running cycle (R145, R465): their payloads, in the order of the changes. -/
  headIn : List (List Byte) := []
  startAt : Nat := 0
  cycles : Nat := 0
  pub : Published := {}
  shown : Tab 32 HeadShown := Tab.all {}
  deriving DecidableEq, Repr

/-- Permit states (R277, R299). -/
inductive PState where
  | highz | off | dropping | running
  deriving DecidableEq, Repr

/-- The level of a permit output (R59). -/
inductive Level3 where
  | highz | low | high
  deriving DecidableEq, Repr

/-- One permit (chapter 10). `cond` is the permit condition released to the output hardware (R272). -/
structure Permit where
  st : PState := .highz
  pending : Bool := false
  tested : Bool := false
  cond : Bool := false
  out : Level3 := .highz
  /-- The stop is decided and waits for the next due edge (R275). -/
  stopNext : Bool := false
  /-- The start is decided and waits for the next due edge (R277). -/
  startNext : Bool := false
  dropAt : Nat := 0
  runAt : Nat := 0
  mism : Nat := 0
  good : Nat := 0
  /-- The fault of the present mismatch run has been recognised (R281). -/
  runReported : Bool := false
  /-- Permits whose readback faults set READBACK here (R287). -/
  rbBy : BitVec 16 := 0#16
  lock : BitVec 4 := 0#4
  /-- Instant of the latest due edge (R273). -/
  edgeAt : Nat := 0
  /-- LOCK_CAUSE at the end of the latest Tally cycle (R465). -/
  shownLock : Nat := 0
  deriving DecidableEq, Repr

/-- Acknowledge input (R290 to R293, R300). -/
structure Ack where
  armedBy : Option Origin := none
  armedAt : Nat := 0
  pressed : Bool := false
  pressAt : Nat := 0
  /-- ACKn was seen high for 1 s before the present press (R291). -/
  pressOk : Bool := false
  highFrom : Option Nat := none
  highQualified : Bool := false
  stuck : Bool := false
  accepted : Nat := 0
  ignored : Nat := 0
  deriving DecidableEq, Repr

/-- Permit block (chapter 10). -/
structure Permits where
  po : Tab 16 Permit := Tab.all {}
  inhibit : BitVec 16 := 0#16
  rbMap : BitVec 16 := 0#16
  rbFaults : Nat := 0
  ack : Ack := {}
  /-- Origin of the due-edge grids: boot step 6 (R273). -/
  gridAt : Nat := 0
  refreshedAt : Nat := 0
  stalled : Bool := false
  deriving DecidableEq, Repr

/-- Engine modes (R320, R332). -/
inductive EMode where
  | off | follow | hold | fade
  deriving DecidableEq, Repr

/-- States of one biquad section (R312). -/
structure Biquad where
  x1 : Int := 0
  x2 : Int := 0
  y1 : Int := 0
  y2 : Int := 0
  deriving DecidableEq, Repr

/-- States and outputs of one law (R312, R333). -/
structure Law where
  r : Int := 0
  i : Int := 0
  ePrev : Int := 0
  bq : Tab 4 Biquad := Tab.all {}
  out : Int := 0
  input : Int := 0
  feedback : Int := 0
  /-- FB_VALUE, written by a host or an RPDO. -/
  fb : Int := 0
  deriving DecidableEq, Repr

/-- The ledger of the latest committed tick (R308, R336). -/
structure Ledger where
  axles : Nat := 0
  prov : Nat := 0
  dflt : Nat := 0
  vesselC : Int := 0
  vesselP : Int := 0
  modelC : Tab 6 Int := Tab.all 0
  modelP : Tab 6 Int := Tab.all 0
  secC : Tab 48 Int := Tab.all 0
  secP : Tab 48 Int := Tab.all 0
  deriving DecidableEq, Repr

/-- A live engine write or command that waits for a committed tick (R315). -/
structure LiveWrite where
  index : Nat
  sub : Nat
  value : Nat
  /-- Number of the first tick instant in which it can take effect (R315). -/
  due : Nat
  deriving DecidableEq, Repr

/-- Status flags of the engine (R332). -/
structure EngineFlags where
  sat : Bool := false
  distIn : Bool := false
  provIn : Bool := false
  syncLost : Bool := false
  fadeSync : Bool := false
  fadeOverrun : Bool := false
  overrun : Bool := false
  deriving DecidableEq, Repr

/-- Status of the engine that a committed tick publishes in step 5 and that can change between ticks
(R315, R377): mode and pending mode, warm-up, the two fades' reasons, the residues. -/
structure EngineShown where
  mode : EMode := .off
  pendMode : Option EMode := none
  warming : Bool := false
  warmLeft : Nat := 0
  fadeSync : Bool := false
  fadeOverrun : Bool := false
  residues : Tab 48 Residue := Tab.all {}
  deriving DecidableEq, Repr

/-- The moment engine (chapter 11). `live` holds the running values of the live engine objects that
differ from their defaults, keyed like the configuration. -/
structure Engine where
  mode : EMode := .off
  cmd : Nat := 0
  pendMode : Option EMode := none
  warmLeft : Nat := 0
  warming : Bool := false
  held : Tab 6 Int := Tab.all 0
  out : Tab 6 Int := Tab.all 0
  offset : Tab 6 Int := Tab.all 0
  target : Tab 6 Int := Tab.all 0
  quality : Tab 6 Nat := Tab.all 3
  outSeq : Nat := 0
  tickSeq : Nat := 0
  ovrCount : Nat := 0
  ovrConsec : Nat := 0
  lastCycles : Nat := 0
  maxCycles : Nat := 0
  flags : EngineFlags := {}
  /-- A fade that a third overrun asks for at the next committed tick (R324). -/
  fadeDue : Bool := false
  laws : Tab 16 Law := Tab.all {}
  ledger : Ledger := {}
  residues : Tab 48 Residue := Tab.all {}
  /-- Running values of the live engine objects that differ from their defaults. -/
  live : List (Nat × Nat) := []
  waiting : List LiveWrite := []
  /-- Laws to initialise at the next committed tick (R314). -/
  initDue : BitVec 16 := 0#16
  /-- A change of mode outside a tick hands the outputs over at the next committed tick (R318, R320). -/
  handover : Bool := false
  /-- What the latest committed tick published (R377). -/
  shown : EngineShown := {}
  /-- Instants of the latest tick and of the latest SYNC of TICK_SRC. -/
  tickAt : Nat := 0
  syncAt : Nat := 0
  deriving DecidableEq, Repr

/-- A permit refresh that the Reeve holds: conditions, outputs forced low and drop-out tests (R347). -/
structure Refresh where
  cond : BitVec 16 := 0#16
  force : BitVec 16 := 0#16
  test : BitVec 16 := 0#16
  deriving DecidableEq, Repr

/-- A port write to the permit output hardware (R347): a refresh, or what an activation gives the permits
that the mask assigns and the others (R277). -/
inductive PermitWrite where
  | refresh (r : Refresh)
  | activation (assigned : BitVec 16)
  deriving DecidableEq, Repr

/-- A core: its registers, the control registers that it has written, in ascending order of number, its
signature register and what has entered it (R338, R339, R341, R354). -/
structure CoreRegs where
  regs : Tab 32 (BitVec 32) := Tab.all 0#32
  control : List (Nat × Nat) := []
  misr : BitVec 32 := 0#32
  /-- What has entered the core last from outside (R339). -/
  input : BitVec 224 := 0#224
  deriving DecidableEq, Repr

/-- A stage of the delay registers: 28 data bytes, and one parity bit per byte. Zero bytes have parity 1 in
even positions and 0 in odd ones (R339, R354). -/
structure DelayStage where
  data : BitVec 224 := 0#224
  parity : BitVec 28 := 0x5555555#28
  deriving DecidableEq, Repr

/-- Twin execution and the Reeve (chapter 12). -/
structure Twin where
  window : Nat := 0
  windows : Nat := 0
  kaPassed : Nat := 0
  stopLatch : Bool := false
  stopCause : Nat := 0
  stopSeen : BitVec 9 := 0#9
  prevStopCause : Nat := 0
  stopWindow : Nat := 0
  stopSigA : BitVec 32 := 0#32
  stopSigB : BitVec 32 := 0#32
  stopGridTime : Nat := 0
  eccSram : Nat := 0
  eccFlash : Nat := 0
  eccLast : Nat := 0xFFFFFFFF
  scrubAddr : Nat := 0
  scrubPasses : Nat := 0
  watchdog : Bool := false
  lockstep : Bool := false
  debugActive : Bool := false
  debugTaint : Bool := false
  /-- Number of the window in which the stop test runs (R363). -/
  stopTest : Option Nat := none
  /-- Held writes to the permit output hardware in their order, each with the window in which it retired
  (R347). -/
  held : List (Nat × PermitWrite) := []
  /-- Instant of the stop: of the causes of one instant, the lowest code is STOP_CAUSE (R360). -/
  stopAt : Nat := 0
  /-- The watchdog was armed when the stop latch was set (R349, R360). -/
  stopArmed : Bool := false
  coreA : CoreRegs := {}
  coreB : CoreRegs := {}
  /-- The two stages of the delay registers: what entered Core A in the latest cycle, and in the one before it, which
  enters Core B next (R339). -/
  delay0 : DelayStage := {}
  delay1 : DelayStage := {}
  /-- Bytes of SRAM that Core A has stored since `sramKey`, as address and byte, addresses rising. -/
  sram : List (Nat × Nat) := []
  /-- What the other bytes of SRAM read as: 0 after reset, and the free values of this number once the
  firmware has run (R354; log 15). -/
  sramKey : Option Nat := none
  /-- Words of SRAM that are uncorrectable, by number, with the check bits that stand with their data (R352). -/
  sramCheck : List (Nat × Nat) := []
  /-- Words of program flash that are uncorrectable, by number, as they are stored, check bits and data (R352). -/
  flashBad : List (Nat × Nat) := []
  /-- Start of lock-step (R343), and instant of the latest pulse (R346). -/
  lockAt : Nat := 0
  pulseAt : Nat := 0
  /-- The fatal handler has been entered (R483, R486). -/
  handler : Bool := false
  /-- Objects that keep their value of step 3 while STOPPED, keyed like the configuration (R488). -/
  frozen : List (Nat × Nat) := []
  deriving DecidableEq, Repr

/-- Session levels (R12). -/
inductive Level where
  | observe | operate | maintain | commission
  deriving DecidableEq, Repr

/-- A write that has passed receipt and waits for judgement (R378). -/
structure HeldWrite where
  by_ : Origin
  /-- Position in its request's response. -/
  pos : Nat
  index : Nat
  sub : Nat
  data : List Byte
  /-- Brought by a row that makes one access, and answered by `Msg.answer` (log 7). -/
  row : Bool := false
  deriving DecidableEq, Repr

/-- A WRITE request whose response waits for judgements (R412): SEQ, abort per item so far (none
while held), and whether an item ends the session. -/
structure OpenRequest where
  seq : Nat
  items : List (Nat × Nat × Option Nat)
  endsSession : Bool
  deriving DecidableEq, Repr

/-- A datagram (R408). `dest` is the peer, none for the group address. -/
structure Datagram where
  dest : Option Nat
  typ : Nat
  session : Nat
  status : Nat
  seq : Nat
  ref : Nat
  tick : Nat
  body : List Byte
  deriving DecidableEq, Repr

/-- A session slot (R373, R421, R426). -/
structure Session where
  port : PortId
  number : Nat
  peer : Nat
  level : Level := .observe
  lastAt : Nat
  expected : Nat := 0
  lastRsp : Option Datagram := none
  lastDelivered : Bool := true
  request : Option OpenRequest := none
  /-- Transfer buffer of a write in parts (R412): object, total and bytes received. -/
  upIndex : Nat := 0
  upSub : Nat := 0
  upTotal : Nat := 0
  upData : List Byte := []
  /-- Positions in the open request of the parts that the buffer holds (R504). -/
  upPos : List Nat := []
  /-- Copy of CFG_IMAGE for reading in parts (R411). -/
  imageCopy : List Byte := []
  cfgView : Nat := 0
  readIndex : Nat := 0
  dumpOffset : Nat := 0
  authLevel : Nat := 0
  challenge : Option (BitVec 128 × Nat) := none
  deriving DecidableEq, Repr

/-- A segmented SDO transfer on a server channel (R407). -/
structure SdoXfer where
  port : CanPort
  index : Nat
  sub : Nat
  writing : Bool
  total : Nat
  data : List Byte
  toggle : Bool
  lastAt : Nat
  deriving DecidableEq, Repr

/-- NMT states (R399). -/
inductive Nmt where
  | initialising | preop | operational | stopped
  deriving DecidableEq, Repr

/-- CAN controller states (R397). -/
inductive CanBus where
  | active | passive | busOff
  deriving DecidableEq, Repr

/-- One answer or message put on a port by the last command (log 8). -/
inductive Msg where
  /-- Abort code (0 = accepted) of a write that a command row completed. -/
  | answer (o : Origin) (index sub : Nat) (abort : Nat)
  /-- Data of a read that a command row makes. -/
  | value (o : Origin) (index sub : Nat) (data : List Byte)
  /-- STATUS OUTSTANDING, to an access of a session whose write is held (R381). -/
  | outstanding (o : Origin) (index sub : Nat)
  | datagram (port : PortId) (d : Datagram)
  /-- A CAN frame, as a CAN FD frame or a classic one. -/
  | can (port : CanPort) (cob : Nat) (fd : Bool) (data : List Byte)
  /-- An SDO response on the channel's COB-ID to the client. -/
  | sdo (port : CanPort) (chan : Fin 4) (cob index sub : Nat) (abort : Nat) (data : List Byte)
  /-- The bytes of a device frame on SPI (R417). -/
  | spiFrame (bytes : List Byte)
  /-- A PHY is reset over MDIO, at its address (R415). -/
  | phyReset (port : EthPort) (addr : Nat)
  deriving DecidableEq, Repr

/-- State of a CAN port (R397, R401, R404). -/
structure CanState where
  nmt : Nmt := .initialising
  bus : CanBus := .active
  /-- In bus-off: 128 occurrences of 11 recessive bits have been seen, and a rejoin has been granted by an NMT
  Reset Communication (R397). -/
  recessive : Bool := false
  rejoin : Bool := false
  hbMiss : Tab 4 Bool := Tab.all false
  hbAt : Tab 4 (Option Nat) := Tab.all none
  syncCounter : Nat := 0
  deriving DecidableEq, Repr

/-- Per-port sequence state (R420, R422). -/
structure SeqState where
  next : Nat := 0
  seqErrors : Nat := 0
  crcErrors : Nat := 0
  /-- SEQ that the next PD_HOST or SYNC datagram carries without a gap. -/
  pdExpect : Nat := 0
  deriving DecidableEq, Repr

/-- Per-port counters and authorisation (R392, R428, R430). -/
structure PortState where
  seq : SeqState := {}
  busy : Nat := 0
  authFails : Nat := 0
  authLockAt : Option Nat := none
  lostRxAt : Option Nat := none
  linkUp : Bool := false
  /-- The PLCA beacon is present (R430). -/
  beacon : Bool := false
  /-- Instant from which the next heartbeat's period runs (R404, R414). -/
  hbAt : Nat := 0
  deriving DecidableEq, Repr

/-- Emergencies and the error history (R385, R406). -/
structure Emcy where
  history : List Nat := []
  lastAlarms : Nat := 0
  /-- Instant of the last emergency of each ALARMS bit. -/
  sentAt : List (Nat × Nat) := []
  /-- The error reset is owed: ALARMS has not been 0, or a port event has held, since the last one. -/
  active : Bool := false
  deriving DecidableEq, Repr

/-- Ports, sessions and held writes (chapters 13 and 14). -/
structure Net where
  sessions : Tab 4 (Option Session) := Tab.all none
  nextSession : Nat := 0
  held : List HeldWrite := []
  ports : Tab 5 PortState := Tab.all {}
  can : Tab 2 CanState := Tab.all {}
  xfer : Tab 4 (Option SdoXfer) := Tab.all none
  spiQueue : List Datagram := []
  /-- Tick instants since boot; PD_SEQ is this modulo 2^32 (R403). -/
  pdSeq : Nat := 0
  /-- A judgement has begun the tick instant at hand, and its TICK is still to come. -/
  tickOpen : Bool := false
  sessionsRefused : Nat := 0
  authFailures : Nat := 0
  key : Option Nat := none
  keyId : Nat := 0
  emcy : Emcy := {}
  /-- Running RPDO event timers: RPDO and instant of its last reception (R403). -/
  rpdoAt : List (PortId × Nat × Nat) := []
  /-- Instants of the last sending of each TPDO and SRDO, and values last sent (R403, R405). -/
  tpdoSent : List (Nat × Nat × List Byte) := []
  srdoSent : List (Nat × Nat × List Byte) := []
  deriving DecidableEq, Repr

/-- The values of a configuration that differ from the factory defaults: (256 * index + subindex,
value as the number of its bytes, least significant first), keys strictly rising. -/
abbrev CfgMap := List (Nat × Nat)

/-- A configuration bank (R433): header fields and the image bytes that follow it. -/
structure Bank where
  headerOk : Bool
  generation : Nat
  digest : Nat
  fw : Nat
  checkWord : Nat
  act : Option Nat
  image : List Byte
  /-- Words of the bank that are uncorrectable, by number, as they are stored, check bits and data (R352). -/
  bad : List (Nat × Nat) := []
  deriving DecidableEq, Repr

/-- A command of the configuration store that runs (R441). -/
inductive CfgJob where
  | check | store | adopt | activation
  deriving DecidableEq, Repr

/-- The configuration store (chapter 15). -/
structure Cfg where
  active : CfgMap := []
  staged : CfgMap := []
  bank0 : Option Bank := none
  bank1 : Option Bank := none
  activeBank : Option Bool := none
  generation : Nat := 0
  checkWord : Nat := 0
  defaulted : Bool := true
  defaultCause : Nat := 1
  lastFailed : Bool := false
  job : Option CfgJob := none
  /-- How the running activation was asked for (R465): 0 ACTIVATE, 1 epoch, 2 epoch late. -/
  how : Nat := 0
  /-- Configuration that a running ADOPT or CHECK works on. -/
  jobCopy : CfgMap := []
  /-- The checked configuration that the inactive bank holds (R453). -/
  shadow : Option CfgMap := none
  epoch : Option Nat := none
  lastEpoch : Nat := 0
  epochLate : Bool := false
  liveEdit : Bool := false
  expected : Nat := 0
  /-- CHECK_RESULT: code and item (R391). -/
  result : Nat × Nat := (0, 0)
  prevSync : Option Nat := none
  /-- Start of the Tally cycle in which the active configuration became active (R251, R444). -/
  activeAt : Nat := 0
  deriving DecidableEq, Repr

/-- States of the book (R481). -/
inductive BookState where
  | noCard | opening | ready | noBook | foreign | tooSmall | unsuitable | failed
  deriving DecidableEq, Repr

/-- The label of a book (R459). -/
structure Label where
  f : Nat
  w : Nat
  d : Nat
  serial : Nat
  deriving DecidableEq, Repr

/-- A record created and not yet on the eMMC (R460). The number is none until the book is open. -/
structure Rec where
  number : Option Nat
  time : Nat
  cycle : Nat
  typ : Nat
  payload : List Byte
  createdAt : Nat
  deriving DecidableEq, Repr

/-- A recorder command that runs (R477). -/
inductive RecJob where
  | clear (o : Origin) (erase : Bool) (discardFrom discardTo : Nat)
  /-- CLEAR has created its CLEARED record, with this number, and waits until it has been written (R478). -/
  | cleared (n : Nat)
  | found (o : Origin)
  deriving DecidableEq, Repr

/-- Status of the dump region (R494). -/
inductive DState where
  | none | valid | writing | notWritten
  deriving DecidableEq, Repr

/-- The blocks of a dump: CORE, PUBLISHED, QUEUE, CONFIG and SRAM, the last one as Core A's stores and the number of
the other bytes' free values, with the count of bytes written, in the order of R490 (R490, R493; log 15). -/
structure DumpBlocks where
  core : List Byte := []
  published : List Byte := []
  queue : List Byte := []
  config : List Byte := []
  sram : List (Nat × Nat) := []
  sramKey : Option Nat := none
  written : Nat := 0
  deriving DecidableEq, Repr

/-- The dump region (R490 to R494): header bytes, the blocks of the latest dump, and those of the dumps before it, the
newest first, whose bytes stay where no later dump has written. -/
structure Dump where
  st : DState := .none
  seq : Nat := 0
  truncated : Bool := false
  startAt : Nat := 0
  /-- Sector 0 of the region: the header, or zeros. -/
  header : List Byte := []
  blocks : DumpBlocks := {}
  past : List DumpBlocks := []
  /-- Contents of a dump that waits for the FATAL record to be on the eMMC (R483, steps 5 and 6). -/
  next : Option DumpBlocks := none
  /-- The fatal handler has read a word with a double-bit error (R486). -/
  ecc : Bool := false
  /-- Number of the FATAL record and OP_TIME at step 3 (R492). -/
  fatal : Nat := 0
  opTime : Nat := 0
  deriving DecidableEq, Repr

/-- The Parish Book recorder (chapter 16). -/
structure Recorder where
  st : BookState := .noCard
  bus4 : Bool := false
  hs52 : Bool := false
  label : Option Label := none
  cardW : Nat := 0
  /-- Records not yet on the eMMC, in creation order; the numbered ones come first. -/
  queue : List Rec := []
  /-- Records of the queue that the sector write in progress carries; 0 when none runs (R467). -/
  writing : Nat := 0
  failures : Nat := 0
  failedAt : Nat := 0
  next : Nat := 0
  oldest : Nat := 0
  wrapBase : Nat := 0
  exhausted : Bool := false
  foundingFull : Bool := false
  lossAt : Option Nat := none
  lost : Nat := 0
  lostFirst : Nat := 0
  lostLast : Nat := 0
  errors : Nat := 0
  opBase : Nat := 0
  powerCycles : Nat := 0
  /-- Number of the latest CLEARED record that has been written since the founding (R472; log 44). -/
  cleared : Option Nat := none
  lastRecordAt : Nat := 0
  opened : Bool := false
  job : Option RecJob := none
  chain : List Byte := []
  chained : List Byte := []
  stopped : Bool := false
  /-- The eMMC has a cache, and the recorder has turned it off through CACHE_CTRL (R456). -/
  cacheOff : Bool := false
  /-- HIBERNATE entry has sent the eMMC to sleep (R53). -/
  asleep : Bool := false
  /-- Instant of the latest pulse on EMMC_RSTn (R480). -/
  rstAt : Option Nat := none
  dump : Dump := {}
  deriving DecidableEq, Repr

/-- The whole machine. -/
structure State where
  now : Nat := 0
  fresh : Nat := 0
  power : Power := {}
  term : Terminals := {}
  src : Tab 64 Source := Tab.all {}
  ch : Tab 64 Channel := Tab.all {}
  cg : Tab 64 ChGuard := Tab.all {}
  hg : Tab 32 HeadGuard := Tab.all {}
  head : Tab 32 Head := Tab.all {}
  bell : Bell := {}
  sect : Tab 48 Section := Tab.all {}
  tally : Tally := {}
  trk : Tracker := {}
  permits : Permits := {}
  engine : Engine := {}
  twin : Twin := {}
  net : Net := {}
  cfg : Cfg := {}
  recd : Recorder := {}
  /-- The eMMC user data area: bytes that differ from 0x00, addresses rising (log 14). -/
  emmc : List Host.Cell := []
  sent : List Msg := []
  pending : List Instr := []
  deriving DecidableEq, Repr

/-- Faults. No event of the table stops the block (INVENTORY.md, Faults); the one name is for an
access outside the eMMC window, which the model's own operations never make. -/
inductive Fault where
  /-- Raised by nothing in this model; SAFE. Names an access beyond the window of R457. -/
  | outsideWindow (address : Nat)
  deriving DecidableEq, Repr

/-- Refusals. -/
inductive Refusal where
  /-- Raised by `exec`'s refused arms only, for a row without a meaning; SAFE. -/
  | notModelled (mnemonic : String)
  deriving DecidableEq, Repr

/-- The machine right after a power-on reset: held in reset with its supplies present, before boot
step 1 (R46, R47); every field at its default (log 4). -/
def State.reset : State := {}

end Sys2Proof.Machine
end

