-- ==== Sys2Proof/Machine/Dictionary.lean ====
section
/-! DEFINITION. The object dictionary: which objects are present, their sizes, access and value
classes, defaults and reserved bits (R365 to R371, R384 to R393 and the object tables of the other
chapters), and the configuration as a map of the values that differ from the factory defaults. -/

namespace Sys2Proof.Machine

/-- Access classes of R12; RWA carries the level that a write needs. -/
inductive Access where
  | ro | rw | wo | const | rwa (level : Level)
  deriving DecidableEq, Repr

/-- Value classes of R369. -/
inductive VClass where
  | status | staged | live | command | session
  deriving DecidableEq, Repr

/-- One object. `size` is its fixed size, or the maximum of a DOMAIN of variable length (R368);
`inCfg` says whether R432 puts it into a configuration. -/
structure ObjInfo where
  size : Nat
  varLen : Bool := false
  access : Access
  cls : VClass
  inCfg : Bool := false
  deriving DecidableEq, Repr

def oConst (n : Nat) : Option ObjInfo := some { size := n, access := .const, cls := .status }
def oRo (n : Nat) : Option ObjInfo := some { size := n, access := .ro, cls := .status }
/-- STAGED, write needs COMMISSION. -/
def oStaged (n : Nat) : Option ObjInfo :=
  some { size := n, access := .rwa .commission, cls := .staged, inCfg := true }
def oLive (n : Nat) (l : Level) : Option ObjInfo := some { size := n, access := .rwa l, cls := .live }
/-- Live engine object: its stored value is part of a configuration (R432). -/
def oEngine (n : Nat) : Option ObjInfo :=
  some { size := n, access := .rwa .maintain, cls := .live, inCfg := true }
def oCmd (n : Nat) (l : Level) : Option ObjInfo := some { size := n, access := .rwa l, cls := .command }
def oSess (n : Nat) (a : Access) : Option ObjInfo := some { size := n, access := a, cls := .session }

/-- `lo ≤ x ≤ hi`. -/
def within (x lo hi : Nat) : Bool := decide (lo ≤ x) && decide (x ≤ hi)

/-- Communication objects of R385. The subindices of SDO, PDO and SRDO records are those of CiA 301
and EN 50325-5, which the spec names and does not repeat (log 16). -/
def commInfo (i s : Nat) : Option ObjInfo :=
  if i == 0x1000 then (if s == 0 then oConst 4 else none)
  else if i == 0x1001 then (if s == 0 then oRo 1 else none)
  else if i == 0x1003 then (if s == 0 then oLive 1 .maintain else if s ≤ 8 then oRo 4 else none)
  else if i == 0x1005 || i == 0x1006 || i == 0x1014 then (if s == 0 then oStaged 4 else none)
  else if i == 0x1008 || i == 0x100A then (if s == 0 then oConst 8 else none)
  else if i == 0x1009 then (if s == 0 then oConst 4 else none)
  else if i == 0x1016 then (if s == 0 then oConst 1 else if s ≤ 4 then oStaged 4 else none)
  else if i == 0x1017 then (if s == 0 then oStaged 2 else none)
  else if i == 0x1018 then (if s == 0 then oConst 1 else if s ≤ 4 then oConst 4 else none)
  else if i == 0x1019 then (if s == 0 then oStaged 1 else none)
  else if within i 0x1200 0x1203 then
    (if s == 0 then oConst 1 else if s ≤ 2 then oStaged 4
     else if s == 3 && i != 0x1200 then oStaged 1 else none)
  else if within i 0x1301 0x1308 then
    (if s == 0 then oConst 1 else if s == 2 then oStaged 2
     else if s == 5 || s == 6 then oStaged 4 else if s ≤ 4 then oStaged 1 else none)
  else if i == 0x13FE then (if s == 0 then oStaged 1 else none)
  else if i == 0x13FF then (if s == 0 then oConst 1 else if s ≤ 8 then oStaged 2 else none)
  else if within i 0x1400 0x1407 then
    (if s == 0 then oConst 1 else if s == 1 then oStaged 4 else if s == 2 then oStaged 1
     else if s == 3 || s == 5 then oStaged 2 else none)
  else if within i 0x1800 0x180F then
    (if s == 0 then oConst 1 else if s == 1 then oStaged 4 else if s == 2 || s == 6 then oStaged 1
     else if s == 3 || s == 5 then oStaged 2 else none)
  else if within i 0x1381 0x1388 || within i 0x1600 0x1607 || within i 0x1A00 0x1A0F then
    (if s == 0 then oConst 1 else if s ≤ 16 then oStaged 4 else none)
  else none

/-- Index 0x2000 (R66, R244, R386). -/
def deviceInfo (s : Nat) : Option ObjInfo :=
  if s == 0x00 then oConst 1
  else if s == 0x01 || s == 0x05 then oConst 8
  else if s == 0x02 || s == 0x03 then oConst 2
  else if s == 0x04 || s == 0x0A then oConst 4
  else if s == 0x06 then oRo 1
  else if within s 0x07 0x09 then oRo 4
  else if within s 0x10 0x14 || s == 0x16 || s == 0x17 then oRo 2
  else if s == 0x15 then oStaged 1
  else if s == 0x18 then oCmd 2 .maintain
  else if within s 0x30 0x33 then oRo 8
  else none

/-- A head (R195). -/
def headInfo (s : Nat) : Option ObjInfo :=
  if s == 0x00 then oConst 1
  else if s == 0x01 then oStaged 8
  else if s == 0x02 then oStaged 2
  else if s == 0x03 then oStaged 4
  else if s == 0x04 then oStaged 16
  else if s == 0x05 || s == 0x06 then oStaged 260
  else if s == 0x07 then oRo 2
  else if within s 0x08 0x0A then oRo 4
  else if s == 0x0B then oRo 36
  else if within s 0x0C 0x11 then oRo 4
  else if s == 0x12 then oRo 20
  else if s == 0x13 then oCmd 1 .commission
  else if s == 0x14 then oRo 520
  else none

/-- A section (R239). -/
def sectionInfo (s : Nat) : Option ObjInfo :=
  if s == 0x00 then oConst 1
  else if s == 0x01 then oStaged 8
  else if s == 0x02 then oStaged 2
  else if s == 0x03 || s == 0x06 then oRo 1
  else if s == 0x04 || s == 0x05 || within s 0x07 0x0A || s == 0x0C then oRo 2
  else if s == 0x0B || s == 0x0D then oCmd 2 .maintain
  else if s == 0x0E || s == 0x0F then oRo 4
  else none

/-- Permits (R296). -/
def permitInfo (s : Nat) : Option ObjInfo :=
  if s == 0x00 then oConst 1
  else if within s 0x01 0x10 then oStaged 4
  else if within s 0x11 0x20 then oStaged 8
  else if within s 0x21 0x30 || within s 0x39 0x48 then oRo 1
  else if s == 0x31 || s == 0x32 || s == 0x35 || s == 0x4B then oRo 2
  else if s == 0x33 || s == 0x34 then oLive 2 .operate
  else if s == 0x36 || s == 0x37 || s == 0x49 then oRo 4
  else if s == 0x38 then oCmd 2 .operate
  else if s == 0x4A then oCmd 2 .maintain
  else none

/-- Tracker (R267). -/
def trackerInfo (s : Nat) : Option ObjInfo :=
  if s == 0x00 then oConst 1
  else if s == 0x01 then oRo 2
  else if within s 0x02 0x04 then oRo 1
  else if within s 0x05 0x0C then oRo 4
  else if s == 0x0D then oStaged 4
  else if s == 0x0E then oRo 24
  else if within s 0x10 0x3F then oRo 2
  else if within s 0x40 0x6F then oStaged 44
  else if within s 0x80 0xFF then oRo 32
  else none

/-- Engine (R330). -/
def engineInfo (s : Nat) : Option ObjInfo :=
  if s == 0x00 then oConst 1
  else if s == 0x01 || s == 0x02 then oStaged 4
  else if s == 0x03 || s == 0x05 || s == 0x06 || within s 0x09 0x0B then oRo 4
  else if s == 0x04 then oCmd 1 .operate
  else if s == 0x07 then oEngine 2
  else if s == 0x08 then oCmd 2 .maintain
  else if within s 0x0C 0x11 then oEngine 4
  else if within s 0x12 0x17 || within s 0x19 0x1F then oRo 4
  else if s == 0x18 then oRo 2
  else if within s 0x20 0x22 then oRo 1
  else none

/-- A law (R333). -/
def lawInfo (s : Nat) : Option ObjInfo :=
  if s == 0x00 then oConst 1
  else if s == 0x01 then oStaged 4
  else if s == 0x02 then oEngine 2
  else if s == 0x03 || s == 0x1C then oEngine 4
  else if s == 0x04 then oEngine 1
  else if within s 0x05 0x1B then oEngine 8
  else if s == 0x1D then some { size := 4, access := .rw, cls := .live }
  else if within s 0x1E 0x21 then oRo 4
  else none

/-- Ledger (R336). -/
def ledgerInfo (s : Nat) : Option ObjInfo :=
  if s == 0x00 then oConst 1
  else if within s 0x01 0x03 then oRo 1
  else if within s 0x04 0x10 then oRo 4
  else if within s 0x20 0x4F then oStaged 32
  else if within s 0x50 0xDF then oRo 4
  else none

/-- A channel (R125). -/
def channelInfo (s : Nat) : Option ObjInfo :=
  if s == 0x00 then oConst 1
  else if s == 0x01 then oStaged 4
  else if s == 0x02 then oStaged 2
  else if s == 0x05 then oRo 2
  else if within s 0x03 0x0A then oRo 4
  else none

/-- Terminals and excitation (R95). -/
def terminalInfo (s : Nat) : Option ObjInfo :=
  if s == 0x00 then oConst 1
  else if within s 0x01 0x40 then oStaged 4
  else if within s 0x41 0x80 then oStaged 8
  else if within s 0x81 0x86 || s == 0x8E || s == 0x8F then oLive 4 .maintain
  else if within s 0x87 0x8D then oRo 4
  else if within s 0xA1 0xE0 then oRo 1
  else none

/-- Recorder (R389). -/
def recorderInfo (s : Nat) : Option ObjInfo :=
  if s == 0x00 then oConst 1
  else if s == 0x01 || s == 0x0D then oRo 2
  else if s == 0x02 then oRo 8
  else if s == 0x04 then oStaged 4
  else if s == 0x03 || within s 0x05 0x07 || s == 0x0C then oRo 4
  else if s == 0x08 || s == 0x0E then oSess 4 .rw
  else if s == 0x09 || s == 0x0F then oSess 512 .ro
  else if s == 0x0A then oCmd 8 .operate
  else if s == 0x0B then oCmd 2 .commission
  else none

/-- Configuration integrity (R390). CFG_IMAGE has a variable length and is no value of a
configuration. -/
def cfgInfo (s : Nat) : Option ObjInfo :=
  if s == 0x00 then oConst 1
  else if s == 0x01 then oRo 2
  else if s == 0x02 || s == 0x04 || s == 0x09 then oRo 4
  else if s == 0x03 || s == 0x05 then oRo 8
  else if s == 0x06 then oLive 8 .commission
  else if s == 0x07 then oCmd 2 .commission
  else if s == 0x08 then oLive 4 .commission
  else if s == 0x0A then oSess 1 .rw
  else if s == 0x0B then
    some { size := 65536, varLen := true, access := .rwa .commission, cls := .staged }
  else none

/-- Twin execution and channel guard (R361, R157). -/
def twinInfo (s : Nat) : Option ObjInfo :=
  if s == 0x00 then oConst 1
  else if s == 0x01 || s == 0x03 then oRo 2
  else if s == 0x02 || s == 0x04 || s == 0x0A then oRo 1
  else if within s 0x05 0x0E then oRo 4
  else if s == 0x0F then oCmd 2 .commission
  else if s == 0x38 then oStaged 1
  else if within s 0x39 0x3B then oRo 4
  else if s == 0x3C then oCmd 4 .maintain
  else if within s 0x40 0x7F then oStaged 80
  else if within s 0x80 0xBF then oRo 8
  else if within s 0xC0 0xFF then oRo 12
  else none

/-- Ports (R392). -/
def portInfo (s : Nat) : Option ObjInfo :=
  if s == 0x00 then oConst 1
  else if s == 0x01 || s == 0x06 then oStaged 4
  else if s == 0x02 || s == 0x03 then oStaged 16
  else if s == 0x04 || s == 0x05 then oStaged 32
  else if within s 0x07 0x0B || s == 0x13 || within s 0x14 0x1A then oRo 4
  else if s == 0x0C then oRo 32
  else if s == 0x0D then oSess 1 .rw
  else if s == 0x0E then oSess 16 .ro
  else if s == 0x0F then oSess 32 .wo
  else if s == 0x10 then oSess 1 .ro
  else if s == 0x11 then oSess 1 .wo
  else if s == 0x12 then oCmd 32 .commission
  else none

/-- Bellringer (R215). -/
def bellInfo (s : Nat) : Option ObjInfo :=
  if s == 0x00 then oConst 1
  else if within s 0x01 0x20 then oStaged 4
  else if within s 0x21 0x86 then oRo 4
  else none

/-- The object at an index and subindex, none when it is not present (R384). -/
def objInfo (i s : Nat) : Option ObjInfo :=
  if s > 0xFF then none
  else if i < 0x2000 then commInfo i s
  else if i == 0x2000 then deviceInfo s
  else if within i 0x2100 0x211F then headInfo s
  else if within i 0x2200 0x222F then sectionInfo s
  else if i == 0x2300 then permitInfo s
  else if i == 0x2400 then trackerInfo s
  else if i == 0x2500 then engineInfo s
  else if within i 0x2501 0x2510 then lawInfo s
  else if i == 0x2511 then ledgerInfo s
  else if within i 0x2600 0x263F then channelInfo s
  else if i == 0x2700 then terminalInfo s
  else if i == 0x2800 then recorderInfo s
  else if i == 0x2900 then cfgInfo s
  else if i == 0x2A00 then twinInfo s
  else if i == 0x2B00 then portInfo s
  else if i == 0x2C00 then bellInfo s
  else none

/-- An index is present when its subindex 0 is (R366, R385). -/
def idxPresent (i : Nat) : Bool := (objInfo i 0).isSome

/-- Highest subindex of a record or manufacturer index (R366, R385). -/
def numSub (i : Nat) : Nat :=
  if i == 0x1016 || i == 0x1018 then 4
  else if i == 0x1200 then 2
  else if within i 0x1201 0x1203 then 3
  else if within i 0x1301 0x1308 then 6
  else if i == 0x13FF then 8
  else if within i 0x1400 0x1407 then 5
  else if within i 0x1800 0x180F then 6
  else if within i 0x1381 0x1388 || within i 0x1600 0x1607 || within i 0x1A00 0x1A0F then 16
  else if i == 0x2000 then 0x33
  else if within i 0x2100 0x211F then 0x14
  else if within i 0x2200 0x222F then 0x0F
  else if i == 0x2300 then 0x4B
  else if i == 0x2500 then 0x22
  else if within i 0x2501 0x2510 then 0x21
  else if i == 0x2511 then 0xDF
  else if within i 0x2600 0x263F then 0x0A
  else if i == 0x2700 then 0xE0
  else if i == 0x2800 then 0x0F
  else if i == 0x2900 then 0x0B
  else if i == 0x2A00 || i == 0x2400 then 0xFF
  else if i == 0x2B00 then 0x1A
  else if i == 0x2C00 then 0x86
  else 0

/-- A field of `n` bytes at byte offset `o` of a DOMAIN. -/
def at8 (o v : Nat) : Nat := v * 256 ^ o

/-- Default of CANA_CFG and CANB_CFG (R398). -/
def canCfgDefault (enabled : Bool) : Nat :=
  at8 0 0x20 + (if enabled then at8 1 0x41 else 0) + at8 2 1 + at8 3 175 + at8 5 150 + at8 8 10
    + at8 12 0x80000000

/-- A MAC address as the number of its bytes in order (R415): 0x02, the given byte, SERIAL. -/
def macDefault (second : Nat) : Nat :=
  0x02 + at8 1 second + ofLe ((leBytes 4 Config.serial.toNat).reverse) * 256 ^ 2

/-- Default of ETA_CFG and ETB_CFG (R415). -/
def ethCfgDefault (second flags phy : Nat) : Nat :=
  macDefault second + at8 6 0xFFFFFFFFFFFF + at8 12 255 + at8 13 8 + at8 14 32 + at8 16 128
    + at8 17 flags + at8 18 1000 + at8 20 10 + at8 24 phy

/-- Default of GUARD_CFG (R158). -/
def guardCfgDefault : Nat := at8 1 0xFF + at8 (32 + 4 * 3) 16777216

/-- Default of TRACK_CFG (R269). -/
def trackCfgDefault : Nat := at8 40 640 + at8 42 25

/-- Factory defaults of the objects of R432. The three COB-IDs of R503 are given here for node 0. -/
def cfgDefault0 (i s : Nat) : Nat :=
  if i == 0x1005 then 0x80
  else if i == 0x1014 then 0x80
  else if i == 0x1017 then 1000
  else if i == 0x1200 then (if s == 1 then 0x600 else if s == 2 then 0x580 else 0)
  else if within i 0x1201 0x1203 then (if s == 1 || s == 2 then 0x80000000 else 0)
  else if within i 0x1400 0x1407 || within i 0x1800 0x180F then
    (if s == 1 then 0x80000000 else if s == 2 then 255 else 0)
  else if i == 0x2000 then (if s == 0x15 then 1 else 0)
  else if within i 0x2100 0x211F then
    (if s == 1 then 0x00FFFFFF00000000 else if s == 2 then 1250 else if s == 3 then 0x0CCD4000 else 0)
  else if within i 0x2200 0x222F then (if s == 2 then 3000 else 0)
  else if i == 0x2300 then (if within s 0x01 0x10 then 0x00321414 else 0)
  else if i == 0x2400 then
    (if s == 0x0D then 240000 else if within s 0x40 0x6F then trackCfgDefault else 0)
  else if i == 0x2500 then
    (if s == 1 then 0x00641400 else if s == 2 then 40000
     else if within s 0x0C 0x11 then 0x7FFFFFFF else 0)
  else if within i 0x2501 0x2510 then
    (if s == 1 then 0xC000 else if s == 2 then 256 else if s == 3 || s == 0x1C then 0x7FFFFFFF
     else if s == 0x05 || s == 0x0A || s == 0x0F || s == 0x14 || s == 0x19 then 1 else 0)
  else if i == 0x2700 then
    (if within s 0x01 0x40 then 0xFFFF0000
     else if within s 0x41 0x80 then 0x00FFFFFFFFFF0000 else 0)
  else if i == 0x2800 then (if s == 4 then 1048576 else 0)
  else if i == 0x2A00 then
    (if s == 0x38 then 50 else if within s 0x40 0x7F then guardCfgDefault else 0)
  else if i == 0x2B00 then
    (if s == 1 then 0x00001234
     else if s == 2 then canCfgDefault true
     else if s == 3 then canCfgDefault false
     else if s == 4 then ethCfgDefault 0x4D 1 0
     else if s == 5 then ethCfgDefault 0x4E 0 1
     else if s == 6 then 0x0A0A else 0)
  else if i == 0x2C00 then (if within s 0x01 0x20 then 24000 else 0)
  else 0

/-- Key of an object in a configuration map. -/
def cfgKey (i s : Nat) : Nat := 256 * i + s

/-- The objects whose default depends on the node-ID (R503). -/
def nodeCob (i s : Nat) : Bool := (i == 0x1014 && s == 0) || (i == 0x1200 && (s == 1 || s == 2))

/-- The value held for a key, if it differs from the default. -/
def cfgFind (m : CfgMap) (k : Nat) : Option Nat :=
  match m with
  | [] => none
  | (k', v) :: rest => if k' == k then some v else cfgFind rest k

/-- NODE_ID of CANA in a configuration (R398). -/
def canaNode (m : CfgMap) : Nat := byteOf ((cfgFind m (cfgKey 0x2B00 2)).getD (canCfgDefault true)) 0

/-- The factory default of an object in a configuration (R371, R503). -/
def cfgDefault (m : CfgMap) (i s : Nat) : Nat :=
  if nodeCob i s then cfgDefault0 i s + canaNode m else cfgDefault0 i s

/-- The value of an object in a configuration. -/
def cfgGet (m : CfgMap) (i s : Nat) : Nat :=
  match cfgFind m (cfgKey i s) with
  | some v => v
  | none => cfgDefault m i s

def cfgDel (m : CfgMap) (k : Nat) : CfgMap := m.filter (fun e => e.1 != k)

def cfgIns : CfgMap → Nat → Nat → CfgMap
  | [], k, v => [(k, v)]
  | (k', v') :: rest, k, v =>
    if k < k' then (k, v) :: (k', v') :: rest
    else if k == k' then (k, v) :: rest
    else (k', v') :: cfgIns rest k v

/-- Drop an entry that restates the default. -/
def cfgTidy (m : CfgMap) (i s : Nat) : CfgMap :=
  if cfgFind m (cfgKey i s) == some (cfgDefault m i s) then cfgDel m (cfgKey i s) else m

/-- Write an object's value into a configuration. A COB-ID of R503 that equals its read value holds
its default, also after a change of NODE_ID. -/
def cfgSet (m : CfgMap) (i s v : Nat) : CfgMap :=
  let m1 := cfgTidy (cfgIns m (cfgKey i s) v) i s
  if i == 0x2B00 && s == 2 then cfgTidy (cfgTidy (cfgTidy m1 0x1014 0) 0x1200 1) 0x1200 2 else m1

/-- Bits of an object that are not reserved: `none` when it has no reserved bit (R14, R15). -/
def keepMask (i s : Nat) : Option Nat :=
  if within i 0x2100 0x211F then
    (if s == 1 then some 0xF8FFFFFFFFFFFFFF else if s == 3 then some 0xFFFFFF00
     else if s == 4 then some (256 ^ 12 - 1) else none)
  else if within i 0x2200 0x222F then (if s == 1 then some 0xDFDFDFDFDFDFDFDF else none)
  else if i == 0x2300 then
    (if within s 0x01 0x10 then some 0xF8FFFFFF
     else if within s 0x11 0x20 then some 0xBFBFBFBFBFBFBFBF else none)
  else if i == 0x2400 then (if within s 0x40 0x6F then some (256 ^ 43 - 1) else none)
  else if i == 0x2500 then (if s == 1 then some 0xFFFFFF00 else none)
  else if within i 0x2501 0x2510 then
    (if s == 1 then some 0xFFFFFE00 else if within s 0x05 0x1B then some 0x1FFFFFFFFF else none)
  else if i == 0x2511 then
    (if within s 0x20 0x4F then some (256 ^ 30 - 1 - at8 1 0xFF) else none)
  else if within i 0x2600 0x263F then (if s == 1 then some 0xFFFF0000 else none)
  else if i == 0x2700 then
    (if within s 0x01 0x40 then some 0xFFFFF7FF
     else if within s 0x41 0x80 then some 0xFFFFFFFFFFFF0000 else none)
  else if i == 0x2A00 then
    (if within s 0x40 0x7F then some (256 ^ 80 - 1 - 0xFF - at8 30 0xFFFF) else none)
  else if i == 0x2B00 then
    (if s == 1 then some 0x000FFFFF
     else if s == 2 || s == 3 then
       some (256 ^ 16 - 1 - at8 7 0xFE - at8 10 0xFFFF - at8 12 0x7FFFF800)
     else if s == 4 || s == 5 then some (256 ^ 25 - 1 - at8 17 0xF8)
     else none)
  else none

/-- A value as the device takes it: reserved bits read 0 (R15). -/
def maskValue (i s v : Nat) : Nat :=
  match keepMask i s with
  | some k => Nat.land v k
  | none => v

/-- The objects with reserved bits that no row of the configuration check names: LOAD_CAL and the coefficient words
of the laws (R194, R329). -/
def uncheckedReserved (i s : Nat) : Bool :=
  (within i 0x2100 0x211F && s == 4) || (within i 0x2501 0x2510 && within s 0x05 0x1B)

/-- A value as a configuration holds it. DESIGN CHOICE (log 42): a reserved bit that a row of the configuration check
names stays as it was written, so that the row can find it (R83, R124, R156, R194, R220, R266, R295, R329, R431), and it
reads 0 all the same (R15); any other reserved bit is held as 0. -/
def heldValue (i s v : Nat) : Nat := if uncheckedReserved i s then maskValue i s v else v

/-- Is the coefficient or limit value of a live engine object outside its stated range? (R330, R333) -/
def engineValueBad (i s v : Nat) : Bool :=
  if i == 0x2500 then within s 0x0C 0x11 && (v == 0 || decide (v > 0x7FFFFFFF))
  else if s == 0x02 then decide (v > 256)
  else if s == 0x03 then v == 0 || decide (v > 0x7FFFFFFF)
  else if s == 0x04 then decide (v > 31)
  else if s == 0x1C then decide (v > 0x7FFFFFFF)
  else false

/-- Check 6 of R379: a value that the object's Meaning refuses by value. -/
def valueRefused (i s v : Nat) : Bool :=
  if i == 0x1003 && s == 0 then v != 0
  else if i == 0x2000 && s == 0x15 then decide (v > 1)
  else if i == 0x2000 && s == 0x18 then v != 0x4842
  else if within i 0x2200 0x222F && s == 0x0B then v != 0x5253 && v != 0
  else if within i 0x2200 0x222F && s == 0x0D then v != 0x4453
  else if i == 0x2300 && s == 0x34 then v != 0x4152 && v != 0
  else if i == 0x2500 && s == 0x04 then decide (v > 3)
  else if i == 0x2500 || within i 0x2501 0x2510 then engineValueBad i s v
  else if i == 0x2800 && s == 0x04 then
    v % 64 != 0 || decide (v < 64) || decide (v > 16777216)
  else if i == 0x2800 && s == 0x0B then
    !(v == 0x434C || v == 0x464E)
  else if i == 0x2800 && s == 0x0E then v % 512 != 0 || decide (v > 16776704)
  else if i == 0x2900 && s == 0x07 then
    !(v == 0x434B || v == 0x4443 || v == 0x5356 || v == 0x4143 || v == 0x4144 || v == 0x4C53)
  else if i == 0x2900 && s == 0x08 then decide (v > 240)
  else if i == 0x2900 && s == 0x0A then decide (v > 1)
  else if i == 0x2A00 && s == 0x0F then v != 0x5354
  else if i == 0x2B00 && s == 0x0D then decide (v > 3)
  else if i == 0x2B00 && s == 0x12 then v == 0
  else false

end Sys2Proof.Machine
end

