-- ==== Sys2Proof/Machine/CfgView.lean ====
section
/-! DEFINITION. The fields of the configuration objects, read by name (R96, R97, R126, R158, R196 to
R198, R216, R240, R269, R297, R298, R305, R331, R334, R337, R393, R398, R415, R419). -/

namespace Sys2Proof.Machine

-- sources (R96)
def excWord (c : CfgMap) (k : Nat) : Nat := cfgGet c 0x2700 (k + 1)
def wordForce (w : Nat) : Nat := field w 31 24
def wordReturn (w : Nat) : Nat := field w 23 16
def wordWave (w : Nat) : Nat := field w 15 13
def wordEnable (w : Nat) : Bool := bitOf w 12
def wordCurrent (w : Nat) : Nat := field w 10 0
def excEnabled (c : CfgMap) (k : Nat) : Bool := wordEnable (excWord c k)

-- connections (R97)
def connWord (c : CfgMap) (ch : Nat) : Nat := cfgGet c 0x2700 (ch + 0x41)
def connKind (c : CfgMap) (ch : Nat) : Nat := field (connWord c ch) 63 56
def connSource (c : CfgMap) (ch : Nat) : Nat := field (connWord c ch) 55 48
def connSigP (c : CfgMap) (ch : Nat) : Nat := field (connWord c ch) 47 40
def connSigN (c : CfgMap) (ch : Nat) : Nat := field (connWord c ch) 39 32
def connRefP (c : CfgMap) (ch : Nat) : Nat := field (connWord c ch) 31 24
def connRefN (c : CfgMap) (ch : Nat) : Nat := field (connWord c ch) 23 16

-- channels (R126)
def chCfg (c : CfgMap) (ch : Nat) : Nat := cfgGet c (0x2600 + ch) 1
def chMode (c : CfgMap) (ch : Nat) : Nat := field (chCfg c ch) 31 28
def chRate (c : CfgMap) (ch : Nat) : Nat := field (chCfg c ch) 27 26
def chGainMin (c : CfgMap) (ch : Nat) : Nat := field (chCfg c ch) 25 23
def chGainMax (c : CfgMap) (ch : Nat) : Nat := field (chCfg c ch) 22 20
def chGainInit (c : CfgMap) (ch : Nat) : Nat := field (chCfg c ch) 19 17
def chAuto (c : CfgMap) (ch : Nat) : Bool := bitOf (chCfg c ch) 16
def chFreq (c : CfgMap) (ch : Nat) : Nat := cfgGet c (0x2600 + ch) 2

-- guard configuration (R158)
def guardCfg (c : CfgMap) (ch : Nat) : Nat := cfgGet c 0x2A00 (ch + 0x40)
def gTempSrc (g : Nat) : Nat := byteOf g 1
def gSweep (g : Nat) : Nat := bytesOf g 2 2
def gNomMag (g : Nat) : Nat := bytesOf g 4 4
def gMagWarn (g : Nat) : Nat := bytesOf g 8 2
def gMagFail (g : Nat) : Nat := bytesOf g 10 2
def gNomPhase (g : Nat) : Int := toSigned 16 (bytesOf g 12 2)
def gPhaseWarn (g : Nat) : Nat := bytesOf g 14 2
def gPhaseFail (g : Nat) : Nat := bytesOf g 16 2
def gNomFr (g : Nat) : Nat := bytesOf g 18 2
def gFrWarn (g : Nat) : Nat := bytesOf g 20 2
def gFrFail (g : Nat) : Nat := bytesOf g 22 2
def gQWarn (g : Nat) : Nat := bytesOf g 24 2
def gQFail (g : Nat) : Nat := bytesOf g 26 2
def gIdle (g : Nat) : Nat := bytesOf g 28 2
/-- Coefficient c_ij of the linearisation, i 0 to 3, j 0 to 2. -/
def gPoly (g i j : Nat) : Int := toSigned 32 (bytesOf g (32 + 4 * (3 * i + j)) 4)
def guardPeriod (c : CfgMap) : Nat := cfgGet c 0x2A00 0x38

-- heads (R196 to R198)
def headCfg (c : CfgMap) (h : Nat) : Nat := cfgGet c (0x2100 + h) 1
def headType (c : CfgMap) (h : Nat) : Nat := field (headCfg c h) 63 60
def headDefined (c : CfgMap) (h : Nat) : Bool := headType c h != 0
def headInductive (c : CfgMap) (h : Nat) : Bool := headType c h == 1
def headStrip (c : CfgMap) (h : Nat) : Bool := headType c h == 2
def headOpen (c : CfgMap) (h : Nat) : Bool := bitOf (headCfg c h) 59
def headSys1 (c : CfgMap) (h : Nat) : Nat := field (headCfg c h) 55 48
def headSys2 (c : CfgMap) (h : Nat) : Nat := field (headCfg c h) 47 40
def headLoad (c : CfgMap) (h : Nat) : Nat := field (headCfg c h) 39 32
def headD (c : CfgMap) (h : Nat) : Nat := field (headCfg c h) 31 16
def headW (c : CfgMap) (h : Nat) : Nat := field (headCfg c h) 15 0
def headVmax (c : CfgMap) (h : Nat) : Nat := cfgGet c (0x2100 + h) 2
def fitCfg (c : CfgMap) (h : Nat) : Nat := cfgGet c (0x2100 + h) 3
def headGOpen (c : CfgMap) (h : Nat) : Nat := field (fitCfg c h) 31 16
def headEMax (c : CfgMap) (h : Nat) : Nat := field (fitCfg c h) 15 8
def loadCal (c : CfgMap) (h : Nat) : Nat := cfgGet c (0x2100 + h) 4
def headLoadOff (c : CfgMap) (h : Nat) : Int := toSigned 32 (bytesOf (loadCal c h) 0 4)
def headLoadHalf (c : CfgMap) (h : Nat) : Nat := bytesOf (loadCal c h) 4 4
def headLoadK (c : CfgMap) (h : Nat) : Nat := bytesOf (loadCal c h) 8 4
/-- Template of system k (1 or 2): amplitude and phase of point p, 0 to 64 (R165). -/
def templateA (c : CfgMap) (h k p : Nat) : Int :=
  toSigned 16 (bytesOf (cfgGet c (0x2100 + h) (4 + k)) (2 * p) 2)
def templateP (c : CfgMap) (h k p : Nat) : Int :=
  toSigned 16 (bytesOf (cfgGet c (0x2100 + h) (4 + k)) (130 + 2 * p) 2)
def guardDist (c : CfgMap) (h : Nat) : Nat := cfgGet c 0x2C00 (h + 1)

-- sections (R240) and tracking (R269)
/-- One crossing of a section: its number k, the head and whether the section lies on side B. -/
structure Crossing where
  k : Nat
  head : Nat
  inPos : Bool
  deriving DecidableEq, Repr

def crossByte (c : CfgMap) (n k : Nat) : Nat := byteOf (cfgGet c (0x2200 + n) 1) k

def crossings (c : CfgMap) (n : Nat) : List Crossing :=
  (List.range 8).filterMap (fun k =>
    let b := crossByte c n k
    if bitOf b 7 then some { k := k, head := field b 4 0, inPos := bitOf b 6 } else none)

def secUsed (c : CfgMap) (n : Nat) : Bool := !(crossings c n).isEmpty
def clearDelay (c : CfgMap) (n : Nat) : Nat := cfgGet c (0x2200 + n) 2
def trackCfg (c : CfgMap) (n : Nat) : Nat := cfgGet c 0x2400 (n + 0x40)
def trackPos (c : CfgMap) (n k : Nat) : Int := toSigned 32 (bytesOf (trackCfg c n) (4 * k) 4)
def trackRunMin (c : CfgMap) (n : Nat) : Int := toSigned 32 (bytesOf (trackCfg c n) 32 4)
def trackRunMax (c : CfgMap) (n : Nat) : Int := toSigned 32 (bytesOf (trackCfg c n) 36 4)
def trackHalf (c : CfgMap) (n : Nat) : Nat := bytesOf (trackCfg c n) 40 2
def trackTol (c : CfgMap) (n : Nat) : Nat := byteOf (trackCfg c n) 42
def groupGap (c : CfgMap) : Nat := cfgGet c 0x2400 0x0D

/-- Section on a side of a head, none for outside. -/
def sideSection (c : CfgMap) (h : Nat) (inPos : Bool) : Option (Fin 48) :=
  (allFin 48).find? (fun n => (crossings c n.val).any (fun x => x.head == h && x.inPos == inPos))

-- permits (R297, R298)
def permitCfg (c : CfgMap) (p : Nat) : Nat := cfgGet c 0x2300 (p + 1)
def permitOn (c : CfgMap) (p : Nat) : Bool := bitOf (permitCfg c p) 31
def permitLockAll (c : CfgMap) (p : Nat) : Bool := bitOf (permitCfg c p) 30
def permitMode (c : CfgMap) (p : Nat) : Nat := field (permitCfg c p) 29 28
def permitInv (c : CfgMap) (p : Nat) : Bool := bitOf (permitCfg c p) 27
def permitHalf (c : CfgMap) (p : Nat) : Nat := field (permitCfg c p) 23 16
def permitPickup (c : CfgMap) (p : Nat) : Nat := field (permitCfg c p) 15 8
def permitDrop (c : CfgMap) (p : Nat) : Nat := field (permitCfg c p) 7 0
def permitTerms (c : CfgMap) (p : Nat) : List Nat :=
  (List.range 8).filterMap (fun k =>
    let b := byteOf (cfgGet c 0x2300 (p + 0x11)) k
    if bitOf b 7 then some (field b 5 0) else none)

-- engine (R331, R334, R337)
def engineCfg (c : CfgMap) : Nat := cfgGet c 0x2500 1
def tickSrc (c : CfgMap) : Nat := field (engineCfg c) 31 29
def tickHz (c : CfgMap) : Nat := field (engineCfg c) 28 16
def warmup (c : CfgMap) : Nat := field (engineCfg c) 15 8
def allowance (c : CfgMap) : Nat := cfgGet c 0x2500 2
def lawCfg (c : CfgMap) (n : Nat) : Nat := cfgGet c (0x2501 + n) 1
def lawInput (c : CfgMap) (n : Nat) : Nat := field (lawCfg c n) 31 24
def lawFeedback (c : CfgMap) (n : Nat) : Nat := field (lawCfg c n) 23 16
def lawTarget (c : CfgMap) (n : Nat) : Nat := field (lawCfg c n) 15 13
def lawNsec (c : CfgMap) (n : Nat) : Nat := field (lawCfg c n) 12 10
def lawPid (c : CfgMap) (n : Nat) : Bool := bitOf (lawCfg c n) 9
def frameCfg (c : CfgMap) (n : Nat) : Nat := cfgGet c 0x2511 (n + 0x20)
def frameKind (c : CfgMap) (n : Nat) : Nat := byteOf (frameCfg c n) 0
def frameMass (c : CfgMap) (n : Nat) : Nat := bytesOf (frameCfg c n) 2 2
def framePos0 (c : CfgMap) (n : Nat) : Int := toSigned 32 (bytesOf (frameCfg c n) 4 4)
def framePos1 (c : CfgMap) (n : Nat) : Int := toSigned 32 (bytesOf (frameCfg c n) 8 4)
def frameP (c : CfgMap) (n a : Nat) : Int := toSigned 32 (bytesOf (frameCfg c n) (12 + 4 * a) 4)
def frameU (c : CfgMap) (n a : Nat) : Int := toSigned 16 (bytesOf (frameCfg c n) (24 + 2 * a) 2)

-- ports (R393, R398, R415, R419)
def portCode : PortId → Nat
  | .spi => 0
  | .cana => 1
  | .canb => 2
  | .eta => 3
  | .etb => 4

def portIdx : PortId → Fin 5
  | .spi => 0
  | .cana => 1
  | .canb => 2
  | .eta => 3
  | .etb => 4

def portOfCode : Nat → Option PortId
  | 0 => some .spi
  | 1 => some .cana
  | 2 => some .canb
  | 3 => some .eta
  | 4 => some .etb
  | _ => none

def canIdx : CanPort → Fin 2
  | .a => 0
  | .b => 1

def canPortId : CanPort → PortId
  | .a => .cana
  | .b => .canb

def ethPortId : EthPort → PortId
  | .a => .eta
  | .b => .etb

def isCan : PortId → Bool
  | .cana | .canb => true
  | _ => false

def isEth : PortId → Bool
  | .eta | .etb => true
  | _ => false

/-- Rank of a port in PORT_PRIORITY, 0 highest; 5 when it is not named. -/
def portRank (c : CfgMap) (p : PortId) : Nat :=
  let w := cfgGet c 0x2B00 1
  ((List.range 5).find? (fun i => field w (19 - 4 * i) (16 - 4 * i) == portCode p)).getD 5

def canCfg (c : CfgMap) (p : CanPort) : Nat := cfgGet c 0x2B00 (match p with | .a => 2 | .b => 3)
def canNode (c : CfgMap) (p : CanPort) : Nat := byteOf (canCfg c p) 0
def canFlag (c : CfgMap) (p : CanPort) (b : Nat) : Bool := bitOf (byteOf (canCfg c p) 1) b
def canEnabled (c : CfgMap) (p : CanPort) : Bool := canFlag c p 0
def canFd (c : CfgMap) (p : CanPort) : Bool := canFlag c p 1
def canSyncProducer (c : CfgMap) (p : CanPort) : Bool := canFlag c p 3
def canAutoRecover (c : CfgMap) (p : CanPort) : Bool := canFlag c p 4
def canSdo (c : CfgMap) (p : CanPort) : Bool := canFlag c p 6
def canSrdo (c : CfgMap) (p : CanPort) : Bool := canFlag c p 7
def canAutostart (c : CfgMap) (p : CanPort) : Bool := bitOf (byteOf (canCfg c p) 7) 0
def canTimeout (c : CfgMap) (p : CanPort) : Nat := bytesOf (canCfg c p) 8 2
def canIdent (c : CfgMap) (p : CanPort) : Nat := bytesOf (canCfg c p) 12 4

def ethCfg (c : CfgMap) (p : EthPort) : Nat := cfgGet c 0x2B00 (match p with | .a => 4 | .b => 5)
def ethEnabled (c : CfgMap) (p : EthPort) : Bool := bitOf (byteOf (ethCfg c p) 17) 0
def ethSyncRx (c : CfgMap) (p : EthPort) : Bool := bitOf (byteOf (ethCfg c p) 17) 1
def ethPdRx (c : CfgMap) (p : EthPort) : Bool := bitOf (byteOf (ethCfg c p) 17) 2
/-- PLCA runs unless PLCA_ID is 255 (R415). -/
def ethPlca (c : CfgMap) (p : EthPort) : Bool := byteOf (ethCfg c p) 12 != 255
/-- A MAC of ETA_CFG or ETB_CFG with its first byte at the top. -/
def macAt (c : CfgMap) (p : EthPort) (off : Nat) : Nat := ofBe (leBytes 6 (bytesOf (ethCfg c p) off 6))
def phyAddr (c : CfgMap) (p : EthPort) : Nat := byteOf (ethCfg c p) 24
def ethHbMs (c : CfgMap) (p : EthPort) : Nat := bytesOf (ethCfg c p) 18 2
def ethTimeout (c : CfgMap) (p : EthPort) : Nat := bytesOf (ethCfg c p) 20 2
def ethPdMask (c : CfgMap) (p : EthPort) : Nat := bytesOf (ethCfg c p) 22 2
def spiCfg (c : CfgMap) : Nat := cfgGet c 0x2B00 6

/-- A port that is configured to run (R398, R415, R419). -/
def portEnabled (c : CfgMap) : PortId → Bool
  | .spi => true
  | .cana => canEnabled c .a
  | .canb => canEnabled c .b
  | .eta => ethEnabled c .a
  | .etb => ethEnabled c .b

/-- SESSION_TIMEOUT of a port in seconds (R398, R415, R419). -/
def portTimeout (c : CfgMap) : PortId → Nat
  | .spi => field (spiCfg c) 15 8
  | .cana => canTimeout c .a
  | .canb => canTimeout c .b
  | .eta => ethTimeout c .a
  | .etb => ethTimeout c .b

/-- PD_MASK of a port (R415, R419). -/
def pdMask (c : CfgMap) : PortId → Nat
  | .spi => field (spiCfg c) 31 16
  | .eta => ethPdMask c .a
  | .etb => ethPdMask c .b
  | .cana | .canb => 0

/-- Heartbeat period of a port in ms, 0 for none (R385, R415, R419). -/
def heartbeatMs (c : CfgMap) : PortId → Nat
  | .spi => 100 * field (spiCfg c) 7 0
  | .eta => ethHbMs c .a
  | .etb => ethHbMs c .b
  | .cana | .canb => cfgGet c 0x1017 0

end Sys2Proof.Machine
end

