-- ==== Sys2Proof/Machine/Memory.lean ====
section
/-! DEFINITION. The eMMC user data area as a list of (address, byte) in one canonical form: addresses
strictly rising, no entry 0x00, which is what an unlisted address reads as (R457, R461; log 14). -/

namespace Sys2Proof.Machine

/-- What an address that is not listed reads as (log 14). -/
def memEmpty : Byte := 0#8

/-- Addresses strictly rising from `lo` on and no entry equal to the empty byte. -/
def memWfFrom : Nat → List Host.Cell → Bool
  | _, [] => true
  | lo, (a, b) :: rest => decide (lo ≤ a) && (b != memEmpty) && memWfFrom (a + 1) rest

/-- The canonical form. -/
def Memory.wf (m : List Host.Cell) : Bool := memWfFrom 0 m

/-- One byte. -/
def memGet : List Host.Cell → Nat → Byte
  | [], _ => memEmpty
  | (a, b) :: rest, x => if a == x then b else memGet rest x

/-- `n` bytes from an address on. -/
def memRead (m : List Host.Cell) (base : Nat) : Nat → List Byte
  | 0 => []
  | n + 1 => memGet m base :: memRead m (base + 1) n

/-- The cells of a block of bytes, without the empty ones. -/
def memCells : Nat → List Byte → List Host.Cell
  | _, [] => []
  | a, b :: bs => if b == memEmpty then memCells (a + 1) bs else (a, b) :: memCells (a + 1) bs

/-- Cells below an address. -/
def memBelow : List Host.Cell → Nat → List Host.Cell
  | [], _ => []
  | (a, b) :: rest, x => if a < x then (a, b) :: memBelow rest x else []

/-- Cells from an address on. -/
def memFrom : List Host.Cell → Nat → List Host.Cell
  | [], _ => []
  | (a, b) :: rest, x => if a < x then memFrom rest x else (a, b) :: rest

/-- Store a block of bytes. -/
def memWrite (m : List Host.Cell) (base : Nat) (bs : List Byte) : List Host.Cell :=
  memBelow m base ++ memCells base bs ++ memFrom m (base + bs.length)

/-- Erase the addresses from `lo` to `hi - 1`. -/
def memErase (m : List Host.Cell) (lo hi : Nat) : List Host.Cell :=
  memBelow m lo ++ memFrom m (if lo ≤ hi then hi else lo)

end Sys2Proof.Machine
end

