-- ==== Sys2Proof/Machine/Records.lean ====
section
/-! DEFINITION. Time counts and the creation, numbering, sealing and queueing of records of the
Parish Book (R200, R460 to R468, R473, R474). -/

namespace Sys2Proof.Machine

/-- The state at the start of a command: nothing sent yet (log 8). -/
def State.begin (s : State) : State := { s with sent := [] }

/-- The clock moves to an instant if it is not there yet (log 1). -/
def State.reach (s : State) (t : Nat) : State := { s with now := if s.now < t then t else s.now }

/-- Put a message on a port (log 8). -/
def State.say (s : State) (m : Msg) : State := { s with sent := s.sent ++ [m] }

/-- Draw a free value's number (log 5). -/
def State.draw (s : State) : State := { s with fresh := s.fresh + 1 }

/-- Period of the output grid (R100). -/
def gridNs : Nat := 20000

/-- GRID_TIME: count of the 20 us grid since boot step 1, modulo 2^32 (R200, R386). -/
def gridTime (s : State) : Nat := (s.now - s.power.bootAt) / gridNs % 2 ^ 32

/-- Powered time since boot step 1 in units of 1/1024 s (R462). -/
def opSinceBoot (s : State) : Nat := (s.now - s.power.bootAt) * 1024 / 1000000000

/-- OP_TIME, 48 bits (R389, R462). -/
def opTime (s : State) : Nat := (s.recd.opBase + opSinceBoot s) % 2 ^ 48

/-- The device key as bytes, empty while none is installed (R427). -/
def keyBytes (s : State) : List Byte :=
  match s.net.key with
  | some k => leBytes 32 k
  | none => []

/-- Bytes 0 to 58 of a record (R460). -/
def recBody (n time cycle typ : Nat) (payload : List Byte) : List Byte :=
  leBytes 4 n ++ leBytes 6 time ++ leBytes 4 cycle ++ [BitVec.ofNat 8 typ, 1#8] ++ padBytes 43 payload

/-- The 64 bytes of a record (R460, R461). -/
def recBytes (body : List Byte) : List Byte := body ++ leBytes 4 (crc32 body) ++ [0x5A#8]

def Rec.body (r : Rec) : List Byte := recBody (r.number.getD 0) r.time r.cycle r.typ r.payload

/-- A slot's valid record (R461). -/
def recValid (bs : List Byte) : Bool :=
  bs.length == 64 && bs.getD 63 0#8 == 0x5A#8 && ofLe ((bs.drop 59).take 4) == crc32 (bs.take 59)

/-- Slot of record n in a book (R458). -/
def recSlot (l : Label) (n : Nat) : Nat :=
  if n < l.f then 64 + n else 64 + l.f + (if l.d = 0 then 0 else (n - l.f) % l.d)

/-- Most records that wait, the open sector included (R468). -/
def recCap : Nat := 1024

/-- Records of the open sector that are already on the eMMC (R467). -/
def openWritten (r : Recorder) : Nat :=
  match r.queue with
  | [] => r.next % 8
  | q :: _ => match q.number with
    | some n => n % 8
    | none => r.next % 8

def recCount (r : Recorder) : Nat := r.queue.length + openWritten r

/-- A CLEAR that only waits for its CLEARED record to be written. -/
def RecJob.numbers : RecJob → Bool
  | .cleared _ => true
  | .clear _ _ _ _ | .found _ => false

/-- Records get their numbers at creation while the book is open and no command stands in the way (R468, R470,
R477). -/
def numbering (r : Recorder) : Bool := r.opened && r.st == .ready && r.job.all RecJob.numbers

/-- What creation needs besides the recorder. -/
structure RecCtx where
  now : Nat
  time : Nat
  keyId : Nat
  key : List Byte
  /-- HIBERNATE entry has given up the eMMC: no write starts (R53). -/
  shut : Bool
  deriving DecidableEq, Repr

/-- HIBERNATE entry runs. DEDUCED (log 19): a stop ends it, since only a reset clears the stop latch and a
stopped device does not enter HIBERNATE (R350, R487). -/
def State.goingDown (s : State) : Bool := s.power.entering && !s.twin.stopLatch

/-- HIBERNATE entry has given up waiting for the eMMC: 40 ms have passed (R53). -/
def flushAbandoned (s : State) : Bool := s.goingDown && decide (s.power.entryAt + ms 40 < s.now)

def recCtx (s : State) : RecCtx :=
  { now := s.now, time := opTime s, keyId := s.net.keyId, key := keyBytes s, shut := flushAbandoned s }

/-- Give a record the next number and queue it (R466, R473, R474). -/
def recAppend (x : RecCtx) (r : Recorder) (typ : Nat) (payload : List Byte) : Recorder :=
  let q : Rec := { number := some r.next, time := x.time, cycle := r.powerCycles, typ := typ
                   payload := padBytes 43 payload, createdAt := x.now }
  { r with
    queue := r.queue ++ [q]
    next := r.next + 1
    exhausted := r.exhausted || decide (r.next + 1 ≥ 0xFFFFFFFF)
    chained := r.chained ++ q.body }

/-- Queue a SEAL (R474). -/
def recSeal (x : RecCtx) (r : Recorder) : Recorder :=
  let fields := leBytes 4 x.keyId ++ leBytes 4 r.oldest
  let head := (recBody r.next x.time r.powerCycles 0x0C fields).take 24
  let bytes := padBytes 32 r.chain ++ r.chained ++ head
  let chain := if x.keyId = 0 then sha256 bytes else hmacSha256 x.key bytes
  let r1 := recAppend x r 0x0C (fields ++ chain)
  { r1 with chain := chain, chained := [] }

/-- A record of a time that cannot be kept (R468). -/
def recLose (x : RecCtx) (time : Nat) (r : Recorder) : Recorder :=
  { r with
    lostFirst := if r.lost = 0 then time else Nat.min r.lostFirst time
    lostLast := if r.lost = 0 then time else Nat.max r.lostLast time
    lost := satInc32 r.lost
    lossAt := some x.now }

/-- The SEAL that the next number asks for (R474). -/
def recSealed (x : RecCtx) (r : Recorder) : Recorder :=
  if r.next % 64 == 63 && !r.exhausted then recSeal x r else r

/-- Number and queue a record, its SEAL before it when the number asks for one. -/
def recNumber (x : RecCtx) (r : Recorder) (typ : Nat) (payload : List Byte) : Recorder :=
  let r1 := recSealed x r
  if r1.exhausted then recLose x x.time r1 else recAppend x r1 typ payload

/-- Queue a record without a number (R462, R468). -/
def recWait (x : RecCtx) (r : Recorder) (typ : Nat) (payload : List Byte) : Recorder :=
  { r with
    queue := r.queue ++ [{ number := none, time := x.time, cycle := r.powerCycles, typ := typ
                           payload := padBytes 43 payload, createdAt := x.now }] }

/-- Queue a record. The SEAL before it may take the last place (R468, R474). -/
def recPut (x : RecCtx) (r : Recorder) (typ : Nat) (payload : List Byte) : Recorder :=
  if numbering r then
    let r1 := recSealed x r
    if recCount r1 ≥ recCap then recLose x x.time r1 else recNumber x r1 typ payload
  else recWait x r typ payload

/-- Numbered records at the head of the queue that share the open sector. -/
def batchLen : List Rec → Nat → Nat
  | [], _ => 0
  | q :: qs, sector =>
    match q.number with
    | some n => if n / 8 == sector then batchLen qs sector + 1 else 0
    | none => 0

/-- Number of records that the next write of the open sector carries. -/
def recBatch (r : Recorder) : Nat :=
  match r.queue with
  | [] => 0
  | q :: _ => match q.number with
    | some n => batchLen r.queue (n / 8)
    | none => 0

/-- The open sector is full (R467). -/
def sectorFull (r : Recorder) : Bool :=
  match (r.queue.getD (recBatch r - 1) { number := none, time := 0, cycle := 0, typ := 0
                                         payload := [], createdAt := 0 }).number with
  | some n => n % 8 == 7
  | none => false

/-- A sector write can begin: one at a time, on an open book, on an eMMC that HIBERNATE entry has neither sent to
sleep nor given up (R53, R467). -/
def mayWrite (x : RecCtx) (r : Recorder) : Bool :=
  r.opened && r.st == .ready && r.writing == 0 && !r.asleep && !x.shut

/-- The open sector is written at once, full or not (R53, R467). -/
def recFlush (x : RecCtx) (r : Recorder) : Recorder := if mayWrite x r then { r with writing := recBatch r } else r

/-- A full sector is written at once (R467). -/
def recKick (x : RecCtx) (r : Recorder) : Recorder :=
  if mayWrite x r && sectorFull r then { r with writing := recBatch r } else r

/-- The GAP record that a loss leaves to be queued before the next record (R468). -/
def recGap (x : RecCtx) (r : Recorder) : Recorder :=
  if r.lost = 0 then r
  else { recPut x r 0x0A (leBytes 4 r.lost ++ leBytes 6 r.lostFirst ++ leBytes 6 r.lostLast) with lost := 0 }

/-- RECORD_CREATE: create a record of a type with its payload (R465, R468, R473). No record is
created after the FATAL record (R488). -/
def recCreate (x : RecCtx) (r : Recorder) (typ : Nat) (payload : List Byte) : Recorder :=
  if r.stopped then r
  else
    let r0 := { r with lastRecordAt := x.now }
    if r0.exhausted || decide (recCount r0 + (if r0.lost = 0 then 1 else 2) > recCap) then recLose x x.time r0
    else recKick x (recPut x (recGap x r0) typ payload)

/-- The GAP record in a queue that may be full. -/
def recGapBeyond (x : RecCtx) (r : Recorder) : Recorder :=
  if r.lost = 0 then r
  else { recNumber x r 0x0A (leBytes 4 r.lost ++ leBytes 6 r.lostFirst ++ leBytes 6 r.lostLast) with lost := 0 }

/-- The FATAL record. It follows every record that was queued, and all are written (R483). DEDUCED (log 44): it waits
for its place in a full queue, and so does the GAP record before it; numbers that have run out give it none (R473). -/
def recFatal (x : RecCtx) (r : Recorder) (payload : List Byte) : Recorder :=
  let r0 := { r with lastRecordAt := x.now }
  if r0.exhausted then recLose x x.time r0
  else recKick x (recNumber x (recGapBeyond x r0) 0x38 payload)

/-- Create a record. -/
def State.record (s : State) (typ : Nat) (payload : List Byte) : State :=
  { s with recd := recCreate (recCtx s) s.recd typ payload }

end Sys2Proof.Machine
end

