-- ==== Sys2Proof/Machine/Flags.lean ====
section
/-! DEFINITION. Bindings between channels, sources and heads, and every status word that the spec
lays out (R67, R98, R128, R159, R199, R216, R241, R268, R299, R300, R332, R362, R387, R388, R430,
R453, R481, R494). Each word is computed from the state at the read. -/

namespace Sys2Proof.Machine

-- bindings (R81, R97, R116)
/-- The source that a channel's connection binds. -/
def boundSource (c : CfgMap) (ch : Nat) : Option (Fin 64) :=
  if connKind c ch = 0 then none else finOf? 64 (connSource c ch)

/-- The channel that binds a source; R83 lets no second one bind it. -/
def boundChannel (c : CfgMap) (k : Fin 64) : Option (Fin 64) :=
  (allFin 64).find? (fun ch => boundSource c ch.val == some k)

/-- Counting channels of a head: its systems or strips (R133). -/
def countingOf (c : CfgMap) (h : Nat) (ch : Nat) : Bool :=
  headDefined c h && (headSys1 c h == ch || headSys2 c h == ch)

/-- The linked load channel of an inductive head (R161). -/
def loadOf (c : CfgMap) (h : Nat) (ch : Nat) : Bool :=
  headInductive c h && headLoad c h == ch && decide (ch < 64)

/-- A channel bound to a head (R116). -/
def onHead (c : CfgMap) (h ch : Nat) : Bool := countingOf c h ch || loadOf c h ch

/-- The head that a channel is bound to. -/
def headOfChannel (c : CfgMap) (ch : Nat) : Option (Fin 32) :=
  (allFin 32).find? (fun h => onHead c h.val ch)

/-- The head that a source is bound to, through its channel (R85). -/
def headOfSource (c : CfgMap) (k : Fin 64) : Option (Fin 32) :=
  match boundChannel c k with
  | some ch => headOfChannel c ch.val
  | none => none

def chInductive (c : CfgMap) (ch : Nat) : Bool := chMode c ch == 1
def chBridge6 (c : CfgMap) (ch : Nat) : Bool := chMode c ch == 2 && connKind c ch == 2
def chRtd (c : CfgMap) (ch : Nat) : Bool := chMode c ch == 2 && connKind c ch == 3

/-- A bridge excited by a chopped source (R109). -/
def chChopped (c : CfgMap) (ch : Nat) : Bool :=
  chMode c ch == 2 && (match boundSource c ch with
    | some k => wordWave (excWord c k.val) == 1
    | none => false)

/-- Output sample period (R100, R108). -/
def samplePeriod (c : CfgMap) (ch : Nat) : Nat :=
  if chInductive c ch then gridNs else us 100 * 2 ^ chRate c ch

/-- Group delay of a channel (R101, R102): T/4 is half a half-period of N modulator clocks. -/
def groupDelay (c : CfgMap) (ch : Nat) : Nat :=
  if chInductive c ch then us 300
  else us 1200 * 2 ^ chRate c ch + (if chChopped c ch then chFreq c ch * 80 else 0)

-- live conditions of sources and channels
def srcOn (s : State) (k : Fin 64) : Bool := (s.src.get k).st == .on

/-- The bound source of a channel is ON (R121). -/
def chSourceOn (s : State) (ch : Nat) : Bool :=
  match boundSource s.cfg.active ch with
  | some k => srcOn s k
  | none => false

/-- The channel is in an UNSETTLED span (R88, R103). -/
def inUnsettled (s : State) (ch : Fin 64) : Bool :=
  match (s.ch.get ch).unsetFrom, (s.ch.get ch).unsetTo with
  | some _, some b => decide (s.now < b)
  | some _, none => true
  | none, _ => false

/-- A terminal named by a channel's connection or by its source's word has its flag set (R134). -/
def clfNamed (s : State) (ch : Nat) : Bool :=
  let c := s.cfg.active
  let hit (t : Nat) : Bool := decide (t < 192) && s.term.clf.getLsbD t
  hit (connSigP c ch) || hit (connSigN c ch) || hit (connRefP c ch) || hit (connRefN c ch)
    || (match boundSource c ch with
        | some k => hit (wordForce (excWord c k.val)) || hit (wordReturn (excWord c k.val))
        | none => false)

/-- A cause of R134 holds on a channel. -/
def causeHolds (g : ChGuard) : Bool := g.collapse || g.compliance || g.sourceDown || g.clamp

def isFail : Finding → Bool
  | .failOpen | .failShort | .failPhase | .failResonance => true
  | _ => false

def findingCode : Finding → Nat
  | .none => 0
  | .pass => 1
  | .drift => 2
  | .failOpen => 3
  | .failShort => 4
  | .failPhase => 5
  | .failResonance => 6
  | .void => 7

def excCode : ExcState → Nat
  | .off => 0
  | .settling => 1
  | .on => 2
  | .discharging => 3

/-- EXC_STATUS (R98). -/
def excStatus (x : Source) : Nat :=
  excCode x.st + 8 * b2n x.pending + 16 * b2n x.compliance + 32 * b2n x.dischIncomplete

/-- Sum of the programmed currents of the enabled sources, in units of 10 uA. -/
def excSum (c : CfgMap) : Nat :=
  (List.range 64).foldl (fun acc k => acc + (if excEnabled c k then wordCurrent (excWord c k) else 0)) 0

/-- EXC_POWER_MW, rounded up (R66): 5.5 V times 10 uA is 0.055 mW. -/
def excPowerMw (c : CfgMap) : Nat := (55 * excSum c + 999) / 1000

/-- POWER_STATUS (R67). -/
def powerStatus (s : State) : Nat :=
  b2n s.power.vexcLow + 2 * b2n s.power.thermalWarn + 4 * b2n s.power.thermalTrip
    + 8 * b2n (cfgGet s.cfg.active 0x2000 0x15 == 1) + 16 * b2n s.power.stbyStuck

/-- CH_STATUS (R128). DESIGN CHOICE (log 53): for a channel whose MODE is OFF it reads its default 0x0000,
GAIN and UNSETTLED included. -/
def chStatus (s : State) (ch : Fin 64) : Nat :=
  let x := s.ch.get ch
  if chMode s.cfg.active ch.val = 0 then 0
  else x.gain + 8 * b2n x.pendCoarser + 16 * b2n x.pendFiner + 32 * b2n x.overload
    + 64 * b2n (inUnsettled s ch || !chSourceOn s ch.val) + 128 * b2n (s.cg.get ch).checkRunning
    + 256 * b2n (chSourceOn s ch.val)

/-- A time in units of `u`, rounded to nearest with ties away from zero (R506). -/
def nearUnits (u t : Nat) : Nat := (2 * t + u) / (2 * u)

/-- CHECK_AGE in units of 10 ms (R159, R506). -/
def checkAge (s : State) (g : ChGuard) : Nat :=
  match g.checkedAt with
  | none => 0xFFFF
  | some t => satU 16 ((nearUnits (ms 10) (s.now - t) : Nat) : Int)

/-- An injection of the guard runs on a channel (R159). -/
def injecting (s : State) (ch : Fin 64) : Bool :=
  match (s.ch.get ch).injFrom, (s.ch.get ch).injTo with
  | some a, some b => decide (a ≤ s.now) && decide (s.now < b)
  | _, _ => false

/-- Code of a guard state in a HEAD record (R465). -/
def gstateCode : GState → Nat
  | .inService => 0
  | .disturbed => 1
  | .awaitingCheck => 2

/-- GUARD_STATE (R159). -/
def guardState (s : State) (ch : Fin 64) : Nat :=
  let g := s.cg.get ch
  checkAge s g + 2 ^ 16 * (g.checkCount % 65536) + 2 ^ 32 * b2n (injecting s ch) + 2 ^ 33 * b2n g.clamp
    + 2 ^ 34 * b2n g.collapse + 2 ^ 35 * b2n g.tempFallback + 2 ^ 36 * findingCode g.lastFinding
    + 2 ^ 40 * ofSigned 24 g.linValue

/-- CHECK_RESULT of a channel (R160). -/
def checkResult (g : ChGuard) : Nat :=
  at8 0 g.result.mag + at8 4 (ofSigned 16 g.result.phase) + at8 6 g.result.fr + at8 8 g.result.q

-- heads
/-- The guard disturbs a head (R149). A head exists when its TYPE is not 0x0 (R161). -/
def guardDisturbed (s : State) (h : Fin 32) : Bool :=
  headDefined s.cfg.active h.val && (s.hg.get h).gs != .inService

def anyCause (k : WreCauses) : Bool := k.unknownLong || k.jump || k.fitLost || k.overspeed || k.orphan

/-- A cause of R190 holds; CLAIM_TIE is treated as one (R249). -/
def wreDisturbed (x : Head) : Bool := anyCause x.causes || x.claimTie

/-- The head is disturbed (R190). -/
def headDisturbed (s : State) (h : Fin 32) : Bool := guardDisturbed s h || wreDisturbed (s.head.get h)

def slotOpen (x : Head) (i : Fin 2) : Bool := (x.slots.get i).isSome
def anySlot (x : Head) : Bool := slotOpen x 0 || slotOpen x 1

/-- Centre line of system k (R162). -/
def centreOf (c : CfgMap) (h k : Nat) : Rat := if k = 1 then 0 else (headD c h : Rat)

/-- A position lies in the zone of system k (R162). -/
def inZone (c : CfgMap) (h k : Nat) (p : Rat) : Bool :=
  decide (absR (p - centreOf c h k) ≤ (headW c h : Rat))

def wheelInZone (c : CfgMap) (h k : Nat) (x : Head) : Bool :=
  (allFin 2).any (fun i => match x.slots.get i with
    | some sl => inZone c h k sl.s
    | none => false)

/-- HEAD_STATUS (R199). Both systems' latest samples decide UNKNOWN (R169). -/
def headStatus (s : State) (h : Fin 32) : Nat :=
  let x := s.head.get h
  let c := s.cfg.active
  b2n (wheelInZone c h.val 1 x) + 2 * b2n (wheelInZone c h.val 2 x) + 4 * b2n (slotOpen x 0)
    + 8 * b2n (slotOpen x 1) + 16 * b2n x.unknownFrom.isSome + 32 * b2n (anyCause x.causes)
    + 64 * b2n (guardDisturbed s h) + 128 * b2n x.rebase.isSome + 256 * b2n x.causes.unknownLong
    + 512 * b2n x.causes.jump + 1024 * b2n x.causes.fitLost + 2048 * b2n x.causes.overspeed
    + 4096 * b2n x.causes.orphan

/-- A slot's speed in mm/s: v is in 1/16 mm per second (R182, R506). -/
def speedMm (v : Rat) : Int := satS 32 (roundAway (v / 16))

/-- POSITION (R195). -/
def headPosition (x : Head) : Nat :=
  match x.slots.get 0 with
  | some sl => ofSigned 32 (satS 32 (roundAway sl.s))
  | none => 0x80000000

/-- SPEED_NOW (R182). -/
def speedNow (x : Head) : Int :=
  match x.slots.get 0 with
  | some sl => speedMm sl.v
  | none => 0

/-- LOAD_K times a deviation as a fraction of full scale, in kg (R188). -/
def loadKg (k : Nat) (dev : Int) : Rat := (k : Rat) * (dev : Rat) / 8388608

/-- LOAD_NOW (R188). The strips' baselines are BASE_A_1 and BASE_A_2. -/
def loadNow (s : State) (h : Fin 32) : Int :=
  let c := s.cfg.active
  let x := s.head.get h
  let k := headLoadK c h.val
  let dev (m : Option HeadSample) (b : Int) : Rat := match m with
    | some v => loadKg k (v.val - b)
    | none => 0
  if (s.hg.get h).loadFault then 0
  else if headStrip c h.val then
    satS 32 (roundAway (maxR (dev x.sys1 x.base.a1) (dev x.sys2 x.base.a2)))
  else if headInductive c h.val && decide (headLoad c h.val < 64) then
    (match x.base.load with
     | some b => satS 32 (roundAway (dev x.load b))
     | none => 0)
  else 0

def verdictCode : Verdict → Nat
  | .none => 0
  | .fullPos => 1
  | .fullNeg => 2
  | .partialEntry => 3
  | .retreat => 4
  | .orphan => 5
  | .broken => 6

/-- FLAGS of a verdict record (R200). -/
def verdictFlags (v : VerdictRec) : Nat :=
  verdictCode v.verdict + 16 * b2n v.bridged + 32 * b2n v.load.isSome + 64 * b2n v.reduced
    + 128 * b2n v.trigTime.isSome

/-- LAST_AXLE (R200). -/
def verdictBytes (v : VerdictRec) : Nat :=
  at8 0 v.exitTime + at8 4 (v.trigTime.getD 0xFFFFFFFF) + at8 8 (verdictFlags v) + at8 9 v.dither
    + at8 10 (v.load.getD 0) + at8 12 (ofSigned 32 v.speed) + at8 16 (ofSigned 32 v.exitSpeed)
    + at8 20 v.signature + at8 34 v.seq

def lastAxle (x : Head) : Nat :=
  match x.counts.lastAxle with
  | some v => verdictBytes v
  | none => 0

/-- BASE (R195). -/
def baseBytes (b : Baselines) : Nat :=
  at8 0 (ofSigned 32 b.a1) + at8 4 (ofSigned 32 b.p1) + at8 8 (ofSigned 32 b.a2)
    + at8 12 (ofSigned 32 b.p2) + at8 16 (ofSigned 32 (b.load.getD 0))

-- Bellringer
/-- A span of a class runs on a head (R207). -/
def spanOn (s : State) (cls : OfferClass) (h : Fin 32) : Bool :=
  s.bell.spans.any (fun p => p.cls == cls && p.heads.contains h && decide (s.now < p.endAt))

def offerOn (s : State) (cls : OfferClass) (h : Fin 32) : Bool :=
  s.bell.offers.any (fun o => o.cls == cls && o.head == h)

/-- GAP_MS (R216). -/
def gapMs (b : BellHead) : Nat :=
  if b.free then (match b.gap with
    | none => 0xFFFF
    | some g => if g / ms 1 > 65534 then 0xFFFF else g / ms 1)
  else 0

/-- BELL_STATUS (R216). -/
def bellStatus (s : State) (h : Fin 32) : Nat :=
  let b := s.bell.heads.get h
  b2n (offerOn s .excitation h) + 2 * b2n (offerOn s .range h) + 4 * b2n (offerOn s .check h)
    + 8 * b2n (offerOn s .rebase h) + 16 * b2n (spanOn s .excitation h) + 32 * b2n (spanOn s .range h)
    + 64 * b2n (spanOn s .check h) + 128 * b2n (spanOn s .rebase h) + 256 * b2n b.free
    + 512 * b2n s.trk.full + 2 ^ 16 * gapMs b

/-- WAIT_MS of a head (R215). -/
def waitMs (s : State) (h : Fin 32) : Nat :=
  (s.bell.offers.filter (fun o => o.head == h)).foldl
    (fun acc o => Nat.max acc (msOf (s.now - o.offeredAt))) 0

-- sections (published: R239, R244)
def sstateCode : SState → Nat
  | .disturbed => 0
  | .ras => 1
  | .occupied => 2
  | .clearing => 3
  | .clear => 4

def rstateCode : RState → Nat
  | .idle => 0
  | .pending => 1
  | .granted => 2
  | .refused => 3
  | .expired => 4
  | .withdrawn => 5

/-- SECTION_STATUS (R241). -/
def sectionStatus (x : Section) : Nat :=
  b2n (x.st == .clear) + 2 * b2n (x.st == .ras && decide (1 ≤ x.sweepIn))
    + 4 * b2n (x.rstate == .pending) + 8 * b2n x.held + 16 * b2n x.headDist
    + 32 * b2n (x.st != .disturbed) + 64 * b2n x.unused

/-- RESTORE_STATUS (R243). -/
def restoreStatus (x : Section) : Nat := rstateCode x.rstate + 256 * x.reason

/-- One of the summary maps of R244. -/
def secMap (s : State) (f : Section → Bool) : Nat :=
  mapBits 48 (fun n => match finOf? 48 n with
    | some i => f (s.tally.pub.sections.get i)
    | none => false)

def secClearMap (s : State) : Nat := secMap s (fun x => x.st == .clear)
def secDistMap (s : State) : Nat := secMap s (fun x => x.st == .disturbed)
def secRasMap (s : State) : Nat := secMap s (fun x => x.st == .ras)
def secHeldMap (s : State) : Nat := secMap s (fun x => x.held)

/-- Bit map over the heads. -/
def headMap (f : Fin 32 → Bool) : Nat :=
  mapBits 32 (fun h => match finOf? 32 h with
    | some i => f i
    | none => false)

/-- Bit map over the permits. -/
def permitMap (f : Fin 16 → Bool) : Nat :=
  mapBits 16 (fun p => match finOf? 16 p with
    | some i => f i
    | none => false)

-- tracker (published: R267)
def entryCode : EState → Nat
  | .free => 0
  | .provisional => 1
  | .running => 2
  | .atHead => 3
  | .parked => 4

def secByte : Option (Fin 48) → Nat
  | some n => n.val
  | none => 0xFF

/-- ENTRY (R270): a FREE entry holds no head, sections, link or axle. -/
def entryBytes (e : Entry) : Nat :=
  match e.st with
  | .free => at8 2 0xFFFFFF
  | st =>
    let prov := st == .provisional
    let fromSec := if e.neg then e.sideBSec else e.sideASec
    let toSec := if e.neg then e.sideASec else e.sideBSec
    at8 0 (entryCode st) + at8 1 e.head.val
      + at8 2 (if prov then secByte fromSec else 0xFF)
      + at8 3 (if prov then secByte toSec else secByte e.sec)
      + at8 4 (match e.link with
          | some l => if prov || st == .atHead then l.val else 0xFF
          | none => 0xFF)
      + at8 5 (128 * b2n e.load.isSome + 64 * b2n e.neg + 32 * b2n e.newAxle)
      + at8 6 e.axleId + at8 8 e.tRef
      + (if prov then 0 else at8 12 (ofSigned 32 (satS 32 e.rear)) + at8 16 (ofSigned 32 (satS 32 e.front))
          + at8 20 (ofSigned 32 (satS 32 e.speed)))
      + at8 24 (e.load.getD 0) + at8 26 e.group

/-- LAST_GROUP (R271). -/
def lastGroupBytes (g : GroupInfo) : Nat :=
  at8 0 g.head.val + at8 1 (128 * b2n g.steady + 64 * b2n g.loadsValid + 32 * b2n g.neg)
    + at8 2 g.number + at8 4 g.n + at8 8 g.fingerprint + at8 16 g.firstExit + at8 20 g.lastExit

def entriesIn (t : Tracker) (f : EState → Bool) : Nat :=
  (allFin 128).foldl (fun acc i => acc + b2n (f (t.entries.get i).st)) 0

def untrackedAny (s : State) : Bool := (allFin 48).any (fun n => s.tally.pub.untracked.get n != 0)

/-- TRACK_STATUS (R268), of the publication (R267). The map of CLAIM_TIE is the publication's too. -/
def trackStatus (s : State) : Nat :=
  b2n s.tally.pub.tracker.full + 2 * b2n (untrackedAny s) + 4 * b2n (s.tally.pub.claimTies != 0)

-- permits
def pstateCode : PState → Nat
  | .highz => 0
  | .off => 1
  | .dropping => 2
  | .running => 3

/-- PERMIT_STATE (R299). -/
def permitState (x : Permit) : Nat := pstateCode x.st + 8 * b2n x.pending + 16 * b2n x.tested

/-- A permit that a configuration assigns (R272). -/
def permitAssigned (c : CfgMap) (p : Nat) : Bool := permitOn c p

/-- The READBACK cause of a permit has ended: static for at least DROP and the last three compared
samples matched (R287). DROP is in ms (R297). -/
def readbackEnded (s : State) (p : Fin 16) : Bool :=
  let x := s.permits.po.get p
  x.st != .running && decide (s.now ≥ x.dropAt + ms (permitDrop s.cfg.active p.val)) && decide (x.good ≥ 3)

/-- The READBACK cause of a permit has not ended: some permit whose fault set it is still at fault (R287). -/
def readbackActive (s : State) (p : Fin 16) : Bool :=
  (allFin 16).any (fun q => (s.permits.po.get p).rbBy.getLsbD q.val && !readbackEnded s q)

/-- A latched cause of a permit has not ended (R287, R288); bit order of LOCK_CAUSE. -/
def lockActive (s : State) (p : Fin 16) : BitVec 4 :=
  let x := s.permits.po.get p
  x.lock &&& BitVec.ofNat 4 (b2n (readbackActive s p) + 2 * b2n s.power.thermalTrip)

/-- LOCK_CAUSE (R300). -/
def lockCause (s : State) (p : Fin 16) : Nat :=
  (s.permits.po.get p).lock.toNat + 128 * b2n (lockActive s p != 0#4)

/-- LOCKOUT_MAP; it never shows a permit that is not assigned (R287, R296). -/
def lockoutMap (s : State) : Nat :=
  permitMap (fun p => permitAssigned s.cfg.active p.val && (s.permits.po.get p).lock != 0#4)

/-- Seconds of arming that remain, rounded up (R296). -/
def armSeconds (s : State) : Nat :=
  match s.permits.ack.armedBy with
  | some _ => (s.permits.ack.armedAt + sec 60 - s.now + sec 1 - 1) / sec 1
  | none => 0

/-- An arming is in force (R292). -/
def ackArmed (s : State) : Bool :=
  s.permits.ack.armedBy.isSome && decide (s.now < s.permits.ack.armedAt + sec 60)

/-- ACK_STATUS (R300). -/
def ackStatus (s : State) : Nat :=
  b2n s.permits.ack.pressed + 2 * b2n (ackArmed s) + 4 * b2n s.permits.ack.stuck
    + 8 * b2n s.permits.ack.highQualified

-- engine
def emodeCode : EMode → Nat
  | .off => 0
  | .follow => 1
  | .hold => 2
  | .fade => 3

/-- A law is configured (R311). -/
def lawUsed (c : CfgMap) (n : Nat) : Bool := lawInput c n != 0

/-- WCET (R325). -/
def wcet (c : CfgMap) : Nat :=
  (List.range 16).foldl (fun acc n => acc + (if lawUsed c n then
    150 + 60 * lawNsec c n + 90 * b2n (lawPid c n) else 0)) (1200 + 11792 + 240)

/-- What a committed tick publishes of the engine's mode and residues (R315, R377). -/
def engineShow (e : Engine) : EngineShown :=
  { mode := e.mode, pendMode := e.pendMode, warming := e.warming, warmLeft := e.warmLeft
    fadeSync := e.flags.fadeSync, fadeOverrun := e.flags.fadeOverrun, residues := e.residues }

/-- The layout of ENGINE_STATUS (R332): its live conditions, and the fields that a tick publishes. -/
def engineWord (s : State) (x : EngineShown) : Nat :=
  let e := s.engine
  emodeCode x.mode + 8 * b2n x.pendMode.isSome + 16 * b2n x.warming + 32 * b2n e.flags.overrun
    + 64 * e.ovrConsec + 256 * b2n x.fadeOverrun + 512 * b2n x.fadeSync
    + 1024 * b2n e.flags.syncLost + 2048 * b2n s.cfg.liveEdit + 4096 * b2n e.flags.provIn
    + 8192 * b2n e.flags.distIn + 16384 * b2n s.trk.full + 32768 * b2n e.flags.sat

/-- ENGINE_STATUS (R332) as it reads: the latest committed tick's, with the live conditions. -/
def engineStatus (s : State) : Nat := engineWord s s.engine.shown

/-- OUT_QUALITY (R330). -/
def outQuality (e : Engine) : Nat :=
  (allFin 6).foldl (fun acc a => acc + 4 ^ a.val * (e.quality.get a)) 0

/-- RESIDUE (R336): RES_MASS in units of 10 kg, RES_N above it. -/
def residueWord (r : Residue) : Nat := satU 24 (roundAway (r.mass / 10)) + 2 ^ 24 * satU 8 r.n

-- twin
/-- TWIN_STATUS (R362). -/
def twinStatus (s : State) : Nat :=
  b2n s.twin.lockstep + 2 * b2n s.twin.watchdog + 4 * b2n s.twin.stopLatch
    + 8 * b2n s.twin.debugTaint + 16 * b2n s.twin.debugActive

/-- Lane of the next known-answer window (R345, R361). Before the first window it is window 0. -/
def kaLane (t : Twin) : Nat := (t.window + 1023) / 1024 % 32

-- recorder
def bookCode : BookState → Nat
  | .noCard => 0
  | .opening => 1
  | .ready => 2
  | .noBook => 3
  | .foreign => 4
  | .tooSmall => 5
  | .unsuitable => 6
  | .failed => 7

/-- LAYOUT_DIFFERS (R459). -/
def layoutDiffers (s : State) : Bool :=
  match s.recd.label with
  | some l => l.f != cfgGet s.cfg.active 0x2800 4
  | none => false

/-- REC_STATUS (R481). -/
def recStatus (s : State) : Nat :=
  bookCode s.recd.st + 8 * b2n s.recd.foundingFull + 16 * b2n s.recd.exhausted
    + 32 * b2n s.recd.lossAt.isSome + 64 * b2n (layoutDiffers s) + 128 * b2n s.recd.bus4
    + 256 * b2n s.recd.hs52 + 512 * b2n s.recd.job.isSome + 1024 * b2n (s.net.keyId == 0)

/-- POWER_CYCLES: 0 until the book is opened, and when there is no book (R463). -/
def powerCyclesShown (r : Recorder) : Nat := if r.opened && (r.st == .ready || r.st == .failed) then r.powerCycles else 0

/-- WRAPS (R472). -/
def recWraps (r : Recorder) : Nat :=
  match r.label with
  | some l => if l.d = 0 then 0 else (r.next - r.wrapBase) / l.d
  | none => 0

def dstateCode : DState → Nat
  | .none => 0
  | .valid => 1
  | .writing => 2
  | .notWritten => 3

/-- DUMP_STATUS (R494). -/
def dumpStatus (d : Dump) : Nat :=
  dstateCode d.st + 8 * b2n d.truncated
    + 256 * (match d.st with | .valid | .writing => d.seq % 256 | _ => 0)

-- device
/-- DEVICE_STATE (R387). -/
def deviceState (s : State) : Nat :=
  if s.twin.stopLatch then 3
  else if s.power.entering || s.power.phase == .hibernate then 4
  else if s.cfg.defaulted then 2 else 1

end Sys2Proof.Machine
end

