-- ==== Sys2Proof/Machine/Operands.lean ====
section
/-! DEFINITION. What a read of each object returns (R371, R372, R376, R377), the image and the
canonical stream of a configuration with its digest (R436, R438), and the ALARMS word (R388). -/

namespace Sys2Proof.Machine

/-- Indices from `lo` to `hi`. -/
def idxSpan (lo hi : Nat) : List Nat := (List.range (hi + 1 - lo)).map (fun k => lo + k)

/-- All indices that hold a value of a configuration, rising (R432). -/
def cfgIndices : List Nat :=
  [0x1005, 0x1006, 0x1014, 0x1016, 0x1017, 0x1019] ++ idxSpan 0x1200 0x1203 ++ idxSpan 0x1301 0x1308
    ++ idxSpan 0x1381 0x1388 ++ [0x13FE, 0x13FF] ++ idxSpan 0x1400 0x1407 ++ idxSpan 0x1600 0x1607
    ++ idxSpan 0x1800 0x180F ++ idxSpan 0x1A00 0x1A0F ++ [0x2000] ++ idxSpan 0x2100 0x211F
    ++ idxSpan 0x2200 0x222F ++ [0x2300, 0x2400, 0x2500] ++ idxSpan 0x2501 0x2511
    ++ idxSpan 0x2600 0x263F ++ [0x2700, 0x2800, 0x2A00, 0x2B00, 0x2C00]

/-- Subindices of an index that hold a value of a configuration, with their sizes. -/
def cfgSubs (i : Nat) : List (Nat × Nat) :=
  (List.range 256).filterMap (fun sub => match objInfo i sub with
    | some o => if o.inCfg then some (sub, o.size) else none
    | none => none)

/-- The canonical stream of a configuration, in which reserved bits are 0 (R14, R438). -/
def canonStream (m : CfgMap) : List Byte :=
  cfgIndices.flatMap (fun i => (cfgSubs i).flatMap (fun e =>
    leBytes 2 i ++ leBytes 1 e.1 ++ leBytes 2 e.2 ++ leBytes e.2 (maskValue i e.1 (cfgGet m i e.1))))

/-- The digest of a configuration (R438). -/
def cfgDigest (m : CfgMap) : Nat :=
  let d := ofLe ((sha256 (canonStream m)).take 8)
  if d = 0 then 1 else d

/-- One record of an image (R436). -/
def imageRecord (k v : Nat) : List Byte :=
  let n := (objInfo (k / 256) (k % 256)).elim 0 (fun o => o.size)
  leBytes 2 (k / 256) ++ leBytes 1 (k % 256) ++ [0#8] ++ leBytes 2 n ++ leBytes n v
    ++ List.replicate ((4 - (6 + n) % 4) % 4) 0#8

/-- The image of a configuration: records only for values that differ from the default (R436). -/
def imageOf (m : CfgMap) : List Byte :=
  leBytes 4 0x4D494643 ++ leBytes 2 1 ++ leBytes 2 m.length ++ leBytes 2 0x6432 ++ leBytes 6 0
    ++ m.flatMap (fun e => imageRecord e.1 e.2)

-- banks (R433, R437)
/-- Bytes 0 to 55 of a bank header (R433). -/
def bankHead (b : Bank) : List Byte :=
  leBytes 4 0x4B424643 ++ leBytes 2 1 ++ leBytes 2 0 ++ leBytes 4 b.generation ++ leBytes 4 b.image.length
    ++ leBytes 8 b.digest ++ leBytes 4 b.fw ++ leBytes 28 0

/-- A bank as stored: header and image (R433). -/
def bankBytes (b : Bank) : List Byte :=
  bankHead b ++ leBytes 4 b.checkWord ++ leBytes 4 (b.act.getD 0xFFFFFFFF) ++ b.image

def bankOf (g : Cfg) (k : Bool) : Option Bank := if k then g.bank1 else g.bank0

def putBank (g : Cfg) (k : Bool) (b : Option Bank) : Cfg := if k then { g with bank1 := b } else { g with bank0 := b }

/-- CFG_MISMATCH (R449). -/
def cfgMismatch (s : State) : Bool :=
  if s.cfg.expected = 0 then false else s.cfg.expected != cfgDigest s.cfg.active

/-- An activation has been commanded and has neither taken effect nor failed, or a command runs (R453). -/
def cfgBusy (s : State) : Bool := s.cfg.job.isSome

/-- The staged configuration is locked (R443). -/
def cfgLocked (s : State) : Bool := cfgBusy s || s.cfg.epoch.isSome

/-- SHADOW_VALID: the inactive bank holds a checked image equal to the staged configuration (R453). -/
def shadowValid (s : State) : Bool := s.cfg.shadow == some s.cfg.staged

/-- CFG_STATUS (R453). -/
def cfgStatus (s : State) : Nat :=
  b2n s.cfg.defaulted + 2 * b2n (cfgMismatch s) + 4 * b2n (s.cfg.staged != s.cfg.active)
    + 8 * b2n (shadowValid s) + 16 * b2n (cfgLocked s) + 32 * b2n s.cfg.epoch.isSome
    + 64 * b2n s.cfg.epochLate + 128 * b2n (cfgBusy s) + 256 * b2n s.cfg.liveEdit
    + 512 * b2n (s.cfg.activeBank == some true) + 1024 * b2n s.cfg.lastFailed
    + 2048 * s.cfg.defaultCause

-- alarms
def clfSet (s : State) : Bool := s.term.clf != 0#192

def anyHead (f : Fin 32 → Bool) : Bool := (allFin 32).any f

/-- ALARMS (R388). -/
def alarms (s : State) : Nat :=
  b2n s.cfg.defaulted + 2 * b2n (cfgMismatch s) + 4 * b2n (secDistMap s != 0)
    + 8 * b2n (anyHead (fun h => guardDisturbed s h || anyCause (s.head.get h).causes)) + 16 * b2n (anyHead (fun h => (s.hg.get h).starved))
    + 32 * b2n (anyHead (fun h => (s.hg.get h).loadFault)) + 64 * b2n s.trk.full
    + 128 * b2n (lockoutMap s != 0) + 256 * b2n s.permits.ack.stuck + 512 * b2n s.power.stbyStuck
    + 1024 * b2n s.power.vexcLow + 2048 * b2n s.power.thermalWarn + 4096 * b2n s.power.thermalTrip
    + 8192 * b2n (s.engine.flags.fadeOverrun || s.engine.flags.fadeSync)
    + 16384 * b2n s.engine.flags.syncLost
    + 32768 * b2n (s.recd.st != .ready || s.recd.exhausted || s.recd.lossAt.isSome)
    + 65536 * b2n ((allFin 64).any (fun k => (s.src.get k).dischIncomplete))
    + 131072 * b2n (clfSet s) + 262144 * b2n s.twin.debugTaint + 524288 * b2n (untrackedAny s)
    + 1048576 * b2n (s.tally.pub.claimTies != 0)

-- ports
/-- A port runs: enabled, and on CAN not bus-off (R430). -/
def portUp (s : State) (p : PortId) : Bool :=
  portEnabled s.cfg.active p && (match p with
    | .cana => (s.net.can.get 0).bus != .busOff
    | .canb => (s.net.can.get 1).bus != .busOff
    | .spi | .eta | .etb => true)

/-- The PLCA beacon is absent on a port that runs PLCA (R415, R430). -/
def plcaLost (s : State) (p : EthPort) : Bool :=
  ethPlca s.cfg.active p && !(s.net.ports.get (portIdx (ethPortId p))).beacon

def portDegraded (s : State) (p : PortId) : Bool :=
  portEnabled s.cfg.active p && (match p with
    | .cana => (s.net.can.get 0).bus != .active
    | .canb => (s.net.can.get 1).bus != .active
    | .eta => !(s.net.ports.get (portIdx .eta)).linkUp || plcaLost s .a
    | .etb => !(s.net.ports.get (portIdx .etb)).linkUp || plcaLost s .b
    | .spi => false)

def portHbMiss (s : State) (p : PortId) : Bool :=
  match p with
  | .cana => (allFin 4).any (fun i => (s.net.can.get 0).hbMiss.get i)
  | .canb => (allFin 4).any (fun i => (s.net.can.get 1).hbMiss.get i)
  | .spi | .eta | .etb => false

def allPorts : List PortId := [.spi, .cana, .canb, .eta, .etb]

/-- PORT_STATUS (R430). -/
def portStatus (s : State) : Nat :=
  allPorts.foldl (fun acc p => acc + 16 ^ portCode p *
    (b2n (portUp s p) + 2 * b2n (portDegraded s p)
      + 4 * b2n (s.net.ports.get (portIdx p)).lostRxAt.isSome + 8 * b2n (portHbMiss s p))) 0

/-- SEQ_ETA, SEQ_ETB, SEQ_SPI (R422). DSEQ is the SEQ of the latest datagram, `next` that of the
next one; 0 while none was sent. -/
def seqWord (q : SeqState) : Nat :=
  q.crcErrors + 256 * q.seqErrors + 65536 * ((if q.next = 0 then 0 else q.next - 1) % 65536)

def levelCode : Level → Nat
  | .observe => 0
  | .operate => 1
  | .maintain => 2
  | .commission => 3

/-- PEER of a session slot (R426). `peer` is the MAC as a number, first byte most significant. -/
def sessionPeer (s : State) (x : Session) : Nat :=
  match x.port with
  | .spi => 0
  | .cana => canNode s.cfg.active .a
  | .canb => canNode s.cfg.active .b
  | .eta | .etb => x.peer / 256 % 256 + 256 * (x.peer % 256)

/-- SESSIONS (R426). -/
def sessionsBytes (s : State) : Nat :=
  (allFin 4).foldl (fun acc k => acc + (match s.net.sessions.get k with
    | none => 0
    | some x => at8 (8 * k.val) (1 + at8 1 (portCode x.port) + at8 2 (levelCode x.level)
        + at8 3 x.number + at8 4 (satU 16 ((nearUnits (sec 1) (s.now - x.lastAt) : Nat) : Int))
        + at8 6 (sessionPeer s x)))) 0

/-- The slot of a session (R373). -/
def sessionSlot (s : State) (o : Origin) : Option (Fin 4) :=
  (allFin 4).find? (fun k => match s.net.sessions.get k with
    | some x => x.port == o.port && x.number == o.session
    | none => false)

def sessionOf (s : State) (o : Origin) : Option Session :=
  (sessionSlot s o).bind (fun k => s.net.sessions.get k)

-- recorder windows
/-- The layout that record numbers use: the label's, or without a label the one that a founding would
write (R457, R458). -/
def bookLayout (s : State) : Label :=
  match s.recd.label with
  | some l => l
  | none =>
    let f := cfgGet s.cfg.active 0x2800 4
    { f := f, w := s.recd.cardW, d := s.recd.cardW - f - 262208, serial := 0 }

/-- No eMMC is at hand that reads could go to (R475). -/
def noMedium (s : State) : Bool :=
  match s.recd.st with
  | .noCard | .unsuitable | .opening => true
  | .ready | .noBook | .foreign | .tooSmall | .failed => false

/-- READ_WINDOW: the sector that holds the slot of record n (R458, R475). -/
def readWindow (s : State) (n : Nat) : List Byte :=
  if noMedium s then List.replicate 512 0#8
  else memRead s.emmc (512 * (recSlot (bookLayout s) n / 8)) 512

/-- Length of the dump region (R490): the last 16 MiB of the window. -/
def dumpRegion : Nat := 16777216

/-- A block of the dump: offset, bytes held, and byte k of its contents (R490). -/
structure DumpExtent where
  offset : Nat
  len : Nat
  key : Nat
  deriving DecidableEq, Repr

/-- The blocks CORE, PUBLISHED, QUEUE, CONFIG and SRAM (R490). -/
def dumpExtents (d : DumpBlocks) : List DumpExtent :=
  [⟨512, 1024, 0⟩, ⟨4096, d.published.length, 1⟩, ⟨65536, d.queue.length, 2⟩, ⟨131072, d.config.length, 3⟩,
   ⟨262144, 1048576, 4⟩]

/-- One byte of SRAM: what Core A has stored, or what its other bytes hold (R340, R354; log 15). -/
def sramByteAt (stored : List (Nat × Nat)) (key : Option Nat) (a : Nat) : Byte :=
  match stored.find? (fun e => e.1 == a) with
  | some e => BitVec.ofNat 8 e.2
  | none => key.elim 0#8 (fun n => Config.sramByte n a)

/-- Byte k of a block. -/
def blockByte (d : DumpBlocks) (key k : Nat) : Byte :=
  if key = 0 then d.core.getD k 0#8
  else if key = 1 then d.published.getD k 0#8
  else if key = 2 then d.queue.getD k 0#8
  else if key = 3 then d.config.getD k 0#8
  else sramByteAt d.sram d.sramKey k

/-- Bytes written of each block, in the order of R490, when `n` bytes were written in all. -/
def writtenOf : Nat → List DumpExtent → List (DumpExtent × Nat)
  | _, [] => []
  | n, b :: bs => (b, Nat.min n b.len) :: writtenOf (n - b.len) bs

/-- What a dump has written at a byte of the region (R490). -/
def writtenByte (d : DumpBlocks) (a : Nat) : Option Byte :=
  ((writtenOf d.written (dumpExtents d)).find? (fun x => decide (x.1.offset ≤ a) && decide (a < x.1.offset + x.2))).map
    (fun x => blockByte d x.1.key (a - x.1.offset))

/-- One byte of the dump region: what the latest dump that wrote there has left, or 0x00 as the founding erased it
(R479, R490; log 14). -/
def dumpByte (d : Dump) (a : Nat) : Byte :=
  if a < 512 then d.header.getD a 0#8 else ((d.blocks :: d.past).findSome? (fun b => writtenByte b a)).getD 0#8

/-- DUMP_WINDOW (R495). -/
def dumpWindow (s : State) (off : Nat) : List Byte :=
  if noMedium s then List.replicate 512 0#8 else (List.range 512).map (fun k => dumpByte s.recd.dump (off + k))

/-- ASCII of a hexadecimal digit or a decimal one. -/
def hexChar (d : Nat) : Nat := if d < 10 then 0x30 + d else 0x37 + d

/-- Hardware version: the silicon revision as four hexadecimal digits (R385; log 18). -/
def hwVersion : Nat :=
  let r := Config.siliconRev.toNat
  asciiLe 4 [hexChar (r / 4096 % 16), hexChar (r / 256 % 16), hexChar (r / 16 % 16), hexChar (r % 16)]

/-- Software version: FW_VERSION as eight hexadecimal digits (R385; log 18). -/
def swVersion : Nat :=
  let f := Config.fwVersion.toNat
  asciiLe 8 ((List.range 8).map (fun k => hexChar (f / 16 ^ (7 - k) % 16)))

/-- "RLX-6432" (R385, R386). -/
def partName : Nat := asciiLe 8 [0x52, 0x4C, 0x58, 0x2D, 0x36, 0x34, 0x33, 0x32]

/-- Value of an object of index 0x1000 to 0x1FFF that is no value of a configuration (R385). -/
def commNum (s : State) (i sub : Nat) : Nat :=
  if i == 0x1000 then 0x64320000
  else if i == 0x1001 then b2n (alarms s != 0)
  else if i == 0x1003 then
    (if sub = 0 then s.net.emcy.history.length else s.net.emcy.history.getD (sub - 1) 0)
  else if i == 0x1008 then partName
  else if i == 0x1009 then hwVersion
  else if i == 0x100A then swVersion
  else if i == 0x1018 && sub != 0 then
    (if sub = 1 then Config.vendorId.toNat else if sub = 2 then 0x6432
     else if sub = 3 then Config.fwVersion.toNat else Config.serial.toNat % 2 ^ 32)
  else if sub = 0 then numSub i
  else 0

/-- Index 0x2000 (R66, R244, R386). -/
def deviceNum (s : State) (sub : Nat) : Nat :=
  if sub = 0 then 0x33
  else if sub = 1 then partName
  else if sub = 2 then 0x6432
  else if sub = 3 then Config.siliconRev.toNat
  else if sub = 4 then Config.fwVersion.toNat
  else if sub = 5 then Config.serial.toNat
  else if sub = 6 then deviceState s
  else if sub = 7 then alarms s
  else if sub = 8 then gridTime s
  else if sub = 9 then s.tally.pub.cycles % 2 ^ 32
  else if sub = 0x0A then Config.fwImageCrc.toNat
  else if sub = 0x10 then s.power.vsupMv
  else if sub = 0x11 then s.power.vioMv
  else if sub = 0x12 then s.power.vexcMv
  else if sub = 0x13 then ofSigned 16 s.power.dieTemp
  else if sub = 0x14 then powerStatus s
  else if sub = 0x16 then excPowerMw s.cfg.active
  else if sub = 0x17 then s.power.resetCause.toNat
  else if sub = 0x30 then secClearMap s
  else if sub = 0x31 then secDistMap s
  else if sub = 0x32 then secRasMap s
  else if sub = 0x33 then secHeldMap s
  else 0

/-- A head (R195). -/
def headNum (s : State) (h : Fin 32) (sub : Nat) : Nat :=
  let x := s.head.get h
  if sub = 0 then 0x14
  else if sub = 0x07 then headStatus s h
  else if sub = 0x08 then headPosition x
  else if sub = 0x09 then ofSigned 32 (speedNow x)
  else if sub = 0x0A then ofSigned 32 (loadNow s h)
  else if sub = 0x0B then lastAxle x
  else if sub = 0x0C then x.counts.fullPos
  else if sub = 0x0D then x.counts.fullNeg
  else if sub = 0x0E then x.counts.partialEntry
  else if sub = 0x0F then x.counts.retreat
  else if sub = 0x10 then x.counts.broken
  else if sub = 0x11 then x.counts.bridged
  else if sub = 0x12 then baseBytes x.base
  else if sub = 0x13 then x.captureCmd
  else if sub = 0x14 then x.capture
  else 0

/-- A section, as published (R239). -/
def sectionNum (s : State) (n : Fin 48) (sub : Nat) : Nat :=
  let x := s.tally.pub.sections.get n
  if sub = 0 then 0x0F
  else if sub = 0x03 then sstateCode x.st
  else if sub = 0x04 then x.count
  else if sub = 0x05 then sectionStatus x
  else if sub = 0x06 then satU 8 x.provRefs
  else if sub = 0x07 then x.distCause.toNat
  else if sub = 0x08 then x.clearRemain
  else if sub = 0x09 then x.sweepIn
  else if sub = 0x0A then x.sweepOut
  else if sub = 0x0C then restoreStatus x
  else if sub = 0x0E then x.countIn
  else if sub = 0x0F then x.countOut
  else 0

/-- Permits (R296). -/
def permitNum (s : State) (sub : Nat) : Nat :=
  if sub = 0 then 0x4B
  else if within sub 0x21 0x30 then (match finOf? 16 (sub - 0x21) with
    | some p => permitState (s.permits.po.get p)
    | none => 0)
  else if sub = 0x31 then permitMap (fun p => (s.permits.po.get p).st == .running)
  else if sub = 0x32 then lockoutMap s
  else if sub = 0x33 then s.permits.inhibit.toNat
  else if sub = 0x34 then armSeconds s
  else if sub = 0x35 then ackStatus s
  else if sub = 0x36 then s.permits.ack.accepted
  else if sub = 0x37 then s.permits.ack.ignored
  else if within sub 0x39 0x48 then (match finOf? 16 (sub - 0x39) with
    | some p => lockCause s p
    | none => 0)
  else if sub = 0x49 then s.permits.rbFaults
  else if sub = 0x4B then s.permits.rbMap.toNat
  else 0

/-- Tracker, as published (R267). The default of an ENTRY stands until the first publication. -/
def trackerNum (s : State) (sub : Nat) : Nat :=
  let t := s.tally.pub.tracker
  if sub = 0 then 0xFF
  else if sub = 1 then trackStatus s
  else if sub = 2 then entriesIn t (fun e => e != .free)
  else if sub = 3 then entriesIn t (fun e => e == .provisional)
  else if sub = 4 then entriesIn t (fun e => e == .parked)
  else if sub = 5 then t.counts.opened
  else if sub = 6 then t.counts.confirmed
  else if sub = 7 then t.counts.refutedVerdict
  else if sub = 8 then t.counts.refutedPrediction
  else if sub = 9 then t.counts.releasedEarly
  else if sub = 0x0A then t.counts.confirmedOnly
  else if sub = 0x0B then t.counts.claimTies
  else if sub = 0x0C then s.tally.pub.claimTies
  else if sub = 0x0E then lastGroupBytes t.lastGroup
  else if within sub 0x10 0x3F then (match finOf? 48 (sub - 0x10) with
    | some n => satU 16 (s.tally.pub.untracked.get n)
    | none => 0)
  else if within sub 0x80 0xFF then (match finOf? 128 (sub - 0x80) with
    | some e => if s.tally.pub.any then entryBytes (t.entries.get e) else 0
    | none => 0)
  else 0

/-- Engine (R330). -/
def engineNum (s : State) (sub : Nat) : Nat :=
  let e := s.engine
  if sub = 0 then 0x22
  else if sub = 3 then wcet s.cfg.active
  else if sub = 4 then e.cmd
  else if sub = 5 then engineStatus s
  else if sub = 6 then e.ovrCount
  else if sub = 9 then e.tickSeq
  else if sub = 0x0A then e.lastCycles
  else if sub = 0x0B then e.maxCycles
  else if within sub 0x12 0x17 then (match finOf? 6 (sub - 0x12) with
    | some a => ofSigned 32 (e.out.get a)
    | none => 0)
  else if sub = 0x18 then outQuality e
  else if within sub 0x19 0x1E then (match finOf? 6 (sub - 0x19) with
    | some a => ofSigned 32 (satS 32 (e.offset.get a))
    | none => 0)
  else if sub = 0x1F then e.outSeq
  else if sub = 0x20 then e.shown.warmLeft
  else if sub = 0x21 then (match e.shown.pendMode with
    | some m => emodeCode m
    | none => 0)
  else if sub = 0x22 then e.ovrConsec
  else 0

/-- A law (R333). -/
def lawNum (s : State) (n : Fin 16) (sub : Nat) : Nat :=
  let l := s.engine.laws.get n
  if sub = 0 then 0x21
  else if sub = 0x1D then ofSigned 32 l.fb
  else if sub = 0x1E then ofSigned 32 l.out
  else if sub = 0x1F then ofSigned 32 l.r
  else if sub = 0x20 then ofSigned 32 l.input
  else if sub = 0x21 then ofSigned 32 l.feedback
  else 0

/-- Ledger (R336). -/
def ledgerNum (s : State) (sub : Nat) : Nat :=
  let l := s.engine.ledger
  let six (t : Tab 6 Int) (k : Nat) : Nat := match finOf? 6 k with
    | some a => ofSigned 32 (t.get a)
    | none => 0
  let sec48 (t : Tab 48 Int) (k : Nat) : Nat := match finOf? 48 k with
    | some n => ofSigned 32 (t.get n)
    | none => 0
  if sub = 0 then 0xDF
  else if sub = 1 then l.axles
  else if sub = 2 then l.prov
  else if sub = 3 then l.dflt
  else if sub = 4 then ofSigned 32 l.vesselC
  else if within sub 0x05 0x0A then six l.modelC (sub - 0x05)
  else if within sub 0x0B 0x10 then six l.modelP (sub - 0x0B)
  else if within sub 0x50 0x7F then sec48 l.secC (sub - 0x50)
  else if within sub 0x80 0xAF then sec48 l.secP (sub - 0x80)
  else if within sub 0xB0 0xDF then (match finOf? 48 (sub - 0xB0) with
    | some n => residueWord (s.engine.shown.residues.get n)
    | none => 0)
  else 0

/-- Instant since which a rung range request of a channel waits (R125). -/
def rangeWait (s : State) (ch : Fin 64) : Nat :=
  let x := s.ch.get ch
  if x.pendFiner || x.pendCoarser then msOf (s.now - x.pendSince) else 0

/-- A channel (R125). -/
def channelNum (s : State) (ch : Fin 64) (sub : Nat) : Nat :=
  let x := s.ch.get ch
  if sub = 0 then 0x0A
  else if sub = 3 then x.sampleA.toNat
  else if sub = 4 then x.sampleP.toNat
  else if sub = 5 then chStatus s ch
  else if sub = 6 then x.overloadCount
  else if sub = 7 then x.forcedChanges
  else if sub = 8 then x.rangeChanges
  else if sub = 9 then rangeWait s ch
  else if sub = 0x0A then x.rtdMohm
  else 0

/-- Word `k` of 32 bits of a terminal map. -/
def termWord (b : BitVec 192) (k : Nat) : Nat := b.toNat / 2 ^ (32 * k) % 2 ^ 32

/-- Terminals and excitation (R95). -/
def terminalNum (s : State) (sub : Nat) : Nat :=
  if sub = 0 then 0xE0
  else if within sub 0x81 0x86 then termWord s.term.clf (sub - 0x81)
  else if within sub 0x87 0x8C then termWord s.term.cla (sub - 0x87)
  else if sub = 0x8D then s.term.clfEvents
  else if sub = 0x8E then s.term.hold.toNat % 2 ^ 32
  else if sub = 0x8F then s.term.hold.toNat / 2 ^ 32
  else if within sub 0xA1 0xE0 then (match finOf? 64 (sub - 0xA1) with
    | some k => excStatus (s.src.get k)
    | none => 0)
  else 0

/-- Recorder (R389). -/
def recorderNum (s : State) (x : Option Session) (sub : Nat) : Nat :=
  if sub = 0 then 0x0F
  else if sub = 1 then recStatus s
  else if sub = 2 then opTime s
  else if sub = 3 then powerCyclesShown s.recd
  else if sub = 5 then s.recd.next
  else if sub = 6 then s.recd.oldest
  else if sub = 7 then recWraps s.recd
  else if sub = 8 then x.elim 0 (fun v => v.readIndex)
  else if sub = 9 then ofLe (readWindow s (x.elim 0 (fun v => v.readIndex)))
  else if sub = 0x0C then s.recd.errors
  else if sub = 0x0D then dumpStatus s.recd.dump
  else if sub = 0x0E then x.elim 0 (fun v => v.dumpOffset)
  else if sub = 0x0F then ofLe (dumpWindow s (x.elim 0 (fun v => v.dumpOffset)))
  else 0

/-- Configuration integrity (R390), without CFG_IMAGE. -/
def cfgNum (s : State) (x : Option Session) (sub : Nat) : Nat :=
  if sub = 0 then 0x0B
  else if sub = 1 then cfgStatus s
  else if sub = 2 then s.cfg.generation
  else if sub = 3 then cfgDigest s.cfg.active
  else if sub = 4 then s.cfg.checkWord
  else if sub = 5 then cfgDigest s.cfg.staged
  else if sub = 6 then s.cfg.expected
  else if sub = 8 then s.cfg.epoch.elim 0 (fun e => e)
  else if sub = 9 then 65536 * s.cfg.result.1 + s.cfg.result.2
  else if sub = 0x0A then x.elim 0 (fun v => v.cfgView)
  else 0

/-- Twin execution and channel guard (R157, R361). -/
def twinNum (s : State) (sub : Nat) : Nat :=
  let t := s.twin
  if sub = 0 then 0xFF
  else if sub = 1 then twinStatus s
  else if sub = 2 then t.stopCause
  else if sub = 3 then t.stopSeen.toNat
  else if sub = 4 then t.prevStopCause
  else if sub = 5 then t.stopWindow
  else if sub = 6 then t.stopSigA.toNat
  else if sub = 7 then t.stopSigB.toNat
  else if sub = 8 then t.windows
  else if sub = 9 then t.kaPassed
  else if sub = 0x0A then kaLane t
  else if sub = 0x0B then t.eccSram
  else if sub = 0x0C then t.eccFlash
  else if sub = 0x0D then t.eccLast
  else if sub = 0x0E then t.scrubPasses
  else if sub = 0x39 then headMap (guardDisturbed s)
  else if sub = 0x3A then headMap (fun h => (s.hg.get h).starved)
  else if sub = 0x3B then headMap (fun h => (s.hg.get h).loadFault)
  else if within sub 0x80 0xBF then (match finOf? 64 (sub - 0x80) with
    | some ch => guardState s ch
    | none => 0)
  else if within sub 0xC0 0xFF then (match finOf? 64 (sub - 0xC0) with
    | some ch => checkResult (s.cg.get ch)
    | none => 0)
  else 0

/-- Ports (R392). -/
def portNum (s : State) (x : Option Session) (sub : Nat) : Nat :=
  let n := s.net
  if sub = 0 then 0x1A
  else if sub = 7 then portStatus s
  else if sub = 8 then seqWord (n.ports.get 3).seq
  else if sub = 9 then seqWord (n.ports.get 4).seq
  else if sub = 0x0A then seqWord (n.ports.get 0).seq
  else if sub = 0x0B then n.pdSeq % 2 ^ 32
  else if sub = 0x0C then sessionsBytes s
  else if sub = 0x0D then x.elim 0 (fun v => v.authLevel)
  else if sub = 0x0E then x.elim 0 (fun v => v.challenge.elim 0 (fun c => c.1.toNat))
  else if sub = 0x10 then x.elim 0 (fun v => levelCode v.level)
  else if sub = 0x13 then n.keyId
  else if within sub 0x14 0x18 then (match finOf? 5 (sub - 0x14) with
    | some p => (n.ports.get p).busy
    | none => 0)
  else if sub = 0x19 then n.sessionsRefused
  else if sub = 0x1A then n.authFailures
  else 0

/-- Bellringer (R215). -/
def bellNum (s : State) (sub : Nat) : Nat :=
  let b := s.bell
  if sub = 0 then 0x86
  else if within sub 0x21 0x40 then (match finOf? 32 (sub - 0x21) with
    | some h => if anySlot (s.head.get h) then 0 else (b.heads.get h).approach.getD 0xFFFFFFFF
    | none => 0)
  else if within sub 0x41 0x60 then (match finOf? 32 (sub - 0x41) with
    | some h => bellStatus s h
    | none => 0)
  else if within sub 0x61 0x80 then (match finOf? 32 (sub - 0x61) with
    | some h => waitMs s h
    | none => 0)
  else if sub = 0x81 then b.rungExc
  else if sub = 0x82 then b.rungRange
  else if sub = 0x83 then b.rungCheck
  else if sub = 0x84 then b.rungRebase
  else if sub = 0x85 then b.abandoned
  else if sub = 0x86 then b.intrusions
  else 0

/-- Value of an object outside the configuration, as a number of its bytes. -/
def statusNum (s : State) (x : Option Session) (i sub : Nat) : Nat :=
  if i < 0x2000 then commNum s i sub
  else if i == 0x2000 then deviceNum s sub
  else if within i 0x2100 0x211F then (finOf? 32 (i - 0x2100)).elim 0 (fun h => headNum s h sub)
  else if within i 0x2200 0x222F then (finOf? 48 (i - 0x2200)).elim 0 (fun n => sectionNum s n sub)
  else if i == 0x2300 then permitNum s sub
  else if i == 0x2400 then trackerNum s sub
  else if i == 0x2500 then engineNum s sub
  else if within i 0x2501 0x2510 then (finOf? 16 (i - 0x2501)).elim 0 (fun n => lawNum s n sub)
  else if i == 0x2511 then ledgerNum s sub
  else if within i 0x2600 0x263F then (finOf? 64 (i - 0x2600)).elim 0 (fun ch => channelNum s ch sub)
  else if i == 0x2700 then terminalNum s sub
  else if i == 0x2800 then recorderNum s x sub
  else if i == 0x2900 then cfgNum s x sub
  else if i == 0x2A00 then twinNum s sub
  else if i == 0x2B00 then portNum s x sub
  else if i == 0x2C00 then bellNum s sub
  else 0

/-- CFG_VIEW of a reading session (R372). -/
def viewOf (x : Option Session) : Nat := x.elim 0 (fun v => v.cfgView)

/-- The value of an object as a read returns it. `x` is the reading session, none for process data,
which read with CFG_VIEW 0 and no session values. Reserved bits read 0 (R14); while STOPPED the
objects that R488 does not keep live read as at step 3. -/
def objNum (s : State) (x : Option Session) (i sub : Nat) : Nat :=
  match objInfo i sub with
  | none => 0
  | some o =>
    if o.inCfg then
      maskValue i sub (if viewOf x = 1 then cfgGet s.cfg.staged i sub
       else if o.cls == .live then cfgGet s.engine.live i sub
       else cfgGet s.cfg.active i sub)
    else match cfgFind s.twin.frozen (cfgKey i sub) with
      | some v => v
      | none => statusNum s x i sub

/-- A configuration with its reserved bits read as 0 (R14). -/
def maskedCfg (m : CfgMap) : CfgMap :=
  m.foldl (fun acc e => cfgSet acc (e.1 / 256) (e.1 % 256) (maskValue (e.1 / 256) (e.1 % 256) e.2)) []

/-- CFG_IMAGE for a session (R14, R390, R436). -/
def imageFor (s : State) (x : Option Session) : List Byte :=
  imageOf (maskedCfg (if viewOf x = 1 then s.cfg.staged else s.cfg.active))

/-- The bytes that a read of a present object returns (R11, R376). -/
def objBytes (s : State) (x : Option Session) (i sub : Nat) : List Byte :=
  match objInfo i sub with
  | none => []
  | some o => if o.varLen then imageFor s x else leBytes o.size (objNum s x i sub)

/-- What a read answers: the abort, or the data. A WO object is refused with 0x06010001, an object
that is not present with 0x06020000 or 0x06090011 (R379, R383). -/
def readAbort (i sub : Nat) : Nat :=
  match objInfo i sub with
  | none => if idxPresent i then 0x06090011 else 0x06020000
  | some o => if o.access == .wo then 0x06010001 else 0

end Sys2Proof.Machine
end

