-- ==== Sys2Proof/Machine/Ops.lean ====
section
/-! DEFINITION. Operations that several families share: when ports answer, datagrams and CAN frames
(R408, R418, R420), emergencies and the judgement of ALARMS that ends every command (R388, R406,
R465), and setting the stop latch (R348, R350). -/

namespace Sys2Proof.Machine

/-- HIBERNATE entry takes 50 ms at most (R53). -/
def entryNs : Nat := ms 50

/-- HIBERNATE entry has run to completion, and the regulators are off (R53). -/
def entered (s : State) : Bool := s.goingDown && decide (s.power.entryAt + entryNs ≤ s.now)

/-- The firmware runs its normal program (R387, R483). -/
def State.alive (s : State) : Bool := s.power.phase == .running && !entered s

/-- The ports answer: running, or stopped under R488. -/
def State.serving (s : State) : Bool := (s.power.phase == .running || s.power.phase == .stopped) && !entered s

/-- Apply a change only while the firmware runs. -/
def State.whenAlive (s : State) (f : State → State) : State := if s.alive then f s else s

/-- Apply a change only when a condition holds. -/
def State.guarded (s : State) (b : Bool) (f : State → State) : State := if b then f s else s

-- updates of one entry
def State.updSrc (s : State) (k : Fin 64) (f : Source → Source) : State := { s with src := s.src.upd k f }
def State.updCh (s : State) (c : Fin 64) (f : Channel → Channel) : State := { s with ch := s.ch.upd c f }
def State.updCg (s : State) (c : Fin 64) (f : ChGuard → ChGuard) : State := { s with cg := s.cg.upd c f }
def State.updHg (s : State) (h : Fin 32) (f : HeadGuard → HeadGuard) : State := { s with hg := s.hg.upd h f }
def State.updHead (s : State) (h : Fin 32) (f : Head → Head) : State := { s with head := s.head.upd h f }
def State.updSect (s : State) (n : Fin 48) (f : Section → Section) : State := { s with sect := s.sect.upd n f }
def State.updPort (s : State) (p : PortId) (f : PortState → PortState) : State :=
  { s with net := { s.net with ports := s.net.ports.upd (portIdx p) f } }
def State.updCan (s : State) (p : CanPort) (f : CanState → CanState) : State :=
  { s with net := { s.net with can := s.net.can.upd (canIdx p) f } }
def State.updPermit (s : State) (p : Fin 16) (f : Permit → Permit) : State :=
  { s with permits := { s.permits with po := s.permits.po.upd p f } }

-- datagrams
/-- A frame that R418 lets the SPI queue drop: PD_DEVICE or HEARTBEAT. The same TYPE with a STATUS is the
response to a datagram of TYPE 0x10 or 0x11, and responses are never dropped. -/
def droppable (d : Datagram) : Bool := (d.typ == 0x90 || d.typ == 0x91) && d.status == 0

/-- Remove the oldest droppable frame. -/
def dropOldest : List Datagram → List Datagram
  | [] => []
  | d :: ds => if droppable d then ds else d :: dropOldest ds

/-- Frames that the SPI queue holds at most (R418). -/
def spiCap : Nat := 16

/-- Queue a frame for SPI (R418). -/
def spiPush (q : List Datagram) (d : Datagram) : List Datagram :=
  if q.length < spiCap then q ++ [d]
  else if q.any droppable then dropOldest q ++ [d]
  else if droppable d then q
  else q ++ [d]

/-- A datagram with the next SEQ of the port's device stream (R408, R420). -/
def nextDatagram (s : State) (p : PortId) (dst : Option Nat) (typ session status ref : Nat)
    (body : List Byte) : Datagram :=
  { dest := dst, typ := typ, session := session, status := status
    seq := (s.net.ports.get (portIdx p)).seq.next % 65536, ref := ref, tick := s.net.pdSeq % 65536, body := body }

/-- Send a datagram on ETA or ETB, or queue it for SPI; it takes the next SEQ of the port's device
stream (R408, R420). -/
def State.sendDatagram (s : State) (p : PortId) (dst : Option Nat) (typ session status ref : Nat)
    (body : List Byte) : State :=
  if portEnabled s.cfg.active p && !isCan p then
    let d := nextDatagram s p dst typ session status ref body
    let s1 := s.updPort p (fun x => { x with seq := { x.seq with next := x.seq.next + 1 } })
    if p == .spi then { s1 with net := { s1.net with spiQueue := spiPush s1.net.spiQueue d } }
    else s1.say (.datagram p d)
  else s

/-- A CAN port on which the device may send in the given NMT states (R397, R401). -/
def canSends (s : State) (p : CanPort) (f : Nmt → Bool) : Bool :=
  canEnabled s.cfg.active p && (s.net.can.get (canIdx p)).bus != .busOff && f (s.net.can.get (canIdx p)).nmt

/-- COB-ID of a node-dependent object on a port (R503). -/
def cobOn (c : CfgMap) (p : CanPort) (i sub base : Nat) : Nat :=
  match cfgFind c (cfgKey i sub) with
  | some v => v
  | none => base + canNode c p

/-- Send a CAN frame, unless bit 31 of its COB-ID disables the message. -/
def State.sendFrame (s : State) (p : CanPort) (cob : Nat) (fd : Bool) (data : List Byte) : State :=
  if bitOf cob 31 then s else s.say (.can p (cob % 2 ^ 11) fd data)

/-- Send a message other than an SRDO: as a CAN FD frame on a port with FD = 1 (R398; log 16). -/
def State.sendCan (s : State) (p : CanPort) (cob : Nat) (data : List Byte) : State :=
  s.sendFrame p cob (canFd s.cfg.active p) data

def bothCan : List CanPort := [.a, .b]
def dataPorts : List PortId := [.spi, .eta, .etb]

/-- A datagram session is open on a port. -/
def hasSession (s : State) (p : PortId) : Bool :=
  (allFin 4).any (fun k => match s.net.sessions.get k with
    | some x => x.port == p
    | none => false)

-- emergencies
/-- Error codes of the ALARMS bits (R406). -/
def emcyCode (b : Nat) : Nat :=
  [0x6310, 0x6320, 0xFF01, 0xFF02, 0xFF03, 0xFF04, 0xFF05, 0xFF06, 0xFF07, 0xFF08, 0x3210, 0x4210,
   0x4220, 0xFF09, 0xFF0A, 0xFF0B, 0xFF0C, 0xFF0D, 0xFF0E, 0xFF0F, 0xFF10].getD b 0

/-- Send an emergency: on every enabled CAN port but `except`, in the NMT states that serve EMCY, and
on every port with a datagram session or a PD_MASK (R406). A code other than the reset joins the
error history (R385). -/
def State.emergency (s : State) (code source : Nat) (except : Option CanPort) : State :=
  let a := alarms s
  let body := leBytes 2 code ++ leBytes 1 (b2n (a != 0)) ++ leBytes 1 source ++ leBytes 4 a
  let s1 := bothCan.foldl (fun acc p =>
    if canSends acc p (fun n => n == .preop || n == .operational) && except != some p
    then acc.sendCan p (cobOn acc.cfg.active p 0x1014 0 0x80) body else acc) s
  let s2 := dataPorts.foldl (fun acc p =>
    if hasSession acc p || pdMask acc.cfg.active p != 0
    then acc.sendDatagram p none 0x92 0 0 0 body else acc) s1
  if code = 0 then s2
  else { s2 with net := { s2.net with
    emcy := { s2.net.emcy with history := (code :: s2.net.emcy.history).take 8 } } }

/-- The 100 ms between two emergencies of one bit have passed (R406). -/
def emcyFree (s : State) (b : Nat) : Bool :=
  match s.net.emcy.sentAt.find? (fun e => e.1 == b) with
  | some e => decide (s.now ≥ e.2 + ms 100)
  | none => true

/-- Emergency of an ALARMS bit (R406). -/
def State.emergencyBit (s : State) (b : Nat) : State :=
  if emcyFree s b then
    let s1 := s.emergency (emcyCode b) b none
    { s1 with net := { s1.net with emcy := { s1.net.emcy with
      sentAt := (b, s.now) :: s1.net.emcy.sentAt.filter (fun e => e.1 != b) } } }
  else s

/-- A port event of R406 holds: a CAN port error passive or bus-off, a missed heartbeat, a lost
reception. -/
def portEventHolds (s : State) : Bool :=
  allPorts.any (fun p => (isCan p && portDegraded s p) || portHbMiss s p
    || (s.net.ports.get (portIdx p)).lostRxAt.isSome)

/-- Emergency of a port event (R406). -/
def State.portEvent (s : State) (code : Nat) (p : PortId) (except : Option CanPort) : State :=
  s.emergency code (0x80 + portCode p) except

/-- ALARMS is not 0 or a port event holds, so that the error reset is owed when neither does any more (R406; a port
event without ALARMS: log 20). -/
def resetOwed (s : State) : Bool := alarms s != 0 || portEventHolds s

/-- The changes of ALARMS: an ALARM record for any, an emergency for each bit that rises (R388, R406, R465, R489). -/
def State.judgeBits (s : State) (a b : Nat) : State :=
  if a = b then s
  else
    let r := s.record 0x06 (leBytes 4 b ++ leBytes 4 a)
    let r1 := { r with net := { r.net with emcy := { r.net.emcy with lastAlarms := a } } }
    (List.range 21).foldl (fun acc i => if bitOf a i && !bitOf b i then acc.emergencyBit i else acc) r1

/-- Judge ALARMS: its changes, and the error reset when nothing holds any more (R388, R406, R465, R489). -/
def State.judgeAlarms (s : State) : State :=
  let s1 := s.judgeBits (alarms s) s.net.emcy.lastAlarms
  if resetOwed s1 then { s1 with net := { s1.net with emcy := { s1.net.emcy with active := true } } }
  else if s1.net.emcy.active && s1.alive then
    let s2 := s1.emergency 0 0xFF none
    { s2 with net := { s2.net with emcy := { s2.net.emcy with active := false } } }
  else s1

/-- What ends every command: ALARMS are judged while the device serves (R406, R465). -/
def State.finish (s : State) : State := if s.serving then s.judgeAlarms else s

/-- The frame of every meaning: nothing sent yet, the command's effect, the judgement of ALARMS. -/
def run (s : State) (f : State → State) : Host.Outcome State Fault Refusal := .next (f s.begin).finish

-- stop latch
/-- Every permit output high-impedance and every permit HIGHZ (R348, R277). -/
def permitHighz (x : Permit) : Permit :=
  { x with st := .highz, pending := false, cond := false, out := .highz, stopNext := false, startNext := false }

def State.permitsHighz (s : State) : State :=
  { s with permits := { s.permits with po := Vector.map permitHighz s.permits.po } }

/-- Length of a window, in ns (R343). -/
def windowNs : Nat := 1280

/-- The window in progress at the present instant (R343, R361). -/
def windowNow (s : State) : Nat := Nat.max s.twin.window ((s.now - s.twin.lockAt) / windowNs) % 2 ^ 32

/-- STOP_CAUSE when a further cause arises: of causes of one instant it is the lower code, and a later one does not
change it (R350, R360; the instant: log 31). -/
def causeWith (s : State) (cause : Nat) : Nat :=
  if s.twin.stopAt = s.now ∧ s.twin.handler = false then Nat.min s.twin.stopCause cause else s.twin.stopCause

/-- Set the stop latch with a cause of R348. The latch keeps its first cause; later causes only set
their bits (R350). `sigs` are the signatures of the window that the Reeve has compared when the cause is its own;
otherwise the window has not ended, and the two values are free (R361; log 31). -/
def State.stopLatch (s : State) (cause : Nat) (sigs : Option (BitVec 32 × BitVec 32)) : State :=
  let bit : BitVec 9 := BitVec.ofNat 9 (2 ^ (cause - 1))
  if s.twin.stopLatch then
    { s with twin := { s.twin with stopSeen := s.twin.stopSeen ||| bit, stopCause := causeWith s cause } }
  else
    let sg := sigs.getD (Config.stopSigA s.fresh, Config.stopSigB s.fresh)
    let s1 := { s.draw with twin := { s.twin with
      stopLatch := true, stopCause := cause, stopSeen := bit
      stopWindow := if sigs.isSome then s.twin.window else windowNow s
      stopSigA := sg.1, stopSigB := sg.2, stopGridTime := gridTime s, stopAt := s.now
      stopArmed := s.twin.watchdog, watchdog := false, lockstep := false, held := [] } }
    s1.permitsHighz

/-- The cycle of the stop is not over yet in a phase in which nothing runs any more, under the debugger or with the clock
at fault: a cause of that cycle still gives its bit, and its code when it is the lower one (R360; log 31). -/
def State.stopCycle (s : State) : Bool :=
  s.twin.stopLatch && s.twin.stopAt == s.now && (s.power.phase == .debugHalted || s.power.phase == .clockHeld)

-- grid times
/-- Difference of two counts of the 20 us grid, as a signed number (R223). -/
def gridDiff (a b : Nat) : Int := toSigned 32 ((a + 2 ^ 32 - b % 2 ^ 32) % 2 ^ 32)

/-- Ticks of the grid from `b` to `a`, 0 when `a` is earlier. -/
def gridSince (a b : Nat) : Nat := (gridDiff a b).toNat

/-- Origin fields of a record: PORT and SESSION (R465). -/
def originBytes : Option Origin → List Byte
  | some o => leBytes 1 (portCode o.port) ++ leBytes 1 o.session
  | none => [0xFF#8, 0#8]

end Sys2Proof.Machine
end

