-- ==== Sys2Proof/Machine/Pipeline.lean ====
section
/-! DEFINITION. The signal path of a measurement channel: the chopping cycle (R79, R109), the pair's generator
(R104, R140), the guard's tone (R138), stages 1 to 8 and the range monitor (R99, R102, R105 to R108, R111 to R114), the
auxiliary path of V_REF (R134) and the guard's measurements (R138, R140), as functions of the voltages at the
terminals (log 54). What the spec gives by its response or its limits only stands in Config without a value: the
coefficients of stage 7, the modulator's error and how the demodulator's references make up for the response of the
chain at the carrier. So do the exponential, the cosine and the angle, whose values are no fractions. -/

namespace Sys2Proof.Machine

-- small arithmetic
/-- Mean of a list; 0 of an empty one. -/
def meanR (l : List Rat) : Rat := if l.isEmpty then 0 else l.sum / l.length

/-- Square root of a magnitude, cut to 16 binary places. -/
def rootR (x : Rat) : Rat := (Nat.sqrt (x * 2 ^ 32).floor.toNat : Rat) / 2 ^ 16

/-- Cosine and sine of an angle in turns. -/
def cosT (x : Rat) : Rat := Config.cosine x
def sinT (x : Rat) : Rat := Config.cosine (x - 1 / 4)

-- the chopping cycle
/-- Where the crossbar stands in the chopping cycle of a source (R79, R109). -/
inductive Chop where
  /-- Force terminal to the source, return terminal to AGND. -/
  | forward
  /-- The terminals have exchanged roles (R78). -/
  | reversed
  /-- The dead time: both switches of the old direction are open, those of the new one not closed yet. -/
  | dead
  deriving DecidableEq, Repr

/-- Period of the modulator clock, and of stage 1's output: one in five (R42, R99, R109). -/
def modulatorNs : Nat := 160
def stage1Ns : Nat := 800

/-- Dead time of a reversal (R79): 200 ns (log 36). -/
def deadNs : Nat := 200

/-- Time for which the modulator holds its integrators from a reversal on (R109). -/
def holdOutNs : Nat := us 2

/-- Direction of a chopped source at an instant: it reverses at each half-period of N modulator clocks
from step 1 of its start on (R79, R87, R109). `n` is N. -/
def chopAt (n startAt t : Nat) : Chop :=
  let half := n * modulatorNs
  if half = 0 then .forward
  else
    let k := (t - startAt) / half
    if 0 < k ∧ (t - startAt) % half < deadNs then .dead
    else if k % 2 = 0 then .forward else .reversed

/-- An instant lies in the 2 µs from a reversal, which are held out (R109, R138). `n` is N of a chopped source, 0 of
another. -/
def heldOut (n startAt t : Nat) : Bool :=
  let half := n * modulatorNs
  decide (0 < half) && decide (startAt + half ≤ t) && decide ((t - startAt) % half < holdOutNs)

/-- Sign of the current in the direction of the chopping cycle (R78, R138). -/
def chopSign (n startAt t : Nat) : Rat := if chopAt n startAt t = .reversed then -1 else 1

/-- N and the start of a source's chopping cycle; N is 0 of a source that does not chop. -/
def chopCycle (x : Source) : Nat × Nat := (if wordWave x.word = 1 then x.chop else 0, x.startAt)

/-- The chopping cycle that a channel sees: its source's. -/
def chopOf (s : State) (ch : Nat) : Nat × Nat :=
  (boundSource s.cfg.active ch).elim (0, 0) (fun k => chopCycle (s.src.get k))

-- the generator of a pair
/-- The injection of a resonance check on a source's channel: begin, end and SWEEP. -/
def sweepOf (s : State) (k : Fin 64) : Option (Nat × Nat × Nat) :=
  (boundChannel s.cfg.active k).bind (fun ch =>
    match (s.ch.get ch).injFrom, (s.ch.get ch).injTo with
    | some a, some b => if chInductive s.cfg.active ch.val then some (a, b, gSweep (guardCfg s.cfg.active ch.val)) else none
    | _, _ => none)

/-- First source of a source's pair, and the second one (R77). -/
def pairEven (k : Fin 64) : Fin 64 := ⟨k.val / 2 * 2, by omega⟩
def pairOdd (k : Fin 64) : Fin 64 := ⟨k.val / 2 * 2 + 1, by omega⟩

/-- The injection that steps a pair's generator, the latest on one of its channels (R104, R140). DESIGN CHOICE (log
35): where the two channels are checked together and their SWEEP differ, that of the even source's channel applies. -/
def pairSweep (s : State) (k : Fin 64) : Option (Nat × Nat × Nat) :=
  match sweepOf s (pairEven k), sweepOf s (pairOdd k) with
  | some x, some y => if x.1 < y.1 then some y else some x
  | some x, none => some x
  | none, y => y

/-- Points of a resonance check for 1.0 ms each, five of them (R140). -/
def pointNs : Nat := ms 1

/-- The carrier that a source's generator is programmed to, in units of 0.1 kHz: by its own channel, else by that of
its pair (R104). -/
def carrierFreq (c : CfgMap) (k : Fin 64) : Nat :=
  match boundChannel c k, boundChannel c (pairEven k), boundChannel c (pairOdd k) with
  | some ch, _, _ => chFreq c ch.val
  | none, some ch, _ => chFreq c ch.val
  | none, none, some ch => chFreq c ch.val
  | none, none, none => 0

/-- Frequency of a pair's generator at an instant, in units of 0.1 kHz: the carrier, and under an injection the five
points f_c + k · SWEEP, k from -2 to 2, for 1.0 ms each (R140, R143). -/
def generatorFreq (s : State) (k : Fin 64) (t : Nat) : Rat :=
  let f : Rat := (carrierFreq s.cfg.active k : Rat)
  match pairSweep s k with
  | some (a, b, sw) =>
    if a ≤ t ∧ t < b ∧ t < a + 5 * pointNs then f + ((((t - a) / pointNs : Nat) : Rat) - 2) * (sw : Rat) else f
  | none => f

/-- The integral of k over the first `u` ns of an injection: the points before the present one, and the part of it. -/
def sweptNs (u : Nat) : Int :=
  let q : Int := ((u / pointNs : Nat) : Int)
  (pointNs : Int) * (q * (q - 1) / 2 - 2 * q) + ((u % pointNs : Nat) : Int) * (q - 2)

/-- Phase of a pair's generator at an instant, in turns from boot: the integral of its frequency, so that the steps of a
check are phase-continuous (R104, R140). 0.1 kHz is one turn in 10^7 ns. -/
def carrierTurns (s : State) (k : Fin 64) (t : Nat) : Rat :=
  let swept : Rat := match pairSweep s k with
    | some (a, b, sw) => (sw : Rat) * (sweptNs (Nat.min (Nat.min t b - a) (5 * pointNs)) : Rat)
    | none => 0
  ((carrierFreq s.cfg.active k : Rat) * ((t - s.power.bootAt : Nat) : Rat) + swept) / 10 ^ 7

-- the tone
/-- Ramp of the guard's tone, up and down; length of its demodulation (R138, R143). -/
def toneRampNs : Nat := us 500
def toneLengthNs : Nat := ms 5

/-- Amplitude of an injected tone at an instant, as a fraction of its full amplitude: it rises over the first
0.5 ms and falls over the last 0.5 ms, from the level at hand when it is withdrawn early (R138, R143). -/
def toneShape (begin_ end_ t : Nat) : Rat :=
  let up (u : Nat) : Rat := minR 1 (((u - begin_ : Nat) : Rat) / (toneRampNs : Rat))
  let down : Rat := minR 1 (((end_ - t : Nat) : Rat) / (toneRampNs : Rat))
  if t < begin_ then 0 else up (Nat.min t (end_ - toneRampNs)) * down

/-- Phase of the sinusoid at TONE after `u` ns of the injection, in turns; TONE is in units of 0.2 kHz, one turn in
5·10^6 ns (R138, R158). -/
def toneTurns (c : CfgMap) (ch : Nat) (u : Nat) : Rat := (gSweep (guardCfg c ch) : Rat) * (u : Rat) / (5 * 10 ^ 6)

/-- Peak of the full tone, units of 10 uA: 5 % of the programmed current (R138). -/
def tonePeak (x : Source) : Rat := (wordCurrent x.word : Rat) / 20

/-- The tone on a source's current at an instant, units of 10 uA: a sinusoid at TONE on the source of a BRIDGE_6W
channel under an injection (R138). -/
def toneAt (s : State) (k : Fin 64) (t : Nat) : Rat :=
  match boundChannel s.cfg.active k with
  | none => 0
  | some ch =>
    match (s.ch.get ch).injFrom, (s.ch.get ch).injTo with
    | some a, some b =>
      if chBridge6 s.cfg.active ch.val
      then tonePeak (s.src.get k) * toneShape a b t * cosT (toneTurns s.cfg.active ch.val (t - a)) else 0
    | _, _ => 0

-- stages 1 to 5
/-- A signal behind stage 1: its value so many modulator clocks, or stage-1 samples, before the output instant. -/
abbrev Wave := Nat → Rat

/-- A list of values, the newest first; before its oldest value the signal stood at that value. -/
def Wave.ofList (l : List Rat) : Wave := fun k => l.getD k (l.getLastD 0)

/-- Corner of the anti-alias pole of stage 1 in Hz (R99). -/
def bufferPoleHz : Nat := 600000

/-- What stands of a step after one modulator clock: exp(-2π · 600 kHz · 160 ns). -/
def bufferDecay : Rat := Config.expTurns ((bufferPoleHz * modulatorNs : Nat) / 10 ^ 9)

/-- Stage 1, the buffer: a single pole, driven by the voltage of each modulator clock (R99). -/
def buffered (d : Rat) : List Rat → List Rat
  | [] => []
  | u :: rest => (d * (buffered d rest).headD u + (1 - d) * u) :: buffered d rest

/-- While the modulator holds its integrators, what went before stands (R109). -/
def holdBack (held : Nat → Bool) : Nat → List Rat → List Rat
  | _, [] => []
  | k, v :: rest => (if held k then (holdBack held (k + 1) rest).headD v else v) :: holdBack held (k + 1) rest

/-- Instant of the modulator clock, and of the stage-1 sample, so many before an output instant. -/
def clockAt (out k : Nat) : Nat := out - k * modulatorNs
def stage1At (out j : Nat) : Nat := out - j * stage1Ns

/-- Stage 2, the reference: REF± of a bridge on a BRIDGE_6W connection, else the internal 2.5 V (R99). -/
def referenceOf (c : CfgMap) (ch : Nat) (m : SampleIn) : Wave :=
  if chBridge6 c ch then Wave.ofList m.ref else fun _ => 5 / 2

/-- V_SIG behind the buffer, over the reference; what is held does not enter (R99, R106, R107, R109). -/
def inputRatio (s : State) (ch out : Nat) (m : SampleIn) : Wave :=
  let cyc := chopOf s ch
  Wave.ofList (holdBack (fun k => heldOut cyc.1 cyc.2 (clockAt out k)) 0
    ((buffered bufferDecay m.sig).mapIdx (fun k v => v / referenceOf s.cfg.active ch m k)))

/-- Range code in force at an instant (R119). -/
def gainAt (now : Nat) : List (Nat × Nat) → Nat → Nat
  | [], g => g
  | (sw, before) :: rest, g => if now < sw then gainAt now rest before else g

/-- Range code in force at a modulator clock (R118). -/
def rangeAt (s : State) (ch : Fin 64) (out k : Nat) : Nat :=
  gainAt (clockAt out k) (s.ch.get ch).seams (s.ch.get ch).gain

/-- Stage 2, the modulator: the input as a fraction of the full scale of the range in force, and the modulator's error;
nothing of what came before the filters were cleared (R99, R111, R123). -/
def modulatorOut (s : State) (ch : Fin 64) (out : Nat) (m : SampleIn) : Wave := fun k =>
  if clockAt out k < (s.ch.get ch).clearedAt then 0
  else inputRatio s ch.val out m k * 2 ^ rangeAt s ch out k + Config.modulatorError ch.val (clockAt out k)

/-- Stage 3: gain compensation, to fractions of the full scale of GAIN_MIN (R99, R112). -/
def gainComp (s : State) (ch : Fin 64) (out : Nat) (m : SampleIn) : Wave := fun k =>
  modulatorOut s ch out m k * 2 ^ chGainMin s.cfg.active ch.val / 2 ^ rangeAt s ch out k

/-- Stage 4: the chop comb; half a chopping period is N modulator clocks (R99, R102, R109). -/
def chopComb (n : Nat) (x : Wave) : Wave := fun k => (x k + x (k + n)) / 2

/-- Mean of `k` values, from the one at hand back. -/
def movingMean (k : Nat) (x : Wave) : Wave := fun n => meanR ((List.range k).map (fun i => x (n + i)))

/-- Stage 5: a third-order sinc filter and decimation by 5 (R99). -/
def stage1Decimator (x : Wave) : Wave := fun j => movingMean 5 (movingMean 5 (movingMean 5 x)) (5 * j)

/-- Stages 1 to 5; the chop comb runs in a bridge with a chopped source only. -/
def stage1 (s : State) (ch : Fin 64) (out : Nat) (m : SampleIn) : Wave :=
  let y := gainComp s ch out m
  stage1Decimator (if chChopped s.cfg.active ch.val then chopComb (chFreq s.cfg.active ch.val) y else y)

-- stages 6 to 8
/-- Reference of the demodulator at a stage-1 sample: cosine or sine of the pair's generator, a quarter turn later, as
it makes up for the chain at the frequency of that instant (R99, R104; log 54). -/
def demodReference (s : State) (ch out : Nat) (quarter : Rat) : Wave := fun j =>
  (boundSource s.cfg.active ch).elim 0 (fun k =>
    let t := stage1At out j
    let f := generatorFreq s k t
    Config.carrierGain f * cosT (carrierTurns s k t - Config.carrierLag f - quarter))

/-- Stage 6: the products with the carrier, scaled to its peak amplitude (R99, R105). -/
def demodulate (w x : Wave) : Wave := fun j => 2 * w j * x j

/-- By how much stage 7 decimates (R99, R108). -/
def outputRatio (c : CfgMap) (ch : Nat) : Nat := if chInductive c ch then 25 else 125 * 2 ^ chRate c ch

/-- Length of the impulse response of stage 7 in stage-1 samples: twice the group delay of R101. -/
def firLength (c : CfgMap) (ch : Nat) : Nat :=
  2 * (groupDelay c ch - (if chChopped c ch then chFreq c ch * 80 else 0)) / stage1Ns

/-- Coefficients of stage 7: symmetric, which makes the phase linear, and of gain 1 at rest (R99, R101). -/
def firTaps (c : CfgMap) (ch : Nat) : List Rat :=
  let n := firLength c ch
  let raw := (List.range n).map (fun i =>
    Config.firTap (outputRatio c ch) i + Config.firTap (outputRatio c ch) (n - 1 - i))
  raw.map (fun t => t / raw.sum)

/-- Stage 7: the FIR decimator at the output instant. -/
def outputDecimator (taps : List Rat) (x : Wave) : Rat := (taps.mapIdx (fun i t => t * x i)).sum

/-- I and Q of an inductive channel (R99). -/
def inPhase (s : State) (ch : Fin 64) (out : Nat) (m : SampleIn) : Rat :=
  outputDecimator (firTaps s.cfg.active ch.val) (demodulate (demodReference s ch.val out 0) (stage1 s ch out m))

def quadrature (s : State) (ch : Fin 64) (out : Nat) (m : SampleIn) : Rat :=
  outputDecimator (firTaps s.cfg.active ch.val) (demodulate (demodReference s ch.val out (1 / 4)) (stage1 s ch out m))

/-- VALUE of a bridge channel in the LSB of R112. -/
def bridgeValue (s : State) (ch : Fin 64) (out : Nat) (m : SampleIn) : Int :=
  roundAway (2 ^ 23 * outputDecimator (firTaps s.cfg.active ch.val) (stage1 s ch out m))

/-- Stage 8, amplitude: the root of I² + Q² in the LSB of R112, to the nearest (R99, R105). -/
def envelopeAmp (i q : Rat) : Int := (((Nat.sqrt (4 * 2 ^ 46 * (i ^ 2 + q ^ 2)).floor.toNat + 1) / 2 : Nat) : Int)

/-- Stage 8, phase: the angle of (I, -Q) in units of 180°/2^23, from -180° to +180° less one (R99, R105). -/
def envelopePhase (i q : Rat) : Int :=
  (roundAway (2 ^ 24 * Config.angle i (-q)) + 8388608) % 16777216 - 8388608

-- the range monitor
/-- What the range monitor reads: the magnitude of the stage-1 output before compensation, as a fraction of the full
scale of the range in force (R99). -/
def monitorReading (s : State) (ch : Fin 64) (out : Nat) (m : SampleIn) : Wave := fun j =>
  absR (stage1Decimator (modulatorOut s ch out m) j)

/-- Stage-1 samples in a millisecond. -/
def stage1PerMs : Nat := 1250

/-- Clocks that one stage-1 sample is made of. -/
def sincClocks : Nat := 13

/-- Peak magnitude over the last 1 ms, or since the latest range change: of the stage-1 samples that are made of clocks
after the change alone (R114; log 53). -/
def peakAt (s : State) (ch : Fin 64) (out : Nat) (m : SampleIn) : Rat :=
  ((List.range stage1PerMs).filter (fun j =>
      decide ((s.ch.get ch).peakFrom + (sincClocks - 1) * modulatorNs ≤ stage1At out j))).foldl
    (fun acc j => maxR acc (monitorReading s ch out m j)) 0

/-- The overload condition: two consecutive magnitudes above 100 % (R114). -/
def overloadAt (s : State) (ch : Fin 64) (out : Nat) (m : SampleIn) : Bool :=
  decide (1 < monitorReading s ch out m 0) && decide (1 < monitorReading s ch out m 1)

/-- Stage-1 values beyond 110 % of the full scale then in force within the filter window, which is twice the group delay
long, make a sample CLIPPED (R101, R113). -/
def clippedAt (s : State) (ch : Fin 64) (out : Nat) (m : SampleIn) : Bool :=
  (List.range (2 * groupDelay s.cfg.active ch.val / stage1Ns)).any (fun j =>
    decide (11 / 10 < monitorReading s ch out m j))

-- the auxiliary path
/-- V_REF by the auxiliary path in microvolts: the mean over the latest output period, in the direction of the chopping
cycle, of what is not held out (R134; log 54). -/
def auxRef (s : State) (ch out : Nat) (m : SampleIn) : Rat :=
  let cyc := chopOf s ch
  let at_ := (List.range (samplePeriod s.cfg.active ch / modulatorNs)).filter (fun k => !heldOut cyc.1 cyc.2 (clockAt out k))
  10 ^ 6 * meanR (at_.map (fun k => chopSign cyc.1 cyc.2 (clockAt out k) * Wave.ofList m.ref k))

/-- Milliohms of a voltage in microvolts over a current in units of 10 uA. -/
def milliohms (v i : Rat) : Rat := 100 * v / i

/-- Current that V_REF and Z are formed with: the one that the source of the channel is programmed to (R76, R134). -/
def checkCurrent (c : CfgMap) (ch : Nat) : Rat :=
  match boundSource c ch with
  | some k => (wordCurrent (excWord c k.val) : Rat)
  | none => 0

-- one output sample
/-- What a channel makes of its inputs for one output sample: amplitude, ratio or voltage and phase in the units of the
sample word (R105 to R108), V_REF over the programmed source current in milliohms (R134), CLIPPED (R113), the peak of
the last millisecond (R114) and the overload condition (R114). -/
structure StageOut where
  a : Int
  p : Int
  vref : Rat
  clipped : Bool
  peak : Rat
  overload : Bool

/-- Stages 1 to 8 at an output instant (R99). -/
def stageOut (s : State) (ch : Fin 64) (out : Nat) (m : SampleIn) : StageOut :=
  let i := inPhase s ch out m
  let q := quadrature s ch out m
  { a := if chInductive s.cfg.active ch.val then envelopeAmp i q else bridgeValue s ch out m
    p := if chInductive s.cfg.active ch.val then envelopePhase i q else 0
    vref := milliohms (auxRef s ch.val out m) (checkCurrent s.cfg.active ch.val)
    clipped := clippedAt s ch out m
    peak := peakAt s ch out m
    overload := overloadAt s ch out m }

-- the guard's measurements
/-- An angle in units of 0.01 degrees, brought between -180 and 180 degrees. -/
def wrapCenti (p : Rat) : Rat := p - 36000 * (((p + 18000) / 36000).floor : Rat)

/-- One component of a tone of V_REF: the mean of twice its product with the tone, in the direction of the chopping
cycle, over the 5.0 ms after the ramp; what is held out does not enter (R138). The samples of the auxiliary path come
with their time since the injection began. -/
def toneComponent (s : State) (ch : Fin 64) (quarter : Rat) (v : List (Nat × Rat)) : Rat :=
  let cyc := chopOf s ch.val
  let begin_ := (s.ch.get ch).injFrom.getD 0
  let used := v.filter (fun e => decide (toneRampNs ≤ e.1) && decide (e.1 < toneRampNs + toneLengthNs)
    && !heldOut cyc.1 cyc.2 (begin_ + e.1))
  meanR (used.map (fun e =>
    2 * chopSign cyc.1 cyc.2 (begin_ + e.1) * e.2 * cosT (toneTurns s.cfg.active ch.val e.1 - quarter)))

/-- Z = V_tone / I_tone as magnitude in milliohms and phase in units of 0.01 degrees, with the tone current that the
guard injects (R138). -/
def toneZ (s : State) (ch : Fin 64) (v : List (Nat × Rat)) : Rat × Rat :=
  let i := toneComponent s ch 0 v
  let q := toneComponent s ch (1 / 4) v
  (milliohms (rootR (i ^ 2 + q ^ 2)) (checkCurrent s.cfg.active ch.val / 20), wrapCenti (36000 * Config.angle i (-q)))

/-- Envelope samples that point k of a resonance check averages: those in the last 0.4 ms of its 1.0 ms, of the samples
given by time since the injection began, amplitude and phase (R140). -/
def pointSamples (k : Nat) (l : List (Nat × Rat × Rat)) : List (Rat × Rat) :=
  (l.filter (fun e => decide (k * pointNs + us 600 ≤ e.1) && decide (e.1 < (k + 1) * pointNs))).map (fun e => e.2)

/-- Z_k of one point: the mean over its envelope samples of V_SIG over the source current, as magnitude in
milliohms and phase (R140; log 35). `i` is the programmed peak of the carrier, units of 10 uA. -/
def pointZ (i : Rat) (samples : List (Rat × Rat)) : Rat × Rat :=
  (meanR (samples.map (fun x => milliohms x.1 i)), meanR (samples.map (fun x => x.2)))

/-- The five points of a resonance check (R140). -/
def resonancePoints (s : State) (ch : Fin 64) (l : List (Nat × Rat × Rat)) : List (Rat × Rat) :=
  (List.range 5).map (fun k => pointZ (checkCurrent s.cfg.active ch.val) (pointSamples k l))

end Sys2Proof.Machine
end

