-- ==== Sys2Proof/Machine/Groups.lean ====
section
/-! DEFINITION. Passage groups and their fingerprints (R261 to R263, R271), and what the tracker hands
to Tally (R19, R251). -/

namespace Sys2Proof.Machine

/-- Hand a tracker result to Tally (R19). -/
def State.toTally (s : State) (x : TallyItem) : State :=
  { s with tally := { s.tally with inbox := s.tally.inbox ++ [x] } }

/-- Spacing of consecutive members in mm (R262); 50,000 counts of the grid are 1 s. -/
def spacingMm (a b : GroupMember) : Rat :=
  (gridSince b.exitTime a.exitTime : Rat) * ((a.exitSpeed.natAbs + b.exitSpeed.natAbs : Nat) : Rat) / 100000

/-- S_i: number of signature codes at or above 48 (R189, R263). -/
def sigHigh (signature : Nat) : Nat :=
  ((List.range 16).filter (fun i => field (signature / 65536) (6 * i + 5) (6 * i) ≥ 48)).length

/-- L_i of a member (R263). -/
def loadCode (m : GroupMember) : Nat :=
  match m.load with
  | some l => satU 8 (roundAway ((l : Rat) / 100))
  | none => 0

/-- G_i: the spacings of a list of members (R263). -/
def gapCodes : List GroupMember → List Nat
  | a :: b :: rest => satU 16 (roundAway (spacingMm a b / 200)) :: gapCodes (b :: rest)
  | _ => []

def axleBytes (m : GroupMember) : List Byte := leBytes 1 (loadCode m) ++ leBytes 1 (sigHigh m.signature)

/-- The forward string of a group, from its axles and its gaps (R263). -/
def groupString (ms : List GroupMember) (gaps : List Nat) : List Byte :=
  leBytes 1 ms.length ++ ms.flatMap axleBytes ++ gaps.flatMap (leBytes 2)

/-- The smaller of two strings of one length, compared byte by byte. -/
def lexLe : List Byte → List Byte → Bool
  | [], _ => true
  | _, [] => false
  | a :: as, b :: bs => if a.toNat < b.toNat then true else if b.toNat < a.toNat then false else lexLe as bs

/-- Fingerprint of a closed group (R263). -/
def fingerprint (ms : List GroupMember) : Nat :=
  let g := gapCodes ms
  let f := groupString ms g
  let r := groupString ms.reverse g.reverse
  crc64 (if lexLe f r then f else r)

/-- STEADY: every |EXIT_SPEED| lies within 10 % of the group's mean (R262). -/
def groupSteady (ms : List GroupMember) : Bool :=
  let total := ms.foldl (fun acc m => acc + m.exitSpeed.natAbs) 0
  let n := ms.length
  ms.all (fun m => decide (10 * n * m.exitSpeed.natAbs ≥ 9 * total)
    && decide (10 * n * m.exitSpeed.natAbs ≤ 11 * total))

/-- LAST_GROUP of a closed group (R271). -/
def groupInfo (h : Fin 32) (g : Group) : GroupInfo :=
  let first := g.members.head?
  let last := g.members.getLast?
  { head := h, steady := groupSteady g.members, loadsValid := g.members.all (fun m => m.load.isSome)
    neg := g.neg, number := g.number, n := g.members.length, fingerprint := fingerprint g.members
    firstExit := first.elim 0 (fun m => m.exitTime), lastExit := last.elim 0 (fun m => m.exitTime)
    firstAxle := first.elim 0 (fun m => m.axleId), lastAxle := last.elim 0 (fun m => m.axleId) }

/-- Close the open group of a head, publish it and pass it on (R261). -/
def State.closeGroup (s : State) (h : Fin 32) : State :=
  match s.trk.groups.get h with
  | none => s
  | some g =>
    let info := groupInfo h g
    ({ s with trk := { s.trk with groups := s.trk.groups.put h none, lastGroup := info } }).toTally
      (.group info)

/-- The verdict may join an open group: same direction, fewer than 255 axles, spacing within
GROUP_GAP, which is in 1/16 mm (R261). -/
def joins (c : CfgMap) (g : Group) (neg : Bool) (m : GroupMember) : Bool :=
  g.neg == neg && decide (g.members.length < 255)
    && (match g.members.getLast? with
        | some a => decide (spacingMm a m * 16 ≤ (groupGap c : Rat))
        | none => true)

/-- A FULL verdict joins the open group of its head or opens a new one (R261); the second part of the
answer is the group's number. -/
def State.joinGroup (s : State) (h : Fin 32) (neg : Bool) (m : GroupMember) : State × Nat :=
  let fresh (s : State) : State × Nat :=
    let n := s.trk.nextGroup
    ({ s with trk := { s.trk with
        groups := s.trk.groups.put h (some { number := n, neg := neg, members := [m] })
        nextGroup := if n ≥ 65535 then 1 else n + 1 } }, n)
  match s.trk.groups.get h with
  | none => fresh s
  | some g =>
    if joins s.cfg.active g neg m then
      ({ s with trk := { s.trk with
          groups := s.trk.groups.put h (some { g with members := g.members ++ [m] }) } }, g.number)
    else fresh (s.closeGroup h)

/-- The instant, on the 20 us grid, until which a further member may join (R261): GROUP_GAP over the
last member's speed, at least 100 mm/s, after its exit instant. -/
def groupUntil (c : CfgMap) (g : Group) : Rat :=
  match g.members.getLast? with
  | some m => (m.exitTime : Rat)
      + (groupGap c : Rat) / 16 * 50000 / ((Nat.max m.exitSpeed.natAbs 100 : Nat) : Rat)
  | none => 0

/-- GROUP_GAP_TIMEOUT: the group closes when its time has passed. The clock moves to that instant if
it is not there yet (R261; log 1). -/
def groupTimeout (h : Fin 32) (s : State) : State :=
  match s.trk.groups.get h with
  | none => s
  | some g =>
    match g.members.getLast? with
    | none => s.closeGroup h
    | some m =>
      let left := (groupUntil s.cfg.active g - (m.exitTime : Rat)) * gridNs
      let since := gridSince (gridTime s) m.exitTime * gridNs
      (s.reach (s.now + (left.ceil.toNat - since))).closeGroup h

def execGroupGapTimeout (h : Fin 32) (s : State) : Host.Outcome State Fault Refusal :=
  run s fun s => s.whenAlive (groupTimeout h)

end Sys2Proof.Machine
end

