-- ==== Sys2Proof/Machine/Approach.lean ====
section
/-! DEFINITION. Track geometry: where heads lie in the sections they bound, prediction windows, the
heads that an entry can reach, approach distances and gaps (R203 to R206, R255 to R258, R260). -/

namespace Sys2Proof.Machine

/-- POS of a head in a section (R255). -/
def posOf (c : CfgMap) (n h : Nat) : Int :=
  match (crossings c n).find? (fun x => x.head == h) with
  | some x => trackPos c n x.k
  | none => 0

/-- Ends of a head's sensing length in a section (R162, R255). -/
def senLo (c : CfgMap) (n h : Nat) : Rat := (posOf c n h : Rat) - 3 * (headW c h : Rat) / 2
def senHi (c : CfgMap) (n h : Nat) : Rat :=
  (posOf c n h : Rat) + (headD c h : Rat) + 3 * (headW c h : Rat) / 2

/-- A confirmed entry (R245). -/
def confirmedEntry (e : Entry) : Bool := e.st == .running || e.st == .atHead || e.st == .parked

/-- Heads that an entry can reach ahead (R257). -/
def reachAhead (c : CfgMap) (e : Entry) : List Nat :=
  match e.sec with
  | none => []
  | some n =>
    ((crossings c n.val).filter (fun x => headType c x.head == headType c e.head.val
      && (if e.neg then decide (senHi c n.val x.head < (e.origin : Rat))
          else decide ((e.origin : Rat) < senLo c n.val x.head)))).map (fun x => x.head)

/-- V_CAP in mm/s: the largest VMAX among the section's heads, in 0.1 m/s (R256). -/
def vCap (c : CfgMap) (n : Nat) : Nat :=
  (crossings c n).foldl (fun acc x => Nat.max acc (headVmax c x.head)) 0 * 100

/-- Speeds of the front and rear edge, in 1/16 mm per second (R256). -/
def frontSpeed (c : CfgMap) (e : Entry) (n : Nat) : Rat :=
  16 * minR ((e.speed.natAbs : Rat) * (100 + (trackTol c n : Rat)) / 100) (vCap c n : Rat)

def rearSpeed (c : CfgMap) (e : Entry) (n : Nat) : Rat :=
  16 * ((e.speed.natAbs : Rat) * (100 - (trackTol c n : Rat)) / 100)

/-- Clamp to the extent of the section's track (R256). -/
def clampRun (c : CfgMap) (n : Nat) (x : Rat) : Rat :=
  maxR (trackRunMin c n : Rat) (minR (trackRunMax c n : Rat) x)

/-- Seconds since the window started (R256). -/
def windowAge (now : Nat) (e : Entry) : Rat := ((now - e.startAt : Nat) : Rat) / 1000000000

/-- Edges of a window at an instant: rear and front (R256). -/
def edgesAt (c : CfgMap) (now : Nat) (e : Entry) (n : Nat) : Rat × Rat :=
  let t := windowAge now e
  let half := (trackHalf c n : Rat)
  let f := frontSpeed c e n * t + half
  let r := rearSpeed c e n * t - half
  if e.neg then (clampRun c n ((e.origin : Rat) - r), clampRun c n ((e.origin : Rat) - f))
  else (clampRun c n ((e.origin : Rat) + r), clampRun c n ((e.origin : Rat) + f))

/-- Bring an entry's edges to an instant; a stopped window stays (R256, R258). DESIGN CHOICE (log 27): the window of an
entry that was PARKED when it was claimed stays at its last place while the entry is AT_HEAD, since R258 stops it and
R245 lets an AT_HEAD window advance under R256. -/
def Entry.advance (c : CfgMap) (now : Nat) (e : Entry) : Entry :=
  match e.st, e.sec with
  | .running, some n | .atHead, some n =>
    if e.halted then e
    else { e with rear := roundAway (edgesAt c now e n.val).1, front := roundAway (edgesAt c now e n.val).2 }
  | _, _ => e

/-- Lower and upper end of a window. -/
def winLo (e : Entry) : Int := if e.neg then e.front else e.rear
def winHi (e : Entry) : Int := if e.neg then e.rear else e.front

/-- Approach distance of a window to a head of its section (R204). -/
def approachTo (c : CfgMap) (e : Entry) (n h : Nat) : Rat :=
  maxR 0 (maxR (senLo c n h - (winHi e : Rat)) ((winLo e : Rat) - senHi c n h))

/-- The Bellringer considers an entry at a head (R203). -/
def considered (c : CfgMap) (e : Entry) (h : Nat) : Bool :=
  confirmedEntry e && (e.head.val == h || (reachAhead c e).contains h)

/-- Approach distance of an entry to a head, none when it is not considered there. A PROVISIONAL
entry stands on its own head (R203). -/
def entryApproach (c : CfgMap) (e : Entry) (h : Nat) : Option Rat :=
  if e.st == .provisional then (if e.head.val == h then some 0 else none)
  else if considered c e h then
    (match e.sec with
     | some n => some (approachTo c e n.val h)
     | none => none)
  else none

/-- The smaller of two optional numbers. -/
def minOpt (a b : Option Rat) : Option Rat :=
  match a, b with
  | some x, some y => some (minR x y)
  | some x, none => some x
  | none, y => y

/-- APPROACH of a head (R204), none with no considered entry. -/
def headApproach (s : State) (h : Fin 32) : Option Rat :=
  (allFin 128).foldl (fun acc i => minOpt acc (entryApproach s.cfg.active (s.trk.entries.get i) h.val)) none

/-- Seconds until the projected window of an entry comes within GUARD_DIST of a head; none when it
never does (R206). Only a moving front edge that runs towards the head can. -/
def entryGap (c : CfgMap) (e : Entry) (h : Nat) : Option Rat :=
  match e.sec with
  | none => none
  | some n =>
    if considered c e h && !e.halted && (e.st == .running || e.st == .atHead) then
      let gd := (guardDist c h : Rat)
      let v := frontSpeed c e n.val
      let target : Rat := if e.neg then senHi c n.val h + gd else senLo c n.val h - gd
      let ahead : Rat := if e.neg then (e.front : Rat) - target else target - (e.front : Rat)
      let inRun : Bool := if e.neg then decide ((trackRunMin c n.val : Rat) ≤ target)
        else decide (target ≤ (trackRunMax c n.val : Rat))
      if decide (0 < ahead) && decide (0 < v) && inRun then some (ahead / v) else none
    else none

/-- GAP of a FREE head in ns (R206). -/
def headGap (s : State) (h : Fin 32) : Option Nat :=
  match (allFin 128).foldl (fun acc i => minOpt acc (entryGap s.cfg.active (s.trk.entries.get i) h.val)) none with
  | some t => some (t * 1000000000).floor.toNat
  | none => none

/-- An axle is within the guard distance of a head (R205). -/
def axleNear (s : State) (h : Fin 32) : Bool :=
  anySlot (s.head.get h) || (match headApproach s h with
    | some a => decide (a ≤ (guardDist s.cfg.active h.val : Rat))
    | none => false)

/-- A tracker entry places a flange within the sensing length of a head (R173). -/
def windowOver (s : State) (h : Fin 32) : Bool :=
  (allFin 128).any (fun i => match entryApproach s.cfg.active (s.trk.entries.get i) h.val with
    | some a => decide (a = 0)
    | none => false)

/-- Entries tracked on a section (R260). -/
def trackedOn (s : State) (n : Fin 48) : Nat :=
  (allFin 128).foldl (fun acc i =>
    let e := s.trk.entries.get i
    acc + b2n (confirmedEntry e && e.sec == some n)) 0

/-- UNTRACKED of a section (R260). -/
def untrackedOf (s : State) (n : Fin 48) : Nat := (s.sect.get n).count - trackedOn s n

/-- The WRE treats a head as OPEN = 1 (R164, R174, R260). -/
def treatedOpen (s : State) (h : Fin 32) : Bool :=
  let c := s.cfg.active
  let bad (n : Option (Fin 48)) : Bool := match n with
    | some n => (s.sect.get n).st == .disturbed || untrackedOf s n != 0
    | none => false
  headOpen c h.val || s.trk.full || bad (sideSection c h.val false) || bad (sideSection c h.val true)

end Sys2Proof.Machine
end

