-- ==== Sys2Proof/Machine/Fit.lean ====
section
/-! DEFINITION. The WRE's arithmetic: deviations from the baselines, the template fit and SEARCH
(R165 to R171). Exact rational arithmetic, each result of a sample rounded to 2^-20 (log 10). -/

namespace Sys2Proof.Machine

/-- Rounding of a fitted quantity (log 10). -/
def q20 (x : Rat) : Rat := (roundAway (x * 1048576) : Rat) / 1048576

/-- Pi for the phase deviations (R167). -/
def piR : Rat := 3141592653589793 / 1000000000000000

/-- A phase in the units of the sample word, in radians (R105, R167). -/
def phaseRad (p : Int) : Rat := (p : Rat) * piR / 8388608

/-- The sample period of a head (R170). -/
def headPeriod (c : CfgMap) (h : Nat) : Nat := if headStrip c h then us 100 else us 20

/-- The two systems as one known sample of the head gives them: amplitude and phase deviations and
weights (R167, R169). -/
structure Env where
  a1 : Rat
  p1 : Rat
  m1 : Rat
  a2 : Rat
  p2 : Rat
  m2 : Rat
  phased : Bool
  deriving DecidableEq, Repr

/-- Amplitude deviation (R167). -/
def devA (strip : Bool) (v base : Int) : Rat :=
  if strip then ((v - base : Int) : Rat) / 8388608 else ((v - base : Int) : Rat) / (base : Rat)

def envOf (c : CfgMap) (h : Nat) (b : Baselines) (s1 s2 : HeadSample) : Env :=
  let st := headStrip c h
  { a1 := devA st s1.val b.a1, p1 := if st then 0 else phaseRad (s1.phase - b.p1), m1 := s1.weight
    a2 := devA st s2.val b.a2, p2 := if st then 0 else phaseRad (s2.phase - b.p2), m2 := s2.weight
    phased := !st }

/-- Spacing of template points in 1/16 mm (R165). -/
def tplStep (c : CfgMap) (h : Nat) : Rat := 3 * (headW c h : Rat) / 64

/-- Template value and slope at u, from its point values (R165): linear between points, 0 beyond. -/
def tplAt (c : CfgMap) (h : Nat) (pt : Nat → Int) (u : Rat) : Rat × Rat :=
  let d := tplStep c h
  let x := u / d + 32
  let i := x.floor
  if x < 0 ∨ 64 < x ∨ d = 0 then (0, 0)
  else
    let k := if i ≥ 64 then 63 else i.toNat
    let lo : Rat := (pt k : Rat) / 16384
    let hi : Rat := (pt (k + 1) : Rat) / 16384
    (lo + (hi - lo) * (x - (k : Rat)), (hi - lo) / d)

/-- One row of the fit: weight, template value, slope, measured deviation. -/
structure FitRow where
  m : Rat
  t : Rat
  dt : Rat
  d : Rat
  deriving DecidableEq, Repr

/-- The rows of a head at a position (R170). -/
def fitRows (c : CfgMap) (h : Nat) (x : Env) (s : Rat) : List FitRow :=
  let u1 := s - centreOf c h 1
  let u2 := s - centreOf c h 2
  let row (m d : Rat) (v : Rat × Rat) : FitRow := { m := m, t := v.1, dt := v.2, d := d }
  let amp := [row x.m1 x.a1 (tplAt c h (templateA c h 1) u1), row x.m2 x.a2 (tplAt c h (templateA c h 2) u2)]
  if x.phased then
    amp ++ [row x.m1 x.p1 (tplAt c h (templateP c h 1) u1), row x.m2 x.p2 (tplAt c h (templateP c h 2) u2)]
  else amp

def sumR (l : List FitRow) (f : FitRow → Rat) : Rat := l.foldl (fun acc r => acc + f r) 0

/-- Take the modelled contribution of the other wheel out of the measured deviations (R170, OTHER). -/
def withoutOther (c : CfgMap) (h : Nat) (x : Env) : Option (Rat × Rat) → Env
  | none => x
  | some (so, go) =>
    let t (k : Nat) (f : Nat → Int) : Rat := go * (tplAt c h f (so - centreOf c h k)).1
    { x with
      a1 := x.a1 - t 1 (templateA c h 1), a2 := x.a2 - t 2 (templateA c h 2)
      p1 := if x.phased then x.p1 - t 1 (templateP c h 1) else x.p1
      p2 := if x.phased then x.p2 - t 2 (templateP c h 2) else x.p2 }

/-- One round of the fit: 2 by 2 least squares with the step limit of 4 mm (R170). -/
def fitRound (c : CfgMap) (h : Nat) (x : Env) (sg : Rat × Rat) : Rat × Rat :=
  let rows := fitRows c h x sg.1
  let g := sg.2
  let h11 := sumR rows (fun r => r.m * (g * r.dt) * (g * r.dt))
  let h12 := sumR rows (fun r => r.m * (g * r.dt) * r.t)
  let h22 := sumR rows (fun r => r.m * r.t * r.t)
  let b1 := sumR rows (fun r => r.m * (g * r.dt) * (r.d - g * r.t))
  let b2 := sumR rows (fun r => r.m * r.t * (r.d - g * r.t))
  let det := h11 * h22 - h12 * h12
  if det = 0 then sg
  else
    let ds := maxR (-64) (minR 64 ((b1 * h22 - b2 * h12) / det))
    let dg := (h11 * b2 - h12 * b1) / det
    (q20 (sg.1 + ds), q20 (g + dg))

/-- Square of the residual e (R170): the residuals r at (s, g), over the final gain. -/
def residual2 (c : CfgMap) (h : Nat) (x : Env) (s g gain : Rat) : Rat :=
  let rows := fitRows c h x s
  let w := sumR rows (fun r => r.m)
  let r2 := sumR rows (fun r => r.m * (r.d - g * r.t) * (r.d - g * r.t))
  let top := maxR (absR gain) ((headGOpen c h : Rat) / 65536)
  if w = 0 then 0 else r2 / w / (top * top)

/-- A square residual exceeds E_MAX (R172). -/
def aboveEMax (c : CfgMap) (h : Nat) (e2 : Rat) : Bool :=
  let m : Rat := (headEMax c h : Rat) / 256
  decide (m * m < e2)

/-- Opening gain (R197). -/
def gOpen (c : CfgMap) (h : Nat) : Rat := (headGOpen c h : Rat) / 65536

/-- The fit of one slot on one known sample: position, gain and square residual. The residuals are
those that the third pass forms, before its step (R170). -/
def fitSlot (c : CfgMap) (h : Nat) (x : Env) (sp g : Rat) (other : Option (Rat × Rat)) : Rat × Rat × Rat :=
  let x1 := withoutOther c h x other
  let q := fitRound c h x1 (fitRound c h x1 (sp, g))
  let r := fitRound c h x1 q
  (r.1, r.2, residual2 c h x1 q.1 q.2 r.2)

/-- SEARCH's fit of g alone at one position: gain and square residual (R171). -/
def fitGain (c : CfgMap) (h : Nat) (x : Env) (s : Rat) : Rat × Rat :=
  let rows := fitRows c h x s
  let h22 := sumR rows (fun r => r.m * r.t * r.t)
  let g := if h22 = 0 then 0 else q20 (sumR rows (fun r => r.m * r.t * r.d) / h22)
  (g, residual2 c h x s g g)

/-- Candidate positions of SEARCH (R171): a grid of W/32 over both outer bands, or over the whole
sensing length. -/
def searchGrid (c : CfgMap) (h : Nat) (whole : Bool) : List Rat :=
  let w := (headW c h : Rat)
  let d := (headD c h : Rat)
  let lo := -(3 * w / 2)
  if whole then
    let n := if headW c h = 0 then 0 else ((headD c h + 3 * headW c h) * 32 / headW c h)
    (List.range (n + 1)).map (fun (j : Nat) => lo + (j : Rat) * w / 32)
  else
    (List.range 16).map (fun (j : Nat) => lo + (j : Rat) * w / 32)
      ++ (List.range 16).map (fun (j : Nat) => d + w + ((j : Rat) + 1) * w / 32)

/-- The best candidate of a list of positions: the smallest residual among those with
|g| >= G_OPEN and e <= E_MAX, the first of equals (R171). -/
def bestOf (c : CfgMap) (h : Nat) (x : Env) : List Rat → Option (Rat × Rat × Rat)
  | [] => none
  | s :: rest =>
    let r := fitGain c h x s
    let here : Option (Rat × Rat × Rat) :=
      if gOpen c h ≤ absR r.1 && !aboveEMax c h r.2 then some (s, r.1, r.2) else none
    match here, bestOf c h x rest with
    | none, b => b
    | some a, none => some a
    | some a, some b => if a.2.2 ≤ b.2.2 then some a else some b

/-- SEARCH finds |g| >= G_OPEN somewhere on its grid (R172). -/
def searchFinds (c : CfgMap) (h : Nat) (x : Env) (grid : List Rat) : Bool :=
  grid.any (fun s => decide (gOpen c h ≤ absR (fitGain c h x s).1))

/-- The zones of a head overlap (R162). -/
def overlapping (c : CfgMap) (h : Nat) : Bool := decide (2 * headW c h > headD c h)

/-- Region of a position by the plain boundaries of R162. The bound between Z1 and M belongs to M
where the zones overlap and to Z1 where they are separated; Z2 mirrors Z1. -/
def regionOf (c : CfgMap) (h : Nat) (s : Rat) : Region :=
  let w := (headW c h : Rat)
  let d := (headD c h : Rat)
  if s < -w then .sideA
  else if d + w < s then .sideB
  else if overlapping c h then
    if s < d - w then .z1 else if s ≤ w then .mid else .z2
  else if s ≤ w then .z1 else if s < d - w then .mid else .z2

def regionIdx : Region → Nat
  | .sideA => 0
  | .z1 => 1
  | .mid => 2
  | .z2 => 3
  | .sideB => 4

def regionAt : Nat → Region
  | 0 => .sideA
  | 1 => .z1
  | 2 => .mid
  | 3 => .z2
  | _ => .sideB

/-- Inside the head: Z1, M or Z2. -/
def regionIn (r : Region) : Bool := r != .sideA && r != .sideB

/-- A region lies in the zone of system k (R162). -/
def regionZone (c : CfgMap) (h k : Nat) (r : Region) : Bool :=
  match r with
  | .z1 => k == 1
  | .z2 => k == 2
  | .mid => overlapping c h
  | .sideA | .sideB => false

/-- Lower boundary of region i, 1 to 4 (R162). -/
def boundary (c : CfgMap) (h i : Nat) : Rat :=
  let w := (headW c h : Rat)
  let d := (headD c h : Rat)
  if i = 1 then -w else if i = 2 then minR (d - w) w else if i = 3 then maxR (d - w) w else d + w

end Sys2Proof.Machine
end

