-- ==== Sys2Proof/Machine/Capture.lean ====
section
/-! DEFINITION. Template capture (R192): when a traversal is captured, and the bytes of the two
templates. -/

namespace Sys2Proof.Machine

/-- The speed of a capture stays between 0.2 and 3.0 m/s and within 10 % of its mean (R192). -/
def captureSteady (l : List CaptureSample) : Bool :=
  let n : Rat := (l.length : Rat)
  let mean := if l.isEmpty then 0 else (l.foldl (fun acc x => acc + absR x.v) 0) / n
  l.all (fun x => decide (3200 ≤ absR x.v) && decide (absR x.v ≤ 48000)
    && decide (absR (absR x.v - mean) * 10 ≤ mean))

/-- Sample with the largest amplitude deviation. -/
def extremeOf (f : CaptureSample → Rat) : List CaptureSample → Option CaptureSample
  | [] => none
  | x :: xs => match extremeOf f xs with
    | some y => if absR (f y) ≤ absR (f x) then some x else some y
    | none => some x

/-- Value at an instant, linear between samples in time order, the end values beyond them (log 33). -/
def valueAtTime (f : CaptureSample → Rat) (t : Rat) : List CaptureSample → Rat
  | [] => 0
  | [a] => f a
  | a :: b :: rest =>
    if t ≤ (a.at_ : Rat) then f a
    else if t ≤ (b.at_ : Rat) then
      f a + (f b - f a) * (t - (a.at_ : Rat)) / ((b.at_ : Rat) - (a.at_ : Rat))
    else valueAtTime f t (b :: rest)

/-- The 260 bytes of one captured template (R165, R192). `v` is in 1/16 mm per ns. -/
def capturedTemplate (c : CfgMap) (h : Nat) (l : List CaptureSample) (fa fp : CaptureSample → Rat)
    (tk v : Rat) (top : Rat) : Nat :=
  let word (f : CaptureSample → Rat) (i : Nat) : Nat :=
    let u : Rat := ((i : Rat) - 32) * tplStep c h
    ofSigned 16 (satS 16 (roundAway (valueAtTime f (tk + u / v) l / top * 16384)))
  (List.range 65).foldl (fun acc i => acc + at8 (2 * i) (word fa i) + at8 (130 + 2 * i) (word fp i)) 0

/-- The samples of a capture that lie within the head. -/
def insideHead (c : CfgMap) (h : Nat) (l : List CaptureSample) : List CaptureSample :=
  l.filter (fun x => decide (boundary c h 1 ≤ x.s) && decide (x.s ≤ boundary c h 4))

/-- The traversal reaches both zones of the head (R192). -/
def reachesBoth (c : CfgMap) (h : Nat) (l : List CaptureSample) : Bool :=
  l.any (fun x => inZone c h 1 x.s) && l.any (fun x => inZone c h 2 x.s)

/-- Write CAPTURE when the traversal meets R192. `l` is in time order. -/
def Head.tryCapture (c : CfgMap) (h : Nat) (l : List CaptureSample) (hd : Head) : Head :=
  match extremeOf (fun x => x.dA1) l, extremeOf (fun x => x.dA2) l with
  | some x1, some x2 =>
    let t1 : Rat := (x1.at_ : Rat)
    let t2 : Rat := (x2.at_ : Rat)
    if reachesBoth c h (insideHead c h l) && captureSteady (insideHead c h l)
        && x1.at_ != x2.at_ && x1.dA1 != 0 && x2.dA2 != 0 then
      let v := (headD c h : Rat) / (t2 - t1)
      { hd with
        capture := capturedTemplate c h l (fun x => x.dA1) (fun x => x.dP1) t1 v (absR x1.dA1)
          + at8 260 (capturedTemplate c h l (fun x => x.dA2) (fun x => x.dP2) t2 v (absR x2.dA2))
        captureCmd := 2 }
    else hd
  | _, _ => hd

/-- A traversal of a slot has ended: while a capture is armed it is captured, unless one of its samples
was unknown or it began before the arming; the samples kept so far are dropped (R192). -/
def Head.endCapture (c : CfgMap) (h : Nat) (i : Fin 2) (void : Bool) (hd : Head) : Head :=
  match hd.captureCmd, hd.slots.get i with
  | 1, some sl =>
    let hd1 := { hd with slots := hd.slots.put i (some { sl with cap := [] }) }
    if void then hd1 else hd1.tryCapture c h sl.cap.reverse
  | _, _ => hd

/-- Keep the sample of a slot while a capture is armed (R192). -/
def Slot.keep (armed : Bool) (t1 : Nat) (e : Env) (sl : Slot) : Slot :=
  if armed then
    { sl with cap := { at_ := t1, s := sl.s, v := sl.v, dA1 := e.a1, dP1 := e.p1, dA2 := e.a2, dP2 := e.p2 } :: sl.cap }
  else sl

/-- No traversal that runs already is the next one to be captured (R192). -/
def Slot.voidCapture (sl : Slot) : Slot :=
  { sl with trav := sl.trav.map (fun t => { t with capVoid := true }) }

end Sys2Proof.Machine
end

