-- ==== Sys2Proof/Machine/Traversal.lean ====
section
/-! DEFINITION. Zone events, trigger points, traversals and their verdicts, axle load and signature
(R175 to R189, R200). -/

namespace Sys2Proof.Machine

/-- What the events of one sample are judged with. Instants are centre instants in ns (R100). -/
structure WreCtx where
  c : CfgMap
  h : Nat
  /-- The head is disturbed (R181). -/
  dist : Bool
  /-- A counting channel's sample has a weight below 1 (R169). -/
  reduced : Bool
  /-- The sample ends a bridged span (R173). -/
  bridged : Bool
  t0 : Nat
  t1 : Nat
  boot : Nat
  /-- LOAD_FAULT of the head (R151). -/
  loadFault : Bool
  /-- Number of free values drawn so far. -/
  fresh : Nat

/-- An instant in steps of the 20 us grid since boot, to the nearest (R175). -/
def gridSteps (boot : Nat) (t : Rat) : Nat := (roundAway ((t - (boot : Rat)) / 20000)).toNat

/-- An instant as a count of the 20 us grid, which wraps (R175, R200). -/
def gridOf (boot : Nat) (t : Rat) : Nat := gridSteps boot t % 2 ^ 32

/-- Interpolated instant at which a move from s0 to s1 reaches p (R175). -/
def crossTime (x : WreCtx) (s0 s1 p : Rat) : Rat :=
  let f := if s1 = s0 then 1 else maxR 0 (minR 1 ((p - s0) / (s1 - s0)))
  (x.t0 : Rat) + f * ((x.t1 : Rat) - (x.t0 : Rat))

inductive WheelEvent where
  | centre (k : Nat)
  | boundUp (i : Nat)
  | boundDown (i : Nat)
  deriving DecidableEq, Repr

/-- The events of a move with the positions at which they lie (R175): a boundary counts when it is
passed by 0.5 mm, a centre line on the change of sign. -/
def moveEvents (c : CfgMap) (h : Nat) (r : Region) (s0 s1 : Rat) : List (Rat × WheelEvent) :=
  let k := regionIdx r
  let bounds := [1, 2, 3, 4]
  let cents := [1, 2]
  if s0 ≤ s1 then
    (bounds.filter (fun i => decide (k < i) && decide (boundary c h i + 8 ≤ s1))).map
        (fun i => (boundary c h i + 8, WheelEvent.boundUp i))
      ++ (cents.filter (fun i => decide (s0 < centreOf c h i) && decide (centreOf c h i ≤ s1))).map
        (fun i => (centreOf c h i, WheelEvent.centre i))
  else
    (bounds.filter (fun i => decide (i ≤ k) && decide (s1 ≤ boundary c h i - 8))).map
        (fun i => (boundary c h i - 8, WheelEvent.boundDown i))
      ++ (cents.filter (fun i => decide (centreOf c h i ≤ s0) && decide (s1 < centreOf c h i))).map
        (fun i => (centreOf c h i, WheelEvent.centre i))

/-- Insert by position: rising for a forward move, falling for a backward one. -/
def evInsert (up : Bool) (e : Rat × WheelEvent) : List (Rat × WheelEvent) → List (Rat × WheelEvent)
  | [] => [e]
  | x :: xs =>
    if (if up then decide (e.1 < x.1) else decide (x.1 < e.1)) then e :: x :: xs else x :: evInsert up e xs

/-- The events of a move in order of position (R173, R175). -/
def eventsInOrder (c : CfgMap) (h : Nat) (r : Region) (s0 s1 : Rat) : List (Rat × WheelEvent) :=
  (moveEvents c h r s0 s1).foldl (fun acc e => evInsert (decide (s0 ≤ s1)) e acc) []

/-- Sixteen empty bins (R189). -/
def noBins : List Bin := List.replicate 16 {}

/-- Sign of a speed. -/
def signR (v : Rat) : Int := if 0 < v then 1 else if v < 0 then -1 else 0

/-- A traversal that begins from a side (R176). -/
def newTraversal (x : WreCtx) (side : Side) (v : Rat) (orphan : Bool) : Traversal :=
  { entry := side, orphan := orphan, reduced := x.reduced, bridged := x.bridged, capVoid := x.bridged, lastDir := signR v
    bins1 := noBins, bins2 := noBins }

/-- System of a side: A is system 1, B is system 2 (R177). -/
def sideSys : Side → Nat
  | .a => 1
  | .b => 2

/-- Code of a signature point (R189). -/
def binCode (peak : Rat) (b : Bin) : Nat :=
  if b.w = 0 then 0
  else if peak = 0 then 32
  else (clampI 1 63 (roundAway (b.sum / b.w / peak * 31) + 32)).toNat

/-- Square root on a grid of 2^-20. -/
def sqrtR (x : Rat) : Rat := (isqrt (x * 1099511627776).floor.toNat : Rat) / 1048576

/-- SIGNATURE (R189). -/
def signatureOf (bins : List Bin) (peak eSum : Rat) (eN : Nat) : Nat :=
  let e := if eN = 0 then 0 else eSum / (eN : Rat)
  let points := (bins.mapIdx (fun i b => binCode peak b * 64 ^ i)).foldl (· + ·) 0
  satU 8 (roundAway (peak * 256)) + 256 * satU 8 (roundAway (e * 256)) + 65536 * points

/-- Axle load of a FULL traversal in units of 10 kg, none when it is not valid (R185 to R187). -/
def loadOfTrav (c : CfgMap) (h : Nat) (b : Baselines) (loadFault : Bool) (l : LoadAcc) (t : Traversal) :
    Option Nat :=
  let ten (kg : Rat) : Nat := satU 16 (roundAway (kg / 10))
  if headStrip c h then
    if t.qn1 ≥ 4 && t.qn2 ≥ 4 && !t.qb1 && !t.qb2 && !loadFault then
      some (ten ((headLoadK c h : Rat) * (t.q1 + t.q2) / 2))
    else none
  else if headInductive c h && decide (headLoad c h < 64) then
    match b.load with
    | some lb =>
      if l.n ≥ 4 && !l.bad && !loadFault && l.w != 0 then
        some (ten ((headLoadK c h : Rat) * (l.sum / l.w - (lb : Rat)) / 8388608))
      else none
    | none => none
  else none

/-- SPEED of a traversal in mm/s, positive in the reference direction: D over the time between the
last crossings of the two centre lines (R182). A free value where no such time exists, which R182 leaves
open (log 5). -/
def travSpeed (x : WreCtx) (t : Traversal) : Int :=
  match t.cross1, t.cross2 with
  | some a, some b =>
    let dt : Int := (b : Int) - (a : Int)
    if dt = 0 then (Config.partialSpeed x.fresh).toInt
    else satS 32 (roundAway ((headD x.c x.h : Rat) / 16 * 50000 / (dt : Rat)))
  | _, _ => (Config.partialSpeed x.fresh).toInt

/-- Verdict of a traversal that ends at a side, none when it ends inside the head (R178, R179, R181). DESIGN CHOICE
(log 39): a traversal whose start was not seen and that ends while the head is disturbed meets both rows of R179, and
its verdict is ORPHAN. -/
def verdictOf (t : Traversal) (broken : Bool) (exit : Option Side) : Verdict :=
  if t.orphan then .orphan
  else if broken then .broken
  else match exit with
    | none => .broken
    | some side =>
      if side == t.entry then (if t.both then .retreat else .partialEntry)
      else if t.entry == .a then .fullPos else .fullNeg

def isFull (v : Verdict) : Bool := v == .fullPos || v == .fullNeg

/-- The verdict record of a traversal, without its number (R180, R200). -/
def verdictRec (x : WreCtx) (b : Baselines) (sl : Slot) (t : Traversal) (exit : Option Side)
    (broken : Bool) (exitTime : Nat) : VerdictRec :=
  let vd := verdictOf t broken exit
  let full := isFull vd
  { verdict := vd, exitTime := exitTime
    trigTime := if t.trigSent then t.trigTime else none
    reduced := t.reduced, bridged := t.bridged, dither := t.dither
    load := if full then loadOfTrav x.c x.h b x.loadFault sl.load t else none
    speed := travSpeed x t
    exitSpeed := speedMm sl.v
    signature :=
      if vd == .fullPos then signatureOf t.bins2 t.peak2 t.eSum2 t.eN2
      else if vd == .fullNeg then signatureOf t.bins1 t.peak1 t.eSum1 t.eN1 else 0
    seq := 0 }

/-- Count a verdict at its head and keep it as LAST_AXLE (R195). -/
def countVerdict (n : HeadCounts) (v : VerdictRec) : HeadCounts :=
  let m : HeadCounts := match v.verdict with
    | .fullPos => { n with fullPos := satInc32 n.fullPos }
    | .fullNeg => { n with fullNeg := satInc32 n.fullNeg }
    | .partialEntry => { n with partialEntry := satInc32 n.partialEntry }
    | .retreat => { n with retreat := satInc32 n.retreat }
    | .orphan | .broken => { n with broken := satInc32 n.broken }
    | .none => n
  { m with lastAxle := some v }

/-- Give a verdict its number and send it (R180, R200). -/
def Head.emit (hd : Head) (v : VerdictRec) : Head :=
  let seq := (hd.counts.seq + 1) % 65536
  let v1 : VerdictRec := { v with seq := seq }
  { hd with counts := { countVerdict hd.counts v1 with seq := seq }, out := hd.out ++ [.verdict v1] }

/-- Zone entries of a change of region restart the signature and the strip load of that zone; a bridged
span that held the entry spoils the load (R186, R187, R189). -/
def enterZones (x : WreCtx) (old new : Region) (t : Traversal) : Traversal :=
  let t1 := if regionZone x.c x.h 1 new && !regionZone x.c x.h 1 old then
      { t with bins1 := noBins, peak1 := 0, eSum1 := 0, eN1 := 0, q1 := 0, qn1 := 0, qb1 := x.bridged } else t
  if regionZone x.c x.h 2 new && !regionZone x.c x.h 2 old then
      { t1 with bins2 := noBins, peak2 := 0, eSum2 := 0, eN2 := 0, q2 := 0, qn2 := 0, qb2 := x.bridged } else t1

/-- Both zones were entered once the other system's zone has been reached (R178). -/
def markBoth (x : WreCtx) (r : Region) (t : Traversal) : Traversal :=
  if regionZone x.c x.h (3 - sideSys t.entry) r then { t with both := true } else t

/-- A wheel passes into a region (R175, R176, R180). The second part of the answer is the verdict. -/
def passInto (x : WreCtx) (b : Baselines) (time : Rat) (new : Region) (sl : Slot) : Slot × Option VerdictRec :=
  let old := sl.region
  match new with
  | .sideA | .sideB =>
    let side : Side := if new == .sideA then .a else .b
    match sl.trav with
    | some t => ({ sl with region := new, trav := none },
        some (verdictRec x b sl t (some side) x.dist (gridOf x.boot time)))
    | none => ({ sl with region := new }, none)
  | r =>
    let start : Option Traversal :=
      if old == .sideA then some (newTraversal x .a sl.v false)
      else if old == .sideB then some (newTraversal x .b sl.v false)
      else sl.trav
    ({ sl with region := r, trav := start.map (fun t => markBoth x r (enterZones x old r t)) }, none)

/-- A centre line is crossed (R175, R177). The second part of the answer is the trigger event. -/
def crossCentre (x : WreCtx) (k : Nat) (time : Rat) (sl : Slot) : Slot × Option WreMsg :=
  match sl.trav with
  | none => (sl, none)
  | some t =>
    let g := gridOf x.boot time
    let n := gridSteps x.boot time
    let t1 := if k = 1 then { t with cross1 := some n } else { t with cross2 := some n }
    let t2 := { t1 with reduced := t1.reduced || x.reduced }
    if k == sideSys t.entry && t.trigTime.isNone then
      let sent := !x.dist && !t.orphan
      ({ sl with trav := some { t2 with trigTime := some g, trigSent := sent }
                 trig := if sent then some g else sl.trig },
        if sent then some (.trigger (t.entry == .b) g) else none)
    else ({ sl with trav := some t2 }, none)

/-- Apply one event to a head's slot. -/
def applyEvent (x : WreCtx) (i : Fin 2) (s0 s1 : Rat) (hd : Head) (e : Rat × WheelEvent) : Head :=
  match hd.slots.get i with
  | none => hd
  | some sl =>
    let time := crossTime x s0 s1 e.1
    let into (r : Region) : Head :=
      let marked := { sl with trav := sl.trav.map (fun t => { t with reduced := t.reduced || x.reduced }) }
      let q := passInto x hd.base time r marked
      let hd1 := { hd with slots := hd.slots.put i (some q.1) }
      match q.2 with
      | some v => (hd1.emit v).endCapture x.c x.h i (sl.trav.any (fun t => t.capVoid))
      | none => hd1
    match e.2 with
    | .boundUp k => into (regionAt k)
    | .boundDown k => into (regionAt (k - 1))
    | .centre k =>
      let q := crossCentre x k time sl
      let hd1 := { hd with slots := hd.slots.put i (some q.1) }
      match q.2 with
      | some m => { hd1 with out := hd1.out ++ [m] }
      | none => hd1

/-- A direction reversal of the slot (R200 DITHER): the pass through a strip's zone restarts where the
contact is in that zone (R187). -/
def turnTrav (in1 in2 : Bool) (v : Rat) (t : Traversal) : Traversal :=
  let d := signR v
  if d = 0 || d = t.lastDir then t
  else if t.lastDir = 0 then { t with lastDir := d }
  else
    let t1 := { t with lastDir := d, dither := satInc 255 t.dither }
    let t2 := if in1 then { t1 with q1 := 0, qn1 := 0, qb1 := false } else t1
    if in2 then { t2 with q2 := 0, qn2 := 0, qb2 := false } else t2

/-- Add a sample to the bin of a zone (R189). -/
def binAdd (c : CfgMap) (h k : Nat) (s m d : Rat) (bins : List Bin) : List Bin :=
  let w := (headW c h : Rat)
  let i := ((s - centreOf c h k + w) * 8 / w).floor.toNat
  let j := if i ≥ 16 then 15 else i
  bins.mapIdx (fun n (b : Bin) => if n == j then { w := b.w + m, sum := b.sum + m * d } else b)

/-- Strip head: the other wheel's flange, or LOAD_FAULT, spoils a pass (R186, R187). -/
def stripAdd (x : WreCtx) (e : Env) (moved s : Rat) (other : Option Rat) (t : Traversal) : Traversal :=
  let metres := absR moved / 16000
  let bad (k : Nat) : Bool := x.loadFault || x.bridged
    || (match other with | some o => inZone x.c x.h k o | none => false)
  let t1 := if inZone x.c x.h 1 s then
      { t with q1 := t.q1 + e.a1 * metres, qn1 := t.qn1 + 1, qb1 := t.qb1 || bad 1 } else t
  if inZone x.c x.h 2 s then
      { t1 with q2 := t1.q2 + e.a2 * metres, qn2 := t1.qn2 + 1, qb2 := t1.qb2 || bad 2 } else t1

/-- A position lies in the load window of an inductive head (R185). -/
def inLoadWindow (c : CfgMap) (h : Nat) (s : Rat) : Bool :=
  decide (absR (s - (headLoadOff c h : Rat)) ≤ (headLoadHalf c h : Rat))

/-- Begin and end of the interval inside the load window, at a position (R185, R186). -/
def loadInterval (x : WreCtx) (b : Baselines) (s : Rat) (other : Option Rat) (l : LoadAcc) : LoadAcc :=
  let inside := inLoadWindow x.c x.h s
  let running := l.from_.isSome && l.to_.isNone
  let spoiled := x.loadFault || b.load.isNone
    || (match other with | some o => inLoadWindow x.c x.h o | none => false)
  if inside && running then { l with bad := l.bad || spoiled }
  else if inside then { from_ := some x.t1, bad := spoiled }
  else if running then { l with to_ := some x.t1 }
  else l

/-- The load window of a slot of an inductive head as its wheel stands; a strip head has none (R185, R187). -/
def Slot.followLoad (x : WreCtx) (b : Baselines) (other : Option Rat) (sl : Slot) : Slot :=
  if headStrip x.c x.h then sl else { sl with load := loadInterval x b sl.s other sl.load }

/-- A load channel's sample with its centre instant (R185, R186). -/
def loadSample (centre : Nat) (m : HeadSample) (l : LoadAcc) : LoadAcc :=
  match l.from_ with
  | none => l
  | some a =>
    let before := match l.to_ with
      | some b => decide (centre < b)
      | none => true
    if a ≤ centre && before then
      { l with n := l.n + 1, w := l.w + m.weight, sum := l.sum + m.weight * (m.val : Rat), bad := l.bad || !m.known }
    else l

/-- What a known sample adds to an open traversal (R182, R187, R189). -/
def travSample (x : WreCtx) (e : Env) (sl : Slot) (moved : Rat) (other : Option Rat)
    (t : Traversal) : Traversal :=
  let t0 := turnTrav (inZone x.c x.h 1 sl.s) (inZone x.c x.h 2 sl.s) sl.v t
  let err := sqrtR sl.e2
  let t1 := if inZone x.c x.h 1 sl.s then
      { t0 with bins1 := binAdd x.c x.h 1 sl.s e.m1 e.a1 t0.bins1, peak1 := maxR t0.peak1 (absR e.a1)
                eSum1 := t0.eSum1 + err, eN1 := t0.eN1 + 1 } else t0
  let t2 := if inZone x.c x.h 2 sl.s then
      { t1 with bins2 := binAdd x.c x.h 2 sl.s e.m2 e.a2 t1.bins2, peak2 := maxR t1.peak2 (absR e.a2)
                eSum2 := t1.eSum2 + err, eN2 := t1.eN2 + 1 } else t1
  if headStrip x.c x.h then stripAdd x e moved sl.s other t2 else t2

/-- Every open traversal of a slot ends at once, inside the head (R171, R181). -/
def breakSlot (x : WreCtx) (grid : Nat) (i : Fin 2) (hd : Head) : Head :=
  match hd.slots.get i with
  | none => hd
  | some sl =>
    match sl.trav with
    | none => hd
    | some t =>
      (({ hd with slots := hd.slots.put i (some { sl with trav := none }) }).emit
        (verdictRec x hd.base sl t none true grid)).endCapture x.c x.h i t.capVoid

end Sys2Proof.Machine
end

