-- ==== Sys2Proof/Machine/Wheel.lean ====
section
/-! DEFINITION. Wheel recognition of a head: disturbance and its end, following wheels from sample to
sample, unknown spans, SEARCH, the third wheel, and the rows SLOT_CLOSE, FIT_LOST, OVERSPEED and
WRE_CAUSE_CLEAR (R163, R169 to R174, R181, R190 to R192, R302). -/

namespace Sys2Proof.Machine

-- disturbance
/-- What the events of a head are judged with at the present state. -/
def wreCtx (s : State) (h : Fin 32) (reduced bridged : Bool) (t0 t1 k : Nat) : WreCtx :=
  { c := s.cfg.active, h := h.val, dist := headDisturbed s h, reduced := reduced, bridged := bridged
    t0 := t0, t1 := t1, boot := s.power.bootAt, loadFault := (s.hg.get h).loadFault, fresh := s.fresh + k }

/-- The head becomes disturbed: its open traversals end BROKEN and its passage group closes (R181,
R261). The grid count of the instant is the nearest (R506). -/
def State.breakHead (s : State) (h : Fin 32) : State :=
  let g := gridOf s.power.bootAt s.now
  let x (k : Nat) := wreCtx s h false false s.now s.now k
  let s1 := s.updHead h (fun hd => breakSlot (x 1) g 1 (breakSlot (x 0) g 0 hd))
  (s1.draw.draw).closeGroup h

/-- A slot is marked ORPHAN; inside the head, its traversal has no seen start (R171, R181). DESIGN CHOICE (log 39): a
wheel that is found inside the head, or stands there when a disturbance ends, has a traversal at once, with entry side A;
the disturbance that its ORPHAN cause makes ends it at once with the verdict ORPHAN. -/
def orphanSlot (x : WreCtx) (sl : Slot) : Slot :=
  { sl with
    orphan := true
    trav := match sl.trav with
      | some t => some { t with orphan := true }
      | none => if regionIn sl.region then some (newTraversal x .a sl.v true) else none }

/-- The head stops being disturbed: a slot still open is marked ORPHAN, which disturbs it again;
otherwise the next SEARCH covers the whole sensing length (R171, R181). -/
def State.settleHead (s : State) (h : Fin 32) : State :=
  let x := wreCtx s h false false s.now s.now 0
  s.updHead h (fun hd =>
    let hd1 := { hd with wholeSearch := true, cand := none }
    if anySlot hd then
      { hd1 with slots := Vector.map (Option.map (orphanSlot x)) hd1.slots
                 causes := { hd1.causes with orphan := true }, raised := true, quietFrom := none }
    else hd1)

/-- Keep the HEAD record of a change of a head's guard state, causes, TEST_STARVED or CLAIM_TIE for phase 6
(R145, R465). -/
def State.noteHead (s : State) (h : Fin 32) : State :=
  let x := s.head.get h
  let g := s.hg.get h
  let now : HeadShown := { gs := g.gs, causes := x.causes, starved := g.starved, claimTie := x.claimTie }
  let was := s.tally.shown.get h
  if now == was then s
  else
    let body := leBytes 1 h.val ++ leBytes 1 (gstateCode was.gs) ++ leBytes 1 (gstateCode g.gs)
      ++ leBytes 2 (headStatus s h) ++ leBytes 1 (b2n g.starved) ++ leBytes 1 (b2n x.claimTie)
    { s with tally := { s.tally with
        shown := s.tally.shown.put h now
        headIn := if headDefined s.cfg.active h.val then s.tally.headIn ++ [body] else s.tally.headIn } }

/-- Apply a change, note it for the HEAD record, and carry out what follows from the head's becoming
disturbed, or no longer being it. -/
def State.withDist (s : State) (h : Fin 32) (f : State → State) : State :=
  let s1 := (f s).noteHead h
  if headDisturbed s1 h && !headDisturbed s h then s1.breakHead h
  else if !headDisturbed s1 h && headDisturbed s h then (s1.settleHead h).noteHead h
  else s1

/-- Raise WRE causes (R190, R191). -/
def State.raiseWre (s : State) (h : Fin 32) (f : WreCauses → WreCauses) : State :=
  s.withDist h (fun s => s.updHead h (fun hd =>
    let k := f hd.causes
    { hd with causes := k, raised := hd.raised || k != hd.causes }))

/-- Raise CLAIM_TIE on a head (R249). -/
def State.raiseClaimTie (s : State) (h : Fin 32) : State :=
  s.withDist h (fun s => s.updHead h (fun hd => { hd with claimTie := true, raised := hd.raised || !hd.claimTie }))

-- unknown spans
/-- T_TW in ns (R163). -/
def travWindow (c : CfgMap) (h : Nat) : Rat :=
  ((headD c h + 2 * headW c h : Nat) : Rat) * 1000000000 / ((headVmax c h * 1600 : Nat) : Rat)

/-- VMAX times a span, in 1/16 mm (R173). -/
def vmaxReach (c : CfgMap) (h : Nat) (span : Nat) : Rat :=
  ((headVmax c h * 1600 : Nat) : Rat) * (span : Rat) / 1000000000

-- following one wheel
/-- The entries of a newest-first list back to the one that was in force 100 ms ago (R306). -/
def lastTenth (t : Nat) : List (Nat × Rat) → List (Nat × Rat)
  | [] => []
  | e :: rest => if e.1 + ms 100 ≤ t then [e] else e :: lastTenth t rest

/-- Recent speeds of a slot, newest first; each holds until the next one (R306). -/
def speedHist (t : Nat) (v : Rat) (l : List (Nat × Rat)) : List (Nat × Rat) := (t, v) :: lastTenth t l

/-- |v| exceeds VMAX by more than 5 % (R184). -/
def tooFast (c : CfgMap) (h : Nat) (v : Rat) : Bool :=
  decide (((headVmax c h * 1680 : Nat) : Rat) < absR v)

/-- Runs of a slot after a known sample (R171, R172, R184). -/
def slotRuns (x : WreCtx) (dt : Nat) (sl : Slot) : Slot :=
  { sl with
    residRun := if aboveEMax x.c x.h sl.e2 then sl.residRun + dt else 0
    speedRun := if tooFast x.c x.h sl.v then sl.speedRun + dt else 0
    lowSince := if absR sl.g < gOpen x.c x.h / 2 then some (sl.lowSince.getD x.t1) else none
    vHist := speedHist x.t1 sl.v sl.vHist }

/-- Position of the other slot. -/
def otherPos (hd : Head) (i : Fin 2) : Option Rat :=
  (hd.slots.get (if i = 0 then 1 else 0)).map (fun sl => sl.s)

/-- Move a slot to its fitted values: the events of the move, then what the sample adds. -/
def moveSlot (x : WreCtx) (e : Env) (dt : Nat) (i : Fin 2) (s1 g v e2 : Rat) (hd : Head) : Head :=
  match hd.slots.get i with
  | none => hd
  | some sl =>
    let s0 := sl.s
    let moved : Slot := { sl with s := s1, g := g, v := v, e2 := e2 }
    let hd1 := { hd with slots := hd.slots.put i (some (moved.keep (hd.captureCmd == 1) x.t1 e)) }
    let hd2 := (eventsInOrder x.c x.h sl.region s0 s1).foldl (applyEvent x i s0 s1) hd1
    match hd2.slots.get i with
    | none => hd2
    | some sl2 =>
      let t := sl2.trav.map (travSample x e sl2 (s1 - s0) (otherPos hd2 i))
      let sl3 := { sl2 with trav := t }.followLoad x hd2.base (otherPos hd2 i)
      { hd2 with slots := hd2.slots.put i (some (slotRuns x dt sl3)) }

/-- A fitted slot: its index, position, gain, speed, square residual and innovation. -/
structure Fitted where
  i : Fin 2
  s : Rat
  g : Rat
  v : Rat
  e2 : Rat
  innov : Rat

/-- Predicted position and gain of the other slot (R170). -/
def otherOf (hd : Head) (i : Fin 2) (dt : Rat) : Option (Rat × Rat) :=
  (hd.slots.get (if i = 0 then 1 else 0)).map (fun sl => (q20 (sl.s + sl.v * dt), sl.g))

/-- The fit of one open slot on a sample, `dt` seconds after the last one (R170). -/
def fitOpen (c : CfgMap) (h : Nat) (e : Env) (dt : Rat) (hd : Head) (i : Fin 2)
    (other : Option (Rat × Rat)) : Option Fitted :=
  (hd.slots.get i).map (fun sl =>
    let sp := q20 (sl.s + sl.v * dt)
    let r := fitSlot c h e sp sl.g other
    let innov := r.1 - sp
    { i := i, s := r.1, g := r.2.1, v := q20 (sl.v + innov / (64 * dt)), e2 := r.2.2, innov := innov })

/-- The fit of a slot at the end of an unknown span: it starts from the best candidate on the whole
sensing length, and the slot keeps its speed (R173; log 32). -/
def fitResumed (c : CfgMap) (h : Nat) (e : Env) (hd : Head) (i : Fin 2)
    (other : Option (Rat × Rat)) : Option Fitted :=
  (hd.slots.get i).map (fun sl =>
    let start := match bestOf c h (withoutOther c h e other) (searchGrid c h true) with
      | some b => (b.1, b.2.1)
      | none => (sl.s, sl.g)
    let r := fitSlot c h e start.1 start.2 other
    { i := i, s := r.1, g := r.2.1, v := sl.v, e2 := r.2.2, innov := r.1 - sl.s })

/-- Both slots in their order; the second one takes the first one's new gain (R170). -/
def fitBoth (hd : Head) (dt : Rat) (f : Fin 2 → Option (Rat × Rat) → Option Fitted) : List Fitted :=
  let r0 := f 0 (otherOf hd 0 dt)
  let o1 := match otherOf hd 1 dt, r0 with
    | some (sp, _), some r => some (sp, r.g)
    | o, _ => o
  let r1 := f 1 o1
  r0.toList ++ r1.toList

/-- Move every fitted slot. -/
def State.moveAll (s : State) (h : Fin 32) (reduced bridged : Bool) (e : Env) (dt t0 t1 : Nat)
    (l : List Fitted) : State :=
  let s1 := l.foldl (fun acc r =>
    (acc.updHead h (moveSlot (wreCtx acc h reduced bridged t0 t1 0) e dt r.i r.s r.g r.v r.e2)).draw) s
  s1

-- SEARCH
/-- Lowest free slot. -/
def freeSlot (hd : Head) : Option (Fin 2) :=
  if (hd.slots.get 0).isNone then some 0 else if (hd.slots.get 1).isNone then some 1 else none

/-- Open a slot at a position, as it stands (R171). DESIGN CHOICE (log 39): an ORPHAN slot has a traversal at once, as
`orphanSlot` says. -/
def openSlot (x : WreCtx) (s g v e2 : Rat) (orphan : Bool) (hd : Head) : Head :=
  match freeSlot hd with
  | none => hd
  | some i =>
    let r := regionOf x.c x.h s
    let sl : Slot := { s := s, g := g, v := v, e2 := e2, region := r, orphan := orphan, openedAt := x.t1
                       vHist := [(x.t1, v)]
                       trav := if orphan then some (newTraversal x .a v true) else none }
    { hd with slots := hd.slots.put i (some (sl.followLoad x hd.base (otherPos hd i))), cand := none, quietFrom := none, rebase := none }

/-- COUNT_BRIDGED (R195). -/
def Head.countBridged (hd : Head) : Head :=
  { hd with counts := { hd.counts with bridged := satInc32 hd.counts.bridged }, judge := none }

/-- The nearer outer boundary of a position: its side and the distance (R173). -/
def nearSide (c : CfgMap) (h : Nat) (p : Rat) : Side × Rat :=
  let a := absR (p - boundary c h 1)
  let b := absR (p - boundary c h 4)
  if a ≤ b then (.a, a) else (.b, b)

/-- A wheel found inside the head after an unknown span opens its traversal from the side that it can
have come from, and the events of the way in are taken over the span (R173). -/
def openBridged (x : WreCtx) (p g v e2 : Rat) (hd : Head) : Head :=
  let side := (nearSide x.c x.h p).1
  let s0 := if side == .a then boundary x.c x.h 1 else boundary x.c x.h 4
  match freeSlot hd with
  | none => hd
  | some i =>
    let sl : Slot := { s := p, g := g, v := v, e2 := e2, openedAt := x.t1, vHist := [(x.t1, v)]
                       region := if side == .a then .sideA else .sideB }
    let hd1 := { hd with slots := hd.slots.put i (some (sl.followLoad x hd.base (otherPos hd i))), cand := none, quietFrom := none
                         rebase := none }
    (eventsInOrder x.c x.h sl.region s0 p).foldl (applyEvent x i s0 p) hd1

/-- The third sample in a row has found a wheel: its slot opens (R171, R173). DESIGN CHOICE (log 32): a wheel found in
an outer band after an unknown span with no slot open before fits none of the three cases of R173; the span counts as
bridged, whatever its length, and raises no cause. DESIGN CHOICE (log 32): the second case also judges a wheel found
inside the head after the unknown span that runs from boot or activation; where it bridges, the slot is no ORPHAN. -/
def State.searchOpens (s : State) (h : Fin 32) (reduced : Bool) (t1 : Nat) (k : Candidate)
    (p g v e2 : Rat) : State :=
  let c := s.cfg.active
  let inside := regionIn (regionOf c h.val p)
  match (s.head.get h).judge with
  | some (u, b) =>
    let span := b - u
    let ok := decide ((span : Rat) ≤ travWindow c h.val)
      && decide ((nearSide c h.val k.first).2 ≤ vmaxReach c h.val span)
    if !inside then
      s.updHead h (fun hd => (openSlot (wreCtx s h reduced false t1 t1 0) p g v e2 false hd).countBridged)
    else if ok then
      s.updHead h (fun hd => (openBridged (wreCtx s h reduced true u t1 0) p g v e2 hd).countBridged)
    else
      (s.updHead h (fun hd => { openSlot (wreCtx s h reduced false t1 t1 0) p g v e2 true hd with
        judge := none })).raiseWre h (fun w => { w with orphan := true })
  | none =>
    let s1 := s.updHead h (openSlot (wreCtx s h reduced false t1 t1 0) p g v e2 inside)
    if inside then s1.raiseWre h (fun w => { w with orphan := true }) else s1

/-- SEARCH finds nothing: the first SEARCH ends, and an unknown span with no wheel before or after is
judged by the third case of R173. DESIGN CHOICE (log 32): the first SEARCH of R171, over the whole sensing length, lasts
until a SEARCH finds nothing, also after it has opened a slot. -/
def State.searchEmpty (s : State) (h : Fin 32) : State :=
  let c := s.cfg.active
  let hd := s.head.get h
  let s1 := s.updHead h (fun x => { x with cand := none, wholeSearch := false, judge := none })
  match hd.judge with
  | none => s1
  | some (u, b) =>
    if decide (((b - u : Nat) : Rat) ≤ travWindow c h.val) || (!treatedOpen s h && !hd.windowSeen)
    then s1.updHead h Head.countBridged
    else s1.raiseWre h (fun w => { w with unknownLong := true })

/-- SEARCH on a known sample (R171). The contribution of an open slot is taken out (log 32). -/
def State.wreSearch (s : State) (h : Fin 32) (reduced : Bool) (e : Env) (t1 : Nat) : State :=
  let c := s.cfg.active
  let hd := s.head.get h
  match freeSlot hd with
  | none => s
  | some _ =>
    let open1 := (hd.slots.get 0).or (hd.slots.get 1)
    let e1 := withoutOther c h.val e (open1.map (fun sl => (sl.s, sl.g)))
    match bestOf c h.val e1 (searchGrid c h.val (hd.wholeSearch || hd.judge.isSome)) with
    | none => s.searchEmpty h
    | some (p, g, e2) =>
      let k : Candidate := match hd.cand with
        | some k => { k with n := k.n + 1, last := p, gain := g }
        | none => { n := 1, first := p, last := p, gain := g }
      if k.n < 3 then s.updHead h (fun x => { x with cand := some k })
      else
        let dt : Rat := (headPeriod c h.val : Rat) / 1000000000
        s.searchOpens h reduced t1 k p g (q20 ((p - k.first) / (2 * dt))) e2

-- the sample of a head
/-- An unknown sample: every slot is held (R169, R173). DESIGN CHOICE (log 32): an unknown span that begins while the
span before it is still being judged, within the three samples of SEARCH, is one span with it, and T_U counts from the
first one's begin. -/
def State.wreUnknown (s : State) (h : Fin 32) (t1 : Nat) : State :=
  let inWindow := windowOver s h
  s.updHead h (fun hd =>
    let from_ := match hd.unknownFrom, hd.judge with
      | some u, _ => u
      | none, some (u, _) => u
      | none, none => t1
    { hd with
      unknownFrom := some from_, judge := none, cand := none, quietFrom := none, third := false
      windowSeen := (hd.windowSeen && (hd.unknownFrom.isSome || hd.judge.isSome)) || inWindow
      slots := Vector.map (Option.map (fun sl => { sl.voidCapture with residRun := 0, speedRun := 0 })) hd.slots })

/-- A slot whose unknown span is bridged: its traversal is BRIDGED, and a strip whose pass held the
span gives no load (R173, R186, R187). -/
def Slot.bridge (c : CfgMap) (h : Nat) (sl : Slot) : Slot :=
  { sl with trav := sl.trav.map (fun t =>
      { t with bridged := true, qb1 := t.qb1 || regionZone c h 1 sl.region
               qb2 := t.qb2 || regionZone c h 2 sl.region }) }

/-- A third wheel needs a slot: both are open, and the search still finds |g| >= G_OPEN with their
contributions taken out (R172). -/
def thirdWheel (c : CfgMap) (h : Nat) (e : Env) (hd : Head) : Bool :=
  match hd.slots.get 0, hd.slots.get 1 with
  | some a, some b =>
    searchFinds c h (withoutOther c h (withoutOther c h e (some (a.s, a.g))) (some (b.s, b.g)))
      (searchGrid c h hd.wholeSearch)
  | _, _ => false

/-- The first known sample after an unknown span with a slot open before it: bridged, or UNKNOWN_LONG
or JUMP (R173). -/
def State.wreResume (s : State) (h : Fin 32) (reduced : Bool) (e : Env) (dt u t1 : Nat) : State :=
  let c := s.cfg.active
  let hd := s.head.get h
  let span := t1 - u
  let l := fitBoth hd 0 (fitResumed c h.val e hd)
  let long := decide (travWindow c h.val < (span : Rat))
  let jump := l.any (fun r => decide (vmaxReach c h.val span + 64 < absR r.innov))
  let t0 := hd.lastKnownAt.getD u
  if long then
    (s.raiseWre h (fun w => { w with unknownLong := true })).moveAll h reduced false e dt t0 t1 l
  else if jump then
    (s.raiseWre h (fun w => { w with jump := true })).moveAll h reduced false e dt t0 t1 l
  else
    (s.updHead h (fun x =>
      { x.countBridged with slots := Vector.map (Option.map (Slot.bridge c h.val)) x.slots })).moveAll h
        reduced true e dt t0 t1 l

/-- A known sample with no span before it (R170). -/
def State.wreFollow (s : State) (h : Fin 32) (reduced : Bool) (e : Env) (dt t1 : Nat) : State :=
  let c := s.cfg.active
  let hd := s.head.get h
  let l := fitBoth hd ((dt : Rat) / 1000000000) (fitOpen c h.val e ((dt : Rat) / 1000000000) hd)
  let s1 := if l.any (fun r => decide (64 < absR r.innov)) then s.raiseWre h (fun w => { w with jump := true })
    else s
  s1.moveAll h reduced false e dt (hd.lastKnownAt.getD (t1 - dt)) t1 l

/-- A known sample of a head (R170 to R173). -/
def State.wreKnown (s : State) (h : Fin 32) (reduced : Bool) (e : Env) (t1 : Nat) : State :=
  let c := s.cfg.active
  let hd := s.head.get h
  let dt := headPeriod c h.val
  let s1 := match hd.unknownFrom with
    | none => if anySlot hd then s.wreFollow h reduced e dt t1 else s
    | some u =>
      let s0 := s.updHead h (fun x => { x with
        unknownFrom := none, windowSeen := x.windowSeen || windowOver s h
        judge := if anySlot x then none else some (u, t1) })
      if anySlot hd then s0.wreResume h reduced e dt u t1 else s0
  let s2 := s1.wreSearch h reduced e t1
  s2.updHead h (fun x =>
    { x with
      lastKnownAt := some t1, third := thirdWheel c h.val e x
      windowSeen := x.windowSeen && x.judge.isSome
      quietFrom := if anySlot x then none else some (x.quietFrom.getD s.now) })

/-- A sample of a head, once both counting channels have delivered theirs with one centre instant
(R169, R170). -/
def State.wreSample (s : State) (h : Fin 32) : State :=
  let hd := s.head.get h
  match hd.sys1, hd.sys2 with
  | some m1, some m2 =>
    if m1.centre != m2.centre then s
    else if m1.known && m2.known then
      s.wreKnown h (decide (m1.weight < 1) || decide (m2.weight < 1))
        (envOf s.cfg.active h.val hd.base m1 m2) m1.centre
    else s.wreUnknown h m1.centre
  | _, _ => s

-- rows
/-- The slot has left the sensing length, or its gain has been low for 1 ms (R171). DESIGN CHOICE (log 32): the 1 ms runs
on over an unknown span between two samples of low gain, in which the WRE holds the slot. -/
def slotDone (c : CfgMap) (h : Nat) (last : Option Nat) (sl : Slot) : Bool :=
  let w := 3 * (headW c h : Rat) / 2
  decide (sl.s < -w) || decide ((headD c h : Rat) + w < sl.s)
    || (match sl.lowSince, last with
        | some a, some b => decide (a + ms 1 ≤ b)
        | _, _ => false)

/-- The PROVISIONAL entry that the trigger of slot `i` opened takes the last s of the closing slot
(R302). -/
def Entry.closeSlot (h : Fin 32) (i : Fin 2) (sl : Slot) (e : Entry) : Entry :=
  if e.st == .provisional && e.head == h && e.slot == i && e.lastS.isNone then { e with lastS := some sl.s } else e

def State.noteClosed (s : State) (h : Fin 32) (i : Fin 2) (sl : Slot) : State :=
  let close := Vector.map (Entry.closeSlot h i sl)
  { s with
    trk := { s.trk with entries := close s.trk.entries }
    tally := { s.tally with pub := { s.tally.pub with
      tracker := { s.tally.pub.tracker with entries := close s.tally.pub.tracker.entries } } } }

/-- SLOT_CLOSE: inside the head, the traversal ends BROKEN and FIT_LOST is raised (R171). -/
def slotClose (h : Fin 32) (i : Fin 2) (s : State) : State :=
  let hd := s.head.get h
  match hd.slots.get i with
  | none => s
  | some sl =>
    if slotDone s.cfg.active h.val hd.lastKnownAt sl then
      let s1 := s.updHead h (fun x => breakSlot (wreCtx s h false false s.now s.now 0) (gridOf s.power.bootAt s.now) i x)
      let s2 := (s1.draw.noteClosed h i sl).updHead h (fun x => { x with
        slots := x.slots.put i none, third := false
        closed := x.closed.put i (sl.trig.map (fun t => (t, sl.s))) })
      if regionIn sl.region then s2.raiseWre h (fun w => { w with fitLost := true }) else s2
    else s

def execSlotClose (h : Fin 32) (slot : Fin 2) (s : State) : Host.Outcome State Fault Refusal :=
  run s fun s => s.whenAlive (slotClose h slot)

/-- FIT_LOST (R172): the residual run of a slot has reached 1 ms, or a third wheel needs a slot. -/
def fitLost (h : Fin 32) (s : State) : State :=
  let hd := s.head.get h
  let run1 := (allFin 2).any (fun i => match hd.slots.get i with
    | some sl => decide (ms 1 ≤ sl.residRun)
    | none => false)
  if run1 || hd.third
  then s.raiseWre h (fun w => { w with fitLost := true }) else s

def execFitLost (h : Fin 32) (s : State) : Host.Outcome State Fault Refusal :=
  run s fun s => s.whenAlive (fitLost h)

/-- OVERSPEED (R184). -/
def overspeed (h : Fin 32) (i : Fin 2) (s : State) : State :=
  match (s.head.get h).slots.get i with
  | some sl => if ms 1 ≤ sl.speedRun then s.raiseWre h (fun w => { w with overspeed := true }) else s
  | none => s

def execOverspeed (h : Fin 32) (slot : Fin 2) (s : State) : Host.Outcome State Fault Refusal :=
  run s fun s => s.whenAlive (overspeed h slot)

/-- WRE_CAUSE_CLEAR: after 1 s with no open slot and only known samples, the causes and CLAIM_TIE
clear (R190, R249). The clock moves to that instant if it is not there yet (log 1). -/
def wreCauseClear (h : Fin 32) (s : State) : State :=
  let hd := s.head.get h
  match hd.quietFrom with
  | some q =>
    if wreDisturbed hd && !anySlot hd then
      (s.reach (q + sec 1)).withDist h (fun s => s.updHead h (fun x => { x with causes := {}, claimTie := false }))
    else s
  | none => s

def execWreCauseClear (h : Fin 32) (s : State) : Host.Outcome State Fault Refusal :=
  run s fun s => s.whenAlive (wreCauseClear h)

/-- CAPTURE_CMD: a write of 1 arms a capture; another value has no effect (R192; log 34). -/
def captureArm (h : Fin 32) (value : Nat) (s : State) : State :=
  if value = 1 then s.updHead h (fun x => { x with
      captureCmd := 1
      slots := Vector.map (Option.map (fun sl => { sl.voidCapture with cap := [] })) x.slots }) else s

end Sys2Proof.Machine
end

