-- ==== Sys2Proof/Machine/Guard.lean ====
section
/-! DEFINITION. The channel guard: continuous monitors, impedance checks and their findings, the head
guard state, LOAD_FAULT, TEST_STARVED, linearisation and its temperature (R134 to R155), with the
offers that it makes to the Bellringer (R201). -/

namespace Sys2Proof.Machine

-- offers
/-- Make an offer to the Bellringer. -/
def State.offer (s : State) (o : Offer) : State :=
  { s with bell := { s.bell with offers := s.bell.offers ++ [o] } }

/-- Withdraw offers that are not rung yet; an event once rung is carried out (R209, R210). -/
def State.withdraw (s : State) (p : Offer → Bool) : State :=
  { s with bell := { s.bell with offers := s.bell.offers.filter (fun o => !p o) } }

/-- Withdraw offers and rung events alike: a stop overtakes the start that it meets (R86). -/
def State.recall (s : State) (p : Offer → Bool) : State :=
  { s with bell := { s.bell with offers := s.bell.offers.filter (fun o => !p o)
                                 rung := s.bell.rung.filter (fun o => !p o) } }

/-- An offer of a class is pending or rung on a head. -/
def offerPending (s : State) (cls : OfferClass) (h : Fin 32) : Bool :=
  offerOn s cls h || s.bell.rung.any (fun o => o.cls == cls && o.head == h)

/-- Free time of a head so far (R146). -/
def freeTotal (s : State) (h : Fin 32) : Nat :=
  let b := s.bell.heads.get h
  b.freeAcc + (match b.freeFrom with
    | some t => s.now - t
    | none => 0)

/-- The clock moves on so that the head's free time reaches a total, when the head is FREE (log 1). -/
def State.reachFree (s : State) (h : Fin 32) (total : Nat) : State :=
  if (s.bell.heads.get h).freeFrom.isSome then s.reach (s.now + (total - freeTotal s h)) else s

-- ranging (R114 to R119)
/-- A pending RANGE offer of a channel. -/
def rangeOffer (ch : Fin 64) (o : Offer) : Bool := o.cls == .range && o.ch == some ch

/-- Switch a channel to a range: the histories restart, so that no request pends (R114, R118). -/
def State.changeRange (s : State) (ch : Fin 64) (g : Nat) (forced : Bool) : State :=
  (s.withdraw (rangeOffer ch)).updCh ch (fun x =>
    { x with
      gain := g, pendFiner := false, pendCoarser := false, histFrom := s.now, peakFrom := s.now
      forcedAt := if forced then some s.now else none
      seams := (s.now, x.gain) :: x.seams.filter (fun e => decide (s.now ≤ e.1 + ms 100))
      rangeChanges := satInc32 x.rangeChanges
      forcedChanges := if forced then satInc32 x.forcedChanges else x.forcedChanges })

/-- Withdraw a channel's request that has not been rung yet (R114, R115, R209). -/
def State.dropRange (s : State) (ch : Fin 64) : State :=
  (s.withdraw (rangeOffer ch)).updCh ch (fun x => { x with pendFiner := false, pendCoarser := false })

/-- A change by one range, within the channel's limits (R112, R114). -/
def State.oneRange (s : State) (ch : Fin 64) (finer : Bool) : State :=
  let c := s.cfg.active
  let g := (s.ch.get ch).gain
  if finer then (if g < chGainMax c ch.val then s.changeRange ch (g + 1) false else s)
  else if chGainMin c ch.val < g then s.changeRange ch (g - 1) false
  else s

/-- Carry out a request that pends on a channel without the Bellringer (R114, R116). -/
def State.carryRange (s : State) (ch : Fin 64) : State :=
  let x := s.ch.get ch
  if x.pendCoarser then s.oneRange ch false
  else if x.pendFiner then s.oneRange ch true
  else s

-- channels of a head
/-- Channels of a check of a head (R136). -/
def chansOf (c : CfgMap) (h : Nat) : List (Fin 64) :=
  (allFin 64).filter (fun ch => onHead c h ch.val && chMode c ch.val != 0)

def countingOfHead (c : CfgMap) (h : Nat) : List (Fin 64) :=
  (allFin 64).filter (fun ch => countingOf c h ch.val)

/-- Number of the pair partner of a source (R77). -/
def partnerSrc (k : Fin 64) : Fin 64 := if h : k.val % 2 = 0 then ⟨k.val + 1, by omega⟩ else ⟨k.val - 1, by omega⟩

/-- The channel that the partner of a channel's source excites (R208). -/
def partnerChan (c : CfgMap) (ch : Fin 64) : Option (Fin 64) :=
  (boundSource c ch.val).bind (fun k => boundChannel c (partnerSrc k))

/-- Channels into which an injection goes: every one that its source excites (R208). DESIGN CHOICE (log 35): a free
RTD_4W channel whose source is the pair partner of a checked one is among them, as R208 says of the channels of a
pair, although R136 gives it no check of its own. -/
def injectable (c : CfgMap) (ch : Fin 64) : Bool := chMode c ch.val != 0

/-- Channels that a check reaches: its own and those that share its pairs (R208). -/
def reachedChans (c : CfgMap) (own : List (Fin 64)) : List (Fin 64) :=
  let more := own.filterMap (partnerChan c)
  (allFin 64).filter (fun ch => injectable c ch && (own.contains ch || more.contains ch))

/-- Injection time (R138, R140). -/
def injectionNs (c : CfgMap) (ch : Nat) : Nat := if chInductive c ch then us 5600 else us 6000

/-- Check span of a channel (R142). -/
def checkSpan (c : CfgMap) (ch : Nat) : Nat := injectionNs c ch + 2 * groupDelay c ch

/-- Check span of a head (R142). -/
def headCheckSpan (c : CfgMap) (h : Nat) : Nat :=
  (chansOf c h).foldl (fun acc ch => Nat.max acc (checkSpan c ch.val)) 0

/-- HEADS of a CHECK offer: the head and its companions (R208). -/
def checkHeads (c : CfgMap) (h : Fin 32) : List (Fin 32) :=
  let reached := reachedChans c (chansOf c h.val)
  (allFin 32).filter (fun k => k == h || reached.any (fun ch => onHead c k.val ch.val))

/-- Request a check of a head: one CHECK offer pends at a time (R146, R201). A request during an
injection of the head stays pending until its span is over. -/
def State.requestCheck (s : State) (h : Fin 32) : State :=
  let c := s.cfg.active
  if !headDefined c h.val || (s.hg.get h).gs == .disturbed || offerPending s .check h then s
  else s.offer { cls := .check, head := h, ch := (chansOf c h.val).head?, span := headCheckSpan c h.val
                 offeredAt := s.now }

-- head guard state
/-- Enter a guard state (R149). Tally is told of every entry into DISTURBED or AWAITING_CHECK from another state (R150,
R230). -/
def State.setGuard (s : State) (h : Fin 32) (g : GState) : State :=
  s.withDist h (fun s => s.updHg h (fun x => { x with gs := g, raised := x.raised || (g != x.gs && g != .inService) }))

/-- The guard state that boot or an activation gives (R149). It is no HEAD_GUARD: the causes of that instant are START
and ACTIVATION (R230; DESIGN CHOICE, log 26). -/
def State.startGuard (s : State) (h : Fin 32) (g : GState) : State :=
  s.withDist h (fun s => s.updHg h (fun x => { x with gs := g }))

/-- LOAD_FAULT of a head (R151). -/
def State.judgeLoad (s : State) (h : Fin 32) : State :=
  let c := s.cfg.active
  let bad := match finOf? 64 (headLoad c h.val) with
    | some ch => headInductive c h.val && (causeHolds (s.cg.get ch) || isFail (s.cg.get ch).lastComplete)
    | none => false
  s.updHg h (fun x => { x with loadFault := bad })

/-- LOAD_FAULT of every head that a channel serves. -/
def State.judgeLoads (s : State) (ch : Fin 64) : State :=
  (allFin 32).foldl (fun acc h => if loadOf acc.cfg.active h.val ch.val then acc.judgeLoad h else acc) s

/-- A cause holds on a counting channel of a head. -/
def countingCause (s : State) (h : Fin 32) : Bool :=
  (countingOfHead s.cfg.active h.val).any (fun ch => causeHolds (s.cg.get ch))

/-- Effect of a raised cause on the channel's head (R149, R151). DESIGN CHOICE (log 35): a CHECK offer that
is still pending is withdrawn when its head becomes DISTURBED, which R149 leaves open; a rung one is
carried out (R210). -/
def State.causeRaised (s : State) (ch : Fin 64) : State :=
  let s1 := s.judgeLoads ch
  (allFin 32).foldl (fun acc h =>
    if countingOf acc.cfg.active h.val ch.val && (acc.hg.get h).gs != .disturbed
    then (acc.withdraw (fun o => o.cls == .check && o.head == h)).setGuard h .disturbed else acc) s1

/-- Effect of a dropped cause on the channel's head (R149, R151). -/
def State.causeDropped (s : State) (ch : Fin 64) : State :=
  let s1 := s.judgeLoads ch
  (allFin 32).foldl (fun acc h =>
    if countingOf acc.cfg.active h.val ch.val && (acc.hg.get h).gs == .disturbed && !countingCause acc h
    then (acc.setGuard h .awaitingCheck).requestCheck h else acc) s1

/-- Samples in a row that a collapse takes (R134): 1.0 ms. DESIGN CHOICE (log 35): the time of a bridge is counted in
the output samples of its channel, since the rate of the auxiliary path is not given. -/
def collapseRunFull (c : CfgMap) (ch : Nat) (run : Nat) : Bool :=
  if chInductive c ch then decide (50 ≤ run) else decide (ms 1 ≤ run * samplePeriod c ch)

/-- The live condition of a monitor (R134). The RTD window is judged by Tally (R144). -/
def monitorHolds (s : State) (ch : Fin 64) (k : GuardCause) : Bool :=
  let c := s.cfg.active
  chMode c ch.val != 0 && (match k with
    | .collapse =>
      if chRtd c ch.val then (s.cg.get ch).collapse
      else collapseRunFull c ch.val (s.cg.get ch).collapseRun
    | .compliance => (match boundSource c ch.val with
      | some k => (s.src.get k).compliance
      | none => false)
    | .sourceDown => !chSourceOn s ch.val || s.power.vexcLow
    | .clamp => clfNamed s ch.val)

def causeFlag (g : ChGuard) : GuardCause → Bool
  | .collapse => g.collapse
  | .compliance => g.compliance
  | .sourceDown => g.sourceDown
  | .clamp => g.clamp

def setCause (b : Bool) (k : GuardCause) (g : ChGuard) : ChGuard :=
  match k with
  | .collapse => { g with collapse := b }
  | .compliance => { g with compliance := b }
  | .sourceDown => { g with sourceDown := b }
  | .clamp => { g with clamp := b }

/-- GUARD_CAUSE_RAISED: a monitor whose condition holds raises its cause (R134, R149). -/
def guardCauseRaised (ch : Fin 64) (k : GuardCause) (s : State) : State :=
  if monitorHolds s ch k && !causeFlag (s.cg.get ch) k
  then (s.updCg ch (setCause true k)).causeRaised ch else s

def execGuardCauseRaised (ch : Fin 64) (k : GuardCause) (s : State) : Host.Outcome State Fault Refusal :=
  run s fun s => s.whenAlive (guardCauseRaised ch k)

/-- GUARD_CAUSE_DROPPED: a monitor whose condition has ended drops its cause (R134, R149). -/
def guardCauseDropped (ch : Fin 64) (k : GuardCause) (s : State) : State :=
  if !monitorHolds s ch k && causeFlag (s.cg.get ch) k
  then (s.updCg ch (setCause false k)).causeDropped ch else s

def execGuardCauseDropped (ch : Fin 64) (k : GuardCause) (s : State) : Host.Outcome State Fault Refusal :=
  run s fun s => s.whenAlive (guardCauseDropped ch k)

-- cadence
def testPeriodNs (c : CfgMap) : Nat := ms (guardPeriod c)

/-- The injection of a check that the head itself asked for runs. -/
def ownCheckRuns (s : State) (h : Fin 32) : Bool := s.bell.spans.any (fun p => p.cls == .check && p.own == h && p.active)

/-- CHECK_REQUEST_DUE: the free time since the last complete check reaches GUARD_TEST_PERIOD (R146). The
request that led to a running check is not made twice. -/
def checkRequestDue (h : Fin 32) (s : State) : State :=
  let due := (s.hg.get h).freeMark + testPeriodNs s.cfg.active
  let s1 := s.reachFree h due
  if due ≤ freeTotal s1 h && !ownCheckRuns s1 h then s1.requestCheck h else s

def execCheckRequestDue (h : Fin 32) (s : State) : Host.Outcome State Fault Refusal :=
  run s fun s => s.whenAlive (checkRequestDue h)

/-- CHECK_NOW (R146). -/
def checkNow (mask : Nat) (s : State) : State :=
  (allFin 32).foldl (fun acc h => if bitOf mask h.val then acc.requestCheck h else acc) s

/-- TEST_STARVED_SET: 10 s without a complete check (R148). -/
def testStarvedSet (h : Fin 32) (s : State) : State :=
  let x := s.hg.get h
  match x.checkedAt.or x.sourcesOnAt with
  | some t =>
    if headDefined s.cfg.active h.val then
      ((s.reach (t + sec 10)).updHg h (fun x => { x with starved := true })).noteHead h
    else s
  | none => s

def execTestStarvedSet (h : Fin 32) (s : State) : Host.Outcome State Fault Refusal :=
  run s fun s => s.whenAlive (testStarvedSet h)

/-- Every source of a head is ON (R148). -/
def sourcesAllOn (s : State) (h : Fin 32) : Bool :=
  let l := chansOf s.cfg.active h.val
  !l.isEmpty && l.all (fun ch => chSourceOn s ch.val)

/-- Keep the instant at which a head's sources were first all ON (R148). -/
def State.noteSourcesOn (s : State) : State :=
  (allFin 32).foldl (fun acc h =>
    if (acc.hg.get h).sourcesOnAt.isNone && sourcesAllOn acc h
    then acc.updHg h (fun x => { x with sourcesOnAt := some acc.now }) else acc) s

-- checks
/-- The guard may start a check on a channel (R137). -/
def startable (s : State) (ch : Fin 64) : Bool :=
  let g := s.cg.get ch
  let awaiting : Bool := match headOfChannel s.cfg.active ch.val with
    | some h => (s.hg.get h).gs == .awaitingCheck
    | none => false
  chSourceOn s ch.val && !inUnsettled s ch && !g.checkRunning
    && (if awaiting then !g.sourceDown && !g.clamp else !causeHolds g)

/-- Begin the injection on one channel (R138, R140, R142). -/
def State.inject (s : State) (void : Bool) (ch : Fin 64) : State :=
  (s.updCg ch (fun g => { g with checkRunning := true, voided := void })).updCh ch
    (fun x => { x with injFrom := some s.now, injTo := some (s.now + injectionNs s.cfg.active ch.val) })

/-- A rung CHECK starts: injections on every channel that can start (R136, R137, R208). DESIGN CHOICE
(log 35): a counting channel of the own head that is left out voids the companions' channels with the
rest of the check; one of a companion head that is left out voids nothing. -/
def State.startCheck (s : State) (h : Fin 32) : State :=
  let c := s.cfg.active
  let cand := reachedChans c (chansOf c h.val)
  let go := cand.filter (startable s)
  let out := (countingOfHead c h.val).any (fun ch => !go.contains ch)
  let s1 := go.foldl (fun acc ch => acc.inject out ch) s
  let inj := go.foldl (fun acc ch => Nat.max acc (s.now + injectionNs c ch.val)) s.now
  { s1 with bell := { s1.bell with spans := s1.bell.spans.map (fun p =>
      if p.cls == .check && p.own == h && p.active
      then { p with chans := go, injEnd := inj } else p) } }

/-- Phase of a point in radians; measured phases are in units of 0.01 degrees (R141). -/
def centiRad (p : Rat) : Rat := p * piR / 18000

/-- Resonance of five points: the lower point of the crossing, as R141 finds it. -/
def crossingAt : List (Rat × Rat) → Nat → Option (Nat × Rat × Rat)
  | a :: b :: rest, k =>
    if 0 ≤ a.2 ∧ b.2 < 0 then some (k, a.2, b.2) else crossingAt (b :: rest) (k + 1)
  | _, _ => none

/-- What a check measured, with f_r in units of 0.01 kHz and Q in units of 0.01, none without a
crossing. -/
structure Measured where
  mag : Rat
  phase : Rat
  res : Option (Rat × Rat)
  inductive_ : Bool

/-- SWEEP of a channel's check: that which steps its pair's generator (R140). -/
def checkSweep (s : State) (ch : Fin 64) : Nat :=
  match (boundSource s.cfg.active ch.val).bind (pairSweep s) with
  | some x => x.2.2
  | none => gSweep (guardCfg s.cfg.active ch.val)

/-- f_r and Q of an inductive check (R141). FREQ and SWEEP are in units of 0.1 kHz. -/
def resonance (freq sweep : Nat) (pts : List (Rat × Rat)) : Option (Rat × Rat) :=
  let sw : Rat := (sweep : Rat)
  match crossingAt pts 0 with
  | none => none
  | some (k, p0, p1) =>
    let fk : Rat := (freq : Rat) + ((k : Rat) - 2) * sw
    let fr := fk + sw * p0 / (p0 - p1)
    let q := fr / 2 * (centiRad p0 - centiRad p1) / sw
    some (fr * 10, q * 100)

/-- What an injection found: Z = V_tone / I_tone of a bridge (R138), or the five points of an inductive channel
(R140, R141). DESIGN CHOICE (log 35): without a crossing, magnitude and phase are those of Z_0 as well, for the rows
of R144 and for CHECK_RESULT. -/
def measured (s : State) (ch : Fin 64) : CheckValue → Option Measured
  | .tone v =>
    if chInductive s.cfg.active ch.val then none
    else some { mag := (toneZ s ch v).1, phase := (toneZ s ch v).2, res := none, inductive_ := false }
  | .resonance l =>
    if chInductive s.cfg.active ch.val then
      let zs := resonancePoints s ch l
      let z0 := zs.getD 2 (0, 0)
      some { mag := z0.1, phase := z0.2, inductive_ := true
             res := resonance (chFreq s.cfg.active ch.val) (checkSweep s ch) zs }
    else none

/-- Rows 2 to 5 of R144 with one set of widths. -/
def findingRows (g : Nat) (m : Measured) (mw pw fw qmin : Nat) : Finding :=
  let nom := (gNomMag g : Rat)
  if nom * (10000 + (mw : Rat)) / 10000 < m.mag then .failOpen
  else if m.mag < nom * (10000 - (mw : Rat)) / 10000 then .failShort
  else if (pw : Rat) < absR (m.phase - (gNomPhase g : Rat)) then .failPhase
  else if m.inductive_ && (match m.res with
      | none => true
      | some (fr, q) => decide ((fw : Rat) < absR (fr - (gNomFr g : Rat))) || decide (q < (qmin : Rat)))
    then .failResonance
  else .pass

/-- The finding of a measurement (R144, rows 2 to 7). -/
def findingOf (g : Nat) (m : Measured) : Finding :=
  match findingRows g m (gMagFail g) (gPhaseFail g) (gFrFail g) (gQFail g) with
  | .pass =>
    (match findingRows g m (gMagWarn g) (gPhaseWarn g) (gFrWarn g) (gQWarn g) with
     | .pass => .pass
     | _ => .drift)
  | f => f

/-- CHECK_RESULT of a measurement (R160). DESIGN CHOICE (log 35): FR and Q of an inductive check that found
no crossing read 0, since R141 forms no f_r and no Q there. -/
def resultOf (m : Measured) : CheckFields :=
  { mag := satU 32 (roundAway m.mag), phase := satS 16 (roundAway m.phase)
    fr := match m.res with
      | some r => satU 16 (roundAway r.1)
      | none => 0
    q := match m.res with
      | some r => satU 16 (roundAway r.2)
      | none => 0 }

/-- GUARD record of a channel (R145, R465). -/
def State.guardRecord (s : State) (ch : Fin 64) : State :=
  let g := s.cg.get ch
  let hd := match headOfChannel s.cfg.active ch.val with
    | some h => h.val
    | none => 0xFF
  s.record 0x20 (leBytes 1 ch.val ++ leBytes 1 hd ++ leBytes 1 (findingCode g.lastFinding)
    ++ leBytes 12 (checkResult g) ++ leBytes 2 g.checkCount)

/-- A request that waited for the end of a check on a channel of no head is carried out at once (R116, R122). -/
def State.resumeRange (s : State) (ch : Fin 64) : State :=
  if (headOfChannel s.cfg.active ch.val).isNone && chAuto s.cfg.active ch.val then s.carryRange ch else s

/-- Take the finding of an injected check on a channel, which ends there (R122, R145, R151, R159). -/
def State.takeFinding (s : State) (ch : Fin 64) (f : Finding) (r : CheckFields) : State :=
  let s1 := s.updCg ch (fun g =>
    let g1 := { g with lastFinding := f, checkRunning := false, voided := false }
    if f == .void then g1
    else { g1 with lastComplete := f, checkCount := (g.checkCount + 1) % 65536
                   checkedAt := some s.now, result := r })
  let s2 := (s1.judgeLoads ch).resumeRange ch
  if f == .pass then s2 else s2.guardRecord ch

/-- The source of a channel was not ON at some instant since the channel's injection began (R144). -/
def sourceLeftOn (s : State) (ch : Fin 64) : Bool :=
  !chSourceOn s ch.val || (match boundSource s.cfg.active ch.val, (s.ch.get ch).injFrom with
    | some k, some a => decide (a < (s.src.get k).onFrom)
    | _, _ => false)

/-- The finding of a channel at the end of its injection (R144): VOID when the check was voided, the
source left ON, CLF is set, a measurement was CLIPPED, or nothing was measured. -/
def channelFinding (s : State) (results : List CheckMeas) (ch : Fin 64) : Finding × CheckFields :=
  let c := s.cfg.active
  match results.find? (fun r => r.ch == ch) with
  | none => (.void, {})
  | some r =>
    match measured s ch r.value with
    | none => (.void, {})
    | some m =>
      if (s.cg.get ch).voided || r.clipped || sourceLeftOn s ch || clfNamed s ch.val then (.void, {})
      else (findingOf (guardCfg c ch.val) m, resultOf m)

/-- What the end of a head's own check does to the head (R145, R149). DEDUCED (log 35): a FAIL that takes a
head out of IN_SERVICE leads to AWAITING_CHECK with the check that R149 asks for there, after
GUARD_TEST_PERIOD of free time, not to the check at once of R146. -/
def State.headChecked (s : State) (h : Fin 32) (complete failed : Bool) : State :=
  let g := (s.hg.get h).gs
  if complete then
    let s1 := (s.updHg h (fun x =>
      { x with checkedAt := some s.now, freeMark := freeTotal s h, starved := false })).noteHead h
    if g == .disturbed then s1
    else if failed then (if g == .inService then s1.setGuard h .awaitingCheck else s1)
    else s1.setGuard h .inService
  else if g == .disturbed then s
  else s.requestCheck h

/-- The span of a head's check stops being active. -/
def State.closeCheckSpan (s : State) (h : Fin 32) : State :=
  { s with bell := { s.bell with spans := s.bell.spans.map (fun p =>
      if p.cls == .check && p.own == h then { p with active := false } else p) } }

/-- The injection of a head's check ends: every channel under it receives its finding (R144). -/
def State.endCheck (s : State) (h : Fin 32) (chans : List (Fin 64)) (results : List CheckMeas) : State :=
  let c := s.cfg.active
  let own := countingOfHead c h.val
  let fs := chans.map (fun ch => (ch, channelFinding s results ch))
  let complete := headDefined c h.val && own.all (fun ch => fs.any (fun x => x.1 == ch && x.2.1 != .void))
  let failed := fs.any (fun x => own.contains x.1 && isFail x.2.1)
  let s1 := fs.foldl (fun acc x => acc.takeFinding x.1 x.2.1 x.2.2) s
  (s1.closeCheckSpan h).headChecked h complete failed

/-- An injection is withdrawn: a carrier returns at the next envelope sample, a tone ramps down within
0.5 ms; one that is over, or ends sooner, stays as it is (R143). -/
def withdrawInjection (inductive_ : Bool) (now : Nat) (x : Channel) : Channel :=
  { x with injTo := x.injTo.map (fun t => Nat.min t (now + (if inductive_ then gridNs else us 500))) }

/-- A check is abandoned while its injection runs: it ends VOID and its span ends (R143, R207). The
TESTING tail of its samples runs on (R142). -/
def State.abandonCheck (s : State) (h : Fin 32) (chans : List (Fin 64)) : State :=
  let c := s.cfg.active
  let s1 := chans.foldl (fun acc ch => acc.updCh ch (withdrawInjection (chInductive c ch.val) s.now)) s
  let s2 := chans.foldl (fun acc ch => acc.takeFinding ch .void {}) s1
  let s3 : State := { s2 with bell := { s2.bell with
    abandoned := satInc32 s2.bell.abandoned
    spans := s2.bell.spans.filter (fun p => !(p.cls == .check && p.own == h && p.active)) } }
  s3.headChecked h false false

/-- GUARD_CHECK_END (R144, R145): of a head's check, or of a free channel's. The clock moves to the end
of the injection if it is not there yet (log 1). DESIGN CHOICE (log 35): the next GUARD_TEST_PERIOD of a
free channel runs from here (R136). -/
def guardCheckEnd (t : CheckTarget) (results : List CheckMeas) (s : State) : State :=
  match t with
  | .head h =>
    (match s.bell.spans.find? (fun p => p.cls == .check && p.own == h && p.active) with
     | some p => (s.reach p.injEnd).endCheck h p.chans results
     | none => s)
  | .channel ch =>
    let inSpan := s.bell.spans.any (fun p => p.cls == .check && p.active && p.chans.contains ch)
    let x := s.ch.get ch
    match x.injFrom, x.injTo with
    | some a, some b =>
      if (s.cg.get ch).checkRunning && !inSpan then
        let both := match partnerChan s.cfg.active ch with
          | some p => if (s.cg.get p).checkRunning && (s.ch.get p).injFrom == some a && p != ch
              then [ch, p] else [ch]
          | none => [ch]
        let s0 := s.reach b
        let s1 := both.foldl (fun acc k =>
          let f := channelFinding s0 results k
          acc.takeFinding k f.1 f.2) s0
        both.foldl (fun acc k => acc.updCg k (fun g => { g with freeCheckFrom := acc.now })) s1
      else s
    | _, _ => s

def execGuardCheckEnd (t : CheckTarget) (results : List CheckMeas) (s : State) :
    Host.Outcome State Fault Refusal :=
  run s fun s => s.whenAlive (guardCheckEnd t results)

/-- A free BRIDGE_6W channel that is checked without the Bellringer (R136, R208). -/
def freeChecked (c : CfgMap) (ch : Fin 64) : Bool :=
  chBridge6 c ch.val && (headOfChannel c ch.val).isNone
    && (match partnerChan c ch with
        | some p => (headOfChannel c p.val).isNone
        | none => true)

/-- FREE_CHANNEL_CHECK_DUE: at each GUARD_TEST_PERIOD (R136, R137). DESIGN CHOICE (log 35): the period runs
from the end of the channel's last injection, and runs anew when the channel cannot start. -/
def freeChannelCheckDue (ch : Fin 64) (s : State) : State :=
  let c := s.cfg.active
  let g := s.cg.get ch
  if freeChecked c ch && !g.checkRunning then
    let s1 := s.reach (g.freeCheckFrom + testPeriodNs c)
    if startable s1 ch then
      let go := (reachedChans c [ch]).filter (startable s1)
      go.foldl (fun acc k => acc.inject false k) s1
    else s1.updCg ch (fun g => { g with freeCheckFrom := s1.now })
  else s

def execFreeChannelCheckDue (ch : Fin 64) (s : State) : Host.Outcome State Fault Refusal :=
  run s fun s => s.whenAlive (freeChannelCheckDue ch)

-- linearisation
/-- The polynomial of R152 at x and tau. -/
def polyAt (g : Nat) (x tau : Rat) : Rat :=
  let term (i j : Nat) : Rat := (gPoly g i j : Rat) / 16777216 * x ^ i * tau ^ j
  (List.range 4).foldl (fun acc i => (List.range 3).foldl (fun a j => a + term i j) acc) 0

/-- The default polynomial returns VALUE unchanged (R153). -/
def polyIdentity (g : Nat) : Bool :=
  (List.range 4).all (fun i => (List.range 3).all (fun j =>
    gPoly g i j == (if i == 1 && j == 0 then 16777216 else 0)))

/-- A free error of at most one LSB (R153; log 11). -/
def lsbError (n : Nat) : Int := clampI (-1) 1 (Config.linearisationError n)

/-- VALUE' and whether it saturated (R152, R153). -/
def linearise (g : Nat) (tau : Rat) (v : Int) (fresh : Nat) : Int × Bool :=
  if polyIdentity g then (v, false)
  else
    let y := polyAt g ((v : Rat) / 8388608) tau
    if y < -1 ∨ 1 - 1 / 8388608 < y then (if y < 0 then -8388608 else 8388607, true)
    else (clampI (-8388608) 8388607 (roundAway (y * 8388608) + lsbError fresh), false)

-- at each Tally cycle
/-- The latest sample of a channel is known: none of UNSETTLED, TESTING, CLIPPED (R120). -/
def latestKnown (s : State) (ch : Fin 64) : Bool :=
  let w := (s.ch.get ch).sampleA.toNat
  (s.ch.get ch).lastCentre.isSome && !bitOf w 7 && !bitOf w 5 && !bitOf w 4 && !(s.cg.get ch).linClipped

/-- The RTD window of a channel in a Tally cycle (R134, R144, R145). -/
def State.rtdWindow (s : State) (ch : Fin 64) : State :=
  let c := s.cfg.active
  let g := s.cg.get ch
  if !chRtd c ch.val then s
  else if chSourceOn s ch.val && latestKnown s ch then
    let gc := guardCfg c ch.val
    let mag : Rat := ((s.ch.get ch).rtdMohm : Rat)
    let m : Measured := { mag := mag, phase := (gNomPhase gc : Rat), res := none, inductive_ := false }
    let f := findingOf gc m
    let s1 := s.updCg ch (fun x => { x with
      lastFinding := f, lastComplete := f, lastWindow := f, collapse := isFail f
      checkCount := (x.checkCount + 1) % 65536, checkedAt := some s.now
      result := { mag := (s.ch.get ch).rtdMohm } })
    let s2 := if isFail f && !g.collapse then s1.causeRaised ch
      else if !isFail f && g.collapse then s1.causeDropped ch else s1.judgeLoads ch
    if f != .pass && f != g.lastWindow then s2.guardRecord ch else s2
  else if g.collapse then (s.updCg ch (fun x => { x with collapse := false })).causeDropped ch
  else s

/-- tau of the die sensor (R154). -/
def dieTau (s : State) : Rat := ((s.power.dieTemp - 250 : Int) : Rat) / 1280

/-- Temperature of a channel for this Tally cycle (R154, R155). -/
def State.latchTau (s : State) (ch : Fin 64) : State :=
  let c := s.cfg.active
  if chMode c ch.val = 0 then s
  else match finOf? 64 (gTempSrc (guardCfg c ch.val)) with
    | none => s.updCg ch (fun g => { g with tau := dieTau s, tempFallback := false })
    | some t =>
      let gt := s.cg.get t
      if latestKnown s t && !causeHolds gt && !isFail gt.lastComplete
      then s.updCg ch (fun g => { g with tau := (gt.linValue : Rat) / 8388608, tempFallback := false })
      else s.updCg ch (fun g => { g with tau := dieTau s, tempFallback := true })

/-- What the guard does at the start of a Tally cycle. -/
def State.guardCycle (s : State) : State :=
  let s1 := (allFin 64).foldl (fun acc ch => acc.rtdWindow ch) s
  (allFin 64).foldl (fun acc ch => acc.latchTau ch) s1

-- boot and activation
/-- Causes that a configuration meets when it becomes active (R134, R149). A check that runs across an
activation ends VOID (log 35). The latest complete check stays what it is (R151). DESIGN CHOICE (log 35): COLLAPSE and
its run of samples start anew on every channel, and so does the finding of the RTD window that R145 compares with. -/
def State.liveCauses (s : State) (ch : Fin 64) : State :=
  s.updCg ch (fun g =>
    { g with collapse := false, collapseRun := 0
             compliance := monitorHolds s ch .compliance
             sourceDown := monitorHolds s ch .sourceDown
             clamp := monitorHolds s ch .clamp
             lastFinding := .none, lastWindow := .none, voided := g.checkRunning, tempFallback := false
             tau := dieTau s, freeCheckFrom := s.now })

/-- The guard of one head at boot or activation: DISTURBED, and AWAITING_CHECK at once when no cause
holds (R149; log 35). TEST_STARVED stays until a complete check (R148). -/
def State.guardHead (s : State) (h : Fin 32) : State :=
  let s1 := s.startGuard h .disturbed
  let s2 := (s1.updHg h (fun x => { x with checkedAt := none, freeMark := freeTotal s h
                                           sourcesOnAt := if sourcesAllOn s h then some s.now else none })).judgeLoad h
  if headDefined s2.cfg.active h.val && !countingCause s2 h
  then (s2.startGuard h .awaitingCheck).requestCheck h else s2

def State.guardActivate (s : State) : State :=
  let s1 := (allFin 64).foldl (fun acc ch => acc.liveCauses ch) s
  (allFin 32).foldl (fun acc h => acc.guardHead h) s1

end Sys2Proof.Machine
end

