-- ==== Sys2Proof/Machine/Excitation.lean ====
section
/-! DEFINITION. Terminals, clamp flags and the excitation sources (R74, R75, R82 to R93), with the
UNSETTLED spans of their channels (R88, R103). -/

namespace Sys2Proof.Machine

/-- Ramp time of a start, a stop and a current change (R86, R87, R89). -/
def rampNs : Nat := ms 2

/-- Set one switch of a terminal; a field above 191 names none. -/
def setBit192 (b : BitVec 192) (t : Nat) (v : Bool) : BitVec 192 :=
  if t < 192 then
    (if v then b ||| BitVec.ofNat 192 (2 ^ t) else b &&& ~~~(BitVec.ofNat 192 (2 ^ t)))
  else b

/-- Force and return switches of a source's word (R87, R89). -/
def State.switchSource (s : State) (w : Nat) (on : Bool) : State :=
  { s with term := { s.term with
      forceSw := setBit192 s.term.forceSw (wordForce w) on
      returnSw := setBit192 s.term.returnSw (wordReturn w) on } }

/-- Discharge switch of the force terminal (R89). -/
def State.switchDischarge (s : State) (w : Nat) (on : Bool) : State :=
  { s with term := { s.term with dischargeSw := setBit192 s.term.dischargeSw (wordForce w) on } }

/-- Input terminals of a channel, as its kind uses them (R81). -/
def inputTerminals (c : CfgMap) (ch : Nat) : List Nat :=
  let k := connKind c ch
  if k = 2 then [connSigP c ch, connSigN c ch, connRefP c ch, connRefN c ch]
  else if k = 0 then []
  else [connSigP c ch, connSigN c ch]

-- the current and the switches at an instant
/-- Level of a source at an instant, units of 10 uA: linear over the 2 ms of the present ramp, then the
level that it leads to (R86, R87, R89). For a carrier this is its peak. -/
def levelAt (x : Source) (t : Nat) : Rat :=
  if x.seqAt + rampNs ≤ t then (x.current : Rat)
  else x.base + ((x.current : Rat) - x.base) * ((t - x.seqAt : Nat) : Rat) / (rampNs : Rat)

/-- N of the channel that a source excites (R109). -/
def chopN (c : CfgMap) (k : Fin 64) : Nat := (boundChannel c k).elim 0 (fun ch => chFreq c ch.val)

/-- Direction of a source now; only a chopped one reverses (R78). -/
def sourceChop (s : State) (k : Fin 64) : Chop :=
  let x := s.src.get k
  if wordWave x.word = 1 then chopAt x.chop x.startAt s.now else .forward

/-- Current that a source drives into its force terminal now, units of 10 uA (R76, R79, R104, R138): the level and
the guard's tone, in the direction of the chopping cycle; of a carrier the level at the phase of its generator. -/
def sourceCurrent (s : State) (k : Fin 64) : Rat :=
  let x := s.src.get k
  let i := if wordWave x.word = 2 then levelAt x s.now * cosT (carrierTurns s k s.now)
    else levelAt x s.now + toneAt s k s.now
  match sourceChop s k with
  | .forward => i
  | .reversed => -i
  | .dead => 0

/-- What a return switch connects a terminal to (R78). -/
inductive ReturnTo where
  | agnd
  /-- The source's own return buffer at VEXC/2. -/
  | buffer (k : Fin 64)
  deriving DecidableEq, Repr

def returnTo (s : State) (k : Fin 64) : ReturnTo :=
  if wordWave (s.src.get k).word = 2 then .buffer k else .agnd

/-- Step 2 of a stop has been reached: the current is zero (R89). -/
def stopAtZero (s : State) (k : Fin 64) : Bool :=
  (s.src.get k).st == .discharging && decide ((s.src.get k).seqAt + rampNs ≤ s.now)

/-- A source's force switch is closed on a terminal (R78, R79, R87, R89). -/
def forceOf (s : State) (k : Fin 64) (t : Nat) : Bool :=
  let x := s.src.get k
  x.st != .off && !stopAtZero s k && (match sourceChop s k with
    | .forward => wordForce x.word == t
    | .reversed => wordReturn x.word == t
    | .dead => false)

/-- A source's return switch is closed on a terminal (R78, R79, R87, R89). DESIGN CHOICE (log 36): a chopped source whose
stop reaches zero in the reversed direction, or in a dead time, keeps the return switch of RETURN_AT and discharges
FORCE_AT, as in the forward direction. -/
def returnOf (s : State) (k : Fin 64) (t : Nat) : Bool :=
  let x := s.src.get k
  x.st != .off && (if stopAtZero s k then wordReturn x.word == t
    else match sourceChop s k with
      | .forward => wordReturn x.word == t
      | .reversed => wordForce x.word == t
      | .dead => false)

/-- The force switch of a terminal is closed now. -/
def forceClosed (s : State) (t : Fin 192) : Bool := (allFin 64).any (fun k => forceOf s k t.val)

/-- The return switch of a terminal is closed now. -/
def returnClosed (s : State) (t : Fin 192) : Bool := (allFin 64).any (fun k => returnOf s k t.val)

/-- Time for which a reset holds the discharge switches closed (R92). -/
def resetDischargeNs : Nat := ms 10

/-- The discharge switch of a terminal is closed now: from step 2 of a stop until its end (R89), and in
reset for 10 ms (R92). -/
def dischargeClosed (s : State) (t : Fin 192) : Bool :=
  s.term.dischargeSw.getLsbD t.val &&
    (if s.power.phase == .running || s.power.phase == .stopped || s.power.phase == .debugHalted
     then (allFin 64).any (fun k => stopAtZero s k && wordForce (s.src.get k).word == t.val)
     else decide (s.now < s.power.resetAt + resetDischargeNs))

/-- Sense switches: closed while the channel is bound and its source is ON (R82, R84). -/
def State.switchSense (s : State) : State :=
  let closed := (allFin 64).foldl (fun acc ch =>
    if chSourceOn s ch.val then (inputTerminals s.cfg.active ch.val).foldl (fun b t => setBit192 b t true) acc
    else acc) 0#192
  { s with term := { s.term with senseSw := closed } }

/-- The bound channel's samples become UNSETTLED from now on (R88). -/
def State.unsettle (s : State) (k : Fin 64) : State :=
  match boundChannel s.cfg.active k with
  | none => s
  | some ch => s.updCh ch (fun x =>
    let prev := match x.unsetFrom, x.unsetTo with
      | some a, some b => if b ≤ s.now then some (a, b) else x.unsetPrev
      | _, _ => x.unsetPrev
    let begin_ := match x.unsetFrom, x.unsetTo with
      | some a, some b => if b ≤ s.now then s.now else a
      | some a, none => a
      | none, _ => s.now
    { x with unsetPrev := prev, unsetFrom := some begin_, unsetTo := none })

/-- The ramp has ended: the marking runs on for three group delays (R88, R103). -/
def State.settleAfter (s : State) (k : Fin 64) : State :=
  match boundChannel s.cfg.active k with
  | none => s
  | some ch => s.updCh ch (fun x =>
      { x with unsetFrom := some (x.unsetFrom.getD (s.src.get k).seqAt)
               unsetTo := some (s.now + 3 * groupDelay s.cfg.active ch.val) })

/-- A start is carried out (R87): from zero current to the programmed value. -/
def State.runStart (s : State) (k : Fin 64) : State :=
  let w := excWord s.cfg.active k.val
  ((s.updSrc k (fun x => { x with st := .settling, pending := false, word := w, chop := chopN s.cfg.active k
                                  seqAt := s.now, startAt := s.now
                                  base := 0, current := wordCurrent w, latched := none })).switchSource w true).unsettle k

/-- A source is held by EXC_HOLD, or by THERMAL_TRIP (R40, R91). -/
def srcHeld (s : State) (k : Fin 64) : Bool := s.term.hold.getLsbD k.val || s.power.thermalTrip

/-- A start reaches a source that is OFF and may begin (R86). During HIBERNATE entry it is dropped. -/
def State.startNow (s : State) (k : Fin 64) : State :=
  if (s.src.get k).st != .off || srcHeld s k || s.power.entering || !excEnabled s.cfg.active k.val then s
  else if s.power.vexcLow then s.updSrc k (fun x => { x with pending := true })
  else s.runStart k

/-- Span of an EXCITATION offer (R201). -/
def excSpan (c : CfgMap) (ch : Nat) : Nat := rampNs + 3 * groupDelay c ch

/-- Offer a start or a current change of a source bound to a head (R85, R201). A change that pends is replaced;
one that is rung is carried out (R209). -/
def State.offerExc (s : State) (k : Fin 64) (h : Fin 32) (newCurrent : Option Nat) : State :=
  let ch := boundChannel s.cfg.active k
  (s.withdraw (fun o => o.src == some k && o.newCurrent.isSome == newCurrent.isSome)).offer
    { cls := .excitation, head := h, ch := ch, src := some k, newCurrent := newCurrent
      span := ch.elim 0 (fun x => excSpan s.cfg.active x.val), offeredAt := s.now }

/-- A start of this source is offered or rung and not yet carried out. -/
def startOffered (s : State) (k : Fin 64) : Bool :=
  s.bell.offers.any (fun o => o.src == some k && o.newCurrent.isNone)
    || s.bell.rung.any (fun o => o.src == some k && o.newCurrent.isNone)

/-- A start of a source (R85, R86). During HIBERNATE entry it is dropped. DEDUCED (log 36): where a start
of an OFF source meets two rows of R86, the row of a held source is taken before the row of VEXC_LOW, so
a held source takes no PENDING: the release of its hold issues its start. -/
def State.issueStart (s : State) (k : Fin 64) : State :=
  if !excEnabled s.cfg.active k.val || s.power.entering then s
  else match (s.src.get k).st with
    | .off =>
      if srcHeld s k then s
      else if s.power.vexcLow then s.updSrc k (fun x => { x with pending := true })
      else match headOfSource s.cfg.active k with
        | some h => if startOffered s k then s else s.offerExc k h none
        | none => s.runStart k
    | .discharging => s.updSrc k (fun x => { x with pending := true })
    | .settling | .on => s

/-- The current of an ON source ramps to a new value in 2 ms, from the level at hand (R86). -/
def State.applyCurrent (s : State) (k : Fin 64) (i : Nat) : State :=
  if (s.src.get k).st == .on then
    (s.updSrc k (fun x => { x with
      base := levelAt x s.now, current := i, seqAt := s.now, word := excWord s.cfg.active k.val })).unsettle k
  else s

/-- A current change of a source (R85, R86). -/
def State.issueCurrent (s : State) (k : Fin 64) (i : Nat) : State :=
  match (s.src.get k).st with
  | .settling => s.updSrc k (fun x => { x with latched := some i })
  | .on => (match headOfSource s.cfg.active k with
    | some h => s.offerExc k h (some i)
    | none => s.applyCurrent k i)
  | .off | .discharging => s

/-- Keep the ON interval that ends now; intervals older than 100 ms are dropped (R121). -/
def pushOn (now : Nat) (x : Source) : List (Nat × Nat) :=
  (x.onFrom, now) :: x.onHist.filter (fun e => decide (now ≤ e.2 + ms 100))

/-- A stop of a source: from SETTLING or ON the stop sequence runs, from the present level down to zero
(R86, R89). -/
def State.issueStop (s : State) (k : Fin 64) : State :=
  let s0 := s.recall (fun o => o.src == some k)
  let x := s0.src.get k
  match x.st with
  | .off | .discharging => s0.updSrc k (fun x => { x with pending := false })
  | .settling | .on =>
    let s1 := s0.updSrc k (fun x => { x with
      st := .discharging, pending := false, latched := none, base := levelAt x s0.now, current := 0, seqAt := s0.now
      onHist := if x.st == .on then pushOn s0.now x else x.onHist })
    (s1.switchDischarge x.word true).switchSense

/-- Step 4 of a stop: the discharge and return switches open and the source is OFF; a PENDING start
is issued (R86, R89, R90). -/
def State.endStop (s : State) (k : Fin 64) (incomplete : Bool) : State :=
  let x := s.src.get k
  let s1 := ((s.switchSource x.word false).switchDischarge x.word false).updSrc k (fun x =>
    { x with st := .off, pending := false, base := 0, current := 0, dischIncomplete := incomplete })
  if x.pending then s1.issueStart k else s1

-- rows
/-- EXC_START (R85, R86). -/
def execExcStart (src : Fin 64) (s : State) : Host.Outcome State Fault Refusal :=
  run s fun s => s.whenAlive (fun s => s.issueStart src)

/-- The ramp of a start, or of a current change, has ended (R86, R87). -/
def excRampComplete (k : Fin 64) (s : State) : State :=
  let x := s.src.get k
  let s0 := s.reach (x.seqAt + rampNs)
  match x.st with
  | .settling =>
    let s1 := s0.updSrc k (fun y => { y with st := .on, onFrom := s0.now, latched := none })
    let s2 := ((s1.settleAfter k).switchSense).noteSourcesOn
    (match x.latched with
     | some i => s2.issueCurrent k i
     | none => s2)
  | .on =>
    (match boundChannel s.cfg.active k with
     | some ch => if (s.ch.get ch).unsetFrom.isSome && (s.ch.get ch).unsetTo.isNone then s0.settleAfter k else s
     | none => s)
  | .off | .discharging => s

def execExcRampComplete (src : Fin 64) (s : State) : Host.Outcome State Fault Refusal :=
  run s fun s => s.whenAlive (excRampComplete src)

/-- EXC_STOP (R86, R89). -/
def execExcStop (src : Fin 64) (s : State) : Host.Outcome State Fault Refusal :=
  run s fun s => s.whenAlive (fun s => s.issueStop src)

/-- EXC_DISCHARGE_COMPLETE: within 10 ms of the stop (R89, R90). -/
def excDischargeComplete (k : Fin 64) (s : State) : State :=
  let x := s.src.get k
  let s0 := s.reach (x.seqAt + rampNs + us 100)
  if x.st == .discharging && decide (s0.now ≤ x.seqAt + ms 10) then s0.endStop k false else s

def execExcDischargeComplete (src : Fin 64) (s : State) : Host.Outcome State Fault Refusal :=
  run s fun s => s.guarded s.serving (excDischargeComplete src)

/-- EXC_DISCHARGE_TIMEOUT (R90). -/
def excDischargeTimeout (k : Fin 64) (s : State) : State :=
  let x := s.src.get k
  if x.st == .discharging then (s.reach (x.seqAt + ms 10)).endStop k true else s

def execExcDischargeTimeout (src : Fin 64) (s : State) : Host.Outcome State Fault Refusal :=
  run s fun s => s.guarded s.serving (excDischargeTimeout src)

/-- COMPLIANCE_SET: live status of a source, whichever sequence runs (R80). A source that is OFF has no
force terminal. -/
def complianceSet (k : Fin 64) (s : State) : State :=
  if (s.src.get k).st != .off then s.updSrc k (fun x => { x with compliance := true }) else s

def execComplianceSet (src : Fin 64) (s : State) : Host.Outcome State Fault Refusal :=
  run s fun s => s.whenAlive (complianceSet src)

/-- COMPLIANCE_CLEAR (R80). -/
def execComplianceClear (src : Fin 64) (s : State) : Host.Outcome State Fault Refusal :=
  run s fun s => s.whenAlive (fun s => s.updSrc src (fun x => { x with compliance := false }))

/-- UNSETTLED_SPAN_END: the marking has run out (R88, R103). The clock moves to its end if it is not
there yet (log 1); the interval stays known for the samples still to come. -/
def unsettledSpanEnd (ch : Fin 64) (s : State) : State :=
  match (s.ch.get ch).unsetFrom, (s.ch.get ch).unsetTo with
  | some a, some b => (s.reach b).updCh ch (fun x =>
      { x with unsetPrev := some (a, b), unsetFrom := none, unsetTo := none })
  | _, _ => s

def execUnsettledSpanEnd (ch : Fin 64) (s : State) : Host.Outcome State Fault Refusal :=
  run s fun s => s.whenAlive (unsettledSpanEnd ch)

/-- A check that runs on a channel which names a terminal is voided (R144). -/
def State.voidNamed (s : State) (t : Nat) : State :=
  (allFin 64).foldl (fun acc ch =>
    let c := acc.cfg.active
    let srcHit := match boundSource c ch.val with
      | some k => wordForce (excWord c k.val) == t || wordReturn (excWord c k.val) == t
      | none => false
    if (acc.cg.get ch).checkRunning && (srcHit || connSigP c ch.val == t || connSigN c ch.val == t
        || connRefP c ch.val == t || connRefN c ch.val == t)
    then acc.updCg ch (fun g => { g with voided := true }) else acc) s

/-- CLAMP_FLAG_SET (R74, R95): CLF_EVENTS counts a flag that becomes set. -/
def clampFlagSet (t : Fin 192) (conducting : Bool) (s : State) : State :=
  let s1 : State := { s with term := { s.term with
    clf := setBit192 s.term.clf t.val true
    cla := setBit192 s.term.cla t.val conducting
    clfEvents := if s.term.clf.getLsbD t.val then s.term.clfEvents else satInc32 s.term.clfEvents } }
  s1.voidNamed t.val

def execClampFlagSet (t : Fin 192) (conducting : Bool) (s : State) : Host.Outcome State Fault Refusal :=
  run s fun s => s.guarded s.serving (clampFlagSet t conducting)

/-- One word of a terminal map put in place. -/
def putWord (b : BitVec 192) (k : Nat) (w : BitVec 32) : BitVec 192 :=
  (b &&& ~~~(BitVec.ofNat 192 (0xFFFFFFFF * 2 ^ (32 * k)))) ||| BitVec.ofNat 192 (w.toNat * 2 ^ (32 * k))

/-- The live clamp state of 32 terminals as the command finds it (R75). -/
def State.setClamps (s : State) (k : Fin 6) (live : BitVec 32) : State :=
  { s with term := { s.term with cla := putWord s.term.cla k.val live } }

/-- A write to CLF_k: 1 clears a bit whose clamp is not conducting (R75). -/
def clfWrite (k : Nat) (value : Nat) (s : State) : State :=
  let old := BitVec.ofNat 32 (termWord s.term.clf k)
  let live := BitVec.ofNat 32 (termWord s.term.cla k)
  { s with term := { s.term with clf := putWord s.term.clf k (old &&& (~~~(BitVec.ofNat 32 value) ||| live)) } }

/-- A write to EXC_HOLD_0 or EXC_HOLD_1: a hold is a stop, its release a start (R91). -/
def holdWrite (high : Bool) (value : Nat) (s : State) : State :=
  let off : Nat := if high then 32 else 0
  let old := s.term.hold
  let word : BitVec 64 := BitVec.ofNat 64 (value % 2 ^ 32 * 2 ^ off)
  let mask : BitVec 64 := BitVec.ofNat 64 (0xFFFFFFFF * 2 ^ off)
  let s1 : State := { s with term := { s.term with hold := (old &&& ~~~mask) ||| word } }
  (allFin 64).foldl (fun acc k =>
    let was := old.getLsbD k.val
    let is_ := s1.term.hold.getLsbD k.val
    if is_ && !was then acc.issueStop k else if was && !is_ then acc.issueStart k else acc) s1

/-- SOURCE_DOWN arises on every channel whose condition now holds (R33, R38, R134). -/
def State.raiseSourceDown (s : State) : State :=
  (allFin 64).foldl (fun acc ch => guardCauseRaised ch .sourceDown acc) s

/-- The monitor of VEXC watches the rail in every state of the device (R31, R67). -/
def State.setVexcLow (s : State) (b : Bool) : State := { s with power := { s.power with vexcLow := b } }

/-- VEXC_LOW_SET (R31, R33). -/
def vexcLowSet (s : State) : State := (s.setVexcLow true).whenAlive State.raiseSourceDown

def execVexcLowSet (s : State) : Host.Outcome State Fault Refusal := run s vexcLowSet

/-- PENDING starts of OFF sources are issued (R86). -/
def State.issuePending (s : State) : State :=
  (allFin 64).foldl (fun acc k =>
    if (acc.src.get k).st == .off && (acc.src.get k).pending
    then (acc.updSrc k (fun x => { x with pending := false })).issueStart k else acc) s

/-- VEXC_LOW_CLEAR: PENDING starts are issued (R31, R33, R86). -/
def vexcLowClear (s : State) : State :=
  if s.power.vexcLow then (s.setVexcLow false).whenAlive State.issuePending else s

def execVexcLowClear (s : State) : Host.Outcome State Fault Refusal := run s vexcLowClear

/-- Reset sequence from now on: every source OFF, force, return and sense switches open; the discharge
switches close for 10 ms (R86, R92). CLF is not kept (R74). -/
def State.excReset (s : State) : State :=
  { s with
    power := { s.power with resetAt := s.now }
    src := Tab.all {}
    term := { s.term with clf := 0#192, cla := 0#192, hold := 0#64, forceSw := 0#192, returnSw := 0#192
                          senseSw := 0#192, dischargeSw := BitVec.allOnes 192 } }

/-- Starts of all enabled sources that EXC_HOLD does not hold (R40, R48). -/
def State.startAll (s : State) : State :=
  (allFin 64).foldl (fun acc k => if acc.term.hold.getLsbD k.val then acc else acc.issueStart k) s

/-- Stops of all sources (R38, R53). -/
def State.stopAll (s : State) : State := (allFin 64).foldl (fun acc k => acc.issueStop k) s

/-- What of a channel's settings is a change of waveform for its source (R123): MODE, RATE, range limits
and FREQ. -/
def chShape (c : CfgMap) (ch : Nat) : Nat × Nat × Nat × Nat × Nat :=
  (chMode c ch, chRate c ch, chGainMin c ch, chGainMax c ch, chFreq c ch)

/-- An activation finds an ON source whose CURRENT stays: a current change that pends keeps its place in the queue of
its head. Of a head that no longer scans the channel it is offered anew, or done at once where no head does (R85).
DESIGN CHOICE (log 36): a change that pends is offered on the head that the new configuration gives. -/
def State.moveCurrent (s : State) (k : Fin 64) : State :=
  match s.bell.offers.find? (fun o => o.src == some k && o.newCurrent.isSome) with
  | some o =>
    if headOfSource s.cfg.active k == some o.head then s
    else (s.withdraw (fun o => o.src == some k)).issueCurrent k (o.newCurrent.getD 0)
  | none => s

/-- What an activation does to a source: a disabled one stops, a changed waveform or terminal is a
stop with a PENDING start, a changed current is a current change, otherwise a start (R85, R86,
R123). An offer that is rung is carried out (R209). `old` is the configuration before. DESIGN CHOICE (log 36): an ON
source that the activation binds to another channel runs its stop sequence and a PENDING start, also when MODE, RATE,
range limits and FREQ of the two channels are equal. -/
def State.excActivate (s : State) (old : CfgMap) (k : Fin 64) : State :=
  let w0 := excWord old k.val
  let w1 := excWord s.cfg.active k.val
  let ch := boundChannel s.cfg.active k
  let chKey (c : CfgMap) : Option (Nat × Nat × Nat × Nat × Nat) := (boundChannel c k).map (fun x => chShape c x.val)
  let wave := wordWave w0 != wordWave w1 || wordForce w0 != wordForce w1 || wordReturn w0 != wordReturn w1
    || chKey old != chKey s.cfg.active || boundChannel old k != ch
  if !wordEnable w1 then s.issueStop k
  else match (s.src.get k).st with
    | .settling | .on =>
      if wave then (s.issueStop k).updSrc k (fun x => { x with pending := true })
      else if wordCurrent w0 != wordCurrent w1
      then (s.withdraw (fun o => o.src == some k)).issueCurrent k (wordCurrent w1) else s.moveCurrent k
    | .off | .discharging => (s.withdraw (fun o => o.src == some k)).issueStart k

end Sys2Proof.Machine
end

