-- ==== Sys2Proof/Machine/Channels.lean ====
section
/-! DEFINITION. Measurement channels: output samples with their flags and ranges, automatic ranging,
and where a sample goes (R99 to R123, R127, R134, R152, R168). -/

namespace Sys2Proof.Machine

-- instants
/-- Centre instant of the next output sample of a channel (R100): the latest one on the channel's grid
whose output instant has been reached, and never one that was delivered before. -/
def nextCentre (s : State) (ch : Fin 64) : Nat :=
  let c := s.cfg.active
  let p := samplePeriod c ch.val
  let base := s.power.bootAt + groupDelay c ch.val
  let m := (s.now - base) / p
  let n := match (s.ch.get ch).lastCentre with
    | some t => (t - s.power.bootAt) / p + 1
    | none => 0
  s.power.bootAt + Nat.max m n * p

-- flags
/-- The bound source was ON at an instant (R121). -/
def sourceOnAt (s : State) (ch : Nat) (t : Nat) : Bool :=
  match boundSource s.cfg.active ch with
  | none => false
  | some k =>
    let x := s.src.get k
    (x.st == .on && decide (x.onFrom ≤ t)) || x.onHist.any (fun e => decide (e.1 ≤ t) && decide (t < e.2))

/-- An instant lies in an UNSETTLED span (R88, R103, R120). -/
def unsettledAt (x : Channel) (t : Nat) : Bool :=
  (match x.unsetFrom, x.unsetTo with
   | some a, some b => decide (a ≤ t) && decide (t < b)
   | some a, none => decide (a ≤ t)
   | none, _ => false)
  || (match x.unsetPrev with
      | some (a, b) => decide (a ≤ t) && decide (t < b)
      | none => false)

/-- A filter window about an instant overlaps an injection (R120, R142). -/
def testingAt (x : Channel) (gd t : Nat) : Bool :=
  match x.injFrom, x.injTo with
  | some a, some b => decide (a ≤ t + gd) && decide (t ≤ b + gd)
  | _, _ => false

/-- Samples n0 - 3 to n0 + 4 about a switch instant (R118). -/
def seamAt (boot p t : Nat) (sw : Nat) : Bool :=
  let n0 := (sw - boot + p - 1) / p
  let n := (t - boot) / p
  decide (n0 ≤ n + 3) && decide (n ≤ n0 + 4)

/-- Flags of a sample (R120). -/
structure SampleFlags where
  unsettled : Bool
  seam : Bool
  clipped : Bool
  testing : Bool
  gain : Nat
  deriving DecidableEq, Repr

/-- A sample word (R127). -/
def sampleWord (v : Int) (f : SampleFlags) : BitVec 32 :=
  BitVec.ofNat 32 (256 * ofSigned 24 v + 128 * b2n f.unsettled + 64 * b2n f.seam + 32 * b2n f.clipped
    + 16 * b2n f.testing + f.gain % 8)

-- ranging
/-- A request is raised: offered when the channel is bound to a head, else carried out at once unless
a check runs on it (R116, R122). -/
def State.raiseRange (s : State) (ch : Fin 64) (finer : Bool) : State :=
  let s1 := s.updCh ch (fun x => { x with pendFiner := finer, pendCoarser := !finer, pendSince := s.now })
  match headOfChannel s.cfg.active ch.val with
  | some h => s1.offer { cls := .range, head := h, ch := some ch, finer := finer, span := 8 * samplePeriod s.cfg.active ch.val
                         offeredAt := s.now }
  | none => if (s.cg.get ch).checkRunning then s1 else s1.carryRange ch

/-- The 100 ms history after a sample whose 1 ms peak is 35 % or more: the values that made the peak are
past 1 ms before the channel's next sample at the latest (R114; log 53). -/
def highSeen (now period : Nat) (x : Channel) : Channel :=
  { x with histFrom := Nat.max x.histFrom (now + period - ms 1) }

/-- Thresholds of the coarser and the finer request: 80 % and 35 % of the full scale (R114). -/
def coarserAbove : Rat := 4 / 5
def finerBelow : Rat := 7 / 20

/-- The condition of a pending request has ceased to hold (R114). -/
def requestOver (m : StageOut) (x : Channel) : Bool :=
  (x.pendCoarser && decide (m.peak ≤ coarserAbove)) || (x.pendFiner && decide (finerBelow ≤ m.peak))

/-- The range monitor at a sample: requests whose condition has ceased are withdrawn, a request that
waited for a check is carried out, and a coarser request is raised (R114, R116, R122). -/
def State.rangeMonitor (s : State) (ch : Fin 64) (m : StageOut) : State :=
  let c := s.cfg.active
  let s0 := if finerBelow ≤ m.peak then s.updCh ch (highSeen s.now (samplePeriod c ch.val)) else s
  if !chAuto c ch.val then s0
  else
    let s1 := if requestOver m (s0.ch.get ch) then s0.dropRange ch else s0
    let x := s1.ch.get ch
    if x.pendCoarser || x.pendFiner then
      (if (headOfChannel c ch.val).isNone && !(s1.cg.get ch).checkRunning then s1.carryRange ch else s1)
    else if decide (coarserAbove < m.peak) && decide (chGainMin c ch.val < x.gain) then s1.raiseRange ch false
    else s1

/-- The channel can raise no overload request: it is at GAIN_MIN, or AUTO is 0 (R117). -/
def rangeFixed (c : CfgMap) (ch : Nat) (x : Channel) : Bool := !chAuto c ch || decide (x.gain ≤ chGainMin c ch)

/-- OVERLOAD and OVERLOAD_COUNT: an overload counts once, from when it can raise no request (R117,
R128). -/
def overloadStep (c : CfgMap) (ch : Nat) (overload : Bool) (x : Channel) : Channel :=
  let fixed := rangeFixed c ch x
  { x with
    overload := overload
    overCounted := overload && (x.overCounted || fixed)
    overloadCount := if overload && !x.overCounted && fixed then satInc32 x.overloadCount else x.overloadCount }

-- the sample
/-- RTD_MOHM (R107): V_SIG over the programmed current, not below 0. -/
def rtdMohm (c : CfgMap) (ch : Nat) (v : Int) : Nat :=
  match boundSource c ch with
  | some k =>
    let i := wordCurrent (excWord c k.val)
    satU 32 (roundAway ((v : Rat) * 250000000 / ((2 ^ (23 + chGainMin c ch) * i : Nat) : Rat)))
  | none => 0

/-- Collapse monitor of a sample (R134): the run of samples that meet its condition. -/
def collapseStep (c : CfgMap) (ch : Nat) (f : SampleFlags) (v : Int) (vref : Rat) (run : Nat) : Nat :=
  let g := guardCfg c ch
  if chInductive c ch then
    if (headOfChannel c ch).isNone || f.unsettled || f.testing then 0
    else
      let idle : Int := ((gIdle g * 128 : Nat) : Int)
      if f.clipped || decide (4 * v < idle) || decide (2 * idle < v) then run + 1 else 0
  else if chBridge6 c ch then
    (if decide (2 * vref < (gNomMag g : Rat)) || decide (3 * (gNomMag g : Rat) < 2 * vref) then run + 1 else 0)
  else 0

/-- Length of a rebase (R168). -/
def rebaseNs : Nat := ms 20

/-- Add a sample that is output at `now` to a running rebase (R168). -/
def rebaseAdd (c : CfgMap) (now h ch : Nat) (m : HeadSample) (r : RebaseAcc) : RebaseAcc :=
  let k := b2n m.known
  let v := if m.known then m.val else 0
  let p := if m.known then m.phase else 0
  if r.startAt + rebaseNs < now then r
  else if headSys1 c h == ch then { r with n1 := r.n1 + k, all1 := r.all1 + 1, a1 := r.a1 + v, p1 := r.p1 + p }
  else if headSys2 c h == ch then { r with n2 := r.n2 + k, all2 := r.all2 + 1, a2 := r.a2 + v, p2 := r.p2 + p }
  else { r with nl := r.nl + k, alll := r.alll + 1, al := r.al + v }

/-- Deliver a linearised sample to a head (R167, R169, R185). -/
def deliverSample (c : CfgMap) (now h ch : Nat) (m : HeadSample) (hd : Head) : Head :=
  let hd0 := { hd with rebase := hd.rebase.map (rebaseAdd c now h ch m) }
  if headSys1 c h == ch then { hd0 with sys1 := some m }
  else if headSys2 c h == ch then { hd0 with sys2 := some m }
  else { hd0 with load := some m
                  slots := Vector.map (Option.map (fun sl => { sl with load := loadSample m.centre m sl.load })) hd0.slots }

/-- CHANNEL_OUTPUT_SAMPLE (R99 to R122, R127, R134, R152, R170). DESIGN CHOICE (log 35): the collapse monitor of an
inductive channel reads the linearised value, and a sample that linearisation makes CLIPPED meets its condition. -/
def channelSample (ch : Fin 64) (x : SampleIn) (s : State) : State :=
  let c := s.cfg.active
  if chMode c ch.val = 0 then s
  else
    let t := nextCentre s ch
    let gd := groupDelay c ch.val
    let s0 := s.reach (t + gd)
    let m := stageOut s0 ch (t + gd) x
    let y := s0.ch.get ch
    let on := sourceOnAt s0 ch.val t
    let f : SampleFlags :=
      { unsettled := !on || unsettledAt y t
        seam := y.seams.any (fun e => seamAt s.power.bootAt (samplePeriod c ch.val) t e.1)
        clipped := m.clipped
        testing := testingAt y gd t
        gain := gainAt t y.seams y.gain }
    let v0 : Int := if !on then 0 else if m.clipped then (Config.clippedValue s0.fresh).toInt else satS 24 m.a
    let v : Int := if chInductive c ch.val && decide (v0 < 0) then 0 else v0
    let ph : Int := if !on || !chInductive c ch.val then 0
      else if m.clipped then (Config.clippedValue (s0.fresh + 1)).toInt else satS 24 m.p
    let lin := linearise (guardCfg c ch.val) (s0.cg.get ch).tau v (s0.fresh + 2)
    let s1 := (((s0.draw).draw).draw).updCh ch (fun y => overloadStep c ch.val m.overload
      { y with sampleA := sampleWord v f
               sampleP := if chInductive c ch.val then sampleWord ph f else 0#32
               rtdMohm := if chRtd c ch.val then rtdMohm c ch.val v else 0
               lastCentre := some t })
    let s2 := s1.updCg ch (fun g =>
      { g with linValue := lin.1, linClipped := lin.2
               collapseRun := collapseStep c ch.val { f with clipped := f.clipped || lin.2 } lin.1 m.vref g.collapseRun })
    let s3 := s2.rangeMonitor ch m
    let sample : HeadSample :=
      { val := lin.1, phase := ph, known := !f.unsettled && !f.testing && !f.clipped && !lin.2
        weight := if f.seam then 1 / 4 else 1, centre := t }
    (allFin 32).foldl (fun acc h =>
      if onHead c h.val ch.val then
        let a1 := acc.updHead h (deliverSample c s0.now h.val ch.val sample)
        if countingOf c h.val ch.val then a1.wreSample h else a1
      else acc) s3

def execChannelOutputSample (ch : Fin 64) (m : SampleIn) (s : State) : Host.Outcome State Fault Refusal :=
  run s fun s => s.whenAlive (channelSample ch m)

/-- An overload must persist for 16 stage-1 samples after a forced change to force another one (R115). -/
def forcedAgainNs : Nat := 16 * stage1Ns

/-- Instant from which an overload forces a change (R115). DESIGN CHOICE (log 53): an overload that is recognised within
12.8 µs of a forced change is taken for the one that forced it. -/
def forcedFrom (x : Channel) : Nat := x.forcedAt.elim 0 (fun t => t + forcedAgainNs)

/-- OVERLOAD_FORCED_CHANGE: max(g - 2, GAIN_MIN); it withdraws pending requests and voids a check
(R114, R115, R122). The clock moves to the end of the 12.8 µs after a forced change if it is not there yet (R115; log
1). An overload that can raise no request is counted (R117). -/
def overloadForced (ch : Fin 64) (s : State) : State :=
  let c := s.cfg.active
  let x := s.ch.get ch
  if chMode c ch.val != 0 && chAuto c ch.val && decide (chGainMin c ch.val < x.gain) then
    (((s.reach (forcedFrom x)).dropRange ch).changeRange ch (Nat.max (x.gain - 2) (chGainMin c ch.val)) true).updCg ch
      (fun g => { g with voided := g.voided || g.checkRunning })
  else if chMode c ch.val != 0 then s.updCh ch (overloadStep c ch.val true)
  else s

def execOverloadForcedChange (ch : Fin 64) (s : State) : Host.Outcome State Fault Refusal :=
  run s fun s => s.whenAlive (overloadForced ch)

/-- RANGE_FINER_REQUEST: the peak has stayed below 35 % for 100 ms (R114). The clock moves to that
instant if it is not there yet (log 1). -/
def rangeFiner (ch : Fin 64) (s : State) : State :=
  let c := s.cfg.active
  let x := s.ch.get ch
  if chMode c ch.val != 0 && chAuto c ch.val && decide (x.gain < chGainMax c ch.val)
      && !x.pendFiner && !x.pendCoarser
  then (s.reach (x.histFrom + ms 100)).raiseRange ch true else s

def execRangeFinerRequest (ch : Fin 64) (s : State) : Host.Outcome State Fault Refusal :=
  run s fun s => s.whenAlive (rangeFiner ch)

/-- A channel at boot, or one whose MODE, RATE, range limits or FREQ an activation has changed: GAIN_INIT
and cleared filters (R123). An injection that runs is not stopped, and its marking goes on (R136, R142).
DESIGN CHOICE (log 53): the restarted channel still delivers the sample whose centre lies before the activation and
whose output does not, and every sample from then on shows the new GAIN_INIT. -/
def freshChannel (c : CfgMap) (now : Nat) (ch : Nat) (x : Channel) : Channel :=
  { x with gain := chGainInit c ch, sampleA := 0#32, sampleP := 0#32, rtdMohm := 0, overload := false
           overCounted := false, pendFiner := false, pendCoarser := false, histFrom := now, seams := [], lastCentre := none
           peakFrom := now, forcedAt := none, clearedAt := now
           unsetPrev := none, unsetFrom := none, unsetTo := none }

/-- What an activation does to a channel (R123). `old` is the configuration before. A request stays
pending on a channel that goes on as it was (R116), and a rung one is carried out (R209). DESIGN CHOICE (log 53): a
request that pends on an unchanged channel is withdrawn when the channel is bound to another head, or to none, and
is raised anew when its condition still holds. -/
def State.channelActivate (s : State) (old : CfgMap) (ch : Fin 64) : State :=
  let c := s.cfg.active
  if chShape old ch.val != chShape c ch.val
  then (s.withdraw (rangeOffer ch)).updCh ch (freshChannel c s.now ch.val)
  else if headOfChannel old ch.val != headOfChannel c ch.val then s.dropRange ch
  else s

end Sys2Proof.Machine
end

