-- ==== Sys2Proof/Machine/Tracker.lean ====
section
/-! DEFINITION. The axle tracker: triggers, predecessors and ties, verdicts, prediction windows,
failed predictions and TRACKER_FULL (R245 to R260, R264, R265). -/

namespace Sys2Proof.Machine

def State.updEntry (s : State) (i : Fin 128) (f : Entry → Entry) : State :=
  { s with trk := { s.trk with entries := s.trk.entries.upd i f } }

def State.updTrack (s : State) (f : TrackCounts → TrackCounts) : State :=
  { s with trk := { s.trk with counts := f s.trk.counts } }

def freeEntries (s : State) : Nat := entriesIn s.trk (fun e => e == .free)

/-- Keep since when at least 8 entries have been FREE (R264). -/
def State.noteRoom (s : State) : State :=
  { s with trk := { s.trk with
      roomFrom := if 8 ≤ freeEntries s then some (s.trk.roomFrom.getD s.now) else none } }

/-- Entries of a section whose confirmation Tally has taken (R19). -/
def trackedTaken (s : State) (n : Fin 48) : Nat :=
  (allFin 128).foldl (fun acc i =>
    let e := s.trk.entries.get i
    acc + b2n (confirmedEntry e && e.sec == some n && e.taken)) 0

/-- An entry whose SECTION still counts its axle joins the residue (R304): load or DEF_MASS, and the
window's midpoint. -/
def State.joinResidue (s : State) (i : Fin 128) : State :=
  let c := s.cfg.active
  let e := (s.trk.entries.get i).advance c s.now
  match e.sec with
  | none => s
  | some n =>
    let mass : Rat := match e.load with
      | some l => ((10 * l : Nat) : Rat)
      | none => ((10 * frameMass c n.val : Nat) : Rat)
    let mid : Rat := ((e.rear + e.front : Int) : Rat) / 2
    if trackedTaken s n ≤ (s.sect.get n).count && confirmedEntry e && e.taken then
      { s with trk := { s.trk with joins := s.trk.joins ++ [(n, mass, mid)] } }
    else s

/-- An entry becomes FREE. -/
def State.freeEntry (s : State) (i : Fin 128) : State := s.updEntry i (fun _ => {})

-- matching
/-- Position of the trigger point in the section on the entry side (R166, R177). -/
def triggerPos (c : CfgMap) (n h : Nat) (neg : Bool) : Rat :=
  (posOf c n h : Rat) + (if neg then (headD c h : Rat) else 0)

/-- Entry side's section of a trigger (R248). -/
def entrySection (c : CfgMap) (h : Nat) (neg : Bool) : Option (Fin 48) := sideSection c h neg

/-- The entry may be a predecessor: RUNNING or PARKED, or claimed at the same grid instant (R248,
R249). -/
def predState (s : State) (time : Nat) (i : Fin 128) : Bool :=
  let st := (s.trk.entries.get i).st
  st == .running || st == .parked
    || (st == .atHead && s.trk.claims.any (fun k => k.pred == i && k.time == time))

/-- Approach distance of a candidate, none when the entry is no candidate (R248). -/
def candidateDist (s : State) (h : Fin 32) (neg : Bool) (time : Nat) (i : Fin 128) : Option Rat :=
  let c := s.cfg.active
  let e := s.trk.entries.get i
  match entrySection c h.val neg with
  | none => none
  | some n =>
    if predState s time i && e.sec == some n && headType c e.head.val == headType c h.val
        && considered c e h.val then
      let d := approachTo c e n.val h.val
      if d ≤ (guardDist c h.val : Rat) then some d else none
    else none

/-- Distance of a window's centre from the trigger point, doubled (R248). -/
def centreDist (s : State) (h : Fin 32) (neg : Bool) (i : Fin 128) : Rat :=
  let c := s.cfg.active
  let e := s.trk.entries.get i
  match entrySection c h.val neg with
  | none => 0
  | some n => absR (((winLo e + winHi e : Int) : Rat) - 2 * triggerPos c n.val h.val neg)

/-- The best candidate: smallest approach distance, then nearest centre, then lowest number (R248). -/
def bestCandidate (s : State) (h : Fin 32) (neg : Bool) (time : Nat) (excl : List (Fin 128)) :
    Option (Fin 128 × Rat) :=
  (allFin 128).foldl (fun acc i =>
    if excl.contains i then acc
    else match candidateDist s h neg time i with
      | none => acc
      | some d => match acc with
        | none => some (i, d)
        | some (j, dj) =>
          if d < dj ∨ (d = dj ∧ centreDist s h neg i < centreDist s h neg j) then some (i, d) else acc) none

/-- Link an entry to its predecessor (R246, R248). -/
def State.linkPred (s : State) (e p : Fin 128) (d : Rat) (time : Nat) : State :=
  let id := (s.trk.entries.get p).axleId
  let h := (s.trk.entries.get e).head
  let s1 := (s.updEntry p (fun x => { x with st := .atHead, link := some e })).updEntry e
    (fun x => { x with link := some p, axleId := id, newAxle := false })
  { s1 with trk := { s1.trk with claims :=
      { entry := e, head := h, pred := p, dist := d, time := time } :: s1.trk.claims } }

/-- Take a claim back: the predecessor returns to what it was (R249). -/
def State.unlinkPred (s : State) (e p : Fin 128) : State :=
  let s1 := (s.updEntry p (fun x => { x with st := if x.halted then .parked else .running, link := none })).updEntry e
    (fun x => { x with link := none, axleId := 0, newAxle := true })
  { s1 with trk := { s1.trk with claims := s1.trk.claims.filter (fun k => k.entry != e) } }

/-- Match an open entry to its predecessor. An entry that two triggers of one grid instant claim goes
to the smaller approach distance, the other trigger is matched again; equal distances raise
CLAIM_TIE (R248, R249). `n` bounds the matching. -/
def matchEntry : Nat → State → Fin 128 → List (Fin 128) → State
  | 0, s, _, _ => s
  | n + 1, s, e, excl =>
    let x := s.trk.entries.get e
    match bestCandidate s x.head x.neg x.tRef excl with
    | none => s
    | some (p, d) =>
      match s.trk.claims.find? (fun k => k.pred == p && k.time == x.tRef) with
      | none => s.linkPred e p d x.tRef
      | some k =>
        if d < k.dist then
          matchEntry n ((s.unlinkPred k.entry p).linkPred e p d x.tRef) k.entry [p]
        else if k.dist < d then matchEntry n s e (p :: excl)
        else
          let s1 := (s.unlinkPred k.entry p).updTrack (fun t => { t with claimTies := satInc32 t.claimTies })
          (s1.raiseClaimTie k.head).raiseClaimTie x.head

/-- AXLE_IDs of the entries that stay without a predecessor (R246). -/
def State.numberAxles (s : State) : State :=
  (allFin 128).foldl (fun acc i =>
    let e := acc.trk.entries.get i
    if e.st == .provisional && e.axleId == 0 then
      let id := acc.trk.nextAxle
      let s1 := acc.updEntry i (fun x => { x with axleId := id, newAxle := true })
      { s1 with trk := { s1.trk with nextAxle := if 65535 ≤ id then 1 else id + 1 } }
    else acc) s

/-- The PARKED entry that has been parked longest (R250). -/
def oldestParked (s : State) : Option (Fin 128) :=
  (allFin 128).foldl (fun acc i =>
    let e := s.trk.entries.get i
    if e.st == .parked then
      (match acc with
       | none => some i
       | some j => if e.parkedAt < (s.trk.entries.get j).parkedAt then some i else acc)
    else acc) none

/-- A FREE entry, or the evicted one (R250). -/
def State.takeEntry (s : State) : State × Option (Fin 128) :=
  match (allFin 128).find? (fun i => (s.trk.entries.get i).st == .free) with
  | some i => (s, some i)
  | none => match oldestParked s with
    | some i => (((s.joinResidue i).freeEntry i).updTrack (fun t => { t with releasedEarly := satInc32 t.releasedEarly }), some i)
    | none => (s, none)

/-- Slot of a head whose wheel gave a trigger, with its last s when it has closed already (R302). -/
def slotOfTrigger (s : State) (h : Fin 32) (time : Nat) : Fin 2 × Option Rat :=
  let hd := s.head.get h
  let gone (i : Fin 2) : Option Rat := ((hd.closed.get i).filter (fun k => k.1 == time)).map (fun k => k.2)
  match (allFin 2).find? (fun i => (hd.slots.get i).any (fun sl => sl.trig == some time)) with
  | some i => (i, none)
  | none => match (allFin 2).find? (fun i => (gone i).isSome) with
    | some i => (i, gone i)
    | none => (0, none)

/-- Drop the first message that is equal. -/
def dropMsg (m : WreMsg) : List WreMsg → List WreMsg
  | [] => []
  | x :: xs => if x == m then xs else x :: dropMsg m xs

/-- A time of the grid lies before the start of the Tally cycle in which the configuration became active
(R251). Both are counted from the boot, and the time lies at most half a turn of GRID_TIME back (R223). -/
def beforeActivation (s : State) (time : Nat) : Bool :=
  decide ((s.now - s.power.bootAt) / gridNs - gridSince (gridTime s) time < (s.cfg.activeAt - s.power.bootAt) / gridNs)

/-- TRIGGER_EVENT (R247 to R250, R264). The entry is taken before its predecessor is looked for (log 27).
A trigger point before the start of the Tally cycle in which the configuration became active opens nothing (R251). -/
def triggerEvent (h : Fin 32) (neg : Bool) (time : Nat) (s : State) : State :=
  let c := s.cfg.active
  let s0 := s.updHead h (fun x => { x with out := dropMsg (.trigger neg time) x.out })
  if !headDefined c h.val || beforeActivation s time then s0
  else
    let s1 : State := { s0 with trk := { s0.trk with claims := s0.trk.claims.filter (fun k => k.time == time) } }
    match s1.takeEntry with
    | (s2, none) => { s2 with trk := { s2.trk with full := true } }
    | (s2, some i) =>
      let e : Entry :=
        { st := .provisional, head := h, neg := neg, tRef := time, openedAt := s2.now
          sideASec := sideSection c h.val false, sideBSec := sideSection c h.val true
          slot := (slotOfTrigger s2 h time).1, lastS := (slotOfTrigger s2 h time).2 }
      let s3 := (s2.updEntry i (fun _ => e)).updTrack (fun t => { t with opened := satInc32 t.opened })
      let s4 := (matchEntry 64 s3 i []).numberAxles
      (s4.toTally (.opened (sideSection c h.val neg) (sideSection c h.val (!neg)))).noteRoom

def execTriggerEvent (h : Fin 32) (neg : Bool) (time : Nat) (s : State) : Host.Outcome State Fault Refusal :=
  run s fun s => s.whenAlive (triggerEvent h neg time)

-- verdicts
/-- The PROVISIONAL entry of a verdict's trigger. -/
def entryOfVerdict (s : State) (h : Fin 32) (v : VerdictRec) : Option (Fin 128) :=
  match v.trigTime with
  | none => none
  | some t => (allFin 128).find? (fun i =>
      let e := s.trk.entries.get i
      e.st == .provisional && e.head == h && e.tRef == t)

/-- Instant in ns of a count of the 20 us grid (R200). One that rounding has put ahead of the clock is the present
grid instant. -/
def pastGrid (s : State) (g : Nat) : Nat :=
  s.power.bootAt + ((s.now - s.power.bootAt) / gridNs - gridSince (gridTime s) g) * gridNs

/-- Start a window (R256): position relative to the head's system 1 centre line. -/
def startWindow (s : State) (h : Fin 32) (n : Fin 48) (rel : Int) (neg : Bool) (speed : Int)
    (exitTime : Nat) (e : Entry) : Entry :=
  let e1 : Entry := { e with
    st := .running, head := h, sec := some n, neg := neg, link := none, speed := speed, tRef := exitTime
    origin := posOf s.cfg.active n.val h.val + rel, startAt := pastGrid s exitTime, halted := false }
  e1.advance s.cfg.active s.now

/-- Exit position of a FULL verdict, relative to system 1 (R256): 0.5 mm is 8 units. -/
def exitRel (c : CfgMap) (h : Nat) (neg : Bool) : Int :=
  if neg then -(headW c h : Int) - 8 else (headD c h : Int) + (headW c h : Int) + 8

/-- The predecessor that an entry is linked to. -/
def predOf (s : State) (e : Entry) : Option (Fin 128) :=
  e.link.filter (fun p => (s.trk.entries.get p).st == .atHead)

/-- A FULL verdict confirms its entry (R251, R254, R261). -/
def State.confirmEntry (s : State) (h : Fin 32) (v : VerdictRec) (i : Fin 128) : State :=
  let c := s.cfg.active
  let e := s.trk.entries.get i
  let neg := v.verdict == .fullNeg
  let m : GroupMember := { exitTime := v.exitTime, exitSpeed := v.exitSpeed, load := v.load
                           signature := v.signature, axleId := e.axleId }
  let j := s.joinGroup h neg m
  let s1 := j.1
  let load := v.load.or ((predOf s e).bind (fun p => (s.trk.entries.get p).load))
  let s2 := match predOf s e with
    | some p => s1.freeEntry p
    | none => s1
  let dest := sideSection c h.val (!neg)
  let s3 := match dest with
    | some n => s2.updEntry i (fun x =>
        startWindow s2 h n (exitRel c h.val neg) neg v.exitSpeed v.exitTime
          { x with load := load, group := j.2, taken := false })
    | none => s2.freeEntry i
  (s3.updTrack (fun t => { t with confirmed := satInc32 t.confirmed })).toTally
    (.confirmed h v (some i) e.axleId j.2 (sideSection c h.val neg) dest)

/-- A FULL verdict without an entry: a confirmed axle for Tally and nothing else (R264, R265). -/
def State.confirmOnly (s : State) (h : Fin 32) (v : VerdictRec) : State :=
  let c := s.cfg.active
  let neg := v.verdict == .fullNeg
  let j := s.joinGroup h neg { exitTime := v.exitTime, exitSpeed := v.exitSpeed, load := v.load
                               signature := v.signature, axleId := 0 }
  (j.1.updTrack (fun t => { t with confirmedOnly := satInc32 t.confirmedOnly })).toTally
    (.confirmed h v none 0 j.2 (sideSection c h.val neg) (sideSection c h.val (!neg)))

/-- Exit position of a traversal that is refuted: the entry side's boundary of a PARTIAL or RETREAT,
else where the slot was last seen (R251; log 37). -/
def refutedRel (s : State) (h : Fin 32) (v : VerdictRec) (e : Entry) : Int :=
  let c := s.cfg.active
  match v.verdict with
  | .partialEntry | .retreat => exitRel c h.val (!e.neg)
  | _ => (match e.lastS, (s.head.get h).slots.get e.slot with
    | some p, _ => roundAway p
    | none, some sl => roundAway sl.s
    | none, none => 0)

/-- Sections of a REFUTED record (R465, R270). -/
def entryFrom (e : Entry) : Option (Fin 48) := if e.neg then e.sideBSec else e.sideASec
def entryTo (e : Entry) : Option (Fin 48) := if e.neg then e.sideASec else e.sideBSec

/-- Another verdict refutes its entry; the predecessor returns to RUNNING (R251, R252). -/
def State.refuteEntry (s : State) (h : Fin 32) (v : VerdictRec) (i : Fin 128) : State :=
  let c := s.cfg.active
  let e := s.trk.entries.get i
  let rel := refutedRel s h v e
  let neg : Bool := decide (v.exitSpeed < 0) || (v.exitSpeed == 0 && decide (2 * rel ≤ (headD c h.val : Int)))
  let s1 := match predOf s e with
    | some p => (match (s.trk.entries.get p).sec with
      | some n => s.updEntry p (startWindow s h n rel neg v.exitSpeed v.exitTime)
      | none => s)
    | none => s
  ((s1.freeEntry i).updTrack (fun t => { t with refutedVerdict := satInc32 t.refutedVerdict })).toTally
    (.refuted h (verdictFlags v) 0 i e.axleId (entryFrom e) (entryTo e) e.tRef v.exitTime v.dither
      v.exitSpeed true)

/-- A verdict record leaves the head's list; one that the head did not make itself is counted at the
head as its own (R195, R200; log 38). -/
def State.takeVerdict (s : State) (h : Fin 32) (v : VerdictRec) : State :=
  s.updHead h (fun x =>
    if x.out.contains (.verdict v) then { x with out := dropMsg (.verdict v) x.out }
    else { x with counts := { countVerdict x.counts v with seq := v.seq % 65536 } })

/-- TRAVERSAL_VERDICT (R251, R252, R254, R265). -/
def traversalVerdict (h : Fin 32) (v : VerdictRec) (s : State) : State :=
  if !headDefined s.cfg.active h.val then s
  else
    let s0 := s.takeVerdict h v
    match entryOfVerdict s0 h v with
    | some i => (if isFull v.verdict then s0.confirmEntry h v i else s0.refuteEntry h v i).noteRoom
    | none => if isFull v.verdict then s0.confirmOnly h v else s0

def execTraversalVerdict (h : Fin 32) (v : VerdictRec) (s : State) : Host.Outcome State Fault Refusal :=
  run s fun s => s.whenAlive (traversalVerdict h v)

-- windows
/-- The window can move no further and the prediction cannot fail (R258). -/
def parks (c : CfgMap) (e : Entry) : Bool :=
  match e.st, e.sec with
  | .running, some n =>
    let front := decide (frontSpeed c e n.val ≤ 0)
      || (if e.neg then decide (e.front ≤ trackRunMin c n.val) else decide (trackRunMax c n.val ≤ e.front))
    front && ((reachAhead c e).isEmpty || decide (rearSpeed c e n.val ≤ 0))
  | _, _ => false

/-- An entry at a step of the grid (R256, R258). -/
def stepEntry (s : State) (e : Entry) : Entry :=
  let e1 := e.advance s.cfg.active s.now
  if parks s.cfg.active e1 then { e1 with st := .parked, parkedAt := s.now, halted := true } else e1

/-- The grid step that a row of the 20 us grid takes: the one at the present instant, or the next
(R100, R207, R256; log 1). -/
def nextStep (boot now last : Nat) : Nat :=
  let g := boot + (now - boot) / gridNs * gridNs
  if last < g then g else last + gridNs

/-- TRACKER_WINDOW_UPDATE (R256, R258), with what R173 asks of the windows of heads in an unknown
span. -/
def trackerWindowUpdate (s : State) : State :=
  let t := nextStep s.power.bootAt s.now s.trk.stepAt
  let s0 := s.reach t
  let s1 : State := { s0 with trk := { s0.trk with
    stepAt := t, entries := Vector.map (stepEntry s0) s0.trk.entries } }
  (allFin 32).foldl (fun acc h =>
    if (acc.head.get h).unknownFrom.isSome && windowOver acc h
    then acc.updHead h (fun x => { x with windowSeen := true }) else acc) s1

def execTrackerWindowUpdate (s : State) : Host.Outcome State Fault Refusal :=
  run s fun s => s.whenAlive trackerWindowUpdate

/-- Limit point of a reachable head, clamped to the track (R257). -/
def limitPoint (c : CfgMap) (e : Entry) (n h : Nat) : Rat :=
  clampRun c n (if e.neg then senLo c n h - (guardDist c h : Rat) else senHi c n h + (guardDist c h : Rat))

/-- How far the rear edge has to run from x0 to the limit point of the last reachable head ahead, none
when no head is ahead (R257). -/
def failDistance (c : CfgMap) (e : Entry) (n : Nat) : Option Rat :=
  (reachAhead c e).foldl (fun acc h =>
    let d := if e.neg then (e.origin : Rat) - limitPoint c e n h else limitPoint c e n h - (e.origin : Rat)
    match acc with
    | none => some d
    | some x => some (maxR x d)) none

/-- Instant at which the prediction of an entry fails (R252, R257), in ns. -/
def failInstant (c : CfgMap) (e : Entry) : Option Nat :=
  match e.st, e.sec with
  | .running, some n =>
    (match failDistance c e n.val with
     | none => none
     | some d =>
       let v := rearSpeed c e n.val
       let run := d + (trackHalf c n.val : Rat)
       if run ≤ 0 then some e.startAt
       else if v ≤ 0 then none
       else some (e.startAt + (run / v * 1000000000).ceil.toNat))
  | _, _ => none

/-- PREDICTION_FAILED: the entry is refuted at the instant at which the rear edge reaches the last
limit point, as the nearest count of the grid; the clock moves there if it is not there yet (R252, R257, R506;
log 1). -/
def predictionFailed (i : Fin 128) (s : State) : State :=
  let e := s.trk.entries.get i
  match failInstant s.cfg.active e with
  | none => s
  | some t =>
    let s0 := s.reach t
    let g := gridOf s.power.bootAt t
    ((((s0.joinResidue i).freeEntry i).updTrack (fun k => { k with refutedPrediction := satInc32 k.refutedPrediction })).toTally
      (.refuted e.head 0 1 i e.axleId none e.sec e.tRef g 0 e.speed false)).noteRoom

def execPredictionFailed (e : Fin 128) (s : State) : Host.Outcome State Fault Refusal :=
  run s fun s => s.whenAlive (predictionFailed e)

/-- TRACKER_FULL_CLEAR: at least 8 entries have been FREE for 1 s (R264). -/
def trackerFullClear (s : State) : State :=
  match s.trk.roomFrom with
  | some t => if s.trk.full then
      let s0 := s.reach (t + sec 1)
      { s0 with trk := { s0.trk with full := false } }
    else s
  | none => s

def execTrackerFullClear (s : State) : Host.Outcome State Fault Refusal :=
  run s fun s => s.whenAlive trackerFullClear

-- Tally's calls
/-- Release the tracked entries beyond a section's COUNT (R259): nearest the head at which the count
fell first, then the oldest. -/
def surplusOrder (s : State) (n : Fin 48) (h : Option Nat) (i : Fin 128) : Rat × Nat :=
  let e := s.trk.entries.get i
  (match h with
   | some k => approachTo s.cfg.active e n.val k
   | none => 0, e.openedAt)

/-- The first entry to release on a section. DESIGN CHOICE (log 27): an AT_HEAD entry is never released, because R251
releases RUNNING and PARKED ones only, so that the tracked entries exceed COUNT when only AT_HEAD ones remain (R259). -/
def surplusFirst (s : State) (n : Fin 48) (h : Option Nat) : Option (Fin 128) :=
  (allFin 128).foldl (fun acc i =>
    let e := s.trk.entries.get i
    if (e.st == .running || e.st == .parked) && e.sec == some n then
      (match acc with
       | none => some i
       | some j =>
         let a := surplusOrder s n h i
         let b := surplusOrder s n h j
         if a.1 < b.1 ∨ (a.1 = b.1 ∧ a.2 < b.2) then some i else acc)
    else acc) none

def releaseSurplus : Nat → State → Fin 48 → Option Nat → State
  | 0, s, _, _ => s
  | k + 1, s, n, h =>
    if (s.sect.get n).count < trackedOn s n then
      (match surplusFirst s n h with
       | some i => releaseSurplus k ((s.freeEntry i).updTrack
           (fun t => { t with releasedEarly := satInc32 t.releasedEarly })) n h
       | none => s)
    else s

/-- Every entry at an activation (R251, R252): PROVISIONAL ones are refuted, the others released, and with them the
axles on their way into a residue (R320). -/
def State.trackerActivate (s : State) : State :=
  let g := gridOf s.power.bootAt s.now
  let s1 := (allFin 128).foldl (fun acc i =>
    let e := acc.trk.entries.get i
    if e.st == .provisional then
      (acc.updTrack (fun t => { t with refutedVerdict := satInc32 t.refutedVerdict })).toTally
        (.refuted e.head 0 2 i e.axleId (entryFrom e) (entryTo e) e.tRef g 0 0 true)
    else acc) s
  (({ s1 with trk := { s1.trk with entries := Tab.all {}, claims := [], joins := [] } } : State)).noteRoom

end Sys2Proof.Machine
end

