-- ==== Sys2Proof/Machine/Bellringer.lean ====
section
/-! DEFINITION. The Bellringer and the rebases: FREE, APPROACH and GAP of every head, offers judged and
rung, spans, abandonments and intrusions (R168, R201 to R213). -/

namespace Sys2Proof.Machine

/-- HEADS of an offer (R207, R208). -/
def offerHeads (c : CfgMap) (o : Offer) : List (Fin 32) :=
  if o.cls == .check then checkHeads c o.head else [o.head]

/-- A span of one of two classes runs on a head (R207). A check or rebase that is active runs on. -/
def spanRuns (s : State) (a b : OfferClass) (h : Fin 32) : Bool :=
  s.bell.spans.any (fun p => (p.cls == a || p.cls == b) && p.heads.contains h
    && (p.active || decide (s.now < p.endAt)))

/-- RINGABLE of R207. -/
def ringable (s : State) (o : Offer) : Bool :=
  let hs := offerHeads s.cfg.active o
  hs.all (fun k =>
    let b := s.bell.heads.get k
    b.free && (match b.gap with
      | none => true
      | some g => decide (o.span ≤ g)) && !spanRuns s .check .rebase k)
  && (if o.cls == .check || o.cls == .rebase then hs.all (fun k => !spanRuns s .excitation .range k) else true)
  && (if o.cls == .range then (match o.ch with
        | some ch => !(s.cg.get ch).checkRunning
        | none => true) else true)

/-- Count a ring (R215). -/
def countRing (b : Bell) : OfferClass → Bell
  | .excitation => { b with rungExc := satInc32 b.rungExc }
  | .range => { b with rungRange := satInc32 b.rungRange }
  | .check => { b with rungCheck := satInc32 b.rungCheck }
  | .rebase => { b with rungRebase := satInc32 b.rungRebase }

/-- Ring an offer: its span runs on its heads, and its owner carries it out from the next step on
(R207). -/
def State.ring (s : State) (o : Offer) : State :=
  let long := o.cls == .check || o.cls == .rebase
  let p : Span := { cls := o.cls, own := o.head, heads := offerHeads s.cfg.active o
                    endAt := s.now + gridNs + o.span, injEnd := s.now + gridNs + o.span, chans := []
                    active := long }
  let b := countRing s.bell o.cls
  { s with bell := { b with offers := b.offers.filter (fun x => x != o), rung := b.rung ++ [o]
                            spans := b.spans ++ [p] } }

/-- Order of the offers of one class on one head: oldest first, then lower channel (R207, R210). -/
def offerBefore (a b : Offer) : Bool :=
  decide (a.offeredAt < b.offeredAt)
    || (a.offeredAt == b.offeredAt && decide ((a.ch.elim 64 (fun x => x.val)) < (b.ch.elim 64 (fun x => x.val))))

def offerInsert (o : Offer) : List Offer → List Offer
  | [] => [o]
  | x :: xs => if offerBefore o x then o :: x :: xs else x :: offerInsert o xs

def offersOf (s : State) (h : Fin 32) (cls : OfferClass) : List Offer :=
  (s.bell.offers.filter (fun o => o.head == h && o.cls == cls)).foldl (fun acc o => offerInsert o acc) []

/-- Judge the offers (R207, R212). -/
def State.judgeOffers (s : State) : State :=
  if s.trk.full then s
  else (allFin 32).foldl (fun acc h =>
    [OfferClass.excitation, .range, .check, .rebase].foldl (fun a cls =>
      (offersOf a h cls).foldl (fun b o => if ringable b o then b.ring o else b) a) acc) s

-- carrying out
/-- A rung offer is carried out by its owner (R207). -/
def State.carry (s : State) (o : Offer) : State :=
  match o.cls with
  | .excitation => (match o.src, o.newCurrent with
    | some k, none => s.startNow k
    | some k, some i => s.applyCurrent k i
    | none, _ => s)
  | .range => (match o.ch with
    | some ch => s.oneRange ch o.finer
    | none => s)
  | .check => s.startCheck o.head
  | .rebase => s.updHead o.head (fun x => { x with rebase := some { startAt := s.now } })

def State.carryAll (s : State) : State :=
  s.bell.rung.foldl State.carry { s with bell := { s.bell with rung := [] } }

-- rebases
/-- Request a rebase of a head (R168). -/
def State.requestRebase (s : State) (h : Fin 32) : State :=
  if !headDefined s.cfg.active h.val || offerPending s .rebase h
      || s.bell.spans.any (fun p => p.cls == .rebase && p.own == h && p.active) then s
  else s.offer { cls := .rebase, head := h, ch := (countingOfHead s.cfg.active h.val).head?
                 span := rebaseNs, offeredAt := s.now }

/-- A rebase ends without effect and is requested again (R168, R211). -/
def State.abandonRebase (s : State) (h : Fin 32) : State :=
  let s1 := s.updHead h (fun x => { x with rebase := none })
  let s2 : State := { s1 with bell := { s1.bell with
    abandoned := satInc32 s1.bell.abandoned
    spans := s1.bell.spans.filter (fun p => !(p.cls == .rebase && p.own == h)) } }
  s2.requestRebase h

/-- REBASE_REQUEST: 1 s of free time since the last rebase (R168). -/
def rebaseRequest (h : Fin 32) (s : State) : State :=
  let due := (s.head.get h).rebaseMark + sec 1
  let s1 := s.reachFree h due
  if due ≤ freeTotal s1 h then s1.requestRebase h else s

def execRebaseRequest (h : Fin 32) (s : State) : Host.Outcome State Fault Refusal :=
  run s fun s => s.whenAlive (rebaseRequest h)

/-- A baseline moves towards an average by at most a limit (R168). -/
def moveBase (base : Int) (avg limit : Rat) : Int :=
  roundAway ((base : Rat) + maxR (-limit) (minR limit (avg - (base : Rat))))

/-- At least half the samples of the 20 ms are known (R168). -/
def enoughKnown (c : CfgMap) (ch n : Nat) : Bool := decide (ms 20 ≤ 2 * n * samplePeriod c ch)

/-- One bridge baseline's step limit: 2^13 LSB (R168). -/
def bridgeStep : Rat := 8192

/-- The baselines after a rebase (R168). -/
def rebased (c : CfgMap) (h : Nat) (r : RebaseAcc) (b : Baselines) : Baselines :=
  let strip := headStrip c h
  let limA (x : Int) : Rat := if strip then bridgeStep else absR (x : Rat) / 50
  let limP : Rat := 8388608 / (100 * piR)
  let avg (sum : Int) (n : Nat) : Rat := (sum : Rat) / (n : Rat)
  let b1 := if enoughKnown c (headSys1 c h) r.n1 then
      { b with a1 := moveBase b.a1 (avg r.a1 r.n1) (limA b.a1)
               p1 := if strip then b.p1 else moveBase b.p1 (avg r.p1 r.n1) limP } else b
  let b2 := if enoughKnown c (headSys2 c h) r.n2 then
      { b1 with a2 := moveBase b1.a2 (avg r.a2 r.n2) (limA b1.a2)
                p2 := if strip then b1.p2 else moveBase b1.p2 (avg r.p2 r.n2) limP } else b1
  if headInductive c h && decide (headLoad c h < 64) && decide (0 < r.nl) && enoughKnown c (headLoad c h) r.nl then
    { b2 with load := some (match b2.load with
        | none => roundAway (avg r.al r.nl)
        | some x => moveBase x (avg r.al r.nl) bridgeStep) }
  else b2

/-- REBASE_COMPLETE: 20 ms after the averaging began (R168; log 1). -/
def rebaseComplete (h : Fin 32) (s : State) : State :=
  match (s.head.get h).rebase with
  | none => s
  | some r =>
    let s0 := s.reach (r.startAt + rebaseNs)
    let s1 := s0.updHead h (fun x =>
      { x with rebase := none, base := rebased s0.cfg.active h.val r x.base, rebaseMark := freeTotal s0 h })
    { s1 with bell := { s1.bell with spans := s1.bell.spans.filter (fun p => !(p.cls == .rebase && p.own == h)) } }

def execRebaseComplete (h : Fin 32) (s : State) : Host.Outcome State Fault Refusal :=
  run s fun s => s.whenAlive (rebaseComplete h)

-- FREE lost
/-- A span of an EXCITATION or RANGE event, or the TESTING tail of a check whose injection has ended,
runs on a head (R209). -/
def intruded (s : State) (h : Fin 32) : Bool :=
  s.bell.spans.any (fun p => p.heads.contains h && decide (s.now < p.endAt)
    && (p.cls == .excitation || p.cls == .range
        || (p.cls == .check && (!p.active || decide (p.injEnd ≤ s.now)))))

/-- A head has stopped being FREE (R143, R168, R209). -/
def State.freeLost (s : State) (h : Fin 32) : State :=
  let s1 := if intruded s h then { s with bell := { s.bell with intrusions := satInc32 s.bell.intrusions } } else s
  s1.bell.spans.foldl (fun acc p =>
    if p.heads.contains h && p.active then
      (match p.cls with
       | .check => if acc.now < p.injEnd then acc.abandonCheck p.own p.chans else acc
       | .rebase => acc.abandonRebase p.own
       | .excitation | .range => acc)
    else acc) s1

/-- APPROACH as the object shows it (R215). -/
def approachWord (a : Option Rat) : Option Nat := a.map (fun x => Nat.min (roundAway x).toNat 0xFFFFFFFE)

/-- One head at a coordinate step (R204 to R206). -/
def State.lookHead (s : State) (h : Fin 32) : State :=
  if !headDefined s.cfg.active h.val then s
  else
    let free := !axleNear s h
    let b := s.bell.heads.get h
    let b1 : BellHead :=
      { approach := if anySlot (s.head.get h) then some 0 else approachWord (headApproach s h), free := free
        gap := if free then headGap s h else some 0
        freeAcc := if free then b.freeAcc else freeTotal s h
        freeFrom := if free then some (b.freeFrom.getD s.now) else none }
    let s1 : State := { s with bell := { s.bell with heads := s.bell.heads.put h b1 } }
    if b.free && !free then s1.freeLost h else s1

/-- BELLRINGER_STEP (R207). -/
def bellStep (s : State) : State :=
  let t := nextStep s.power.bootAt s.now s.bell.stepAt
  let s0 := (s.reach t).carryAll
  let s1 : State := { s0 with bell := { s0.bell with
    stepAt := t, spans := s0.bell.spans.filter (fun p => p.active || decide (s0.now < p.endAt)) } }
  ((allFin 32).foldl (fun acc h => acc.lookHead h) s1).judgeOffers

def execBellringerStep (s : State) : Host.Outcome State Fault Refusal :=
  run s fun s => s.whenAlive bellStep

/-- The span of a rebase that averages; one that is only rung has not begun (R168, R207). -/
def rebaseRuns (s : State) (p : Span) : Bool :=
  p.cls == .rebase && p.active && !s.bell.rung.any (fun o => o.cls == .rebase && o.head == p.own)

/-- The Bellringer at an activation: pending CHECK offers go with the guard's restart (R149; log 35), and whatever is
rung is carried out (R209, R210). DESIGN CHOICE (log 35): a rebase that averages is abandoned and counted in
ABANDONED, because its head's baselines restart (R168). A head whose TYPE is 0x0 shows nothing; the current changes
that pend on it are the sources' to move (log 36). -/
def State.bellActivate (s : State) : State :=
  let c := s.cfg.active
  let s1 := s.bell.spans.foldl (fun acc p => if rebaseRuns s p then acc.abandonRebase p.own else acc) s
  { s1 with bell := { s1.bell with
      heads := Vector.map (fun (h : Fin 32) => if headDefined c h.val then s1.bell.heads.get h else {}) (Vector.finRange 32)
      offers := s1.bell.offers.filter (fun o =>
        o.newCurrent.isSome || (o.cls != .check && headDefined c o.head.val)) } }

/-- The Bellringer's first look at the heads in boot, and the starts that it rings there: no axle is
known, so that every head is FREE (R48, R85, R205, R207). -/
def State.bellBoot (s : State) : State :=
  (((allFin 32).foldl (fun acc h => acc.lookHead h) s).judgeOffers).carryAll

/-- Baselines of a head after boot or activation (R168). -/
def baseAtStart (c : CfgMap) (h : Nat) : Baselines :=
  let amp (ch : Nat) : Int := ((gIdle (guardCfg c ch) * 128 : Nat) : Int)
  let ph (ch : Nat) : Int := roundAway ((gNomPhase (guardCfg c ch) : Rat) * 8388608 / 18000)
  if headInductive c h then
    { a1 := amp (headSys1 c h), p1 := ph (headSys1 c h), a2 := amp (headSys2 c h), p2 := ph (headSys2 c h) }
  else {}

/-- A head's WRE at boot: SEARCH over the whole sensing length, baselines as commissioned (R168,
R171). -/
def freshHead (c : CfgMap) (h : Nat) (x : Head) : Head :=
  { counts := x.counts, captureCmd := x.captureCmd, capture := x.capture, out := x.out
    base := baseAtStart c h }

/-- A head's WRE at an activation (R168, R171, R190). The causes, CLAIM_TIE and their clearing go on
as R190 and R249 say; a head whose HEAD_CFG stays keeps its slots and samples, and one with another
HEAD_CFG starts afresh (log 32). A head whose TYPE is 0x0 shows nothing. -/
def Head.reconfigure (old c : CfgMap) (h : Nat) (x : Head) : Head :=
  if !headDefined c h then freshHead c h x
  else if headCfg old h == headCfg c h then
    { x with wholeSearch := true, cand := none, base := baseAtStart c h }
  else
    { freshHead c h x with
      causes := x.causes, claimTie := x.claimTie, raised := x.raised, quietFrom := x.quietFrom
      rebase := x.rebase, rebaseMark := x.rebaseMark }

/-- The WRE at an activation that follows the configuration `old`: open traversals end BROKEN, passage
groups close (R181, R261). -/
def State.wreActivate (old : CfgMap) (s : State) : State :=
  (allFin 32).foldl (fun acc h =>
    (acc.breakHead h).updHead h (Head.reconfigure old acc.cfg.active h.val)) s

end Sys2Proof.Machine
end

