-- ==== Sys2Proof/Machine/Residues.lean ====
section
/-! DEFINITION. The mass residues of the sections, as each Tally cycle leaves them (R304). -/

namespace Sys2Proof.Machine

/-- An axle joins a residue; RES_POS is the mass-weighted centroid (R304). -/
def residueJoin (m p : Rat) (r : Residue) : Residue :=
  { mass := r.mass + m, n := r.n + 1
    pos := if r.mass + m = 0 then p else (r.mass * r.pos + m * p) / (r.mass + m) }

/-- The residue gives up axles until RES_N is at most UNTRACKED (R304). -/
def residueShed : Nat → Nat → Residue → Residue
  | 0, _, r => r
  | k + 1, u, r =>
    if u = 0 then {}
    else if u < r.n then residueShed k u { r with mass := r.mass - r.mass / (r.n : Rat), n := r.n - 1 }
    else r

/-- The residues at the end of a Tally cycle: the axles that join, then the rule of UNTRACKED (R304). -/
def residuesNow (s : State) : Tab 48 Residue :=
  let t := s.trk.joins.foldl (fun (acc : Tab 48 Residue) j => acc.upd j.1 (residueJoin j.2.1 j.2.2)) s.engine.residues
  (allFin 48).foldl (fun acc n => acc.upd n (fun r => residueShed (r.n + 1) (untrackedOf s n) r)) t

end Sys2Proof.Machine
end

