-- ==== Sys2Proof/Machine/Permits.lean ====
section
/-! DEFINITION. Permit outputs: due edges, drops, refreshes, readback, stall, lock-out, and the
acknowledge input (R272 to R294). -/

namespace Sys2Proof.Machine

/-- The instant of a periodic row: the latest grid point that has not been taken, or the next one
(log 1). -/
def nextOn (period origin now last : Nat) : Nat :=
  let g := origin + (now - origin) / period * period
  if last < g then g else last + period

/-- The first instant of a periodic row that is not past and has not been taken (log 1). -/
def nextFrom (period origin now last : Nat) : Nat :=
  let g := origin + (now - origin + period - 1) / period * period
  if last < g then g else last + period

/-- H of a permit in ns: HALF in units of 10 us (R273, R297). -/
def halfNs (c : CfgMap) (p : Nat) : Nat := us (10 * Nat.max (permitHalf c p) 1)

/-- Instant of the next due edge of a permit (R273). -/
def nextEdge (s : State) (p : Fin 16) : Nat :=
  nextOn (halfNs s.cfg.active p.val) s.permits.gridAt s.now (s.permits.po.get p).edgeAt

-- state changes (R277)
/-- Low at once, with the drop from now (R276). A drop that runs is not restarted (R278). -/
def permitForceLow (now : Nat) (x : Permit) : Permit :=
  match x.st with
  | .running => { x with st := .dropping, out := .low, dropAt := now, stopNext := false, startNext := false }
  | .dropping => if x.stopNext then { x with out := .low, dropAt := now, stopNext := false } else x
  | .off | .highz => x

/-- Low from the next due edge (R275). -/
def permitStop (x : Permit) : Permit := { x with st := .dropping, stopNext := true, startNext := false }

/-- Rising edge at the next due edge (R277). -/
def permitStart (x : Permit) : Permit :=
  { x with st := .running, startNext := true, pending := false, tested := false }

/-- Phase 6 as the output hardware takes it, for one permit (R275 to R279). -/
def permitRefresh (now : Nat) (cond force test : Bool) (x : Permit) : Permit :=
  let y := { (if force then permitForceLow now x else x) with cond := cond }
  match y.st with
  | .highz => { y with cond := false }
  | .off => if cond then permitStart y else y
  | .running => if test then { permitStop y with tested := true } else if cond then y else permitStop y
  | .dropping => if x.st == .dropping then { y with pending := cond } else y

/-- A permit under a stall or in HIBERNATE entry: low at once, DROPPING, no condition true (R53, R283). -/
def permitStalled (now : Nat) (x : Permit) : Permit :=
  match x.st with
  | .highz => x
  | .off => { x with st := .dropping, out := .low, dropAt := now, cond := false, pending := false }
  | _ => { permitForceLow now x with cond := false, pending := false, out := .low }

/-- HIBERNATE entry takes every assigned permit static low, and none starts any more (R53, R59). -/
def State.permitsLow (s : State) : State :=
  { s with permits := { s.permits with po := Vector.map (permitStalled s.now) s.permits.po } }

/-- What a refresh does to a permit; in HIBERNATE entry no condition is true (R53). -/
def permitTakes (now : Nat) (entering : Bool) (r : Refresh) (p : Fin 16) (x : Permit) : Permit :=
  permitRefresh now (r.cond.getLsbD p.val && !entering) (r.force.getLsbD p.val) (r.test.getLsbD p.val) x

/-- A released refresh reaches the output hardware (R283, R347). -/
def State.applyRefresh (s : State) (r : Refresh) : State :=
  let s1 := (allFin 16).foldl (fun acc p =>
    if permitAssigned acc.cfg.active p.val then acc.updPermit p (permitTakes acc.now acc.power.entering r p) else acc) s
  { s1 with permits := { s1.permits with refreshedAt := s1.now, stalled := false } }

/-- A permit at boot step 6 or at an activation (R277). Its last compared samples stay what they are (R287). -/
def permitActivated (assigned : Bool) (now : Nat) (x : Permit) : Permit :=
  if assigned then
    { x with st := .dropping, out := .low, pending := false, tested := false, cond := false
             stopNext := false, startNext := false, dropAt := now }
  else { permitHighz x with tested := false, mism := 0, runReported := false }

/-- The permits that a configuration assigns. -/
def assignedMask (c : CfgMap) : BitVec 16 := BitVec.ofNat 16 (mapBits 16 (permitAssigned c))

/-- All permits at boot step 6 or at an activation; after a stop they stay high-impedance (R277). -/
def State.permitOutputs (s : State) (assigned : BitVec 16) : State :=
  if s.twin.stopLatch then s
  else (allFin 16).foldl (fun acc p => acc.updPermit p (permitActivated (assigned.getLsbD p.val) acc.now)) s

/-- The window in which a write retires now: the one that the Reeve compares next, or the one after it
once that has ended (R343, R347). -/
def retireWindow (s : State) : Nat :=
  if s.twin.lockAt + (s.twin.window + 1) * windowNs ≤ s.now then (s.twin.window + 1) % 2 ^ 32 else s.twin.window

/-- A port write to the permit output hardware is held for the Reeve; after a stop none is (R347, R348). -/
def State.holdPermit (s : State) (w : PermitWrite) : State :=
  if s.twin.stopLatch then s
  else { s with twin := { s.twin with held := s.twin.held ++ [(retireWindow s, w)] } }

/-- A permit that a configuration does not assign has no lock-out cause (R287). -/
def permitUnlocked (assigned : Bool) (x : Permit) : Permit :=
  if assigned then x else { x with lock := 0#4, shownLock := 0, rbBy := 0#16 }

/-- Core A drops the lock-out causes of every permit that the active configuration does not assign (R287). -/
def State.unlockUnassigned (s : State) : State :=
  (allFin 16).foldl (fun acc p => acc.updPermit p (permitUnlocked (permitAssigned acc.cfg.active p.val))) s

/-- An activation for the permits: the lock-outs at once, and the writes to the output hardware (R277, R287, R347). -/
def State.permitActivate (s : State) : State :=
  s.unlockUnassigned.holdPermit (.activation (assignedMask s.cfg.active))

-- lock-out (R287)
/-- Set lock-out causes on the permits of a mask that are assigned (R287). -/
def State.lockOut (s : State) (mask : BitVec 16) (cause : BitVec 4) : State :=
  (allFin 16).foldl (fun acc p =>
    if mask.getLsbD p.val && permitAssigned acc.cfg.active p.val
    then acc.updPermit p (fun x => { x with lock := x.lock ||| cause }) else acc) s

def allPermits : BitVec 16 := BitVec.allOnes 16

/-- Permits that a readback fault on p locks out (R286, R287). -/
def readbackMask (c : CfgMap) (p : Fin 16) : BitVec 16 :=
  if permitLockAll c p.val then allPermits else BitVec.ofNat 16 (2 ^ p.val)

/-- A readback fault on a permit is taken: READBACK on every assigned permit that it locks out (R286, R287). -/
def State.lockReadback (s : State) (q : Fin 16) : State :=
  let mask := readbackMask s.cfg.active q
  (allFin 16).foldl (fun acc p =>
    if mask.getLsbD p.val && permitAssigned acc.cfg.active p.val then
      acc.updPermit p (fun x => { x with lock := x.lock ||| 0x1#4, rbBy := x.rbBy ||| BitVec.ofNat 16 (2 ^ q.val) })
    else acc) s

/-- Remove every latched cause that has ended, on every permit (R288, R294). -/
def State.lockRemove (s : State) : State :=
  (allFin 16).foldl (fun acc p =>
    let keep := lockActive s p
    acc.updPermit p (fun x => { x with lock := keep, rbBy := if keep.getLsbD 0 then x.rbBy else 0#16 })) s

-- records (R465)
/-- A permit as Core A has written it: the writes that the Reeve still holds are on their way (R347). -/
def permitTold (s : State) (p : Fin 16) : Permit :=
  s.twin.held.foldl (fun x w => match w.2 with
    | .refresh r => if permitAssigned s.cfg.active p.val then permitTakes s.now s.power.entering r p x else x
    | .activation a => permitActivated (a.getLsbD p.val) s.now x) (s.permits.po.get p)

/-- PERMIT record of a permit whose state or lock-out causes phase 6 changes with a refresh (R294, R465). -/
def State.permitRecord (s : State) (r : Refresh) (p : Fin 16) : State :=
  let x := permitTold s p
  let y := if permitAssigned s.cfg.active p.val then permitTakes s.now s.power.entering r p x else x
  let was := (s.permits.po.get p).shownLock
  let lk := lockCause s p
  let s1 := if permitState y != permitState x || lk % 16 != was % 16 then
      s.record 0x28 (leBytes 1 p.val ++ leBytes 1 (permitState x) ++ leBytes 1 (permitState y) ++ leBytes 1 was
        ++ leBytes 1 lk ++ leBytes 2 s.permits.rbMap.toNat) else s
  s1.updPermit p (fun z => { z with shownLock := lk })

/-- PERMIT records of a Tally cycle, by permit number (R466). -/
def State.permitRecords (s : State) (r : Refresh) : State :=
  (allFin 16).foldl (fun acc p => acc.permitRecord r p) s

-- rows of the output hardware
/-- The output of a permit after a due edge (R274, R275, R277). -/
def permitEdge (now : Nat) (x : Permit) : Permit :=
  match x.st with
  | .highz => x
  | .running =>
    if x.startNext then { x with out := .high, startNext := false, runAt := now }
    else { x with out := if x.out == .high then .low else .high }
  | .dropping =>
    if x.stopNext then { x with out := .low, stopNext := false, dropAt := now } else { x with out := .low }
  | .off => { x with out := .low }

/-- PERMIT_DUE_EDGE (R273 to R275, R277). -/
def permitDueEdge (p : Fin 16) (s : State) : State :=
  let t := nextEdge s p
  let s0 := s.reach t
  s0.updPermit p (fun x => { permitEdge s0.now x with edgeAt := t })

def execPermitDueEdge (p : Fin 16) (s : State) : Host.Outcome State Fault Refusal :=
  run s fun s => s.guarded s.serving (permitDueEdge p)

/-- DROP_ELAPSED: the drop ends (R277, R278). The clock moves to that instant if it is not there
yet (log 1). -/
def dropElapsed (p : Fin 16) (s : State) : State :=
  let x := s.permits.po.get p
  if x.st == .dropping && !x.stopNext then
    let s0 := s.reach (x.dropAt + ms (permitDrop s.cfg.active p.val))
    s0.updPermit p (fun y =>
      if y.pending && y.cond then permitStart y
      else { y with st := .off, pending := false, tested := false })
  else s

def execDropElapsed (p : Fin 16) (s : State) : Host.Outcome State Fault Refusal :=
  run s fun s => s.guarded s.serving (dropElapsed p)

/-- Expected level of PBnn before RB_INV, none when the sample is not compared (R280). -/
def expectedLevel (c : CfgMap) (p : Nat) (now : Nat) (x : Permit) : Option Bool :=
  match x.st with
  | .highz => none
  | st =>
    if permitMode c p = 0 then some (x.out == .high)
    else match st with
      | .running => if !x.startNext && decide (x.runAt + ms (permitPickup c p) ≤ now) then some true else none
      | .off => some false
      | .dropping | .highz => none

/-- READBACK_SAMPLE, 10 us before the next due edge (R280, R281, R287, R296). -/
def readbackSample (p : Fin 16) (level : Bool) (s : State) : State :=
  let c := s.cfg.active
  let s0 := s.reach (nextEdge s p - us 10)
  let bit : BitVec 16 := BitVec.ofNat 16 (2 ^ p.val)
  let s1 : State := { s0 with permits := { s0.permits with
    rbMap := if level then s0.permits.rbMap ||| bit else s0.permits.rbMap &&& ~~~bit } }
  match expectedLevel c p.val s0.now (s1.permits.po.get p) with
  | none => s1
  | some e =>
    if level == (e != permitInv c p.val) then
      s1.updPermit p (fun x => { x with mism := 0, runReported := false, good := satInc 3 x.good })
    else s1.updPermit p (fun x => { x with mism := satInc 3 x.mism, good := 0 })

def execReadbackSample (p : Fin 16) (level : Bool) (s : State) : Host.Outcome State Fault Refusal :=
  run s fun s => s.guarded s.serving (readbackSample p level)

/-- READBACK_FAULT: recognised once at the third mismatch of a run (R281). -/
def readbackFault (p : Fin 16) (s : State) : State :=
  let x := s.permits.po.get p
  if 3 ≤ x.mism && !x.runReported then
    let s1 := s.updPermit p (fun y => { y with runReported := true })
    { s1 with
      permits := { s1.permits with rbFaults := satInc32 s1.permits.rbFaults }
      tally := { s1.tally with readbackIn := s1.tally.readbackIn ||| BitVec.ofNat 16 (2 ^ p.val) } }
  else s

def execReadbackFault (p : Fin 16) (s : State) : Host.Outcome State Fault Refusal :=
  run s fun s => s.guarded s.serving (readbackFault p)

/-- TALLY_STALL: 1.5 ms without a refresh (R283). -/
def tallyStall (s : State) : State :=
  if s.twin.stopLatch || s.permits.stalled then s
  else
    let s0 := s.reach (s.permits.refreshedAt + us 1500)
    { s0 with
      permits := { s0.permits with stalled := true, po := Vector.map (permitStalled s0.now) s0.permits.po }
      tally := { s0.tally with stallIn := true } }

def execTallyStall (s : State) : Host.Outcome State Fault Refusal :=
  run s fun s => s.whenAlive tallyStall

-- writes that Tally takes in phase 1 of its next cycle (R370)
/-- DROPTEST_CMD (R279). -/
def State.droptestWrite (s : State) (mask : Nat) : State :=
  { s with tally := { s.tally with dropIn := s.tally.dropIn ||| BitVec.ofNat 16 mask } }

/-- INHIBIT (R272). -/
def State.inhibitWrite (s : State) (v : Nat) : State :=
  { s with permits := { s.permits with inhibit := BitVec.ofNat 16 v } }

/-- LOCKOUT_CMD (R287). -/
def State.lockoutWrite (s : State) (mask : Nat) : State :=
  { s with tally := { s.tally with lockIn := s.tally.lockIn ||| BitVec.ofNat 16 mask } }

/-- ACK_ARM: 0x4152 arms, 0x0000 withdraws (R292). -/
def State.armWrite (s : State) (o : Origin) (v : Nat) : State :=
  if v = 0x4152 then { s with tally := { s.tally with armIn := s.tally.armIn ++ [.arm o s.now] } }
  else if v = 0 then { s with tally := { s.tally with armIn := s.tally.armIn ++ [.withdraw o] } }
  else s

-- the acknowledge input
def State.updAck (s : State) (f : Ack → Ack) : State :=
  { s with permits := { s.permits with ack := f s.permits.ack } }

/-- Keep an event for the ACK record of the next phase 6 (R465, R466). -/
def State.ackEvent (s : State) (event press : Nat) (o : Option Origin) : State :=
  { s with tally := { s.tally with
    ackEvents := s.tally.ackEvents ++ [{ event := event, press := satU 16 (press : Int), by_ := o }] } }

/-- The debounced press begins (R290, R291). -/
def ackPress (s : State) : State :=
  s.updAck (fun a => { a with
    pressed := true, pressAt := s.now, highQualified := false, highFrom := none
    pressOk := match a.highFrom with
      | some t => decide (t + sec 1 ≤ s.now)
      | none => false })

/-- The press qualifies as an acknowledge (R291, R293; a press of exactly 5 s has reached 5 s). -/
def ackCounts (s : State) : Bool :=
  let a := s.permits.ack
  let len := s.now - a.pressAt
  !a.stuck && a.pressOk && decide (ms 200 ≤ len) && decide (len < sec 5) && ackArmed s

/-- Set ACK_STUCK (R293). -/
def State.setStuck (s : State) : State :=
  if s.permits.ack.stuck then s
  else (s.updAck (fun a => { a with stuck := true })).ackEvent 6 0 none

/-- The debounced release (R290, R291): an acknowledge acts here. -/
def ackRelease (s : State) : State :=
  let len := s.now - s.permits.ack.pressAt
  let s1 := if sec 5 ≤ len then s.setStuck else s
  let up (a : Ack) : Ack := { a with pressed := false, highFrom := some s.now }
  if ackCounts s1 then
    let s2 := (s1.ackEvent 0 (msOf len) s1.permits.ack.armedBy).updAck (fun a =>
      { up a with armedBy := none, accepted := satInc32 a.accepted })
    { s2 with tally := { s2.tally with ackIn := true } }
  else
    (s1.ackEvent 1 (msOf len) none).updAck (fun a => { up a with ignored := satInc32 a.ignored })

/-- ACK_DEBOUNCED_EDGE (R290). -/
def ackEdge (pressed : Bool) (s : State) : State :=
  if pressed == s.permits.ack.pressed then s
  else if pressed then ackPress s else ackRelease s

def execAckDebouncedEdge (pressed : Bool) (s : State) : Host.Outcome State Fault Refusal :=
  run s fun s => s.whenAlive (ackEdge pressed)

/-- ACK_STUCK_SET: a press reaches 5 s (R293). -/
def ackStuckSet (s : State) : State :=
  if s.permits.ack.pressed then (s.reach (s.permits.ack.pressAt + sec 5)).setStuck else s

def execAckStuckSet (s : State) : Host.Outcome State Fault Refusal :=
  run s fun s => s.whenAlive ackStuckSet

/-- ACK_HIGH_QUALIFIED: ACKn has been high for 1 s (R291, R293). -/
def ackHighQualified (s : State) : State :=
  match s.permits.ack.highFrom with
  | none => s
  | some t =>
    let s0 := (s.reach (t + sec 1)).updAck (fun a => { a with highQualified := true })
    if s0.permits.ack.stuck then (s0.updAck (fun a => { a with stuck := false })).ackEvent 7 0 none else s0

def execAckHighQualified (s : State) : Host.Outcome State Fault Refusal :=
  run s fun s => s.whenAlive ackHighQualified

/-- ACK_ARM_EXPIRY: 60 s after the last arming write (R292). -/
def ackArmExpiry (s : State) : State :=
  match s.permits.ack.armedBy with
  | none => s
  | some o => ((s.reach (s.permits.ack.armedAt + sec 60)).updAck (fun a => { a with armedBy := none })).ackEvent 4 0 (some o)

def execAckArmExpiry (s : State) : Host.Outcome State Fault Refusal :=
  run s fun s => s.whenAlive ackArmExpiry

/-- Take one ACK_ARM write (R292, R370). -/
def State.takeArm (s : State) (x : ArmIn) : State :=
  match x with
  | .arm o t => (s.updAck (fun a => { a with armedBy := some o, armedAt := t })).ackEvent 2 0 (some o)
  | .withdraw o =>
    if s.permits.ack.armedBy.isSome
    then (s.updAck (fun a => { a with armedBy := none })).ackEvent 3 0 (some o) else s

/-- The arming of a session is lost when it ends, taken or not (R292). -/
def State.armLost (s : State) (o : Origin) : State :=
  let mine (x : ArmIn) : Bool := match x with
    | .arm p _ => p == o
    | .withdraw _ => false
  let s1 := (s.tally.armIn.filter mine).foldl (fun acc _ => acc.ackEvent 5 0 (some o)) s
  let s2 : State := { s1 with tally := { s1.tally with armIn := s1.tally.armIn.filter (fun x => !mine x) } }
  if s2.permits.ack.armedBy == some o
  then (s2.updAck (fun a => { a with armedBy := none })).ackEvent 5 0 (some o) else s2

/-- ACK records of a Tally cycle (R465, R466). -/
def State.ackRecords (s : State) : State :=
  let s1 := s.tally.ackEvents.foldl (fun acc e =>
    acc.record 0x29 (leBytes 1 e.event ++ leBytes 2 e.press ++ originBytes e.by_)) s
  { s1 with tally := { s1.tally with ackEvents := [] } }

end Sys2Proof.Machine
end

