-- ==== Sys2Proof/Machine/Tally.lean ====
section
/-! DEFINITION. Tally: the six phases of its cycle, counting, disturbance, restore, the transition table
of sections, publication and the records of a cycle (R38 to R40, R150, R191, R217 to R244, R254, R259,
R466). -/

namespace Sys2Proof.Machine

/-- Heads that bound a section. -/
def boundingHeads (c : CfgMap) (n : Fin 48) : List (Fin 32) :=
  (crossings c n.val).filterMap (fun x => finOf? 32 x.head)

-- DIST_CAUSE bits (R242)
def causeStart : BitVec 8 := 0x01#8
def causeActivation : BitVec 8 := 0x02#8
def causeHeadGuard : BitVec 8 := 0x04#8
def causeHeadWre : BitVec 8 := 0x08#8
def causeUnderflow : BitVec 8 := 0x10#8
def causeOverflow : BitVec 8 := 0x20#8
def causeCommand : BitVec 8 := 0x40#8
def causeFault : BitVec 8 := 0x80#8

/-- Raise causes on a section for the running cycle (R230). -/
def raiseBits (b : BitVec 8) (x : Section) : Section := { x with raised := x.raised ||| b }

/-- The later of two instants. -/
def later (a : Option Nat) (t : Nat) : Option Nat :=
  match a with
  | none => some t
  | some x => some (Nat.max x t)

/-- Apply a change to a section named by an option. -/
def State.updSectOpt (s : State) (n : Option (Fin 48)) (f : Section → Section) : State :=
  match n with
  | some k => s.updSect k f
  | none => s

-- phase 1: take
/-- The die temperature of this cycle (R38, R39); units of 0.1 degrees Celsius. -/
def takeTemperature (t : Int) (p : Power) : Power :=
  { p with
    dieTemp := t
    thermalWarn := if 1400 ≤ t then true else if t < 1350 then false else p.thermalWarn
    thermalTrip := if 1500 ≤ t then true else if t < 1350 then false else p.thermalTrip }

/-- THERMAL_TRIP rises: sources shut down, heads and sections disturbed. It clears: every enabled and
unheld source receives a start (R38 to R40, R230). -/
def State.takeThermal (s : State) (t : Int) : State :=
  let was := s.power.thermalTrip
  let s1 : State := { s with power := takeTemperature t s.power }
  let now := s1.power.thermalTrip
  if now && !s1.tally.tripTaken then
    let s2 := s1.stopAll.raiseSourceDown
    { s2 with
      sect := Vector.map (fun (x : Section) => if x.unused then x else raiseBits causeFault x) s2.sect
      tally := { s2.tally with tripTaken := true } }
  else if was && !now then
    ({ s1 with tally := { s1.tally with tripTaken := false } } : State).startAll
  else s1

/-- A reference of an entry begins (R227). -/
def openRef (x : Section) : Section := { x with provRefs := x.provRefs + 1, touched := true }

/-- A reference ends by a refutation (R227, R228). -/
def refuteRef (t : Nat) (x : Section) : Section :=
  { x with provRefs := x.provRefs - 1, touched := true, cycleMark := later x.cycleMark t }

/-- A reference ends by a confirmation: its instant counts when it was the last (R228). -/
def confirmRef (t : Nat) (x : Section) : Section :=
  { x with provRefs := x.provRefs - 1
           cycleMark := if x.provRefs ≤ 1 then later x.cycleMark t else x.cycleMark }

/-- What one tracker result does to the references of sections. -/
def State.takeItem (s : State) (i : TallyItem) : State :=
  match i with
  | .opened a b => (s.updSectOpt a openRef).updSectOpt b openRef
  | .confirmed _ v e _ _ a b =>
    if e.isSome then
      let t := pastGrid s v.exitTime
      (s.updSectOpt a (confirmRef t)).updSectOpt b (confirmRef t)
    else s
  | .refuted _ _ _ _ _ a b _ g _ _ refs =>
    if refs then
      let t := pastGrid s g
      (s.updSectOpt a (refuteRef t)).updSectOpt b (refuteRef t)
    else s
  | .group _ => s

/-- Keep a RESTORE record for phase 6 (R465). -/
def State.restoreEvent (s : State) (n : Fin 48) (o : Option Origin) : State :=
  { s with tally := { s.tally with restoreRecs := s.tally.restoreRecs ++ [(n, restoreStatus (s.sect.get n), o)] } }

/-- A restore request ends in a state (R235, R236). -/
def State.endRequest (s : State) (n : Fin 48) (r : RState) (reason : Nat) (o : Option Origin) : State :=
  (s.updSect n (fun x => { x with rstate := r, reason := reason, reqBy := none })).restoreEvent n o

/-- Take one RESTORE_CMD event (R234, R235). -/
def State.takeRestore (s : State) (r : RestoreIn) : State :=
  match r with
  | .request n o t =>
    (s.updSect n (fun x => { x with rstate := .pending, reason := 0, reqBy := some o, reqAt := t })).restoreEvent n (some o)
  | .withdraw n o =>
    if (s.sect.get n).rstate == .pending then s.endRequest n .withdrawn 0 (some o) else s
  | .ended o =>
    (allFin 48).foldl (fun acc n =>
      if (acc.sect.get n).rstate == .pending && (acc.sect.get n).reqBy == some o
      then acc.endRequest n .withdrawn 0 (some o) else acc) s

/-- Causes of a section from its bounding heads: taken in this cycle, and standing ones on a section
that is not DISTURBED (R150, R191, R230). -/
def headBits (s : State) (n : Fin 48) : BitVec 8 :=
  let standing := (s.sect.get n).st != .disturbed
  (boundingHeads s.cfg.active n).foldl (fun acc h =>
    let g := (s.hg.get h).raised || (standing && guardDisturbed s h)
    let w := (s.head.get h).raised || (standing && wreDisturbed (s.head.get h))
    (if g then acc ||| causeHeadGuard else acc) ||| (if w then causeHeadWre else 0#8)) 0#8

def State.takeHeads (s : State) : State :=
  let s1 := (allFin 48).foldl (fun acc n => acc.updSect n (raiseBits (headBits s n))) s
  { s1 with
    hg := Vector.map (fun (x : HeadGuard) => { x with raised := false }) s1.hg
    head := Vector.map (fun (x : Head) => { x with raised := false }) s1.head }

/-- DISTURB_CMD writes (R230). -/
def State.takeDisturb (s : State) : State :=
  let s1 := s.tally.disturbIn.foldl (fun acc n => acc.updSect n (raiseBits causeCommand)) s
  { s1 with tally := { s1.tally with disturbIn := [] } }

/-- Writes to the permit objects (R370, R272, R287, R292). DROPTEST_CMD goes to phase 6. -/
def State.takePermitWrites (s : State) : State :=
  let s1 := s.lockOut s.tally.lockIn 0x4#4
  let s2 := s1.tally.armIn.foldl State.takeArm s1
  { s2 with tally := { s2.tally with inhibit := s2.permits.inhibit, lockIn := 0#16, armIn := [] } }

-- phase 2: count
/-- A confirmed axle of this cycle: exit instant, head and sections. -/
structure Crossed where
  at_ : Nat
  head : Fin 32
  fromSec : Option (Fin 48)
  toSec : Option (Fin 48)
  deriving DecidableEq, Repr

def crossedBefore (a b : Crossed) : Bool :=
  decide (a.at_ < b.at_) || (a.at_ == b.at_ && decide (a.head.val < b.head.val))

def insertCrossed (x : Crossed) : List Crossed → List Crossed
  | [] => [x]
  | y :: ys => if crossedBefore x y then x :: y :: ys else y :: insertCrossed x ys

/-- The confirmed axles taken, in the order of R223. -/
def crossedOf (s : State) (l : List TallyItem) : List Crossed :=
  (l.filterMap (fun i => match i with
    | .confirmed h v _ _ _ a b => some { at_ := pastGrid s v.exitTime, head := h, fromSec := a, toSec := b : Crossed }
    | _ => none)).foldl (fun acc x => insertCrossed x acc) []

/-- A confirmed exit (R222, R224, R225, R228, R238). -/
def countExit (t : Nat) (x : Section) : Section :=
  let y := { x with countOut := satInc32 x.countOut }
  if x.count = 0 then (if x.st == .disturbed then y else raiseBits causeUnderflow y)
  else
    { y with count := x.count - 1
             sweepOut := if x.st == .ras then satInc 0xFFFF x.sweepOut else x.sweepOut
             cycleMark := if x.count = 1 then later x.cycleMark t else x.cycleMark }

/-- A confirmed entry (R222, R224, R225, R238). -/
def countEntry (x : Section) : Section :=
  let y := { x with countIn := satInc32 x.countIn }
  if 4095 ≤ x.count then (if x.st == .disturbed then y else raiseBits causeOverflow y)
  else { y with count := x.count + 1, sweepIn := if x.st == .ras then satInc 0xFFFF x.sweepIn else x.sweepIn }

/-- Both changes of one axle (R20, R222). -/
def State.countAxle (s : State) (x : Crossed) : State :=
  (s.updSectOpt x.fromSec (countExit x.at_)).updSectOpt x.toSec countEntry

/-- The head at which the count of a section fell last in this cycle (R259). -/
def fellAt (l : List Crossed) (n : Fin 48) : Option Nat :=
  (l.reverse.find? (fun x => x.fromSec == some n)).map (fun x => x.head.val)

def State.countPhase (s : State) (l : List Crossed) : State :=
  let s1 := l.foldl State.countAxle s
  let s2 : State := { s1 with trk := { s1.trk with
    entries := Vector.map (fun (e : Entry) => { e with taken := confirmedEntry e }) s1.trk.entries } }
  ((allFin 48).foldl (fun acc n => releaseSurplus 128 acc n (fellAt l n)) s2).noteRoom

-- phase 3: disturb
/-- Held in this cycle (R227). -/
def markHeld (x : Section) : Section := { x with held := decide (0 < x.provRefs) || x.touched }

/-- A used section takes the causes raised (R230, R231, R233). -/
def disturb (x : Section) : Section :=
  if x.raised = 0#8 || x.unused then x
  else if x.st == .disturbed then { x with distCause := x.distCause ||| x.raised }
  else { x with st := .disturbed, distCause := x.raised, sweepIn := 0, sweepOut := 0, mark := none, t0 := 0
                clearRemain := 0 }

-- phase 4: restore
/-- The reason of the first grant condition that fails, 0 when all hold (R236). -/
def grantReason (s : State) (n : Fin 48) : Nat :=
  let x := s.sect.get n
  let hs := boundingHeads s.cfg.active n
  if x.raised != 0#8 then 1
  else if hs.any (headDisturbed s) then 2
  else if hs.any (fun h => anySlot (s.head.get h)) then 3
  else if x.held then 4
  else 0

/-- A granted restore (R233). -/
def granted (x : Section) : Section :=
  { x with st := .ras, count := 0, sweepIn := 0, sweepOut := 0, distCause := 0#8, mark := none }

/-- Judge one pending request (R235, R236). -/
def State.judgeRestore (s : State) (ack : Bool) (n : Fin 48) : State :=
  let x := s.sect.get n
  if x.rstate != .pending then s
  else if x.reqAt + sec 60 ≤ s.now then s.endRequest n .expired 0 none
  else if !ack then s
  else match grantReason s n with
    | 0 => (releaseSurplus 128 ((s.updSect n granted).endRequest n .granted 0 none) n none).noteRoom
    | r => s.endRequest n .refused r none

def State.restorePhase (s : State) : State :=
  let ack := s.tally.ackIn
  let s1 := (allFin 48).foldl (fun acc n => acc.judgeRestore ack n) s
  let s2 := if ack then s1.lockRemove else s1
  { s2 with tally := { s2.tally with ackIn := false } }

-- phase 5: evaluate
/-- T0 of a section that enters CLEARING (R228). -/
def tZero (start : Nat) (m : Option Nat) : Nat := m.getD start

/-- Milliseconds that remain until T0 + CLEAR_DELAY (R229, R239). -/
def remainMs (start t0 delay : Nat) : Nat := satU 16 (msOf (t0 + ms delay - start) : Int)

/-- A section whose delay ran out since the latest publication is still CLEARING in the cycle that judges it: a
result taken in that cycle can move T0 (R228, R233). -/
def judgedAgain (published : SState) (x : Section) : Section :=
  if x.st == .clear && published == .clearing then { x with st := .clearing } else x

/-- The transition table of R233, phase 5. `start` is the start of the cycle. -/
def evaluate (start delay : Nat) (x : Section) : Section :=
  let m := match x.cycleMark with
    | some t => later x.mark t
    | none => x.mark
  let clearing (x : Section) : Section :=
    let t := tZero start m
    { x with st := .clearing, t0 := t, mark := m, clearRemain := remainMs start t delay }
  let occupied (x : Section) : Section := { x with st := .occupied, mark := x.cycleMark, t0 := 0, clearRemain := 0 }
  let busy := decide (0 < x.count) || x.held
  match x.st with
  | .disturbed => { x with clearRemain := 0 }
  | .ras =>
    if 1 ≤ x.sweepIn && x.count = 0 then (if x.held then occupied x else clearing x)
    else { x with mark := m, clearRemain := 0 }
  | .occupied => if busy then { x with mark := m, clearRemain := 0 } else clearing x
  | .clearing =>
    if busy then occupied x
    else
      let t := tZero x.t0 (x.cycleMark.map (Nat.max x.t0))
      if t + ms delay ≤ start then { x with st := .clear, t0 := t, clearRemain := 0 }
      else { x with t0 := t, clearRemain := remainMs start t delay }
  | .clear => if busy then occupied x else x

def State.evaluateAll (s : State) : State :=
  (allFin 48).foldl (fun acc n =>
    if (acc.sect.get n).unused then acc
    else acc.updSect n (fun x => evaluate acc.tally.startAt (clearDelay acc.cfg.active n.val)
      (judgedAgain (acc.tally.pub.sections.get n).st x))) s

-- phase 6: publish
/-- The load of a PROVISIONAL entry in this cycle (R254): LOAD_NOW of its head, else its
predecessor's; units of 10 kg. -/
def provLoad (s : State) (e : Entry) : Option Nat :=
  let c := s.cfg.active
  if headStrip c e.head.val || (headInductive c e.head.val && decide (headLoad c e.head.val < 64)) then
    some (satU 16 (roundAway ((loadNow s e.head : Rat) / 10)))
  else (predOf s e).bind (fun p => (s.trk.entries.get p).load)

def State.provLoads (s : State) : State :=
  { s with trk := { s.trk with entries := Vector.map (fun (e : Entry) =>
      if e.st == .provisional then { e with load := provLoad s e } else e) s.trk.entries } }

/-- Payload of a CONFIRMED record (R465). -/
def confirmedPayload (h : Fin 32) (v : VerdictRec) (e : Option (Fin 128)) (axle group : Nat)
    (a b : Option (Fin 48)) : List Byte :=
  leBytes 1 h.val ++ leBytes 1 (verdictFlags v) ++ leBytes 1 (e.elim 0xFF (fun i => i.val))
    ++ leBytes 1 v.dither ++ leBytes 2 axle ++ leBytes 2 group ++ leBytes 1 (secByte a) ++ leBytes 1 (secByte b)
    ++ leBytes 4 v.exitTime ++ leBytes 4 (v.trigTime.getD 0xFFFFFFFF) ++ leBytes 4 (ofSigned 32 v.speed)
    ++ leBytes 4 (ofSigned 32 v.exitSpeed) ++ leBytes 2 (v.load.getD 0) ++ leBytes 14 v.signature

/-- A tracker record of the cycle: instant, head and entry that order it (R466), type and payload. -/
structure TrackRec where
  at_ : Nat
  head : Nat
  entry : Nat
  typ : Nat
  payload : List Byte
  deriving DecidableEq, Repr

def trackRec (s : State) (i : TallyItem) : Option TrackRec :=
  match i with
  | .confirmed h v e axle group a b =>
    some { at_ := pastGrid s v.exitTime, head := h.val, entry := e.elim 0xFF (fun i => i.val), typ := 0x10
           payload := confirmedPayload h v e axle group a b }
  | .refuted h flags by_ e axle a b tRef g dither speed _ =>
    some { at_ := pastGrid s g, head := h.val, entry := e.val, typ := 0x11
           payload := leBytes 1 h.val ++ leBytes 1 flags ++ leBytes 1 by_ ++ leBytes 1 e.val ++ leBytes 2 axle
             ++ leBytes 1 (secByte a) ++ leBytes 1 (secByte b) ++ leBytes 4 tRef ++ leBytes 4 g
             ++ leBytes 1 dither ++ leBytes 4 (ofSigned 32 speed) }
  | _ => none

def recBefore (a b : TrackRec) : Bool :=
  decide (a.at_ < b.at_) || (a.at_ == b.at_ &&
    (decide (a.head < b.head) || (a.head == b.head && decide (a.entry < b.entry))))

def insertRec (x : TrackRec) : List TrackRec → List TrackRec
  | [] => [x]
  | y :: ys => if recBefore x y then x :: y :: ys else y :: insertRec x ys

/-- CONFIRMED, REFUTED and GROUP records of the cycle (R466). -/
def State.trackRecords (s : State) (l : List TallyItem) : State :=
  let rs := (l.filterMap (trackRec s)).foldl (fun acc x => insertRec x acc) []
  let s1 := rs.foldl (fun acc r => acc.record r.typ r.payload) s
  l.foldl (fun acc i => match i with
    | .group g => acc.record 0x12 (leBytes 24 (lastGroupBytes g) ++ leBytes 2 g.firstAxle ++ leBytes 2 g.lastAxle)
    | _ => acc) s1

/-- HEAD records of the cycle, in the order of the changes (R465, R466). -/
def State.headRecords (s : State) : State :=
  let s1 := (allFin 32).foldl (fun acc h => acc.noteHead h) s
  let s2 := s1.tally.headIn.foldl (fun acc b => acc.record 0x21 b) s1
  { s2 with tally := { s2.tally with headIn := [] } }

/-- RESTORE and SECTION records of a section (R465, R466). -/
def State.sectionRecords (s : State) (n : Fin 48) : State :=
  let s1 := s.tally.restoreRecs.foldl (fun acc r =>
    if r.1 == n then acc.record 0x19 (leBytes 1 n.val ++ leBytes 2 r.2.1 ++ originBytes r.2.2) else acc) s
  let x := s.sect.get n
  let was := (s.tally.pub.sections.get n).st
  if was != x.st || (!x.unused && s.tally.allRecords) then
    s1.record 0x18 (leBytes 1 n.val ++ leBytes 1 (sstateCode was) ++ leBytes 1 (sstateCode x.st) ++ leBytes 2 x.count
      ++ leBytes 2 x.distCause.toNat ++ leBytes 2 x.sweepIn ++ leBytes 2 x.sweepOut)
  else s1

/-- HEAD_DIST of the publication (R241). -/
def State.noteHeadDist (s : State) : State :=
  (allFin 48).foldl (fun acc n => acc.updSect n (fun x =>
    { x with headDist := (boundingHeads s.cfg.active n).any (headDisturbed s) })) s

/-- The publication of a cycle, with the residues that follow UNTRACKED (R221, R239, R244, R267, R301, R304,
R386). -/
def State.publish (s : State) : State :=
  { s with
    engine := { s.engine with residues := residuesNow s }
    trk := { s.trk with joins := [] }
    tally := { s.tally with
    cycles := (s.tally.cycles + 1) % 2 ^ 32
    allRecords := false
    restoreRecs := []
    pub :=
      { sections := s.sect, tracker := s.trk, untracked := Vector.map (untrackedOf s) (Vector.finRange 48)
        claimTies := headMap (fun h => (s.head.get h).claimTie), cycles := (s.tally.cycles + 1) % 2 ^ 32, any := true } } }

/-- The section-clear term (R229). -/
def clearTerm (s : State) (n : Nat) : Bool :=
  match finOf? 48 n with
  | some k => (s.tally.pub.sections.get k).st == .clear
  | none => false

/-- The permit condition (R272). -/
def permitCondition (s : State) (p : Fin 16) : Bool :=
  permitAssigned s.cfg.active p.val && (permitTerms s.cfg.active p.val).all (clearTerm s)
    && (s.permits.po.get p).lock == 0#4 && !s.tally.inhibit.getLsbD p.val && !s.twin.debugTaint

/-- Bits of the permits for which a test holds. -/
def permitBits (f : Fin 16 → Bool) : BitVec 16 := BitVec.ofNat 16 (permitMap f)

/-- Lock-outs of phase 6: FAULT at the rise of THERMAL_TRIP, READBACK, STALL (R283, R286, R287). -/
def State.lockPhase (s : State) (trip : Bool) : State :=
  let s1 := if trip then s.lockOut allPermits 0x2#4 else s
  let s2 := (allFin 16).foldl (fun acc p =>
    if s.tally.readbackIn.getLsbD p.val then
      acc.lockReadback p
    else acc) s1
  if s.tally.stallIn then s2.lockOut allPermits 0x8#4 else s2

/-- Permits that phase 6 forces low (R276, R286). -/
def forceMask (s : State) (trip : Bool) : BitVec 16 :=
  if trip then allPermits
  else (allFin 16).foldl (fun acc p =>
    if s.tally.readbackIn.getLsbD p.val then acc ||| readbackMask s.cfg.active p else acc) 0#16

/-- The refresh of phase 6 goes to the Reeve, which holds it, and the PERMIT records are created (R272, R347,
R466). -/
def State.refreshPhase (s : State) (trip : Bool) : State :=
  let s1 := s.lockPhase trip
  let r : Refresh :=
    { cond := permitBits (permitCondition s1), force := forceMask s trip, test := s.tally.dropIn }
  let s2 := (s1.permitRecords r).holdPermit (.refresh r)
  { s2 with
    tally := { s2.tally with dropIn := 0#16, readbackIn := 0#16, stallIn := false } }

/-- Cycle-local fields start anew. -/
def freshCycle (x : Section) : Section := { x with raised := 0#8, touched := false, cycleMark := none }

/-- Phases 1 to 3: take, count, disturb. -/
def State.tallyTake (s : State) (temp : Int) : State :=
  let l := s.tally.inbox
  let s1 : State := { s with tally := { s.tally with inbox := [] } }
  let s2 := (s1.takeThermal temp).guardCycle
  let s3 := (l.foldl State.takeItem s2)
  let s4 := s3.tally.restoreIn.foldl State.takeRestore s3
  let s5 : State := { s4 with tally := { s4.tally with restoreIn := [] } }
  let s6 := s5.takePermitWrites.takeDisturb
  let s7 := s6.countPhase (crossedOf s6 l)
  let s8 : State := { s7 with sect := Vector.map markHeld s7.sect }
  let s9 := s8.takeHeads
  { s9 with sect := Vector.map disturb s9.sect }

/-- Phase 6 (R221, R466). `l` holds the results taken, `trip` the rise of THERMAL_TRIP. -/
def State.tallyPublish (s : State) (l : List TallyItem) (trip : Bool) : State :=
  let s1 := s.provLoads.noteHeadDist
  let s2 := (s1.trackRecords l).headRecords
  let s3 := ((allFin 48).foldl (fun acc n => acc.sectionRecords n) s2).ackRecords
  let s4 := s3.publish.refreshPhase trip
  { s4 with sect := Vector.map freshCycle s4.sect }

/-- TALLY_CYCLE (R221). The clock moves to the start of the next cycle: the first instant of the 1 ms grid that
is not past and has no cycle yet. What precedes the row in the queue was delivered before it (R19; log 1). -/
def tallyCycle (temp : Int) (s : State) : State :=
  let t := nextFrom (ms 1) s.power.bootAt s.now s.tally.startAt
  let s0 := s.reach t
  let s1 : State := { s0 with tally := { s0.tally with startAt := t } }
  let trip0 := s1.tally.tripTaken
  let s2 := s1.tallyTake temp
  let s3 := s2.restorePhase.evaluateAll
  s3.tallyPublish s1.tally.inbox (s2.tally.tripTaken && !trip0)

-- other rows
/-- CLEAR_DELAY_EXPIRY: at the first cycle start at or after T0 + CLEAR_DELAY, a section that is neither
held nor counting becomes CLEAR (R228, R233); Tally judges it with the results of that cycle and publishes it. -/
def clearDelayExpiry (n : Fin 48) (s : State) : State :=
  let x := s.sect.get n
  if x.st == .clearing && x.count = 0 && x.provRefs = 0 then
    let due := x.t0 + ms (clearDelay s.cfg.active n.val)
    let start := s.tally.startAt + (due - s.tally.startAt + ms 1 - 1) / ms 1 * ms 1
    (s.reach start).updSect n (fun x => { x with st := .clear, clearRemain := 0 })
  else s

def execClearDelayExpiry (n : Fin 48) (s : State) : Host.Outcome State Fault Refusal :=
  run s fun s => s.whenAlive (clearDelayExpiry n)

/-- RESTORE_EXPIRY: 60 s after the write (R235). -/
def restoreExpiry (n : Fin 48) (s : State) : State :=
  if (s.sect.get n).rstate == .pending
  then (s.reach ((s.sect.get n).reqAt + sec 60)).endRequest n .expired 0 none else s

def execRestoreExpiry (n : Fin 48) (s : State) : Host.Outcome State Fault Refusal :=
  run s fun s => s.whenAlive (restoreExpiry n)

/-- RESTORE_CMD (R234); Tally takes it in phase 1 of its next cycle (R370). -/
def State.restoreWrite (s : State) (o : Origin) (n : Fin 48) (v : Nat) : State :=
  if v = 0x5253 then { s with tally := { s.tally with restoreIn := s.tally.restoreIn ++ [.request n o s.now] } }
  else if v = 0 then { s with tally := { s.tally with restoreIn := s.tally.restoreIn ++ [.withdraw n o] } }
  else s

/-- DISTURB_CMD (R230, R370). -/
def State.disturbWrite (s : State) (n : Fin 48) : State :=
  { s with tally := { s.tally with disturbIn := s.tally.disturbIn ++ [n] } }

/-- The section of a restore write is refused (R234): unused, or its published STATE is not DISTURBED. -/
def restoreRefused (s : State) (n : Fin 48) (v : Nat) : Bool :=
  v == 0x5253 && (!secUsed s.cfg.active n.val || (s.tally.pub.sections.get n).st != .disturbed)

-- boot and activation
/-- A section at boot or activation (R230, R231, R233). Its references stay: the results that open and end them are
still to be taken (R19, R227). -/
def sectionStart (used : Bool) (cause : BitVec 8) (x : Section) : Section :=
  { x with
    st := .disturbed, count := 0, distCause := if x.st == .disturbed then x.distCause ||| cause else cause
    sweepIn := 0, sweepOut := 0, mark := none, t0 := 0, held := false, unused := !used
    clearRemain := 0, raised := cause, touched := false, cycleMark := none }

/-- Every section at an activation: requests end WITHDRAWN, those that wait to be taken too, and a SECTION
record of each used section is due (R233, R235, R465). Results and changes of the heads delivered before the
activation are taken in the cycle that follows it (R19, R150, R191, R221). -/
def State.tallyActivate (s : State) : State :=
  let s0 := s.tally.restoreIn.foldl State.takeRestore s
  let s1 := (allFin 48).foldl (fun acc n =>
    let acc1 := if (acc.sect.get n).rstate == .pending then acc.endRequest n .withdrawn 0 none else acc
    acc1.updSect n (sectionStart (secUsed acc.cfg.active n.val) causeActivation)) s0
  { s1 with tally := { s1.tally with allRecords := true, restoreIn := [] } }

end Sys2Proof.Machine
end

