-- ==== Sys2Proof/Machine/Ledger.lean ====
section
/-! DEFINITION. The mass ledger: its axles, masses, accelerations, forces and moments, residues and the
two sets of sums (R301 to R308). -/

namespace Sys2Proof.Machine

/-- One axle of the ledger (R302 to R308): section, POS in 1/16 mm, mass in kg, acceleration in m/s^2,
provisional flag, DEFAULT_MASS mark, membership of set P. -/
structure Axle where
  sec : Fin 48
  pos : Rat
  mass : Rat
  acc : Rat
  prov : Bool
  dflt : Bool
  setP : Bool
  deriving DecidableEq, Repr

/-- g in m/s^2 (R307). -/
def gravity : Rat := 980665 / 100000

/-- Mass of an entry on a section and its DEFAULT_MASS mark (R303); loads are in units of 10 kg. -/
def entryMass (c : CfgMap) (n : Nat) (load : Option Nat) : Rat × Bool :=
  match load with
  | some l => (((10 * l : Nat) : Rat), false)
  | none => (((10 * frameMass c n : Nat) : Rat), true)

/-- The slot whose trigger opened an entry, while it is open (R302). -/
def slotOfEntry (s : State) (e : Entry) : Option Slot :=
  if e.lastS.isSome then none else (s.head.get e.head).slots.get e.slot

/-- Speed of a slot 100 ms before an instant, or its first speed; each speed holds until the next
sample (R169, R306). -/
def speedBefore (t : Nat) (v : Rat) : List (Nat × Rat) → Rat
  | [] => v
  | (at_, w) :: rest => if at_ + ms 100 ≤ t then w else speedBefore t w rest

/-- Acceleration of a PROVISIONAL axle in m/s^2, positive towards rising POS: over 100 ms, or over the
time that the slot has been open (R306). -/
def slotAcc (t : Nat) (sl : Slot) : Rat :=
  let age := t - sl.openedAt
  if age < ms 20 then 0
  else (sl.v - speedBefore t sl.v sl.vHist) / 16000 / ((Nat.min age (ms 100) : Rat) / 1000000000)

/-- A PROVISIONAL entry's axle (R302, R303, R306). -/
def provAxle (s : State) (e : Entry) : Option Axle :=
  let c := s.cfg.active
  let h := e.head.val
  let sl := slotOfEntry s e
  let p : Rat := match sl with
    | some x => x.s
    | none => e.lastS.getD 0
  let onA := decide (p < (headD c h : Rat) / 2)
  let side := if onA then e.sideASec.or e.sideBSec else e.sideBSec.or e.sideASec
  match side with
  | none => none
  | some n =>
    let m := entryMass c n.val e.load
    some { sec := n, pos := (posOf c n.val h : Rat) + p, mass := m.1
           acc := match sl with
             | some x => slotAcc s.now x
             | none => 0
           prov := true, dflt := m.2, setP := e.newAxle }

/-- The axle of a published entry (R302). -/
def entryAxle (s : State) (i : Fin 128) : Option Axle :=
  let c := s.cfg.active
  let e := s.tally.pub.tracker.entries.get i
  match e.st with
  | .free | .atHead => none
  | .provisional => provAxle s e
  | .running | .parked =>
    (match e.sec with
     | none => none
     | some n =>
       let x := e.advance c s.now
       let m := entryMass c n.val e.load
       some { sec := n, pos := ((x.rear + x.front : Int) : Rat) / 2, mass := m.1, acc := 0, prov := false
              dflt := m.2, setP := false })

/-- All axles of the ledger, residues not included. -/
def ledgerAxles (s : State) : List Axle := (allFin 128).filterMap (entryAxle s)

-- residues
/-- A residue as a confirmed axle (R304). -/
def residueAxle (t : Tab 48 Residue) (n : Fin 48) : Option Axle :=
  let r := t.get n
  if r.n = 0 then none
  else some { sec := n, pos := r.pos, mass := r.mass, acc := 0, prov := false, dflt := false, setP := false }

-- forces and moments
/-- Three components. -/
structure Vec where
  x : Rat
  y : Rat
  z : Rat
  deriving DecidableEq, Repr

/-- Position of an axle in the vessel frame, in metres (R305). -/
def axlePoint (c : CfgMap) (a : Axle) : Vec :=
  let n := a.sec.val
  let d : Rat := if frameKind c n = 1 then (a.pos - (framePos0 c n : Rat)) / 16 else 0
  let co (k : Nat) : Rat := ((frameP c n k : Rat) + d * (frameU c n k : Rat) / 16384) / 1000
  { x := co 0, y := co 1, z := co 2 }

/-- The share k of a SPAN section, clamped to 0 to 1 (R305). -/
def spanShare (c : CfgMap) (a : Axle) : Rat :=
  let n := a.sec.val
  maxR 0 (minR 1 ((a.pos - (framePos0 c n : Rat)) / ((framePos1 c n - framePos0 c n : Int) : Rat)))

/-- Force of an axle on the hull, none on a SHORE section (R305, R307). -/
def axleForce (c : CfgMap) (a : Axle) : Option Vec :=
  let n := a.sec.val
  let u (k : Nat) : Rat := (frameU c n k : Rat) / 16384
  if frameKind c n = 1 then
    some { x := -(a.mass * a.acc * u 0), y := -(a.mass * a.acc * u 1)
           z := -(a.mass * gravity) - a.mass * a.acc * u 2 }
  else if frameKind c n = 2 then some { x := 0, y := 0, z := -(spanShare c a * a.mass * gravity) }
  else none

/-- Vessel mass of an axle (R308). -/
def vesselShare (c : CfgMap) (a : Axle) : Rat :=
  let n := a.sec.val
  if frameKind c n = 1 then a.mass else if frameKind c n = 2 then spanShare c a * a.mass else 0

/-- The six model quantities of an axle before rounding: N and N m (R307, R308). -/
def axleModel (c : CfgMap) (a : Axle) (k : Nat) : Rat :=
  match axleForce c a with
  | none => 0
  | some f =>
    let r := axlePoint c a
    if k = 0 then f.x
    else if k = 1 then f.y
    else if k = 2 then f.z
    else if k = 3 then r.y * f.z - r.z * f.y
    else if k = 4 then r.z * f.x - r.x * f.z
    else r.x * f.y - r.y * f.x

def sumOver (l : List Axle) (f : Axle → Rat) : Rat := l.foldl (fun acc a => acc + f a) 0

/-- The rounded sums of a set (R308): forces in N, moments in 10 N m, masses in kg. -/
def modelSum (c : CfgMap) (l : List Axle) (k : Nat) : Int :=
  let v := sumOver l (fun a => axleModel c a k)
  satS 32 (roundAway (if k < 3 then v else v / 10))

def vesselSum (c : CfgMap) (l : List Axle) : Int := satS 32 (roundAway (sumOver l (vesselShare c)))

def sectionSum (l : List Axle) (n : Fin 48) : Int :=
  satS 32 (roundAway (sumOver (l.filter (fun a => a.sec == n)) (fun a => a.mass)))

/-- The ledger of a tick (R301, R308). -/
def ledgerOf (c : CfgMap) (axles : List Axle) (res : Tab 48 Residue) : Ledger :=
  let p := axles.filter (fun a => a.setP)
  let q := axles.filter (fun a => !a.setP) ++ (allFin 48).filterMap (residueAxle res)
  { axles := axles.length, prov := (axles.filter (fun a => a.prov)).length
    dflt := (axles.filter (fun a => a.dflt)).length
    vesselC := vesselSum c q, vesselP := vesselSum c p
    modelC := Vector.map (fun (k : Fin 6) => modelSum c q k.val) (Vector.finRange 6)
    modelP := Vector.map (fun (k : Fin 6) => modelSum c p k.val) (Vector.finRange 6)
    secC := Vector.map (sectionSum q) (Vector.finRange 48)
    secP := Vector.map (sectionSum p) (Vector.finRange 48) }

end Sys2Proof.Machine
end

