-- ==== Sys2Proof/Machine/Engine.lean ====
section
/-! DEFINITION. The moment engine: coefficients, laws, axis outputs, quality, modes, live writes, the
committed tick and the overrun (R309 to R327). -/

namespace Sys2Proof.Machine

-- number format
/-- SAT32 and whether it saturated (R310). -/
def sat32 (x : Int) : Int × Bool := (satS 32 x, satS 32 x != x)

/-- Add into the 64-bit accumulator, which saturates (R309). -/
def addAcc (a b : Int) : Int := satS 64 (a + b)

/-- The term of a coefficient word and a signal (R309, R335). -/
def macTerm (word : Nat) (v : Int) : Int := shiftRound (toSigned 32 word * v) (field word 36 32)

-- live values
/-- Running value of a live engine object (R326, R372). -/
def liveGet (e : Engine) (i sub : Nat) : Nat := cfgGet e.live i sub

def lawLive (e : Engine) (n sub : Nat) : Nat := liveGet e (0x2501 + n) sub
def lawEnabled (e : Engine) (n : Nat) : Bool := bitOf (liveGet e 0x2500 7) n
def outSlew (e : Engine) (a : Nat) : Int := (liveGet e 0x2500 (0x0C + a) : Int)
def provWeight (e : Engine) (n : Nat) : Nat := lawLive e n 2

/-- Coefficient word j (B0, B1, B2, A1, A2) of section k (R333). -/
def bqWord (e : Engine) (n k j : Nat) : Nat := lawLive e n (5 + 5 * k + j)

-- signals
/-- C + ((w P + 128) >> 8), saturated (R311). -/
def combined (w : Nat) (c p : Int) : Int := satS 32 (c + ((w : Int) * p + 128) / 256)

/-- Signal of a code for a law (R311). `e` is the engine as committed at the previous tick, with the
live values of this one. -/
def lawSignal (e : Engine) (l : Ledger) (n : Fin 16) (code : Nat) : Int :=
  let w := provWeight e n.val
  if within code 1 6 then (match finOf? 6 (code - 1) with
    | some k => combined w (l.modelC.get k) (l.modelP.get k)
    | none => 0)
  else if code = 7 then combined w l.vesselC l.vesselP
  else if within code 0x10 0x3F then (match finOf? 48 (code - 0x10) with
    | some k => combined w (l.secC.get k) (l.secP.get k)
    | none => 0)
  else if within code 0x40 0x4F then (match finOf? 16 (code - 0x40) with
    | some k => (e.laws.get k).out
    | none => 0)
  else if code = 0x50 then (e.laws.get n).fb
  else 0

-- laws
/-- One biquad section: its new states, its output and whether it saturated (R312). -/
def biquadStep (e : Engine) (n k : Nat) (b : Biquad) (x : Int) : Biquad × Int × Bool :=
  let w (j : Nat) := bqWord e n k j
  let acc := addAcc (addAcc (addAcc (addAcc (macTerm (w 0) x) (macTerm (w 1) b.x1)) (macTerm (w 2) b.x2))
    (-(macTerm (w 3) b.y1))) (-(macTerm (w 4) b.y2))
  let y := sat32 acc
  ({ x1 := x, x2 := b.x1, y1 := y.1, y2 := b.y1 }, y.1, y.2)

/-- The first NSEC sections in order (R312). -/
def biquads (e : Engine) (n : Nat) (nsec : Nat) (t : Tab 4 Biquad) (x : Int) : Tab 4 Biquad × Int × Bool :=
  (allFin 4).foldl (fun (acc : Tab 4 Biquad × Int × Bool) k =>
    if k.val < nsec then
      let r := biquadStep e n k.val (acc.1.get k) acc.2.1
      (acc.1.put k r.1, r.2.1, acc.2.2 || r.2.2)
    else acc) (t, x, false)

/-- A law initialised at a set-point (R314). -/
def lawInit (u : Int) (l : Law) : Law := { l with r := u, i := 0, ePrev := 0, bq := Tab.all {} }

/-- One law at a tick, and whether a stage saturated (R310, R312). -/
def lawStep (c : CfgMap) (e : Engine) (n : Fin 16) (u fb : Int) (l : Law) : Law × Bool :=
  let slew : Int := (lawLive e n.val 3 : Int)
  let lim : Int := (lawLive e n.val 0x1C : Int)
  let r := l.r + clampI (-slew) slew (u - l.r)
  let q := biquads e n.val (lawNsec c n.val) l.bq r
  let er := sat32 (q.2.1 - fb)
  let de := sat32 (er.1 - l.ePrev)
  let i := clampI (-lim) lim (l.i + macTerm (lawLive e n.val 0x1A) er.1)
  let pid := lawPid c n.val
  let acc := if pid then
      addAcc (addAcc (macTerm (lawLive e n.val 0x19) er.1) i) (macTerm (lawLive e n.val 0x1B) de.1)
    else er.1
  let o := sat32 (shiftRound acc (lawLive e n.val 4))
  ({ l with r := r, bq := q.1, i := if pid then i else l.i, ePrev := if pid then er.1 else l.ePrev
            out := o.1, input := u, feedback := fb }, q.2.2 || er.2 || (pid && de.2) || o.2)

/-- All laws at a tick: the initialised ones, whose input is Zero when they are not configured (R314),
then, when the mode runs them, one step of each configured law in the order of numbers (R311 to R314). -/
def lawsStep (c : CfgMap) (e : Engine) (l : Ledger) (runs : Bool) : Tab 16 Law × Bool :=
  (allFin 16).foldl (fun (acc : Tab 16 Law × Bool) n =>
    let u := lawSignal e l n (lawInput c n.val)
    let fb := lawSignal e l n (lawFeedback c n.val)
    let x := if e.initDue.getLsbD n.val then lawInit u (acc.1.get n) else acc.1.get n
    if runs && lawUsed c n.val then
      let r := lawStep c e n u fb x
      (acc.1.put n r.1, acc.2 || r.2)
    else (acc.1.put n x, acc.2)) (e.laws, false)

-- contributing sections
/-- Every DECK and SPAN section (R319). -/
def framedMask (c : CfgMap) : BitVec 48 :=
  BitVec.ofNat 48 (mapBits 48 (fun n => frameKind c n = 1 || frameKind c n = 2))

mutual
/-- Contributing sections of a signal code: all of them, and those that reach with a PROV_WEIGHT above 0
(R319). -/
def codeSections (c : CfgMap) (e : Engine) (w : Bool) : Nat → Nat → BitVec 48 × BitVec 48
  | 0, _ => (0#48, 0#48)
  | k + 1, code =>
    let own (m : BitVec 48) : BitVec 48 × BitVec 48 := (m, if w then m else 0#48)
    if within code 1 7 then own (framedMask c)
    else if within code 0x10 0x3F then own (BitVec.ofNat 48 (2 ^ (code - 0x10)))
    else if within code 0x40 0x4F then lawSections c e k (code - 0x40)
    else (0#48, 0#48)

def lawSections (c : CfgMap) (e : Engine) : Nat → Nat → BitVec 48 × BitVec 48
  | 0, _ => (0#48, 0#48)
  | k + 1, n =>
    let w := provWeight e n != 0
    let a := codeSections c e w k (lawInput c n)
    let b := codeSections c e w k (lawFeedback c n)
    (a.1 ||| b.1, a.2 ||| b.2)
end

/-- Contributing sections of an axis (R319); a chain of laws is at most 16 long. -/
def axisSections (c : CfgMap) (e : Engine) (a : Nat) : BitVec 48 × BitVec 48 :=
  (List.range 16).foldl (fun acc n =>
    if lawUsed c n && lawEnabled e n && lawTarget c n == a then
      let m := lawSections c e 33 n
      (acc.1 ||| m.1, acc.2 ||| m.2)
    else acc) (0#48, 0#48)

def secMask (f : Fin 48 → Bool) : BitVec 48 :=
  BitVec.ofNat 48 (mapBits 48 (fun n => match finOf? 48 n with
    | some i => f i
    | none => false))

/-- Sections that degrade a quality: DISTURBED, UNTRACKED above 0, or a DEFAULT_MASS axle (R319). -/
def degradedMask (s : State) (axles : List Axle) : BitVec 48 :=
  secMask (fun n => (s.tally.pub.sections.get n).st == .disturbed || s.tally.pub.untracked.get n != 0
    || axles.any (fun a => a.sec == n && a.dflt))

def disturbedMask (s : State) : BitVec 48 := secMask (fun n => (s.tally.pub.sections.get n).st == .disturbed)

/-- Sections with a flagged axle of one set (R319). -/
def flaggedMask (axles : List Axle) (p : Bool) : BitVec 48 :=
  secMask (fun n => axles.any (fun a => a.sec == n && a.prov && a.setP == p))

-- modes
/-- The sum of the enabled laws of an axis, saturated (R317). -/
def lawTargetSum (c : CfgMap) (e : Engine) (laws : Tab 16 Law) (a : Nat) : Int :=
  satS 32 ((allFin 16).foldl (fun acc n =>
    if lawUsed c n.val && lawEnabled e n.val && lawTarget c n.val == a then acc + (laws.get n).out else acc) 0)

/-- Enter FOLLOW or HOLD from OFF (R314, R320, R322). -/
def enterFromOff (c : CfgMap) (m : EMode) (e : Engine) : Engine :=
  let e1 := { e with mode := m, initDue := BitVec.allOnes 16, held := Tab.all 0 }
  match m with
  | .follow =>
    { e1 with warmLeft := warmup c, warming := decide (0 < warmup c)
              flags := { e1.flags with fadeOverrun := false, fadeSync := false } }
  | _ => { e1 with warmLeft := 0, warming := false }

/-- A mode command at a committed tick (R320, R321). -/
def modeCommand (c : CfgMap) (m : EMode) (e : Engine) : Engine :=
  match e.mode, m with
  | .off, .follow => enterFromOff c .follow e
  | .off, .hold => enterFromOff c .hold e
  | .off, .off | .off, .fade => e
  | .follow, .hold => { e with mode := .hold, held := e.out, warming := false, warmLeft := 0 }
  | .hold, .follow =>
    { e with mode := .follow, flags := { e.flags with fadeOverrun := false, fadeSync := false } }
  | .follow, .off | .follow, .fade | .hold, .off | .hold, .fade =>
    { e with mode := .fade, warming := false, warmLeft := 0, pendMode := none }
  | .follow, .follow | .hold, .hold => e
  | .fade, .follow => { e with pendMode := some .follow }
  | .fade, .hold => { e with pendMode := some .hold }
  | .fade, .off | .fade, .fade => { e with pendMode := none }

def emodeOf : Nat → EMode
  | 0 => .off
  | 1 => .follow
  | 2 => .hold
  | _ => .fade

/-- Axes whose target a change of LAW_ENABLE or a LAW_RESET concerns (R318). -/
def axesOf (c : CfgMap) (laws : Nat) : BitVec 6 :=
  BitVec.ofNat 6 (mapBits 6 (fun a => (List.range 16).any (fun n =>
    bitOf laws n && lawUsed c n && lawTarget c n == a)))

/-- What a tick's writes leave: the engine and the axes that hand over. -/
structure TickIn where
  e : Engine
  axes : BitVec 6
  deriving DecidableEq, Repr

/-- FB_VALUE of a law (R333). -/
def isFeedback (i sub : Nat) : Bool := within i 0x2501 0x2510 && sub == 0x1D

/-- A law's FB_VALUE takes a value. -/
def setFeedback (e : Engine) (i v : Nat) : Engine :=
  match finOf? 16 (i - 0x2501) with
  | some n => { e with laws := e.laws.upd n (fun l => { l with fb := toSigned 32 v }) }
  | none => e

/-- One live write or command takes effect (R315, R318, R320, R326, R327). -/
def takeLive (c : CfgMap) (x : TickIn) (w : LiveWrite) : TickIn :=
  if w.index = 0x2500 ∧ w.sub = 4 then { x with e := modeCommand c (emodeOf w.value) x.e }
  else if w.index = 0x2500 ∧ w.sub = 8 then
    { e := { x.e with initDue := x.e.initDue ||| BitVec.ofNat 16 w.value }
      axes := x.axes ||| axesOf c (Nat.land w.value (liveGet x.e 0x2500 7)) }
  else if isFeedback w.index w.sub then { x with e := setFeedback x.e w.index w.value }
  else
    let old := liveGet x.e 0x2500 7
    let e1 := { x.e with live := cfgSet x.e.live w.index w.sub w.value }
    { e := e1
      axes := if w.index = 0x2500 ∧ w.sub = 7 then x.axes ||| axesOf c (Nat.xor old w.value) else x.axes }

/-- A write that changes the running engine sets LIVE_EDIT (R326). -/
def isEdit (w : LiveWrite) : Bool :=
  !(w.index == 0x2500 && (w.sub == 4 || w.sub == 8)) && !isFeedback w.index w.sub

/-- A fade that a third overrun asked for (R320, R324). -/
def overrunFade (e : Engine) : Engine :=
  if e.fadeDue then
    match e.mode with
    | .follow | .hold =>
      { e with mode := .fade, fadeDue := false, warming := false, warmLeft := 0, pendMode := none
               flags := { e.flags with fadeOverrun := true } }
    | .off | .fade => { e with fadeDue := false }
  else e

/-- The end of a fade when every offset decays to 0 at this tick (R320, R321). -/
def fadeEnd (c : CfgMap) (hand : Bool) (e : Engine) : Engine :=
  let zero := (allFin 6).all (fun a => decide ((e.offset.get a).natAbs ≤ (outSlew e a.val).natAbs))
  if e.mode == .fade && !hand && zero then
    let off := { e with mode := .off, pendMode := none }
    match e.pendMode with
    | some .follow => enterFromOff c .follow off
    | some .hold => enterFromOff c .hold off
    | _ => off
  else e

/-- One tick of warm-up passes; the first one is the entry tick (R322). -/
def warmStep (entered : Bool) (e : Engine) : Engine :=
  if e.warming && !entered then
    { e with warmLeft := e.warmLeft - 1, warming := decide (1 < e.warmLeft) }
  else e

/-- The target of an axis (R317). -/
def axisTarget (c : CfgMap) (e : Engine) (laws : Tab 16 Law) (a : Fin 6) : Int :=
  match e.mode with
  | .follow => if e.warming then e.held.get a else lawTargetSum c e laws a.val
  | .hold => e.held.get a
  | .fade | .off => 0

/-- The offset of an axis: handed over when its target changes for a reason of R318, else decaying
(R317). -/
def axisOffset (e : Engine) (hand : Bool) (t : Int) (a : Fin 6) : Int :=
  if e.mode == .off then 0
  else if hand && t != e.target.get a then e.out.get a - t
  else
    let o := e.offset.get a
    let sl := outSlew e a.val
    if 0 ≤ o then (if o ≤ sl then 0 else o - sl) else (if -sl ≤ o then 0 else o + sl)

/-- Quality of an axis (R319). -/
def axisQuality (s : State) (e : Engine) (axles : List Axle) (a : Fin 6) : Nat :=
  let m := axisSections s.cfg.active e a.val
  if e.mode != .follow || e.warming || e.offset.get a != 0 then 3
  else if m.1 &&& degradedMask s axles != 0#48 || s.trk.full then 2
  else if (m.1 &&& flaggedMask axles false) ||| (m.2 &&& flaggedMask axles true) != 0#48 then 1
  else 0

/-- Contributing sections of all axes. -/
def allSections (c : CfgMap) (e : Engine) : BitVec 48 × BitVec 48 :=
  (List.range 6).foldl (fun acc a =>
    let m := axisSections c e a
    (acc.1 ||| m.1, acc.2 ||| m.2)) (0#48, 0#48)

/-- Step 1 of a tick: the writes and commands that are due, in order (R315). -/
def tickWrites (c : CfgMap) (e : Engine) (n : Nat) : TickIn :=
  let due := e.waiting.filter (fun w => decide (w.due ≤ n))
  let e0 := overrunFade { e with waiting := e.waiting.filter (fun w => !decide (w.due ≤ n)) }
  due.foldl (takeLive c) { e := e0, axes := 0#6 }

/-- Steps 2 to 5 of a tick (R315): `x` is what step 1 left, `e0` the engine as committed before. -/
def tickCommit (s : State) (e0 : Engine) (x : TickIn) (cycles : Nat) : Engine × Bool :=
  let c := s.cfg.active
  let changed := x.e.mode != e0.mode || e0.handover
  let e1 := fadeEnd c changed x.e
  let entered := e1.mode == .follow && (e0.mode == .off || (e0.mode == .fade && x.e.mode != e1.mode))
  let e2 := warmStep entered e1
  let res := s.engine.residues
  let axles := ledgerAxles s
  let l := ledgerOf c axles res
  let runs := e2.mode == .follow || e2.mode == .hold
  let ls := lawsStep c e2 l runs
  let all := changed || e2.mode != e0.mode || e2.warming != e0.warming
  let target := Vector.map (fun (a : Fin 6) => axisTarget c e2 ls.1 a) (Vector.finRange 6)
  let offset := Vector.map (fun (a : Fin 6) =>
    axisOffset e2 (all || x.axes.getLsbD a.val) (Tab.get target a) a) (Vector.finRange 6)
  let out := Vector.map (fun (a : Fin 6) => sat32 (Tab.get target a + Tab.get offset a)) (Vector.finRange 6)
  let e3 : Engine := { e2 with
    laws := ls.1, ledger := l, residues := res, initDue := 0#16, handover := false
    target := target, offset := offset, out := Vector.map (fun o => o.1) out
    tickSeq := (e2.tickSeq + 1) % 2 ^ 32, outSeq := (e2.tickSeq + 1) % 2 ^ 32
    ovrConsec := 0, lastCycles := cycles, maxCycles := Nat.max e2.maxCycles cycles }
  let m := allSections c e3
  let e4 : Engine := { e3 with
    flags := { e3.flags with
      sat := ls.2 || (allFin 6).any (fun a => (Vector.get out a).2), overrun := false
      distIn := m.1 &&& disturbedMask s != 0#48
      provIn := (m.1 &&& flaggedMask axles false) ||| (m.2 &&& flaggedMask axles true) != 0#48 }
    quality := Vector.map (fun (a : Fin 6) => axisQuality s e3 axles a) (Vector.finRange 6)
    shown := engineShow e3 }
  (e4, e0.mode == .fade && x.e.mode == .fade && e1.mode != .fade)

/-- ENGINE record of a change of mode (R465), with ENGINE_STATUS as the change leaves it (log 24). -/
def State.engineRecord (s : State) (a b : EMode) : State :=
  if a == b then s
  else s.record 0x30 (leBytes 1 (emodeCode a) ++ leBytes 1 (emodeCode b) ++ leBytes 4 (engineWord s (engineShow s.engine))
    ++ leBytes 4 s.engine.tickSeq)

/-- FADE_OVERRUN or FADE_SYNC is set while the other holds, so that ALARMS does not show it (R406). -/
def State.fadeAgain (s : State) (was : EngineFlags) : State :=
  let f := s.engine.flags
  if (f.fadeOverrun && !was.fadeOverrun && was.fadeSync && f.fadeSync)
      || (f.fadeSync && !was.fadeSync && was.fadeOverrun && f.fadeOverrun)
  then s.emergencyBit 13 else s

/-- A committed tick of number `n` (R315). A fade that ends goes through OFF. -/
def State.engineTick (s : State) (n cycles : Nat) : State :=
  let e0 := s.engine
  let x := tickWrites s.cfg.active e0 n
  let edit := e0.waiting.any (fun w => decide (w.due ≤ n) && isEdit w)
  let r := tickCommit s e0 x cycles
  let s1 : State := { s with engine := r.1, cfg := { s.cfg with liveEdit := s.cfg.liveEdit || edit } }
  let s2 := s1.fadeAgain e0.flags
  if r.2 then (s2.engineRecord .fade .off).engineRecord .off r.1.mode
  else s2.engineRecord e0.mode r.1.mode

/-- An overrun (R323, R324): nothing is committed. The quality of every axis is NOT_FOLLOWING (R319). -/
def engineOverrun (e : Engine) : Engine :=
  let n := satInc 3 e.ovrConsec
  { e with
    ovrCount := satInc32 e.ovrCount, ovrConsec := n, flags := { e.flags with overrun := true }
    fadeDue := e.fadeDue || (n == 3 && (e.mode == .follow || e.mode == .hold))
    quality := Tab.all 3 }

/-- A fade outside a tick; the outputs are handed over at the next committed tick (R318, R320). -/
def fadeNow (e : Engine) : Engine :=
  match e.mode with
  | .follow | .hold =>
    { e with mode := .fade, warming := false, warmLeft := 0, pendMode := none, handover := true, fadeDue := false }
  | .off | .fade => e

/-- Nominal tick period in ns (R316, R331). -/
def tickNs (c : CfgMap) : Nat := 1000000000 / Nat.max (tickHz c) 1

/-- The port of TICK_SRC, none for the timer (R331). -/
def tickPort (c : CfgMap) : Option PortId :=
  match tickSrc c with
  | 1 => some .cana
  | 2 => some .canb
  | 3 => some .eta
  | 4 => some .etb
  | _ => none

/-- SYNC_LOST: 2.5 / TICK_HZ without a SYNC; it is set once, until the next SYNC (R316, R320). -/
def syncLost (s : State) : State :=
  match tickPort s.cfg.active, s.engine.flags.syncLost with
  | none, _ | _, true => s
  | some _, false =>
    let s0 := s.reach (s.engine.syncAt + 5 * tickNs s.cfg.active / 2)
    let was := s0.engine.mode
    let e1 := fadeNow s0.engine
    let sync := was == .follow || was == .hold
    let s1 : State := { s0 with engine := { e1 with
      flags := { e1.flags with syncLost := true, fadeSync := e1.flags.fadeSync || sync } } }
    (s1.fadeAgain s0.engine.flags).engineRecord was e1.mode

def execSyncLost (s : State) : Host.Outcome State Fault Refusal := run s fun s => s.whenAlive syncLost

/-- A write to an engine object waits for the next committed tick; reserved bits are ignored (R15, R315, R330,
R370). -/
def State.engineWrite (s : State) (i sub v : Nat) : State :=
  let e := s.engine
  { s with engine := { e with
    waiting := e.waiting ++ [{ index := i, sub := sub, value := maskValue i sub v, due := s.net.pdSeq + 1 }]
    cmd := if i = 0x2500 ∧ sub = 4 then v else e.cmd } }

/-- The live engine values of a configuration (R432). -/
def engineLive (c : CfgMap) : List (Nat × Nat) :=
  c.filter (fun e => match objInfo (e.1 / 256) (e.1 % 256) with
    | some o => o.cls == .live
    | none => false)

/-- The engine at an activation (R314, R320): a fade, fresh laws, an empty ledger. Live values are
those of the configuration; writes that wait stay due. -/
def State.engineActivate (s : State) : State :=
  let was := s.engine.mode
  let e := fadeNow s.engine
  let s1 : State := { s with engine := { e with
    live := engineLive s.cfg.active, initDue := BitVec.allOnes 16, residues := Tab.all {}
    syncAt := s.now } }
  s1.engineRecord was s1.engine.mode

end Sys2Proof.Machine
end

