-- ==== Sys2Proof/Machine/Twin.lean ====
section
/-! DEFINITION. Twin execution and the Reeve: the cores, their signatures and delay registers, comparison,
known answers, held writes, the watchdog, memory errors and the entry into debug (R338 to R363). -/

namespace Sys2Proof.Machine

/-- Length of the comparison after a window, in ns (R344). -/
def compareNs : Nat := 50

/-- Known-answer windows come every 1,024 windows (R345). -/
def kaWindow (n : Nat) : Bool := n % 1024 == 0

/-- The lane of a known-answer window (R345). -/
def kaLaneOf (n : Nat) : Nat := n / 1024 % 32

-- the cores and their signatures
/-- One step of a signature register (R342). -/
def misrStep (m w : BitVec 32) : BitVec 32 :=
  let x := (m <<< 1) ^^^ w
  if m.msb then x ^^^ 0x00400007#32 else x

/-- Bit k of a mask covers byte lane k; the other lanes are 0 (R341). -/
def laneData (mask : BitVec 4) (data : BitVec 32) : BitVec 32 :=
  BitVec.ofNat 32 (mapBits 32 (fun i => mask.getLsbD (i / 8) && data.getLsbD i))

/-- The two words that a cycle folds (R341). -/
def foldWords : Option Retire → BitVec 32 × BitVec 32
  | none => (0#32, 0#32)
  | some (.reg n v) => (0#2 ++ 0#25 ++ n, v)
  | some (.store a m d) => (1#2 ++ m ++ a, laneData m d)
  | some (.port a m d) => (2#2 ++ m ++ a, d)
  | some (.control n v) => (3#2 ++ 0#18 ++ n, v)

def misrCycle (m : BitVec 32) (r : Option Retire) : BitVec 32 :=
  misrStep (misrStep m (foldWords r).1) (foldWords r).2

/-- Cycles of a window (R343). -/
def windowCycles : Nat := 256

/-- The signature of a window, from the value that its register was seeded with (R341 to R343). -/
def signature (seed : BitVec 32) (w : CoreWindow) : BitVec 32 :=
  let cycles := (w.cycles ++ List.replicate windowCycles none).take windowCycles
  misrStep (cycles.foldl misrCycle seed) w.retired

/-- What a core does to its own registers (R338, R341). -/
def CoreRegs.retire (c : CoreRegs) (r : Option Retire) : CoreRegs :=
  match r with
  | some (.reg n v) => { c with regs := c.regs.put n.toFin v }
  | some (.control n v) => { c with control := cfgIns c.control n.toNat v.toNat }
  | _ => c

/-- A core after a window, with its register seeded for window n (R343). -/
def CoreRegs.window (c : CoreRegs) (w : CoreWindow) (n : Nat) : CoreRegs :=
  { w.cycles.foldl CoreRegs.retire c with misr := BitVec.ofNat 32 n }

/-- Words of SRAM (R353). -/
def sramWords : Nat := 262144

/-- Store lanes of a word of SRAM, the word's number given. -/
def sramPut (m : List (Nat × Nat)) (word : Nat) (mask : BitVec 4) (data : BitVec 32) : List (Nat × Nat) :=
  (List.range 4).foldl (fun acc k =>
    if mask.getLsbD k then cfgIns acc (4 * word + k) (byteOf data.toNat k) else acc) m

/-- A store of Core A; the SRAM stands at address 0 on (R338, R340; log 15). -/
def sramStore (m : List (Nat × Nat)) (r : Option Retire) : List (Nat × Nat) :=
  match r with
  | some (.store a mask d) => if a.toNat / 4 < sramWords then sramPut m (a.toNat / 4) mask d else m
  | _ => m

/-- Parity of a delay-register stage: odd for bytes in even positions, even for those in odd ones (R339). -/
def stageParity (data : BitVec 224) : BitVec 28 :=
  BitVec.ofNat 28 (mapBits 28 (fun k =>
    ((List.range 8).foldl (fun acc i => acc ^^ data.getLsbD (8 * k + i)) (k % 2 == 0))))

/-- A stage whose parity bits are those of its data (R339). -/
def DelayStage.good (x : DelayStage) : Bool := x.parity == stageParity x.data

/-- Both stages of the state have good parity (R339). -/
def Twin.stagesGood (t : Twin) : Bool := t.delay0.good && t.delay1.good

/-- The parity check at the output of each stage, which every cycle makes (R339). -/
def State.checkStages (s : State) : State := if s.twin.stagesGood then s else s.stopLatch 1 none

/-- What enters Core B in the next cycle (R339). -/
def Twin.entersB (t : Twin) : BitVec 224 := t.delay1.data

/-- A value enters Core A and the first stage; what stood there goes on to the second, and what stood in the second
enters Core B, two cycles after it entered Core A (R339). A Core B that is held receives nothing (R357, R483). -/
def Twin.shift (t : Twin) (v : BitVec 224) : Twin :=
  { t with
    coreA := { t.coreA with input := v }
    coreB := if t.lockstep then { t.coreB with input := t.entersB } else t.coreB
    delay0 := ⟨v, stageParity v⟩, delay1 := t.delay0 }

/-- Bit of a stage at which the word of a read begins (R340; log 15). -/
def stageAt : Nat := 8 * (Config.stageByte % 25)

/-- What enters Core A in a cycle in which a read delivers a word: the word, and 24 open bytes (R339, R340). -/
def stageWord (n : Nat) (w : BitVec 32) : BitVec 224 :=
  (Config.stageRest n &&& ~~~((BitVec.allOnes 32).setWidth 224 <<< stageAt)) ||| (w.setWidth 224 <<< stageAt)

/-- The word that a core takes from a value that has entered it (R340). -/
def deliveredWord (v : BitVec 224) : BitVec 32 := (v >>> stageAt).setWidth 32

/-- What enters Core A in the cycle of a debug request (R339). -/
def stageDebug (n : Nat) : BitVec 224 := Config.stageRest n ||| (1#224 <<< (Config.stageDebugBit % 224))

/-- A write that a cycle retires is a store to a word of SRAM. -/
def storesTo (word : Nat) : Option Retire → Bool
  | some (.store a _ _) => a.toNat / 4 == word
  | _ => false

/-- A window's end: the registers of both cores, seeded for window n, Core A's stores, and the last two values that
entered Core A, which are still on their way to Core B. The value that entered Core B last is an older one, and is open.
Only Core A's stores reach memory (R338, R339). -/
def Twin.retire (t : Twin) (a b : CoreWindow) (delay0 delay1 : BitVec 224) (n : Nat) : Twin :=
  { (t.shift delay1).shift delay0 with
    coreA := { t.coreA.window a n with input := delay0 }
    coreB := { t.coreB.window b n with input := Config.windowInput n }
    sram := a.cycles.foldl sramStore t.sram
    sramCheck := t.sramCheck.filter (fun e => !a.cycles.any (storesTo e.1)) }

-- comparison
/-- What the Reeve inverts of SIG_B in window n: the lane of a known answer, or bit 0 in the window of
the stop test (R345, R363). -/
def injection (t : Twin) (n : Nat) : BitVec 32 :=
  if kaWindow n then BitVec.ofNat 32 (2 ^ kaLaneOf n)
  else if t.stopTest == some n then 1#32 else 0#32

/-- Outcomes of a comparison (R344, R345, R363). -/
inductive Outcome where
  | matched | caught | mismatch | kaMissed | stopTest | stopTestMismatch
  deriving DecidableEq, Repr

/-- The outcome of window n; `d` holds the lanes that report a difference after the injection. A stop
test in which lane 0 reports gives STOP_TEST; lanes beside it are a genuine divergence (R360, R363). -/
def reeveOutcome (t : Twin) (n : Nat) (d : BitVec 32) : Outcome :=
  if kaWindow n then
    (if d = 0#32 then .kaMissed else if d = injection t n then .caught else .mismatch)
  else if t.stopTest == some n then
    (if d = 0#32 then .kaMissed else if d = 1#32 then .stopTest
     else if d.getLsbD 0 then .stopTestMismatch else .mismatch)
  else if d = 0#32 then .matched else .mismatch

/-- A released write reaches the permit output hardware (R347). -/
def State.applyPermitWrite (s : State) (w : PermitWrite) : State :=
  match w with
  | .refresh r => s.applyRefresh r
  | .activation assigned => s.permitOutputs assigned

/-- Release, in their order, the writes that retired in window n, and pulse the watchdog (R346, R347). -/
def State.reevePass (s : State) (n : Nat) : State :=
  let s1 := ((s.twin.held.filter (fun w => w.1 == n)).map Prod.snd).foldl State.applyPermitWrite s
  { s1 with twin := { s1.twin with held := s.twin.held.filter (fun w => w.1 != n), pulseAt := s1.now } }

/-- Window n as compared last: the next one is n + 1 modulo 2^32 (R343, R361). When the numbers start
again, the start of window 0 is that of the next one. -/
def State.windowDone (s : State) (n : Nat) : State :=
  let m := (n + 1) % 2 ^ 32
  { s with twin := { s.twin with
    windows := n, window := m, lockAt := if m = 0 then s.twin.lockAt + (n + 1) * windowNs else s.twin.lockAt } }

/-- The signatures of a window as the Reeve sees them, SIG_B after the injection (R344, R345, R361). -/
def reeveSigs (t : Twin) (a b : CoreWindow) : BitVec 32 × BitVec 32 :=
  (signature t.coreA.misr a, signature t.coreB.misr b ^^^ injection t t.window)

/-- STOP_CAUSE that an outcome raises (R344, R345, R363). -/
def outcomeCause : Outcome → Option Nat
  | .matched | .caught => none
  | .mismatch | .stopTestMismatch => some 4
  | .kaMissed => some 5
  | .stopTest => some 9

/-- The instant of the comparison of the window at hand (R344). -/
def compareAt (t : Twin) : Nat := t.lockAt + (t.window + 1) * windowNs + compareNs

/-- REEVE_COMPARE: the end of a window, in which the cores retired what the operands say (R341 to R347).
The clock moves to the instant of the comparison of that window (log 1). After a stop the Reeve compares no more; a
comparison of the very instant of the stop still gives its cause (R360, R483; log 31). -/
def reeveCompare (a b : CoreWindow) (delay0 delay1 : BitVec 224) (s : State) : State :=
  let n := s.twin.window
  let sg := reeveSigs s.twin a b
  let ended : State := { s with twin := s.twin.retire a b delay0 delay1 ((n + 1) % 2 ^ 32) }
  if s.twin.lockstep && !s.twin.stopLatch then
    let s0 := ended.reach (compareAt s.twin)
    let stop (cause : Nat) := (s0.stopLatch cause (some sg)).windowDone n
    match reeveOutcome s.twin n (sg.1 ^^^ sg.2) with
    | .matched => (s0.reevePass n).windowDone n
    | .caught =>
      let s1 := (s0.reevePass n).windowDone n
      { s1 with twin := { s1.twin with kaPassed := satInc32 s1.twin.kaPassed, watchdog := true } }
    | .mismatch => stop 4
    | .kaMissed => stop 5
    | .stopTest => stop 9
    | .stopTestMismatch => (stop 4).stopLatch 9 none
  else if s.twin.stopLatch && s.twin.stopAt == s.now && s.now == compareAt s.twin then
    (outcomeCause (reeveOutcome s.twin n (sg.1 ^^^ sg.2))).elim s (fun cause => s.stopLatch cause none)
  else s

def execReeveCompare (a b : CoreWindow) (delay0 delay1 : BitVec 224) (s : State) : Host.Outcome State Fault Refusal :=
  run s fun s => s.guarded (s.alive || s.stopCycle) (fun s => reeveCompare a b delay0 delay1 s.checkStages)

/-- DELAY_PARITY_ERROR: what stands at the output of a delay-register stage. The check compares the parity bits of both
stages with those of their data (R339). -/
def delayParityError (second : Bool) (data : BitVec 224) (parity : BitVec 28) (s : State) : State :=
  ({ s with twin :=
    if second then { s.twin with delay1 := ⟨data, parity⟩ } else { s.twin with delay0 := ⟨data, parity⟩ } } : State).checkStages

def execDelayParityError (second : Bool) (data : BitVec 224) (parity : BitVec 28) (s : State) :
    Host.Outcome State Fault Refusal :=
  run s fun s => s.guarded (s.serving || s.stopCycle) (delayParityError second data parity)

/-- The scrubber goes on to the next word (R353). -/
def scrubNext (t : Twin) : Twin :=
  if t.scrubAddr + 1 < sramWords then { t with scrubAddr := t.scrubAddr + 1 }
  else { t with scrubAddr := 0, scrubPasses := satInc32 t.scrubPasses }

/-- The handler has contents of a dump in hand, to be written or being written (R483, R486). -/
def dumpOpen (d : Dump) : Bool := d.next.isSome || d.st == .writing

/-- An uncorrectable word (R352); the handler that writes a dump uses it as delivered (R486). -/
def State.eccDouble (s : State) (cause : Nat) : State :=
  let s1 := s.stopLatch cause none
  if dumpOpen s1.recd.dump then { s1 with recd := { s1.recd with dump := { s1.recd.dump with ecc := true } } } else s1

/-- A change of the contents of the dump in hand. -/
def Dump.updBlocks (d : Dump) (f : DumpBlocks → DumpBlocks) : Dump :=
  match d.next with
  | some b => { d with next := some (f b) }
  | none => if d.st = .writing then { d with blocks := f d.blocks } else d

/-- The 39 bits of a word as the hardware writes it: the seven check bits of the SECDED code, then the data (R352,
R354). -/
def storedWord (data : BitVec 32) : BitVec 39 := Config.secded data ++ data

def wordData (x : BitVec 39) : BitVec 32 := x.setWidth 32
def wordCheck (x : BitVec 39) : BitVec 7 := (x >>> 32).setWidth 7

-- SRAM
/-- The data bits of an SRAM word (R340, R352). -/
def sramData (t : Twin) (word : Nat) : BitVec 32 :=
  BitVec.ofNat 32 (ofLe ((List.range 4).map (fun k => sramByteAt t.sram t.sramKey (4 * word + k))))

/-- A word of SRAM as it is stored: the check bits are valid, but for a word that has been found uncorrectable and not
stored to since (R352, R354). -/
def sramStored (t : Twin) (word : Nat) : BitVec 39 :=
  match cfgFind t.sramCheck word with
  | some k => BitVec.ofNat 7 k ++ sramData t word
  | none => storedWord (sramData t word)

/-- The word is known to be uncorrectable. -/
def sramBad (t : Twin) (word : Nat) : Bool := (cfgFind t.sramCheck word).isSome

/-- A word of SRAM as an uncorrectable read finds it: so it is stored from then on, and a dump in hand holds its data as
they were delivered (R352, R486). -/
def State.sramWord (s : State) (word : Nat) (x : BitVec 39) : State :=
  { s with
    twin := { s.twin with
      sram := sramPut s.twin.sram word 0xF#4 (wordData x)
      sramCheck := cfgIns s.twin.sramCheck word (wordCheck x).toNat }
    recd := { s.recd with
      dump := s.recd.dump.updBlocks (fun b => { b with sram := sramPut b.sram word 0xF#4 (wordData x) }) } }

/-- A corrected SRAM word (R352): its data bits are those that State holds, and the write-back puts them there again, with
valid check bits. -/
def sramCorrected (t : Twin) (word : Nat) : Twin :=
  { t with eccSram := satInc32 t.eccSram, eccLast := 4 * word, sramCheck := cfgDel t.sramCheck word }

/-- A read without a new error: a word that is known to be uncorrectable is found so again (R352). -/
def State.sramFault (s : State) (word : Nat) : State := if sramBad s.twin word then s.eccDouble 2 else s

/-- A read of Core A delivers one word to both cores, through the delay registers (R339, R340). Where in the stage the
word stands is not given (log 15). -/
def State.coreRead (s : State) (w : BitVec 32) : State :=
  let s1 := s.checkStages
  { s1.draw with twin := s1.twin.shift (stageWord s1.fresh w) }

/-- Core A reads a word of SRAM. -/
def State.sramRead (s : State) (word : Nat) : State := (s.coreRead (sramData s.twin word)).sramFault word

-- flash
/-- Byte address of a word of flash (R361; log 15). -/
def flashAddr : FlashPlace → Nat
  | .program w => 4 * w.toNat
  | .bank k w => Config.bankBase k + 4 * w.toNat

/-- Words of flash that are known to be uncorrectable, with the number of this one. -/
def flashBadAt (s : State) : FlashPlace → Option Nat
  | .program w => cfgFind s.twin.flashBad w.toNat
  | .bank k w => (bankOf s.cfg k).bind (fun b => cfgFind b.bad w.toNat)

/-- The data that flash holds at a place: the firmware, or the bytes of a bank, 0xFF where it holds none (R340, R433). -/
def flashBytes (s : State) : FlashPlace → BitVec 32
  | .program w => Config.flashWord w.toNat
  | .bank k w => BitVec.ofNat 32 (ofLe ((List.range 4).map (fun i =>
      ((bankOf s.cfg k).elim [] bankBytes).getD (4 * w.toNat + i) 0xFF#8)))

/-- A word of flash as it is stored. No reset writes it (R340, R352, R354). -/
def flashStored (s : State) (p : FlashPlace) : BitVec 39 :=
  match flashBadAt s p with
  | some x => BitVec.ofNat 39 x
  | none => storedWord (flashBytes s p)

/-- The data of a word of flash as a read delivers them (R352). -/
def flashData (s : State) (p : FlashPlace) : BitVec 32 := wordData (flashStored s p)

/-- The bytes of a word put into a block of a dump. -/
def patchWord (bs : List Byte) (word : Nat) (data : BitVec 32) : List Byte :=
  if 4 * word + 4 ≤ bs.length then bs.take (4 * word) ++ leBytes 4 data.toNat ++ bs.drop (4 * word + 4) else bs

/-- A word of flash as an uncorrectable read finds it: so it is stored from then on, and the CONFIG block of a dump in
hand holds its data as they were delivered, when it is a word of the active bank (R352, R486, R490). -/
def State.flashWord (s : State) (p : FlashPlace) (x : BitVec 39) : State :=
  match p with
  | .program w => { s with twin := { s.twin with flashBad := cfgIns s.twin.flashBad w.toNat x.toNat } }
  | .bank k w =>
    let g := putBank s.cfg k ((bankOf s.cfg k).map (fun b => { b with bad := cfgIns b.bad w.toNat x.toNat }))
    let put (b : DumpBlocks) : DumpBlocks := { b with config := patchWord b.config w.toNat (wordData x) }
    let d := if s.cfg.activeBank = some k then s.recd.dump.updBlocks put else s.recd.dump
    { s with cfg := g, recd := { s.recd with dump := d } }

/-- A corrected flash word is not rewritten (R352). -/
def State.flashCorrected (s : State) (p : FlashPlace) : State :=
  { s with twin := { s.twin with eccFlash := satInc32 s.twin.eccFlash, eccLast := flashAddr p } }

/-- A read without a new error: a word that is known to be uncorrectable is found so again (R352). -/
def State.flashFault (s : State) (p : FlashPlace) : State := if (flashBadAt s p).isSome then s.eccDouble 3 else s

/-- The scrubber goes on after its word (R353). -/
def State.scrubNext (s : State) : State := { s with twin := Machine.scrubNext s.twin }

/-- SCRUB_READ (R352, R353). A store that hits the word before the write-back is kept; an access of Core A to the word
that the scrubber has selected is made, and the scrubber waits. -/
def scrubRead (r : MemRead) (s : State) : State :=
  let word := s.twin.scrubAddr
  match r with
  | .clean => (s.sramFault word).scrubNext
  | .coreAccess reads => if reads then s.sramRead word else s
  | .single => { s with twin := scrubNext (sramCorrected s.twin word) }
  | .singleThenStore mask data =>
    { s with twin := scrubNext { sramCorrected s.twin word with sram := sramPut s.twin.sram word mask data } }
  | .double x => ((s.sramWord word x).eccDouble 2).scrubNext
  | .coreClean a => s.sramRead a.toNat
  | .coreSingle a => ({ s with twin := sramCorrected s.twin a.toNat } : State).coreRead (sramData s.twin a.toNat)
  | .coreDouble a x => ((s.sramWord a.toNat x).coreRead (wordData x)).eccDouble 2
  | .flashClean p => (s.coreRead (flashData s p)).flashFault p
  | .flashSingle p => (s.flashCorrected p).coreRead (flashData s p)
  | .flashDouble p x => ((s.flashWord p x).coreRead (wordData x)).eccDouble 3

def execScrubRead (r : MemRead) (s : State) : Host.Outcome State Fault Refusal :=
  run s fun s => s.guarded (s.serving || s.stopCycle) (scrubRead r)

/-- Shortest 24 periods of the monitor oscillator, in ns (R349). -/
def pulseNs : Nat := 2860

/-- The periods of the monitor oscillator had passed without a pulse when another cause set the latch: two causes of one
cycle (R349, R360; log 31). -/
def pulseCoincides (s : State) : Bool :=
  s.twin.stopLatch && s.twin.stopArmed && s.twin.stopAt == s.now && decide (s.twin.pulseAt + pulseNs ≤ s.now)

/-- PULSE_TIMEOUT (R349). -/
def pulseTimeout (s : State) : State :=
  if s.twin.watchdog && !s.twin.stopLatch then (s.reach (s.twin.pulseAt + pulseNs)).stopLatch 6 none
  else if pulseCoincides s then s.stopLatch 6 none
  else s

def execPulseTimeout (s : State) : Host.Outcome State Fault Refusal :=
  run s fun s => s.guarded (s.serving || s.stopCycle) pulseTimeout

/-- DEBUG_REQUEST: accepted while TRSTn is high and the device runs, stopped or not (R357, R360). The request enters the
delay registers as every value that enters Core A (R339), and Core B is held from then on (R361). DESIGN CHOICE (log 52):
the private instruction of R64 leaves the instruction of the TAP as it is, so an EXTEST that is loaded goes on. -/
def debugRequest (trstnHigh : Bool) (s : State) : State :=
  if trstnHigh then
    let s0 := s.checkStages
    let s1 := ({ s0.draw with twin := s0.twin.shift (stageDebug s0.fresh) } : State).stopLatch 8 none
    { s1 with
      power := { s1.power with phase := .debugHalted }
      twin := { s1.twin with debugTaint := true, debugActive := true, lockstep := false } }
  else s

def execDebugRequest (trstnHigh : Bool) (s : State) : Host.Outcome State Fault Refusal :=
  run s fun s => s.guarded s.serving (debugRequest trstnHigh)

/-- STOP_TEST_CMD: the next window that is no known-answer window (R360, R363). -/
def State.stopTestWrite (s : State) : State :=
  if s.twin.lockstep && s.twin.stopTest.isNone then
    let n := (s.twin.window + 1) % 2 ^ 32
    { s with twin := { s.twin with stopTest := some (if kaWindow n then n + 1 else n) } }
  else s

end Sys2Proof.Machine
end

