-- ==== Sys2Proof/Machine/CfgCheck.lean ====
section
/-! DEFINITION. The configuration check (R439): the rules of R83, R124, R156, R194, R214, R220, R266,
R295, R329 and R431 in that order, the excitation power, and the structure of an image (R440). -/

namespace Sys2Proof.Machine

/-- A refusal code with the items that break its rule. -/
abbrev CheckRow := Nat × List Nat

def below (n : Nat) (f : Nat → Bool) : List Nat := (List.range n).filter f

/-- An item list for a rule that names no item. -/
def itemIf (b : Bool) (item : Nat) : List Nat := if b then [item] else []

-- R83: terminals and excitation
/-- Number of channel inputs that a kind connects (R81). -/
def kindInputs (k : Nat) : Nat := if k = 2 then 4 else if k = 1 || k = 3 then 2 else 0

/-- The four terminal fields of a connection (R97). -/
def connTerms (c : CfgMap) (ch : Nat) : List Nat := [connSigP c ch, connSigN c ch, connRefP c ch, connRefN c ch]

/-- A connection of a kind that binds a source (R81). -/
def connLive (c : CfgMap) (ch : Nat) : Bool := within (connKind c ch) 1 3

/-- A terminal outside 0 to 191, or one of the four terminal fields set where the kind leaves it unused (R83,
0x0301). DESIGN CHOICE (log 55): SOURCE is no such field; under KIND 0 any SOURCE passes. -/
def termsBad (c : CfgMap) (ch : Nat) : Bool :=
  decide (connKind c ch ≤ 3) &&
    ((connTerms c ch).zip (List.range 4)).any (fun p =>
      if p.2 < kindInputs (connKind c ch) then decide (p.1 > 191) else p.1 != 0xFF)

def sourceTermsBad (c : CfgMap) (k : Nat) : Bool :=
  excEnabled c k && (decide (wordForce (excWord c k) > 191) || decide (wordReturn (excWord c k) > 191))

/-- Every terminal with each role that names it (R83, 0x0302). DESIGN CHOICE (log 55): FORCE_AT and RETURN_AT
are roles for every enabled source, bound or not, and for no disabled one. -/
def termRoles (c : CfgMap) : List Nat :=
  (List.range 64).flatMap (fun k =>
    if excEnabled c k then [wordForce (excWord c k), wordReturn (excWord c k)] else [])
  ++ (List.range 64).flatMap (fun ch =>
    if connLive c ch then (connTerms c ch).filter (fun t => decide (t ≤ 191)) else [])

/-- Values that a list holds more than once. -/
def repeated (l : List Nat) : List Nat := l.filter (fun x => decide (l.count x > 1))

def liveSources (c : CfgMap) : List Nat := ((List.range 64).filter (connLive c)).map (connSource c)

def waveAllowed (kind wave : Nat) : Bool :=
  if kind = 1 then wave == 2 else if kind = 2 then wave == 0 || wave == 1 else wave == 0

/-- Heads of a TYPE that R161 knows. -/
def knownHead (c : CfgMap) (h : Nat) : Bool := headInductive c h || headStrip c h

/-- The source that excites a head's system or strip; a channel field above 63 names no channel, so nothing does. -/
def headSource (c : CfgMap) (ch : Nat) : Option (Fin 64) := if ch < 64 then boundSource c ch else none

/-- The two systems are not excited by the two equal sources of one pair (0x0308). -/
def pairSplit (c : CfgMap) (h : Nat) : Bool :=
  match headSource c (headSys1 c h), headSource c (headSys2 c h) with
  | some a, some b =>
    a == b || a.val / 2 != b.val / 2 || wordWave (excWord c a.val) != wordWave (excWord c b.val)
      || wordCurrent (excWord c a.val) != wordCurrent (excWord c b.val)
  | _, _ => true

/-- The rows of R83. DESIGN CHOICE (log 55): 0x0308, for which R83 does not say whether a source or a channel is
reported, reports the lower channel of the head. -/
def rulesR83 (c : CfgMap) : List CheckRow :=
  let live := (List.range 64).filter (connLive c)
  [(0x0301, below 64 (fun n => termsBad c n || sourceTermsBad c n)),
   (0x0302, repeated (termRoles c)),
   (0x0303, live.filter (fun ch => decide (connSource c ch > 63))),
   (0x0304, repeated (liveSources c)),
   (0x0305, below 64 (fun k => excEnabled c k != (liveSources c).contains k)),
   (0x0306, (live.filter (fun ch => !waveAllowed (connKind c ch) (wordWave (excWord c (connSource c ch))))).map
      (connSource c)),
   (0x0307, below 64 (fun k => excEnabled c k && !within (wordCurrent (excWord c k)) 10 2000)),
   (0x0308, (below 32 (fun h => knownHead c h && pairSplit c h)).map (fun h => Nat.min (headSys1 c h) (headSys2 c h))),
   (0x0309, below 64 (fun ch => decide (connKind c ch > 3) || field (connWord c ch) 15 0 != 0
      || bitOf (excWord c ch) 11))]

-- R124: channels
def modeKindBad (c : CfgMap) (ch : Nat) : Bool :=
  let m := chMode c ch
  let k := connKind c ch
  (m == 1 && k != 1) || (m == 2 && k != 2 && k != 3) || (m == 0 && k != 0) || (k == 0 && m != 0)

def freqBad (c : CfgMap) (ch : Nat) : Bool :=
  let f := chFreq c ch
  if chMode c ch = 1 then !within f 200 1200
  else if chChopped c ch then !within f 782 3125
  else decide (chMode c ch = 0 ∨ chMode c ch = 2) && f != 0

def gainBad (c : CfgMap) (ch : Nat) : Bool :=
  let lo := chGainMin c ch
  let hi := chGainMax c ch
  let ini := chGainInit c ch
  decide (lo > hi) || !within ini lo hi || (!chAuto c ch && !(lo == hi && hi == ini))

/-- Channels of the two sources of pair k (R77). -/
def pairWave (c : CfgMap) (k : Nat) : Option Nat :=
  match finOf? 64 (2 * k), finOf? 64 (2 * k + 1) with
  | some a, some b =>
    if excEnabled c a.val && excEnabled c b.val then
      let x := (boundChannel c a).elim 63 (fun i => i.val)
      let y := (boundChannel c b).elim 63 (fun i => i.val)
      if wordWave (excWord c a.val) != wordWave (excWord c b.val) || chFreq c x != chFreq c y
      then some (Nat.min x y) else none
    else none
  | _, _ => none

def rulesR124 (c : CfgMap) : List CheckRow :=
  [(0x0401, below 64 (modeKindBad c)),
   (0x0402, below 64 (freqBad c)),
   (0x0403, below 64 (fun ch => chRate c ch != 0 && decide (chMode c ch ≤ 1))),
   (0x0404, below 64 (gainBad c)),
   (0x0405, below 64 (fun ch => decide (chMode c ch > 2) || field (chCfg c ch) 15 0 != 0)),
   (0x0406, (List.range 32).filterMap (pairWave c)),
   (0x0407, below 64 (fun ch => chRate c ch != 0
      && (List.range 32).any (fun h => headStrip c h && countingOf c h ch)))]

-- R156: channel guard
def tempBad (c : CfgMap) (ch : Nat) : Bool :=
  let t := gTempSrc (guardCfg c ch)
  within t 64 0xFE || (decide (t < 64) && (connKind c t != 3 || t == ch || gTempSrc (guardCfg c t) != 0xFF))

/-- A tone of `200 v` Hz within 0.2 kHz of `m` times f_chop, 3,125,000 / N Hz (R109, R156). -/
def toneNear (v n m : Nat) : Bool :=
  decide (((200 * v * n : Nat) - (m * 3125000 : Nat) : Int).natAbs ≤ 200 * n)

def testBad (c : CfgMap) (ch : Nat) : Bool :=
  let v := gSweep (guardCfg c ch)
  let f := chFreq c ch
  if chMode c ch = 1 then !within v 5 50 || decide (f < 200 + 2 * v) || decide (f + 2 * v > 1200)
  else if chBridge6 c ch then
    !within v 5 40 || (chChopped c ch && decide (0 < f) && (toneNear v f 1 || toneNear v f 3))
  else false

def windowBad (c : CfgMap) (ch : Nat) : Bool :=
  let g := guardCfg c ch
  gNomMag g == 0 || gMagFail g == 0 || gPhaseFail g == 0 || gFrFail g == 0 || decide (gMagWarn g > gMagFail g)
    || decide (gPhaseWarn g > gPhaseFail g) || decide (gFrWarn g > gFrFail g) || decide (gQWarn g < gQFail g)
    || (chMode c ch == 1 && gIdle g == 0)

def rulesR156 (c : CfgMap) : List CheckRow :=
  [(0x0501, below 64 (tempBad c)),
   (0x0502, below 64 (testBad c)),
   (0x0503, below 64 (fun ch => chMode c ch != 0 && windowBad c ch)),
   (0x0504, if within (guardPeriod c) 10 90 then
      below 32 (fun h => headDefined c h && decide (ms (guardPeriod c) + headCheckSpan c h > ms 100)) else [0]),
   (0x0505, below 64 (fun ch => byteOf (guardCfg c ch) 0 != 0 || bytesOf (guardCfg c ch) 30 2 != 0))]

-- R194: heads
def headChans (c : CfgMap) (h : Nat) : List Nat := [headSys1 c h, headSys2 c h, headLoad c h]

def bridge6Chan (c : CfgMap) (ch : Nat) : Bool := decide (ch < 64) && chBridge6 c ch

/-- The channels do not meet R161. -/
def headChanBad (c : CfgMap) (h : Nat) : Bool :=
  let ind (ch : Nat) := decide (ch < 64) && chMode c ch == 1 && connKind c ch == 1
  let strip (ch : Nat) := bridge6Chan c ch && chRate c ch == 0
  if headInductive c h then
    !(ind (headSys1 c h) && ind (headSys2 c h)) || !(headLoad c h == 0xFF || bridge6Chan c (headLoad c h))
  else headLoad c h != 0xFF || !(strip (headSys1 c h) && strip (headSys2 c h))

/-- Every channel that a head names, with repetitions. -/
def headUses (c : CfgMap) : List Nat :=
  ((List.range 32).filter (knownHead c)).flatMap (fun h => (headChans c h).filter (fun ch => ch != 0xFF))

/-- Sample period of a head's systems in us (R170). -/
def headDtUs (c : CfgMap) (h : Nat) : Nat := if headInductive c h then 20 else 100

/-- 0x0603. VMAX is v times 1,600 units of 1/16 mm per second. -/
def geometryBad (c : CfgMap) (h : Nat) : Bool :=
  let d := headD c h
  let w := headW c h
  decide (d < 320) || decide (w < 160) || decide (2 * d > 5 * w)
    || decide (2 * w * 1000000 < 16 * 1600 * headVmax c h * headDtUs c h)

/-- T_TW of a head lies below a time in ns (R163). -/
def windowBelow (c : CfgMap) (h t : Nat) : Bool :=
  decide ((headD c h + 2 * headW c h) * 1000000000 < t * (headVmax c h * 1600))

def speedBad (c : CfgMap) (h : Nat) : Bool :=
  !within (headVmax c h) 1 1250 || windowBelow c h (us 1500)
    || (headOpen c h && (windowBelow c h (headCheckSpan c h)
        || (countingOfHead c h).any (fun ch => windowBelow c h (ms 2 + 3 * groupDelay c ch.val))))

/-- R165, and |TA| at the edges of the zone, points 10 2/3 and 53 1/3, below 0.10. -/
def templateBad (c : CfgMap) (h k : Nat) : Bool :=
  let a (p : Nat) := templateA c h k p
  a 32 != 16384 && a 32 != -16384 || (List.range 65).any (fun p => decide ((a p).natAbs > 16384))
    || (headStrip c h && (List.range 65).any (fun p => templateP c h k p != 0))
    || decide ((a 10 + 2 * a 11).natAbs * 10 < 49152) || decide ((2 * a 53 + a 54).natAbs * 10 < 49152)

def loadCalBad (c : CfgMap) (h : Nat) : Bool :=
  let linked := headLoad c h != 0xFF
  ((headStrip c h || linked) && headLoadK c h == 0)
    || (linked && (headLoadHalf c h == 0 || decide (200 * headLoadHalf c h < 64 * headVmax c h)))

def rulesR194 (c : CfgMap) : List CheckRow :=
  let heads (f : Nat → Bool) := below 32 (fun h => knownHead c h && f h)
  let uses := headUses c
  [(0x0601, below 32 (fun h => decide (headType c h > 2) || field (headCfg c h) 58 56 != 0
      || field (fitCfg c h) 7 0 != 0
      || (headType c h == 0 && (headChans c h).any (fun ch => ch != 0xFF)))),
   (0x0602, heads (fun h => headChanBad c h
      || (headChans c h).any (fun ch => ch != 0xFF && decide (uses.count ch > 1)))),
   (0x0603, heads (geometryBad c)),
   (0x0604, heads (speedBad c)),
   (0x0605, heads (fun h => templateBad c h 1 || templateBad c h 2)),
   (0x0606, heads (loadCalBad c)),
   (0x0607, heads (fun h => headGOpen c h == 0 || headEMax c h == 0))]

-- R214, R220, R266: Bellringer, sections, tracking
def rulesR214 (c : CfgMap) : List CheckRow :=
  [(0x0701, below 32 (fun h => headDefined c h && !within (guardDist c h) 3200 160000))]

def crossByteBad (b : Nat) : Bool := if bitOf b 7 then bitOf b 5 else b != 0

/-- (head, side) of every crossing, with repetitions; the side as 1 for side B. -/
def allSides (c : CfgMap) : List (Nat × Bool) :=
  (List.range 48).flatMap (fun n => (crossings c n).map (fun x => (x.head, x.inPos)))

def rulesR220 (c : CfgMap) : List CheckRow :=
  let sides := allSides c
  [(0x0802, below 48 (fun n => (List.range 8).any (fun k => crossByteBad (crossByte c n k)))),
   (0x0803, below 48 (fun n => (crossings c n).any (fun x => !headDefined c x.head))),
   (0x0804, below 48 (fun n => !distinct ((crossings c n).map (fun x => x.head)))),
   (0x0805, below 48 (fun n => (crossings c n).any (fun x => decide (sides.count (x.head, x.inPos) > 1)))),
   (0x0806, below 32 (fun h => headDefined c h && !headOpen c h
      && !(sides.contains (h, false) && sides.contains (h, true)))),
   (0x0807, below 48 (fun n => secUsed c n && !within (clearDelay c n) 500 30000))]

def extentBad (c : CfgMap) (n : Nat) : Bool :=
  let lo : Int := 2 * trackRunMin c n
  let hi : Int := 2 * trackRunMax c n
  decide (lo ≥ hi) || (crossings c n).any (fun x =>
    let p : Int := 2 * trackPos c n x.k
    decide (p - 3 * (headW c x.head : Int) < lo)
      || decide (p + 2 * (headD c x.head : Int) + 3 * (headW c x.head : Int) > hi))

def rulesR266 (c : CfgMap) : List CheckRow :=
  [(0x0901, below 48 (fun n => secUsed c n && (decide (trackTol c n > 100) || !within (trackHalf c n) 16 16000
      || byteOf (trackCfg c n) 43 != 0))),
   (0x0902, below 48 (fun n => secUsed c n && extentBad c n)),
   (0x0903, itemIf (!within (groupGap c) 16000 800000) 0)]

-- R295: permits
def termByte (c : CfgMap) (p k : Nat) : Nat := byteOf (cfgGet c 0x2300 (p + 0x11)) k

def permitTermBad (c : CfgMap) (p : Nat) : Bool :=
  let t := permitTerms c p
  (permitOn c p && t.isEmpty) || t.any (fun n => decide (n > 47) || !secUsed c n) || !distinct t
    || (List.range 8).any (fun k => let b := termByte c p k
        if bitOf b 7 then bitOf b 6 else b != 0)

def rulesR295 (c : CfgMap) : List CheckRow :=
  [(0x0A01, below 16 (permitTermBad c)),
   (0x0A02, below 16 (fun p => permitOn c p && !within (permitHalf c p) 25 100)),
   (0x0A03, below 16 (fun p => decide (permitMode c p > 1) || permitPickup c p == 0
      || decide (permitDrop c p < 5) || field (permitCfg c p) 26 24 != 0))]

-- R329: engine
/-- Reserved signal codes (R311). -/
def signalReserved (x : Nat) : Bool := within x 0x08 0x0F || decide (x > 0x50)

def lawBad (c : CfgMap) (n : Nat) : Bool :=
  signalReserved (lawInput c n) || signalReserved (lawFeedback c n) || lawInput c n == 0x50 || lawTarget c n == 7
    || decide (lawNsec c n > 4) || field (lawCfg c n) 8 0 != 0
    || (lawUsed c n && lawTarget c n == 6 && !(List.range 16).any (fun m => m != n && lawInput c m == 0x40 + n))

def frameBad (c : CfgMap) (n : Nat) : Bool :=
  let k := frameKind c n
  let f := frameCfg c n
  let sq (a : Nat) : Int := frameU c n a * frameU c n a
  let u2 : Int := sq 0 + sq 1 + sq 2
  decide (k > 2) || byteOf f 1 != 0 || bytesOf f 30 2 != 0 || (secUsed c n && k != 0 && frameMass c n == 0)
    || (k == 1 && decide ((u2 - 268435456).natAbs * 500 > 268435456)) || (k == 2 && framePos0 c n == framePos1 c n)

def rulesR329 (c : CfgMap) : List CheckRow :=
  [(0x0B01, itemIf (decide (tickSrc c > 4) || !within (tickHz c) 10 4000 || field (engineCfg c) 7 0 != 0) 0),
   (0x0B02, below 16 (lawBad c)),
   (0x0B03, below 48 (frameBad c)),
   (0x0B04, itemIf (decide (allowance c < 2000) || decide (allowance c * tickHz c > 160000000)) 0),
   (0x0B05, itemIf (decide (10 * wcet c > 9 * allowance c)) 0)]

-- R431: ports
def canBad (c : CfgMap) (p : CanPort) : Bool :=
  let b (i : Nat) := byteOf (canCfg c p) i
  !within (b 0) 1 127 || decide (b 2 > 3) || !within (b 3) 100 180
    || (if canFd c p then decide (b 4 > 4) else b 4 != 0) || (canFlag c p 2 && !canFd c p)
    || !within (b 5) 100 180 || decide (b 6 > 127) || decide (b 7 > 1) || !within (canTimeout c p) 1 600
    || bytesOf (canCfg c p) 10 2 != 0 || field (canIdent c p) 30 11 != 0

def sameNode (c : CfgMap) : Bool :=
  canEnabled c .a && canEnabled c .b && canSdo c .a && canSdo c .b && canNode c .a == canNode c .b

def ethMac (c : CfgMap) (p : EthPort) : Nat := bytesOf (ethCfg c p) 0 6

def ethBad (c : CfgMap) (p : EthPort) : Bool :=
  let b (i : Nat) := byteOf (ethCfg c p) i
  bitOf (b 0) 0 || (b 12 == 0 && b 13 == 0) || !(ethHbMs c p == 0 || within (ethHbMs c p) 100 10000)
    || !within (ethTimeout c p) 1 600 || decide (b 17 > 7) || bytesOf (ethCfg c p) 25 7 != 0

def ethTwins (c : CfgMap) : Bool :=
  ethEnabled c .a && ethEnabled c .b &&
    (ethMac c .a == ethMac c .b || byteOf (ethCfg c .a) 24 == byteOf (ethCfg c .b) 24)

/-- Mapping entries of a PDO or SRDO mapping index that are not empty: index, subindex, bits (log 16). -/
def mapEntries (c : CfgMap) (i : Nat) : List (Nat × Nat × Nat) :=
  (List.range 16).filterMap (fun k =>
    let w := cfgGet c i (k + 1)
    if w = 0 then none else some (field w 31 16, field w 15 8, field w 7 0))

def mapBytes (m : List (Nat × Nat × Nat)) : Nat := m.foldl (fun acc e => acc + e.2.2 / 8) 0

/-- PD_SEQ may be mapped with 8, 16 or 32 bits, every other object with its size (R375, R403). -/
def mapLenOk (e : Nat × Nat × Nat) (size : Nat) : Bool :=
  if e.1 == 0x2B00 && e.2.1 == 0x0B then e.2.2 == 8 || e.2.2 == 16 || e.2.2 == 32 else e.2.2 == 8 * size

/-- An entry that a TPDO may map: readable, of fixed size (R375). -/
def tpdoEntryOk (e : Nat × Nat × Nat) : Bool :=
  match objInfo e.1 e.2.1 with
  | none => false
  | some o => o.access != .wo && !o.varLen && mapLenOk e o.size

/-- An entry that an RPDO may map: RW and LIVE (R375). -/
def rpdoEntryOk (e : Nat × Nat × Nat) : Bool :=
  match objInfo e.1 e.2.1 with
  | none => false
  | some o => o.access == .rw && o.cls == .live && mapLenOk e o.size

/-- An entry that an SRDO may map (R405). -/
def srdoEntryOk (e : Nat × Nat × Nat) : Bool :=
  let i := e.1
  let u := e.2.1
  ((i == 0x2000 && (u == 0x09 || within u 0x30 0x33)) || (i == 0x2300 && (u == 0x31 || u == 0x32))
    || (within i 0x2200 0x222F && (u == 0x03 || u == 0x04)) || (i == 0x2B00 && u == 0x0B))
    && tpdoEntryOk e

/-- Transmission types of R399. -/
def typeOk (t : Nat) : Bool := within t 1 240 || t == 254 || t == 255

/-- Most bytes of a PDO: 8 when an enabled CAN port that carries it has FD 0, else 64 (R399, R431). -/
def pdoLimit (c : CfgMap) (cob : Nat) : Nat :=
  if !bitOf cob 31 && bothCan.any (fun p => canEnabled c p && !canFd c p) then 8 else 64

def rpdoBad (c : CfgMap) (n : Nat) : Bool :=
  let m := mapEntries c (0x1600 + n)
  !m.all rpdoEntryOk || decide (mapBytes m > pdoLimit c (cfgGet c (0x1400 + n) 1))
    || !typeOk (cfgGet c (0x1400 + n) 2)

def anyPdMask (c : CfgMap) (n : Nat) : Bool := dataPorts.any (fun p => bitOf (pdMask c p) n)

def tpdoBad (c : CfgMap) (n : Nat) : Bool :=
  let m := mapEntries c (0x1A00 + n)
  !m.all tpdoEntryOk || decide (mapBytes m > pdoLimit c (cfgGet c (0x1800 + n) 1))
    || !typeOk (cfgGet c (0x1800 + n) 2) || (anyPdMask c n && decide (mapBytes m > 64))

/-- Entries at even or odd places of a mapping: the values, and the ones that are sent inverted (log 16). -/
def everySecond : List (Nat × Nat × Nat) → List (Nat × Nat × Nat)
  | [] => []
  | [e] => [e]
  | e :: _ :: rest => e :: everySecond rest

/-- The entries of an SRDO mapping stand in pairs, a value and after it the same one inverted (R405; EN 50325-5; log
16). -/
def srdoPaired (c : CfgMap) (n : Nat) : Bool :=
  (List.range 8).all (fun j => cfgGet c (0x1381 + n) (2 * j + 1) == cfgGet c (0x1381 + n) (2 * j + 2))

/-- An SRDO that R405 forbids: an object that it may not map, entries that are no pairs, a normal or inverted frame of
more than the 8 bytes of a classic one. One that is sent has a refresh time of 2 to 1,000 ms. -/
def srdoBad (c : CfgMap) (n : Nat) : Bool :=
  let m := mapEntries c (0x1381 + n)
  !m.all srdoEntryOk || !srdoPaired c n || decide (mapBytes (everySecond m) > 8)
    || decide (mapBytes (everySecond (m.drop 1)) > 8)
    || (cfgGet c (0x1301 + n) 1 == 1 && !within (cfgGet c (0x1301 + n) 2) 2 1000)

/-- TICK_SRC names an unfit port, or R402 is broken; the ports concerned (0x0C06). -/
def tickPortBad (c : CfgMap) : List Nat :=
  let src := match tickPort c with
    | some .cana => itemIf (!canEnabled c .a || canSyncProducer c .a) 1
    | some .canb => itemIf (!canEnabled c .b || canSyncProducer c .b) 2
    | some .eta => itemIf (!(ethEnabled c .a && ethSyncRx c .a)) 3
    | some .etb => itemIf (!(ethEnabled c .b && ethSyncRx c .b)) 4
    | _ => []
  let cycle : Nat := (roundAway ((1000000 : Rat) / (Nat.max (tickHz c) 1 : Nat))).toNat
  let r402 (p : CanPort) : Bool := canEnabled c p && canSyncProducer c p && bitOf (cfgGet c 0x1005 0) 30
    && (tickSrc c != 0 || cfgGet c 0x1006 0 != cycle)
  src ++ itemIf (r402 .a) 1 ++ itemIf (r402 .b) 2

def priorityBad (c : CfgMap) : Bool :=
  let w := cfgGet c 0x2B00 1
  let codes := (List.range 5).map (fun i => field w (19 - 4 * i) (16 - 4 * i))
  codes.any (fun x => decide (x > 4)) || !distinct codes || field w 31 20 != 0

def rulesR431 (c : CfgMap) : List CheckRow :=
  [(0x0C01, itemIf (priorityBad c) 0),
   (0x0C02, itemIf (canBad c .a || sameNode c) 1 ++ itemIf (canBad c .b) 2),
   (0x0C03, itemIf (ethBad c .a || ethTwins c) 3 ++ itemIf (ethBad c .b) 4),
   (0x0C04, itemIf (portTimeout c .spi == 0) 0),
   (0x0C05, (below 8 (rpdoBad c) ++ below 16 (tpdoBad c) ++ below 8 (srdoBad c)).map (fun n => n + 1)),
   (0x0C06, tickPortBad c)]

/-- P_EXC above the limit of EXC_POWER_CLASS (R35, R439): 5.5 V times 10 uA is 55 uW. -/
def powerRule (c : CfgMap) : List CheckRow :=
  [(0x0D01, itemIf (decide (55 * excSum c > (if cfgGet c 0x2000 0x15 = 0 then 2400000 else 1200000))) 0)]

/-- All rules in the order of R439. -/
def checkRows (c : CfgMap) : List CheckRow :=
  rulesR83 c ++ rulesR124 c ++ rulesR156 c ++ rulesR194 c ++ rulesR214 c ++ rulesR220 c ++ rulesR266 c
    ++ rulesR295 c ++ rulesR329 c ++ rulesR431 c ++ powerRule c

/-- The first rule broken, with its lowest item; (0, 0) when none is (R83, R391, R439). -/
def firstBroken : List CheckRow → Nat × Nat
  | [] => (0, 0)
  | (code, items) :: rest =>
    match items with
    | [] => firstBroken rest
    | x :: xs => (code, xs.foldl Nat.min x)

/-- Stages 2 and 3 of the configuration check (R439). -/
def cfgCheckOf (c : CfgMap) : Nat × Nat := firstBroken (checkRows c)

-- images (R436, R440)
/-- One record of an image as it stands. -/
structure ImageRec where
  index : Nat
  sub : Nat
  reserved : Nat
  value : List Byte
  pad : List Byte
  deriving DecidableEq, Repr

/-- The records of an image behind its header; none when they do not fill it exactly. -/
def imageRecs : Nat → List Byte → Option (List ImageRec)
  | 0, bs => if bs.isEmpty then some [] else none
  | n + 1, bs =>
    if bs.isEmpty then some []
    else
      let len := ofLe ((bs.drop 4).take 2)
      let padLen := (4 - (6 + len) % 4) % 4
      if bs.length < 6 + len + padLen then none
      else (imageRecs n (bs.drop (6 + len + padLen))).map (fun rest =>
        { index := ofLe (bs.take 2), sub := ofLe ((bs.drop 2).take 1), reserved := ofLe ((bs.drop 3).take 1)
          value := (bs.drop 6).take len, pad := (bs.drop (6 + len)).take padLen } :: rest)

def ImageRec.key (r : ImageRec) : Nat := cfgKey r.index r.sub

/-- Number, from 1, of the first record that a rule hits. -/
def firstRec (f : ImageRec → Bool) : List ImageRec → Nat → Option Nat
  | [], _ => none
  | r :: rs, n => if f r then some n else firstRec f rs (n + 1)

/-- Number of the first record out of order or with padding other than 0x00. -/
def firstDisorder : List ImageRec → Option Nat → Nat → Option Nat
  | [], _, _ => none
  | r :: rs, last, n =>
    if (match last with | some k => decide (r.key ≤ k) | none => false) || r.pad.any (fun b => b != 0#8)
    then some n else firstDisorder rs (some r.key) (n + 1)

/-- An object that a configuration holds (R432). -/
def inConfig (r : ImageRec) : Option ObjInfo :=
  match objInfo r.index r.sub with
  | some o => if o.inCfg then some o else none
  | none => none

/-- The header of an image breaks R440. -/
def imageHeaderBad (bs : List Byte) : Bool :=
  decide (bs.length < 16) || ofLe (bs.take 4) != 0x4D494643 || ofLe ((bs.drop 4).take 2) != 1
    || ofLe ((bs.drop 8).take 2) != 0x6432 || ofLe ((bs.drop 10).take 6) != 0

/-- The highest section number that a record of an index from 0x2200 to 0x22FF names, plus 1 (R440). -/
def sectionsDeclared (rs : List ImageRec) : Nat :=
  rs.foldl (fun acc r => if within r.index 0x2200 0x22FF then Nat.max acc (r.index - 0x2200 + 1) else acc) 0

/-- Rules of R440 on the records, in the order of its table; 0x0801 stands in for 0x0003. -/
def imageRules (rs : List ImageRec) : Nat × Nat :=
  match firstDisorder rs none 1 with
  | some n => (0x0002, n)
  | none =>
    if sectionsDeclared rs > 48 then (0x0801, sectionsDeclared rs)
    else match firstRec (fun r => (inConfig r).isNone) rs 1 with
      | some n => (0x0003, n)
      | none => match firstRec (fun r => match inConfig r with
          | some o => r.value.length != o.size
          | none => true) rs 1 with
        | some n => (0x0004, n)
        | none => match firstRec (fun r => valueRefused r.index r.sub (ofLe r.value)) rs 1 with
          | some n => (0x0005, n)
          | none => (0, 0)

/-- The structure check of an image: code and item, (0, 0) when it passes (R440). -/
def imageCheck (bs : List Byte) : Nat × Nat :=
  if imageHeaderBad bs then (0x0001, 0)
  else match imageRecs bs.length (bs.drop 16) with
    | none => (0x0001, 0)
    | some rs =>
      if rs.length != ofLe ((bs.drop 6).take 2) then (0x0001, 0)
      else match firstRec (fun r => r.reserved != 0) rs 1 with
        | some n => (0x0001, n)
        | none => imageRules rs

/-- Records of an image as a configuration, with reserved bits as `heldValue` says. CANA_CFG comes first: the defaults
of R503 follow it. -/
def recsCfg (rs : List ImageRec) : CfgMap :=
  (rs.filter (fun r => r.index == 0x2B00 && r.sub == 2) ++ rs).foldl
    (fun m r => cfgSet m r.index r.sub (heldValue r.index r.sub (ofLe r.value))) []

/-- The configuration that an image carries; objects without a record take their defaults (R436). -/
def imageCfg (bs : List Byte) : CfgMap :=
  match imageRecs bs.length (bs.drop 16) with
  | none => []
  | some rs => recsCfg rs

end Sys2Proof.Machine
end

