-- ==== Sys2Proof/Machine/CfgStore.lean ====
section
/-! DEFINITION. The configuration store: banks, the commands of CFG_CMD with their completions,
activation, ADOPT and activation epochs (R433 to R452). -/

namespace Sys2Proof.Machine

-- banks (R433 to R437)
/-- CHECK_WORD of a bank (R437). -/
def bankCrc (b : Bank) : Nat := crc32c (bankHead b ++ b.image)

/-- The header reads, and the CHECK_WORD holds (R446). -/
def bankGood (b : Bank) : Bool :=
  b.headerOk && within b.image.length 16 65536 && b.checkWord == bankCrc b

/-- Number of the bank that is not active; on the factory defaults without a bank it is bank 1 (R453). -/
def inactiveBank (g : Cfg) : Bool := !(g.activeBank.getD false)

/-- GENERATION of a header that reads (R434). -/
def readGen : Option Bank → Nat
  | some b => if b.headerOk then b.generation else 0
  | none => 0

/-- GENERATION of the next store (R434). -/
def nextGen (g : Cfg) : Nat :=
  let n := Nat.max (readGen g.bank0) (readGen g.bank1)
  if n < 0xFFFFFFFF then n + 1 else 1

def bankAct : Option Bank → Option Nat
  | some b => b.act
  | none => none

/-- ACT_COUNT that activates the inactive bank (R435). -/
def nextAct (g : Cfg) : Nat := (bankAct (bankOf g (!inactiveBank g))).elim 1 (fun a => a + 1)

/-- A bank that holds a configuration, not activated (R433, R434, R437). -/
def freshBank (g : Cfg) (m : CfgMap) : Bank :=
  let b : Bank := { headerOk := true, generation := nextGen g, digest := cfgDigest m, fw := Config.fwVersion.toNat
                    checkWord := 0, act := none, image := imageOf m }
  { b with checkWord := bankCrc b }

/-- Write a configuration to the inactive bank. A failed write leaves a bank that fails its
CHECK_WORD (R441). -/
def storeBank (g : Cfg) (m : CfgMap) (ok : Bool) : Cfg :=
  let b := freshBank g m
  let g1 := putBank g (inactiveBank g) (some (if ok then b else { b with headerOk := false }))
  { g1 with shadow := if ok then some m else none }

/-- Program ACT_COUNT of the inactive bank (R435). -/
def programBank (g : Cfg) : Cfg :=
  match bankOf g (inactiveBank g) with
  | some b => putBank g (inactiveBank g) (some { b with act := some (nextAct g) })
  | none => g

/-- A bank that is being erased and written: ACT_COUNT is erased, and what stands in the header and in CHECK_WORD is open
(R435; log 43). -/
def tornStore (g : Cfg) (n : Nat) : Cfg :=
  putBank g (inactiveBank g)
    (some { freshBank g g.jobCopy with headerOk := Config.tornHeader n, checkWord := (Config.tornCheck n).toNat })

/-- ACT_COUNT that is being programmed: it is programmed, or not, or left unreadable, and then the header does not read
and the bank is not activated (R435; log 43). -/
def tornAct (g : Cfg) (n : Nat) : Cfg :=
  if Config.tornWord n then
    putBank g (inactiveBank g) ((bankOf g (inactiveBank g)).map (fun b => { b with headerOk := false, act := none }))
  else if Config.tornProgram n then programBank g else g

/-- The store as a loss of power or a reset leaves it (R435). A STORE or ADOPT whose check passes is writing the inactive
bank; an activation, and an ADOPT that has written it, program its ACT_COUNT (R444, R445). `n` numbers the free values
(log 43). -/
def tornCfg (g : Cfg) (n : Nat) : Cfg :=
  match g.job with
  | some .store => if (cfgCheckOf g.jobCopy).1 = 0 then tornStore g n else g
  | some .adopt =>
    if (cfgCheckOf g.jobCopy).1 = 0
    then (if Config.tornAdopt n then tornStore g n else tornAct (storeBank g g.jobCopy true) n) else g
  | some .activation => tornAct g n
  | some .check | none => g

-- commands (R441)
def cmdCheck : Nat := 0x434B
def cmdDiscard : Nat := 0x4443
def cmdStore : Nat := 0x5356
def cmdActivate : Nat := 0x4143
def cmdAdopt : Nat := 0x4144
def cmdLoadShadow : Nat := 0x4C53

/-- What LOAD_SHADOW finds wrong in the inactive bank: a rule of R440, or (0, 1) for its header or
CHECK_WORD; (0, 0) for nothing. -/
def shadowFault (g : Cfg) : Nat × Nat :=
  match bankOf g (inactiveBank g) with
  | none => (0, 1)
  | some b => if bankGood b then imageCheck b.image else (0, 1)

/-- CFG_CMD is refused for the state of the store (R441). -/
def cfgCmdRefused (s : State) (v : Nat) : Bool :=
  cfgBusy s || s.cfg.epoch.isSome || (v == cmdActivate && !shadowValid s)
    || (v == cmdAdopt && s.cfg.staged != s.cfg.active) || (v == cmdLoadShadow && shadowFault s.cfg != (0, 0))

/-- A LOAD_SHADOW refused for a rule of R440 reports its code in CHECK_RESULT (R441). -/
def State.cfgCmdRefusal (s : State) (v : Nat) : State :=
  let f := shadowFault s.cfg
  if v = cmdLoadShadow ∧ f.1 ≠ 0 ∧ ¬cfgBusy s ∧ s.cfg.epoch.isNone then { s with cfg := { s.cfg with result := f } } else s

/-- The live engine values of the running device put into a configuration (R445). -/
def withLive (c live : CfgMap) : CfgMap :=
  let kept := c.filter (fun e => !(engineLive [e]).contains e)
  live.foldl (fun m e => cfgSet m (e.1 / 256) (e.1 % 256) e.2) kept

/-- An activation begins: ACT_COUNT of the inactive bank is being programmed (R444). -/
def State.beginActivation (s : State) (how epoch : Nat) : State :=
  { s with cfg := { s.cfg with job := some .activation, how := how, lastEpoch := epoch } }

/-- A command of CFG_CMD at its judgement (R441). -/
def State.cfgCommand (s : State) (v : Nat) : State :=
  let g := s.cfg
  if v = cmdCheck then { s with cfg := { g with job := some .check, jobCopy := g.staged } }
  else if v = cmdDiscard then { s with cfg := { g with staged := g.active, lastFailed := false } }
  else if v = cmdStore then { s with cfg := { g with job := some .store, jobCopy := g.staged } }
  else if v = cmdActivate then s.beginActivation 0 0
  else if v = cmdAdopt then
    let m := withLive g.staged s.engine.live
    { s with cfg := { g with job := some .adopt, staged := m, jobCopy := m } }
  else if v = cmdLoadShadow then
    match bankOf g (inactiveBank g) with
    | some b =>
      let m := imageCfg b.image
      { s with cfg := { g with staged := m, shadow := some m, lastFailed := false, result := (0, 0) } }
    | none => s
  else s

/-- CFG_CHECK_DONE (R439, R441). -/
def cfgCheckDone (s : State) : State :=
  if s.cfg.job = some .check then
    let r := cfgCheckOf s.cfg.jobCopy
    { s with cfg := { s.cfg with job := none, result := r, lastFailed := r.1 != 0 } }
  else s

def execCfgCheckDone (s : State) : Host.Outcome State Fault Refusal := run s fun s => s.whenAlive cfgCheckDone

/-- STORE_DONE (R434, R441). -/
def cfgStoreDone (flashOk : Bool) (s : State) : State :=
  if s.cfg.job = some .store then
    let r := cfgCheckOf s.cfg.jobCopy
    let g : Cfg := { s.cfg with job := none, result := r }
    if r.1 = 0 then { s with cfg := { storeBank g s.cfg.jobCopy flashOk with lastFailed := !flashOk } }
    else { s with cfg := { g with lastFailed := true } }
  else s

def execCfgStoreDone (flashOk : Bool) (s : State) : Host.Outcome State Fault Refusal :=
  run s fun s => s.whenAlive (cfgStoreDone flashOk)

/-- CONFIG record (R465). -/
def State.configRecord (s : State) (how epoch : Nat) : State :=
  s.record 0x05 (leBytes 4 s.cfg.generation ++ leBytes 8 (cfgDigest s.cfg.active) ++ leBytes 1 how ++ leBytes 1 epoch)

/-- The inactive bank becomes the active one (R444, R445). -/
def switchBank (g : Cfg) (m : CfgMap) : Cfg :=
  let k := inactiveBank g
  let b := bankOf g k
  { g with
    active := m, staged := m, shadow := none, activeBank := some k, job := none, lastFailed := false
    generation := readGen b, checkWord := b.elim 0 (fun x => x.checkWord)
    defaulted := false, defaultCause := 0 }

/-- The effects of an activation (R86, R123, R149, R230, R251, R277, R320, R444), in the order of the
chain from the sensors to the engine. The sense switches follow the terminals of the new configuration (R84). `old`
is the configuration before. -/
def State.activateAll (s : State) (old : CfgMap) : State :=
  let s1 := (allFin 64).foldl (fun acc ch => acc.channelActivate old ch) (s.wreActivate old).bellActivate
  let s2 := ((allFin 64).foldl (fun acc k => acc.excActivate old k) s1).switchSense
  s2.guardActivate.trackerActivate.tallyActivate.permitActivate.engineActivate

/-- ACTIVATION_EFFECT: ACT_COUNT has been programmed, and the configuration takes effect at the next Tally
cycle start, where the clock moves (R444; log 1). When programming fails, nothing is activated. -/
def activationEffect (programOk : Bool) (s : State) : State :=
  if s.cfg.job = some .activation then
    if programOk then
      let s0 := s.reach (s.tally.startAt + ms 1)
      let old := s0.cfg.active
      let s1 : State := { s0 with cfg := { switchBank (programBank s0.cfg) s0.cfg.staged with
        liveEdit := false, activeAt := s0.now } }
      (s1.configRecord s1.cfg.how s1.cfg.lastEpoch).activateAll old
    else { s with cfg := { s.cfg with job := none, lastFailed := true } }
  else s

def execActivationEffect (programOk : Bool) (s : State) : Host.Outcome State Fault Refusal :=
  run s fun s => s.whenAlive (activationEffect programOk)

/-- ADOPT_DONE: from the next Tally cycle on the new bank is the active one; nothing else changes.
Live writes made meanwhile leave LIVE_EDIT set, and CFG_DEFAULTED stands until an activation (R443, R445,
R447). -/
def cfgAdoptDone (flashOk : Bool) (s : State) : State :=
  if s.cfg.job = some .adopt then
    let m := s.cfg.jobCopy
    let r := cfgCheckOf m
    let g : Cfg := { s.cfg with job := none, result := r }
    if r.1 = 0 ∧ flashOk then
      let s0 := s.reach (s.tally.startAt + ms 1)
      let s1 : State := { s0 with cfg := { switchBank (programBank (storeBank g m true)) m with
        defaulted := s.cfg.defaulted, defaultCause := s.cfg.defaultCause, liveEdit := s.engine.live != engineLive m } }
      s1.configRecord 3 0
    else
      let g1 := if r.1 = 0 then storeBank g m false else g
      { s with cfg := { g1 with staged := g1.active, lastFailed := true } }
  else s

def execCfgAdoptDone (flashOk : Bool) (s : State) : Host.Outcome State Fault Refusal :=
  run s fun s => s.whenAlive (cfgAdoptDone flashOk)

-- CFG_IMAGE and staged values
/-- A write of CFG_IMAGE that R440 refuses: its code is reported and LAST_FAILED is set (R440, R453). -/
def State.imageRefused (s : State) (image : List Byte) : State :=
  { s with cfg := { s.cfg with result := imageCheck image, lastFailed := true } }

/-- A write of CFG_IMAGE replaces the staged configuration; its check has passed (R390, R391, R439). -/
def State.stageImage (s : State) (image : List Byte) : State :=
  { s with cfg := { s.cfg with staged := imageCfg image, result := (0, 0) } }

/-- A write of a staged object (R15, R372). -/
def State.stage (s : State) (i sub v : Nat) : State :=
  { s with cfg := { s.cfg with staged := cfgSet s.cfg.staged i sub (heldValue i sub v) } }

/-- EXPECTED_DIGEST (R449). -/
def State.expectDigest (s : State) (v : Nat) : State := { s with cfg := { s.cfg with expected := v } }

-- activation epochs
/-- A write of ACTIVATION_EPOCH is refused for the device's state (R443, R450). -/
def epochRefused (s : State) (v : Nat) : Bool :=
  s.cfg.job == some .activation
    || (v != 0 && (s.cfg.epoch.isSome || cfgBusy s || s.cfg.staged != s.cfg.active || !shadowValid s
        || (tickPort s.cfg.active).isNone || decide (cfgGet s.cfg.active 0x1019 0 < 2)
        || decide (cfgGet s.cfg.active 0x1019 0 < v)))

/-- ACTIVATION_EPOCH: arm, or disarm with 0 (R450, R453). -/
def State.epochWrite (s : State) (v : Nat) : State :=
  if v = 0 then { s with cfg := { s.cfg with epoch := none } }
  else { s with cfg := { s.cfg with epoch := some v, epochLate := false } }

/-- Steps of the counter 1 .. `ovf` from `a` to `b`; a whole round when they are equal. -/
def counterSteps (ovf a b : Nat) : Nat :=
  let d := (b + ovf - a % ovf) % ovf
  if d = 0 then ovf else d

/-- The value `e` was skipped between the counters `a` and `b` (R451). -/
def epochSkipped (ovf a b e : Nat) : Bool :=
  decide (0 < ovf) && decide (counterSteps ovf a e < counterSteps ovf a b)

/-- A SYNC with its counter reaches an armed device (R451). -/
def State.epochSync (s : State) (counter : Option Nat) : State :=
  match counter with
  | none => s
  | some n =>
    let s1 : State := { s with cfg := { s.cfg with prevSync := some n } }
    match s.cfg.epoch with
    | none => s1
    | some e =>
      let late := n != e && (match s.cfg.prevSync with
        | some p => epochSkipped (cfgGet s.cfg.active 0x1019 0) p n e
        | none => false)
      if n = e ∨ late then
        ({ s1 with cfg := { s1.cfg with epoch := none, epochLate := late } } : State).beginActivation
          (if late then 2 else 1) e
      else s1

end Sys2Proof.Machine
end

