-- ==== Sys2Proof/Machine/Recorder.lean ====
section
/-! DEFINITION. The Parish Book recorder: identification and opening, sector writes, CLEAR and FOUND,
its timers and windows (R454 to R481, R495). -/

namespace Sys2Proof.Machine

def State.updRec (s : State) (f : Recorder → Recorder) : State := { s with recd := f s.recd }

-- the eMMC
/-- A slot of 64 bytes (R457). -/
def slotBytes (m : List Host.Cell) (slot : Nat) : List Byte := memRead m (64 * slot) 64

/-- Slots that hold a byte other than 0x00, rising. -/
def usedSlots (m : List Host.Cell) : List Nat :=
  m.foldr (fun e acc => match acc with
    | [] => [e.1 / 64]
    | k :: ks => if k == e.1 / 64 then k :: ks else e.1 / 64 :: k :: ks) []

/-- The label in a label sector, when it is valid (R459, R461). -/
def labelOf (bs : List Byte) : Option Label :=
  if ofLe (bs.take 4) = 0x4B425042 ∧ ofLe ((bs.drop 4).take 2) = 1 ∧ ofLe ((bs.drop 508).take 4) = crc32 (bs.take 508) then
    some { f := ofLe ((bs.drop 8).take 4), w := ofLe ((bs.drop 12).take 4), d := ofLe ((bs.drop 16).take 4)
           serial := ofLe ((bs.drop 20).take 8) }
  else none

/-- A label sector (R459). -/
def labelBytes (l : Label) : List Byte :=
  let b := padBytes 508 (leBytes 4 0x4B425042 ++ leBytes 2 1 ++ leBytes 2 0 ++ leBytes 4 l.f ++ leBytes 4 l.w
    ++ leBytes 4 l.d ++ leBytes 8 l.serial ++ leBytes 4 1)
  b ++ leBytes 4 (crc32 b)

/-- The labels of sectors 0 and 1. -/
def labels (m : List Host.Cell) : Option Label × Option Label :=
  (labelOf (memRead m 0 512), labelOf (memRead m 512 512))

/-- Both label sectors hold a sector's bytes. -/
def putLabels (m : List Host.Cell) (bs : List Byte) : List Host.Cell := memWrite (memWrite m 0 bs) 512 bs

-- opening (R470)
/-- A valid record that the search finds. -/
structure Found where
  number : Nat
  bytes : List Byte
  deriving DecidableEq, Repr

/-- All valid records that stand in their own slots (R458, R461). -/
def foundRecords (m : List Host.Cell) (l : Label) : List Found :=
  (usedSlots m).filterMap (fun k =>
    let b := slotBytes m k
    let n := ofLe (b.take 4)
    if within k 64 (63 + l.f + l.d) && recValid b && recSlot l n == k then some { number := n, bytes := b } else none)

/-- The highest record of a list. -/
def highest (l : List Found) : Option Found :=
  l.foldl (fun acc x => match acc with
    | some y => if y.number < x.number then some x else some y
    | none => some x) none

def ofType (typ : Nat) (x : Found) : Bool := ofLe ((x.bytes.drop 14).take 1) == typ

/-- OLDEST_RECORD at opening: of the latest SEAL and any later CLEARED record, and of the laps since
(R470, R472). -/
def oldestFound (l : Label) (fs : List Found) (last : Nat) : Nat :=
  let sealRec := highest (fs.filter (ofType 0x0C))
  let clr := highest (fs.filter (ofType 0x0B))
  let o := match sealRec, clr with
    | some a, some b => if a.number < b.number then b.number else ofLe ((a.bytes.drop 20).take 4)
    | some a, none => ofLe ((a.bytes.drop 20).take 4)
    | none, some b => b.number
    | none, none => l.f
  let m := last - last % 8
  if m ≥ l.f + l.d then Nat.max o (m - l.d + 8) else o

/-- What the next SEAL chains: the CHAIN of the sealRec before, and the records since (R474). -/
def chainAt (m : List Host.Cell) (l : Label) (next : Nat) : List Byte × List Byte :=
  let base := next - next % 64
  let at_ (n : Nat) := slotBytes m (recSlot l n)
  (if base = 0 then [] else ((at_ (base - 1)).drop 24).take 32,
   (List.range (next % 64)).flatMap (fun k => (at_ (base + k)).take 59))

/-- The recorder reads or writes the eMMC: it identifies it, has a book, or serves reads (R470, R475, R480). -/
def emmcUsed : BookState → Bool
  | .opening | .ready | .noBook | .foreign | .tooSmall => true
  | .noCard | .unsuitable | .failed => false

/-- Nothing is left to be written, and the eMMC answers (R53). -/
def emmcIdle (r : Recorder) : Bool :=
  emmcUsed r.st && r.st != .opening && r.writing == 0 && r.job.isNone && (r.st != .ready || recBatch r == 0)

/-- Recorder fields as the opening finds them (R462, R463, R470 to R472). -/
def openedWith (m : List Host.Cell) (l : Label) (r : Recorder) : Recorder :=
  let fs := foundRecords m l
  let last := highest fs
  let next := last.elim 0 (fun x => x.number + 1)
  let ch := chainAt m l next
  { r with
    st := .ready, opened := true, label := some l, next := next
    oldest := last.elim l.f (fun x => oldestFound l fs x.number)
    wrapBase := r.cleared.getD ((highest (fs.filter (ofType 0x0B))).elim l.f (fun x => x.number))
    opBase := last.elim 0 (fun x => ofLe ((x.bytes.drop 4).take 6))
    powerCycles := last.elim 1 (fun x => (ofLe ((x.bytes.drop 10).take 4) + 1) % 2 ^ 32)
    foundingFull := last.elim false (fun x => decide (l.f ≤ x.number + 1))
    exhausted := decide (next ≥ 0xFFFFFFFF), chain := ch.1, chained := ch.2 }

/-- The header of a dump is valid (R492, R494). -/
def dumpHeaderOk (h : List Byte) : Bool :=
  h.length == 512 && ofLe (h.take 4) == 0x504D5544 && ofLe ((h.drop 508).take 4) == crc32 (h.take 508)

/-- The recorder reads the dump header when it opens the book (R470, R494). -/
def dumpRead (d : Dump) : Dump :=
  if dumpHeaderOk d.header then
    { d with st := .valid, seq := ofLe ((d.header.drop 8).take 4), truncated := bitOf (ofLe ((d.header.drop 80).take 1)) 0 }
  else { d with st := .none, seq := 0, truncated := false }

/-- Number a queued record, its SEAL before it when the number asks for one (R466, R473, R474). One for which the queue
has no room any more, because of the records that came before it, is lost (R468; DESIGN CHOICE, log 44). -/
def recRenumber (x : RecCtx) (r : Recorder) (q : Rec) : Recorder :=
  let r1 := if recCount r ≥ recCap then r else recSealed x r
  if r1.exhausted || decide (recCount r1 ≥ recCap) then recLose x q.time r1
  else
    let q1 : Rec := { q with number := some r1.next }
    { r1 with
      queue := r1.queue ++ [q1], next := r1.next + 1, exhausted := decide (r1.next + 1 ≥ 0xFFFFFFFF)
      chained := r1.chained ++ q1.body }

/-- A TIME of before the opening, completed (R462). -/
def completedTime (r : Recorder) (t : Nat) : Nat := (t + r.opBase) % 2 ^ 48

/-- At the opening TIME and CYCLE of a record that waits are completed (R462). -/
def completedRec (r : Recorder) (q : Rec) : Rec := { q with time := completedTime r q.time, cycle := r.powerCycles }

/-- The queued records that have no number yet get theirs, in the order of creation. `first` says
whether their TIME and CYCLE are completed, and those of the records that were lost (R462, R466). -/
def recDrain (x : RecCtx) (first : Bool) (r : Recorder) : Recorder :=
  let r0 := if first && decide (0 < r.lost)
    then { r with lostFirst := completedTime r r.lostFirst, lostLast := completedTime r r.lostLast } else r
  recKick x ((r.queue.filter (fun q => q.number.isNone)).foldl
    (fun acc q => recRenumber x acc (if first then completedRec r q else q))
    { r0 with queue := r.queue.filter (fun q => q.number.isSome) })

/-- BOOT record fields (R465). -/
def bootFields (s : State) (last : Nat) : List Byte :=
  leBytes 2 s.power.resetCause.toNat ++ leBytes 1 s.twin.prevStopCause ++ leBytes 1 s.cfg.defaultCause
    ++ leBytes 4 last ++ leBytes 4 s.cfg.generation ++ leBytes 8 (cfgDigest s.cfg.active)
    ++ leBytes 4 Config.fwVersion.toNat

/-- Open the book after boot or wake: BOOT, TAINT, then the records that wait (R359, R466, R470). -/
def State.openBook (s : State) (l : Label) : State :=
  let lastNo := (highest (foundRecords s.emmc l)).elim 0xFFFFFFFF (fun x => x.number)
  let s1 := s.updRec (fun r => { openedWith s.emmc l r with dump := dumpRead r.dump })
  let waiting := s1.recd.queue
  let put (t : State) (typ : Nat) (p : List Byte) : State :=
    t.updRec (fun r => { recNumber (recCtx t) r typ p with lastRecordAt := t.now })
  let s2 := put (s1.updRec (fun r => { r with queue := [] })) 0x02 (bootFields s1 lastNo)
  let s3 := if s.twin.debugTaint then put s2 0x03 (leBytes 2 (twinStatus s2)) else s2
  s3.updRec (fun r => recDrain (recCtx s3) true { r with queue := r.queue ++ waiting })

/-- Reopen the book after FAILED: writing resumes (R470). -/
def State.reopenBook (s : State) (l : Label) : State :=
  s.updRec (fun r => recDrain (recCtx s) false { r with st := .ready, label := some l })

/-- W: the window is the start of the user area, up to 4 GiB, in whole units of 4 KiB (R23, R457). -/
def windowOf (card : CardFacts) : Nat := Nat.min card.userSlots 67108864 / 64 * 64

/-- HIBERNATE entry sends the eMMC to sleep once everything is flushed (R53). -/
def State.emmcSleep (s : State) : State :=
  if s.goingDown && !flushAbandoned s && emmcIdle s.recd then s.updRec (fun r => { r with asleep := true }) else s

/-- Identify the eMMC and judge its label (R454, R455, R470). The count of failed reads and writes starts anew (R480). -/
def State.identify (s : State) (card : CardFacts) : State :=
  let keep (st : BookState) (l : Option Label) : State :=
    s.updRec (fun r => { r with st := st, label := l, bus4 := card.answers && card.bus4, hs52 := card.answers && card.hs52
                                cacheOff := card.answers && card.suitable && card.cache, asleep := false
                                cardW := if card.answers then windowOf card else 0, failedAt := s.now, writing := 0, failures := 0 })
  if !card.answers then keep .noCard none
  else if !card.suitable then keep .unsuitable none
  else
    let two := labels s.emmc
    match two.1.or two.2 with
    | none => keep .noBook none
    | some l =>
      if l.serial != Config.serial.toNat then keep .foreign (some l)
      else
        let s1 := keep .opening (some l)
        let copy := if two.1.isSome then memRead s.emmc 0 512 else memRead s.emmc 512 512
        let s2 : State := if two.1.isSome && two.2.isSome then s1 else { s1 with emmc := putLabels s1.emmc copy }
        if s.recd.opened then s2.reopenBook l else s2.openBook l

/-- The recorder identifies the eMMC and opens a book that it finds. A HIBERNATE entry sends the eMMC to sleep after it;
one that has given up the eMMC leaves it alone (R53, R470; DESIGN CHOICE, log 19). -/
def State.openCard (s : State) (card : CardFacts) : State := if flushAbandoned s then s else (s.identify card).emmcSleep

/-- BOOK_OPEN, from boot step 7 on (R470). -/
def bookOpen (card : CardFacts) (s : State) : State := if s.recd.st = .opening then s.openCard card else s

def execBookOpen (card : CardFacts) (s : State) : Host.Outcome State Fault Refusal :=
  run s fun s => s.whenAlive (bookOpen card)

/-- EMMC_RETRY: every 10 s with NO_CARD (R470). -/
def emmcRetry (card : CardFacts) (s : State) : State :=
  if s.recd.st = .noCard then (s.reach (s.recd.failedAt + sec 10)).openCard card else s

def execEmmcRetry (card : CardFacts) (s : State) : Host.Outcome State Fault Refusal :=
  run s fun s => s.whenAlive (emmcRetry card)

/-- EMMC_RESET_REOPEN: 10 s after FAILED the recorder pulses EMMC_RSTn and identifies the eMMC (R480). -/
def emmcResetReopen (card : CardFacts) (s : State) : State :=
  if s.recd.st = .failed then
    let s1 := s.reach (s.recd.failedAt + sec 10)
    (s1.updRec (fun r => { r with rstAt := some s1.now })).openCard card
  else s

def execEmmcResetReopen (card : CardFacts) (s : State) : Host.Outcome State Fault Refusal :=
  run s fun s => s.whenAlive (emmcResetReopen card)

-- sector writes (R456, R467, R472, R480)
/-- Instant from which the open sector is due: 50 ms after its oldest unwritten record, at once in the
fatal handler and in HIBERNATE entry (R53, R467, R483). -/
def flushDue (atOnce : Bool) (r : Recorder) : Option Nat :=
  match r.queue with
  | [] => none
  | q :: _ => if q.number.isSome then some (if r.stopped || atOnce then q.createdAt else q.createdAt + ms 50) else none

/-- SECTOR_FLUSH_DUE. -/
def sectorFlushDue (s : State) : State :=
  match flushDue s.goingDown s.recd with
  | none => s
  | some t =>
    let s1 := s.reach t
    if mayWrite (recCtx s1) s.recd then s1.updRec (fun r => { r with writing := recBatch r }) else s

def execSectorFlushDue (s : State) : Host.Outcome State Fault Refusal :=
  run s fun s => s.guarded s.serving sectorFlushDue

/-- The bytes of a sector whose first new record stands in position `p` (R466, R467). -/
def sectorBytes (m : List Host.Cell) (base p : Nat) (rs : List Rec) : List Byte :=
  padBytes 512 (memRead m base (64 * p) ++ rs.flatMap (fun q => recBytes q.body))

/-- Commands to the eMMC that carry a sector write (R456). -/
inductive EmmcCommand where
  /-- CMD23: a block count, with the reliable-write flag. -/
  | setBlockCount (reliable : Bool) (blocks : Nat)
  /-- CMD25: a write from a sector on, with the bytes that follow. -/
  | writeMultiple (sector : Nat) (bytes : List Byte)
  deriving DecidableEq, Repr

/-- The commands of the sector write in progress: one block, written reliably (R456). -/
def sectorCommands (s : State) : List EmmcCommand :=
  match s.recd.label, s.recd.queue with
  | some l, q :: _ =>
    if s.recd.writing = 0 then []
    else
      let n := q.number.getD 0
      let base := 64 * recSlot l (n - n % 8)
      [.setBlockCount true 1
       , .writeMultiple (base / 512) (sectorBytes s.emmc base (n % 8) (s.recd.queue.take s.recd.writing))]
  | _, _ => []

/-- CLEAR completes once its CLEARED record is among those written (R478). -/
def jobWaits (rs : List Rec) : RecJob → Bool
  | .cleared n => !rs.any (fun x => x.number == some n)
  | .clear _ _ _ _ | .found _ => true

/-- Number of the latest CLEARED record among those written (R472). -/
def clearedIn (rs : List Rec) : Option Nat := (rs.filter (fun x => x.typ == 0x0B)).getLast?.bind (fun x => x.number)

/-- The write in progress reaches the eMMC (R456, R471, R472, R478). -/
def State.sectorStored (s : State) : State :=
  match s.recd.label, s.recd.queue with
  | some l, q :: _ =>
    let n := q.number.getD 0
    let m := n - n % 8
    let base := 64 * recSlot l m
    let rs := s.recd.queue.take s.recd.writing
    let s1 : State := { s with emmc := memWrite s.emmc base (sectorBytes s.emmc base (n % 8) rs) }
    s1.updRec (fun r => { r with
      queue := r.queue.drop r.writing, writing := 0, failures := 0, job := r.job.filter (jobWaits rs)
      cleared := (clearedIn rs).or r.cleared
      foundingFull := r.foundingFull || rs.any (fun x => x.number == some (l.f - 1))
      oldest := if n = m ∧ m ≥ l.f + l.d then Nat.max r.oldest (m - l.d + 8) else r.oldest })
  | _, _ => s.updRec (fun r => { r with writing := 0 })

/-- FOUND writes the eMMC. -/
def RecJob.founds : RecJob → Bool
  | .found _ => true
  | .clear _ _ _ _ | .cleared _ => false

/-- The dump that waits for its turn begins (R490, R491): sector 0 is zeros while it is written. -/
def dumpStart (now : Nat) (d : Dump) : Dump :=
  match d.next with
  | none => d
  | some b => { d with st := .writing, seq := d.seq + 1, truncated := false, startAt := now
                       header := List.replicate 512 0#8, blocks := b, past := d.blocks :: d.past, next := none }

/-- The dump follows once the recorder has written every queued record, the FATAL record last (R483, steps 5 and
6). -/
def State.dumpReady (s : State) : State :=
  if s.recd.queue.isEmpty then s.updRec (fun r => { r with dump := dumpStart s.now r.dump }) else s

/-- A dump that waits when the book goes to FAILED: its sector 0 cannot be written (R491; DESIGN CHOICE, log 44). -/
def dumpMissed (d : Dump) : Dump :=
  if d.next.isSome then { d with st := .notWritten, truncated := false, next := none } else d

/-- A failed write or read: retried twice, FAILED after the third failure. A FOUND that fails so is over, and must be
repeated (R479, R480). -/
def sectorFailed (now : Nat) (r : Recorder) : Recorder :=
  if r.failures < 2 then { r with failures := r.failures + 1 }
  else { r with st := .failed, errors := satInc32 r.errors, failures := 0, writing := 0, failedAt := now
                job := r.job.filter (fun j => !j.founds), dump := dumpMissed r.dump }

/-- A write to the eMMC is in progress: a sector of the book, or what opening and FOUND write (R456, R470, R479). -/
def emmcWrites (r : Recorder) : Bool :=
  (r.st == .ready && decide (0 < r.writing)) || r.st == .opening || r.job.any RecJob.founds

/-- SECTOR_WRITE_DONE (R53, R467, R480, R483). -/
def sectorWriteDone (ok : Bool) (s : State) : State :=
  if flushAbandoned s then s
  else if ok then
    (if 0 < s.recd.writing && s.recd.st == .ready
     then (s.sectorStored.updRec (fun r => recKick (recCtx s) r)).dumpReady.emmcSleep else s)
  else if emmcWrites s.recd then s.updRec (sectorFailed s.now) else s

def execSectorWriteDone (ok : Bool) (s : State) : Host.Outcome State Fault Refusal :=
  run s fun s => s.guarded s.serving (sectorWriteDone ok)

/-- SECTOR_BUSY_TIMEOUT: a write or read exceeds 1 s and has failed (R480). -/
def sectorBusyTimeout (s : State) : State :=
  if emmcUsed s.recd.st && !flushAbandoned s then s.updRec (sectorFailed s.now) else s

def execSectorBusyTimeout (s : State) : Host.Outcome State Fault Refusal :=
  run s fun s => s.guarded s.serving sectorBusyTimeout

-- commands (R477 to R479)
def recClearCode : Nat := 0x434C
def recFoundCode : Nat := 0x464E

/-- The window is too small for FOUND (R477). -/
def windowTooSmall (s : State) : Bool := decide (s.recd.cardW < 64 + cfgGet s.cfg.active 0x2800 4 + 524288)

/-- CLEAR_CMD is refused for the state of the recorder (R477). -/
def recCmdRefused (s : State) (v : Nat) : Bool :=
  if v = recClearCode then s.recd.st != .ready || s.recd.job.isSome
  else !(s.recd.st == .noBook || s.recd.st == .foreign) || s.recd.job.isSome || windowTooSmall s

/-- A FOUND refused for its window leaves TOO_SMALL (R477). -/
def State.recCmdRefusal (s : State) (v : Nat) : State :=
  if v = recFoundCode ∧ (s.recd.st = .noBook ∨ s.recd.st = .foreign) ∧ s.recd.job.isNone ∧ windowTooSmall s = true
  then s.updRec (fun r => { r with st := .tooSmall }) else s

/-- CLEAR_CMD at its judgement: CLEAR keeps what it discards; FOUND erases the whole window (R478,
R479). -/
def State.recCommand (s : State) (o : Origin) (v : Nat) : State :=
  if v = recClearCode then
    s.updRec (fun r => { r with job := some (.clear o r.exhausted r.oldest (r.next - 1)) })
  else
    let s1 : State := { s with emmc := memErase s.emmc 0 (64 * s.recd.cardW) }
    s1.updRec (fun r => { r with job := some (.found o), st := .noBook, label := none, dump := {}, cleared := none })

/-- The recorder leaves its command with numbering at `next`. -/
def State.recRestart (s : State) (l : Label) (next : Nat) : State :=
  let ch := chainAt s.emmc l next
  s.updRec (fun r => { r with next := next, exhausted := false, chain := ch.1, chained := ch.2 })

/-- The queue without the records that wait for a number. -/
def recNumbered (r : Recorder) : Recorder := { r with queue := r.queue.filter (fun q => q.number.isSome) }

/-- What CLEARED follows in the queue: after a loss the GAP record, unless the numbers run out with it (R468, R473), and
the SEAL that its number asks for (R474). With ERASED the numbering starts again with CLEARED itself, and the GAP record
comes after it (R478; DESIGN CHOICE, log 44). -/
def clearLead (x : RecCtx) (erase : Bool) (r : Recorder) : Recorder :=
  let r1 := recSealed x (if erase then r else recGapBeyond x r)
  if r1.exhausted then recSealed x r else r1

/-- CLEAR discards the Daybook and creates its CLEARED record; it completes when that record has been written (R472,
R478). While the numbered records alone leave no place for it, and for the GAP record that a loss asks for, CLEAR runs on
(R468; DESIGN CHOICE, log 44). -/
def State.clearDone (s : State) (l : Label) (o : Origin) (erase : Bool) (from_ to_ : Nat) : State :=
  let s1 : State := if erase then
      let t := s.updRec (fun r => { r with queue := r.queue.filter (fun q => q.number.isNone), writing := 0 })
      ({ t with emmc := memErase t.emmc (64 * (64 + l.f)) (64 * (64 + l.f + l.d)) } : State).recRestart l l.f
    else s
  let lead := clearLead (recCtx s1) erase (recNumbered s1.recd)
  if recCount lead ≥ recCap then s
  else
    let fields := leBytes 4 from_ ++ leBytes 4 to_ ++ originBytes (some o) ++ leBytes 4 s1.net.keyId ++ leBytes 1 (b2n erase)
    let waiting := s1.recd.queue.filter (fun q => q.number.isNone)
    let s2 := s1.updRec (fun _ => recNumber (recCtx s1) lead 0x0B fields)
    let n := s2.recd.next - 1
    s2.updRec (fun r => recDrain (recCtx s2) false { r with
      job := some (.cleared n), oldest := n, wrapBase := n, queue := r.queue ++ waiting, lastRecordAt := s2.now })

/-- FOUND completes: the label in both sectors, and record 0 (R459, R463, R479). -/
def State.foundDone (s : State) (o : Origin) : State :=
  let f := cfgGet s.cfg.active 0x2800 4
  let l : Label := { f := f, w := s.recd.cardW, d := s.recd.cardW - f - 262208, serial := Config.serial.toNat }
  let s1 : State := { s with emmc := putLabels s.emmc (labelBytes l) }
  let waiting := s1.recd.queue.map (fun q => { q with number := none })
  let s2 := s1.updRec (fun r => { r with
    job := none, st := .ready, opened := true, label := some l, queue := [], writing := 0, failures := 0, next := 0
    oldest := f
    cleared := none, wrapBase := f, exhausted := false, foundingFull := false, chain := [], chained := [], opBase := 0, powerCycles := 1 })
  let fields := leBytes 4 l.f ++ leBytes 4 l.w ++ leBytes 8 l.serial ++ leBytes 4 s2.net.keyId ++ originBytes (some o)
  let s3 := s2.updRec (fun r => { recNumber (recCtx s2) r 0x01 fields with lastRecordAt := s2.now })
  s3.updRec (fun r => recDrain (recCtx s3) true { r with queue := r.queue ++ waiting })

/-- The work of a running command on the eMMC is done (R478, R479). -/
def State.commandDone (s : State) : State :=
  match s.recd.job, s.recd.label with
  | some (.clear o erase a b), some l => if s.recd.st = .ready then s.clearDone l o erase a b else s
  | some (.clear _ _ _ _), none => s.updRec (fun r => { r with job := none })
  | some (.found o), _ => s.foundDone o
  | some (.cleared _), _ | none, _ => s

/-- RECORDER_CMD_DONE. A HIBERNATE entry that has given up the eMMC interrupts the command (R53, R479). -/
def recorderCmdDone (s : State) : State := if flushAbandoned s then s else s.commandDone.emmcSleep

def execRecorderCmdDone (s : State) : Host.Outcome State Fault Refusal := run s fun s => s.whenAlive recorderCmdDone

-- timers and records
/-- TIME_RECORD_DUE: 60 s without a record (R464, R465). -/
def timeRecordDue (s : State) : State :=
  let s0 := s.reach (s.recd.lastRecordAt + sec 60)
  s0.record 0x09 (leBytes 4 (gridTime s0) ++ leBytes 4 s0.engine.tickSeq ++ leBytes 4 s0.tally.cycles)

def execTimeRecordDue (s : State) : Host.Outcome State Fault Refusal := run s fun s => s.whenAlive timeRecordDue

/-- LOSS_HOLD_EXPIRY: 10 s after the last cause (R481). -/
def lossHoldExpiry (s : State) : State :=
  match s.recd.lossAt with
  | some t => (s.reach (t + sec 10)).updRec (fun r => { r with lossAt := none })
  | none => s

def execLossHoldExpiry (s : State) : Host.Outcome State Fault Refusal :=
  run s fun s => s.guarded s.serving lossHoldExpiry

/-- A write to CORRELATE completes (R465). -/
def State.correlateWrite (s : State) (o : Origin) (v : Nat) : State :=
  s.record 0x08 (leBytes 8 v ++ leBytes 4 (gridTime s) ++ leBytes 4 s.engine.tickSeq ++ originBytes (some o))

end Sys2Proof.Machine
end

