-- ==== Sys2Proof/Machine/Sessions.lean ====
section
/-! DEFINITION. Sessions: opening, taking over, ending, the sequence of their requests, authorisation,
and the counters of the ports (R373, R374, R420 to R430). -/

namespace Sys2Proof.Machine

-- slots
def State.updSession (s : State) (k : Fin 4) (f : Session → Session) : State :=
  { s with net := { s.net with sessions := s.net.sessions.upd k (fun x => x.map f) } }

def State.putSession (s : State) (k : Fin 4) (x : Option Session) : State :=
  { s with net := { s.net with sessions := s.net.sessions.put k x } }

/-- Who a session is (R373). -/
def Session.origin (x : Session) : Origin := ⟨x.port, x.number⟩

/-- The first free slot (R373, R426). -/
def freeSession (s : State) : Option (Fin 4) := (allFin 4).find? (fun k => (s.net.sessions.get k).isNone)

/-- A session number in use on any port (R423). -/
def numberUsed (s : State) (n : Nat) : Bool :=
  (allFin 4).any (fun k => match s.net.sessions.get k with
    | some x => x.number == n
    | none => false)

/-- The next free session number: one counter for the device, 1 to 255, that skips the numbers in use
(R423). -/
def freeNumber (s : State) : Nat :=
  ((List.range 255).map (fun i => (s.net.nextSession + i) % 255 + 1)).find? (fun n => !numberUsed s n) |>.getD 1

/-- PEER of a SESSION record (R465). -/
def peerBytes (s : State) (x : Session) : List Byte :=
  match x.port with
  | .eta | .etb => (leBytes 6 x.peer).reverse
  | .cana => padBytes 6 (leBytes 1 (canNode s.cfg.active .a))
  | .canb => padBytes 6 (leBytes 1 (canNode s.cfg.active .b))
  | .spi => List.replicate 6 0#8

/-- SESSION record (R465): 0 opened, 1 raised, 2 lowered, 3 ended, 4 failed. -/
def State.sessionRecord (s : State) (x : Session) (event : Nat) : State :=
  s.record 0x07 (leBytes 1 (portCode x.port) ++ leBytes 1 x.number ++ leBytes 1 event ++ leBytes 1 (levelCode x.level)
    ++ peerBytes s x ++ leBytes 4 s.net.keyId)

/-- Open a session in a slot, at OBSERVE (R374). -/
def State.openAt (s : State) (k : Fin 4) (x : Session) : State := (s.putSession k (some x)).sessionRecord x 0

/-- A fifth session is refused (R373). -/
def State.refuseSession (s : State) : State :=
  { s with net := { s.net with sessionsRefused := satInc32 s.net.sessionsRefused } }

/-- A transfer that runs on a server channel of the session (R407). -/
def xferOf (o : Origin) (k : Fin 4) (x : Option SdoXfer) : Option SdoXfer :=
  match x with
  | some t => if canPortId t.port == o.port && k.val + 1 == o.session then none else some t
  | none => none

/-- What ends with a session besides its slot (R425): the arming, the pending restore requests, held
writes and transfers. -/
def State.dropSession (s : State) (o : Origin) : State :=
  let s1 := s.armLost o
  { s1 with
    tally := { s1.tally with restoreIn := s1.tally.restoreIn ++ [.ended o] }
    net := { s1.net with
      held := s1.net.held.filter (fun w => w.by_ != o)
      xfer := Vector.map (fun (k : Fin 4) => xferOf o k (s1.net.xfer.get k)) (Vector.finRange 4) } }

/-- A session ends (R425). -/
def State.endSession (s : State) (k : Fin 4) : State :=
  match s.net.sessions.get k with
  | none => s
  | some x => ((s.sessionRecord x 3).dropSession x.origin).putSession k none

/-- The sessions of a CAN port end (R401, R424). -/
def State.endCanSessions (s : State) (p : CanPort) : State :=
  (allFin 4).foldl (fun acc k => match acc.net.sessions.get k with
    | some x => if x.port == canPortId p then acc.endSession k else acc
    | none => acc) s

-- datagrams of sessions
/-- Destination of a response: the source MAC of the request (R414). -/
def dstOf (h : Hdr) : Option Nat := if isEth h.port then some h.peer else none

/-- A frame that an Ethernet port accepts (R415): sent to its MAC, to GROUP_MAC or to all, without a VLAN
tag, of the EtherType, with a good FCS, and not from a multicast source. -/
def frameTaken (c : CfgMap) (p : EthPort) (f : EthLink) : Bool :=
  (f.dest == macAt c p 0 || f.dest == macAt c p 6 || f.dest == 0xFFFFFFFFFFFF)
    && !f.vlan && f.etherType == 0x88B5 && f.fcsOk && !bitOf f.source 40

/-- A port takes datagrams: the device serves, the port is enabled, and takes the frame (R415, R419, R484). -/
def takesDatagrams (s : State) (h : Hdr) : Bool :=
  s.serving && portEnabled s.cfg.active h.port && (match h.port with
    | .spi => true
    | .eta => frameTaken s.cfg.active .a h.link
    | .etb => frameTaken s.cfg.active .b h.link
    | .cana | .canb => false)

/-- A response that judges the datagram as a whole (R410). -/
def State.reply (s : State) (h : Hdr) (typ session status : Nat) (body : List Byte) : State :=
  s.sendDatagram h.port (dstOf h) (typ % 128 + 128) session status h.seq body

/-- A response with STATUS OK, kept as the session's last one (R421). -/
def State.respond (s : State) (k : Fin 4) (typ ref : Nat) (body : List Byte) : State :=
  match s.net.sessions.get k with
  | none => s
  | some x =>
    let dst := if isEth x.port then some x.peer else none
    let d := nextDatagram s x.port dst (typ % 128 + 128) x.number 0 ref body
    (s.sendDatagram x.port dst (typ % 128 + 128) x.number 0 ref body).updSession k (fun x =>
      { x with lastRsp := some d, lastDelivered := x.port != .spi })

/-- The last response once more, with a new SEQ and the same REF (R421). -/
def State.resend (s : State) (k : Fin 4) : State :=
  match (s.net.sessions.get k).bind (fun x => x.lastRsp) with
  | none => s
  | some d => s.respond k d.typ d.ref d.body

/-- The session that a datagram names: of this port, and on ETA and ETB of this peer (R410). -/
def hdrSlot (s : State) (h : Hdr) : Option (Fin 4) :=
  (allFin 4).find? (fun k => match s.net.sessions.get k with
    | some x => x.port == h.port && x.number == h.session && (!isEth h.port || x.peer == h.peer)
    | none => false)

def State.countSeqError (s : State) (p : PortId) : State :=
  s.updPort p (fun x => { x with seq := { x.seq with seqErrors := satInc 255 x.seq.seqErrors } })

/-- A session of ETA, ETB or SPI has a write held: a WRITE request, or one that a row brought (R381, R421; log 7). -/
def outstanding (s : State) (x : Session) : Bool :=
  x.request.isSome || (match x.port with
    | .eta | .etb | .spi => s.net.held.any (fun w => w.row && w.by_ == x.origin)
    | .cana | .canb => false)

/-- SEQUENCE_CHECK (R421): take the request, answer OUTSTANDING, repeat the last response, or SEQ_ERROR. -/
def State.request (s : State) (h : Hdr) (typ : Nat) (f : Fin 4 → State → State) : State :=
  if takesDatagrams s h then
    match hdrSlot s h with
    | none => s.reply h typ h.session 0x02 []
    | some k =>
      match s.net.sessions.get k with
      | none => s
      | some x =>
        let s1 := s.updSession k (fun x => { x with lastAt := s.now })
        if h.seq = x.expected then
          (if outstanding s x then s1.reply h typ h.session 0x05 []
           else f k (s1.updSession k (fun x => { x with expected := (x.expected + 1) % 65536 })))
        else if (h.seq + 1) % 65536 = x.expected then (if x.request.isSome then s1 else s1.resend k)
        else (s1.countSeqError h.port).reply h typ h.session 0x01 (leBytes 2 x.expected)
  else s

/-- Body of an OPEN response (R423). -/
def openBody (x : Session) (discarded : Bool) : List Byte :=
  leBytes 1 x.number ++ leBytes 1 (levelCode x.level) ++ leBytes 1 (b2n discarded) ++ [0#8]
    ++ leBytes 2 x.expected ++ leBytes 2 (x.lastRsp.elim 0 (fun d => d.ref))

/-- OPEN without TAKEOVER (R373, R423). -/
def openPlain (h : Hdr) (s : State) : State :=
  if takesDatagrams s h then
    match freeSession s with
    | none => s.refuseSession.reply h 0x01 0 0x06 []
    | some k =>
      let n := freeNumber s
      let x : Session := { port := h.port, number := n, peer := if isEth h.port then h.peer else 0, lastAt := s.now
                           expected := (h.seq + 1) % 65536 }
      let s1 : State := { s with net := { s.net with nextSession := n } }
      (s1.openAt k x).respond k 0x01 h.seq (openBody x false)
  else s

def execOpenPlain (h : Hdr) (s : State) : Host.Outcome State Fault Refusal := run s fun s => openPlain h s

/-- Sessions that a takeover can mean (R423). -/
def takeoverSlots (s : State) (h : Hdr) (target : Nat) : List (Fin 4) :=
  (allFin 4).filter (fun k => match s.net.sessions.get k with
    | some x => x.port == h.port && (!isEth h.port || x.peer == h.peer) && (target == 0 || x.number == target)
    | none => false)

/-- OPEN with TAKEOVER (R423): the session ends and opens again at OBSERVE. Its last response stays the
one that E - 1 repeats. -/
def openTakeover (h : Hdr) (target : Nat) (s : State) : State :=
  if takesDatagrams s h then
    match takeoverSlots s h target with
    | [k] =>
      match s.net.sessions.get k with
      | none => s
      | some x =>
        let held := x.request.isSome
        let y : Session := { port := x.port, number := x.number, peer := x.peer, lastAt := s.now
                             expected := if held then (x.expected + 65535) % 65536 else x.expected
                             lastRsp := x.lastRsp, lastDelivered := x.lastDelivered }
        let s1 := ((s.endSession k).openAt k y).reply h 0x01 y.number 0x00 (openBody y (outstanding s x))
        if y.lastDelivered then s1 else s1.resend k
    | _ => s.reply h 0x01 h.session 0x02 []
  else s

def execOpenTakeover (h : Hdr) (target : Nat) (s : State) : Host.Outcome State Fault Refusal :=
  run s fun s => openTakeover h target s

/-- CLOSE (R424): the response, then the end. -/
def closeSession (h : Hdr) (s : State) : State :=
  s.request h 0x02 (fun k t => (t.respond k 0x02 h.seq []).endSession k)

def execCloseSession (h : Hdr) (s : State) : Host.Outcome State Fault Refusal := run s fun s => closeSession h s

/-- NOP (R409). -/
def nopRequest (h : Hdr) (s : State) : State := s.request h 0x05 (fun k t => t.respond k 0x05 h.seq [])

def execNopRequest (h : Hdr) (s : State) : Host.Outcome State Fault Refusal := run s fun s => nopRequest h s

/-- MALFORMED_DATAGRAM (R409, R410). -/
def malformed (h : Hdr) (typ : Nat) (m : Malformation) (s : State) : State :=
  if takesDatagrams s h then
    match m with
    | .tooShort => s
    | .badVersion => s.reply h typ h.session 0x04 []
    | .badType | .badHeader => s.reply h typ h.session 0x03 []
  else s

def execMalformedDatagram (h : Hdr) (typ : Nat) (m : Malformation) (s : State) : Host.Outcome State Fault Refusal :=
  run s fun s => malformed h typ m s

/-- SESSION_TIMEOUT (R424). -/
def sessionTimeout (k : Fin 4) (s : State) : State :=
  match s.net.sessions.get k with
  | none => s
  | some x => (s.reach (x.lastAt + sec (portTimeout s.cfg.active x.port))).endSession k

def execSessionTimeout (k : Fin 4) (s : State) : Host.Outcome State Fault Refusal :=
  run s fun s => s.guarded s.serving (sessionTimeout k)

-- authorisation (R427 to R429)
def levelOf : Nat → Level
  | 0 => .observe
  | 1 => .operate
  | 2 => .maintain
  | _ => .commission

/-- A challenge is valid for 10 s and for one response (R428). -/
def challengeValid (s : State) (x : Session) : Bool :=
  match x.challenge with
  | some c => decide (s.now < c.2 + sec 10)
  | none => false

/-- A read of AUTH_CHALLENGE returns the valid one or a new one (R428). -/
def State.issueChallenge (s : State) (k : Fin 4) : State :=
  match s.net.sessions.get k with
  | none => s
  | some x =>
    if challengeValid s x then s
    else s.draw.updSession k (fun x => { x with challenge := some (Config.challenge s.fresh, s.now) })

/-- The level of a session changes; a change is a SESSION record (R465). -/
def State.setLevel (s : State) (k : Fin 4) (l : Level) : State :=
  match s.net.sessions.get k with
  | none => s
  | some x =>
    if x.level = l then s
    else (s.updSession k (fun x => { x with level := l })).sessionRecord { x with level := l }
      (if levelCode x.level < levelCode l then 1 else 2)

/-- AUTH_REQUEST is refused: no key is installed and the port is not SPI, or the port is locked
(R428, R429). -/
def authRefused (s : State) (p : PortId) : Bool :=
  if s.net.keyId = 0 then p != .spi
  else match (s.net.ports.get (portIdx p)).authLockAt with
    | some t => decide (s.now < t + sec 10)
    | none => false

/-- AUTH_REQUEST (R428, R429). Answers the abort. -/
def State.authRequest (s : State) (k : Fin 4) (v : Nat) : State × Nat :=
  match s.net.sessions.get k with
  | none => (s, 0x08000022)
  | some x =>
    if authRefused s x.port then (s, 0x08000022)
    else
      let s1 := s.updSession k (fun x => { x with authLevel := v })
      (if s.net.keyId = 0 ∨ v ≤ levelCode x.level then s1.setLevel k (levelOf v) else s1, 0)

/-- The message of an AUTH_RESPONSE (R428). -/
def authMessage (x : Session) (challenge : BitVec 128) : List Byte :=
  leBytes 16 challenge.toNat ++ leBytes 1 x.authLevel ++ leBytes 8 Config.serial.toNat ++ leBytes 1 x.number

/-- The response matches, in time and with a challenge behind it (R428). -/
def authMatches (s : State) (x : Session) (response : List Byte) : Bool :=
  s.net.keyId != 0 && challengeValid s x && (match x.challenge with
    | some c => response == hmacSha256 (keyBytes s) (authMessage x c.1)
    | none => false)

/-- A failed response: after three in a row on a port, AUTH_REQUEST is refused there for 10 s (R428). -/
def State.authFailed (s : State) (x : Session) : State :=
  let s1 := s.updPort x.port (fun p =>
    if p.authFails ≥ 2 then { p with authFails := 0, authLockAt := some s.now } else { p with authFails := p.authFails + 1 })
  ({ s1 with net := { s1.net with authFailures := satInc32 s1.net.authFailures } } : State).sessionRecord x 4

/-- AUTH_RESPONSE (R428). A response, right or wrong, uses up the challenge. -/
def State.authResponse (s : State) (k : Fin 4) (response : List Byte) : State :=
  match s.net.sessions.get k with
  | none => s
  | some x =>
    let s1 := s.updSession k (fun x => { x with challenge := none })
    if authMatches s x response then
      (s1.updPort x.port (fun p => { p with authFails := 0 })).setLevel k (levelOf x.authLevel)
    else s1.authFailed { x with challenge := none }

/-- AUTH_CHALLENGE_EXPIRY (R428). -/
def authChallengeExpiry (k : Fin 4) (s : State) : State :=
  match (s.net.sessions.get k).bind (fun x => x.challenge) with
  | none => s
  | some c => (s.reach (c.2 + sec 10)).updSession k (fun x => { x with challenge := none })

def execAuthChallengeExpiry (k : Fin 4) (s : State) : Host.Outcome State Fault Refusal :=
  run s fun s => s.guarded s.serving (authChallengeExpiry k)

/-- AUTH_LOCKOUT_END (R428). -/
def authLockoutEnd (p : PortId) (s : State) : State :=
  match (s.net.ports.get (portIdx p)).authLockAt with
  | none => s
  | some t => (s.reach (t + sec 10)).updPort p (fun x => { x with authLockAt := none })

def execAuthLockoutEnd (p : PortId) (s : State) : Host.Outcome State Fault Refusal :=
  run s fun s => s.guarded s.serving (authLockoutEnd p)

/-- KEY_ID of a key (R427). -/
def keyIdOf (key : List Byte) : Nat :=
  let d := ofLe ((sha256 key).take 4)
  if d = 0 then 1 else d

/-- DEVICE_KEY (R427). -/
def State.installKey (s : State) (v : Nat) : State :=
  { s with net := { s.net with key := some v, keyId := keyIdOf (leBytes 32 v) } }

end Sys2Proof.Machine
end

