-- ==== Sys2Proof/Machine/Canopen.lean ====
section
/-! DEFINITION. Services of the ports that run by themselves: NMT, heartbeats, error states of the CAN
controllers and links, process data out and in, SRDOs (R397, R399 to R405, R413, R414, R430). -/

namespace Sys2Proof.Machine

-- NMT (R399 to R401, R488)
/-- NMT state codes of the heartbeat (CiA 301; log 16). -/
def nmtCode : Nmt → Nat
  | .initialising => 0
  | .stopped => 4
  | .operational => 5
  | .preop => 127

def State.setNmt (s : State) (p : CanPort) (n : Nmt) : State := s.updCan p (fun x => { x with nmt := n })

/-- A CAN port takes what arrives on its bus (R397, R398). -/
def canTakes (s : State) (p : CanPort) : Bool :=
  s.serving && canEnabled s.cfg.active p && (s.net.can.get (canIdx p)).bus != .busOff

/-- NMT_START; ignored while STOPPED (R401, R488). -/
def nmtStart (p : CanPort) (s : State) : State := if s.alive then s.setNmt p .operational else s

def execNmtStart (p : CanPort) (s : State) : Host.Outcome State Fault Refusal :=
  run s fun s => s.guarded (canTakes s p) (nmtStart p)

/-- NMT_STOP: the port's SDO sessions end (R401). -/
def nmtStop (p : CanPort) (s : State) : State := (s.setNmt p .stopped).endCanSessions p

def execNmtStop (p : CanPort) (s : State) : Host.Outcome State Fault Refusal :=
  run s fun s => s.guarded (canTakes s p) (nmtStop p)

def execNmtEnterPreoperational (p : CanPort) (s : State) : Host.Outcome State Fault Refusal :=
  run s fun s => s.guarded (canTakes s p) (fun s => s.setNmt p .preop)

/-- COB-ID of the heartbeat and the boot-up message (CiA 301; log 16). -/
def heartbeatCob (c : CfgMap) (p : CanPort) : Nat := 0x700 + canNode c p

/-- The boot-up message (R399), on an enabled port. -/
def State.bootUp (s : State) (p : CanPort) : State :=
  if canSends s p (fun _ => true) then s.sendCan p (heartbeatCob s.cfg.active p) [0#8] else s

/-- The communication of a port as after boot: Pre-operational, nothing consumed (CiA 301; log 16). -/
def freshCan (x : CanState) : CanState :=
  { x with nmt := .preop, hbMiss := Tab.all false, hbAt := Tab.all none, syncCounter := 0 }

/-- A bus-off controller is back on its bus (R397, R406). -/
def State.busRejoin (s : State) (p : CanPort) : State :=
  (s.updCan p (fun x => { x with bus := .active, recessive := false, rejoin := false })).portEvent 0x8140 (canPortId p) (some p)

/-- NMT_RESET_COMMUNICATION. A bus-off controller rejoins, once it has seen 128 occurrences of 11 recessive
bits (R397, R400, R424). -/
def nmtResetCommunication (p : CanPort) (s : State) : State :=
  let x := s.net.can.get (canIdx p)
  let s1 := (s.endCanSessions p).updCan p freshCan
  let s2 : State := { s1 with net := { s1.net with rpdoAt := s1.net.rpdoAt.filter (fun e => e.1 != canPortId p) } }
  let s3 := if x.bus != .busOff then s2 else if x.recessive then s2.busRejoin p
    else s2.updCan p (fun y => { y with rejoin := true })
  s3.bootUp p

def execNmtResetCommunication (p : CanPort) (s : State) : Host.Outcome State Fault Refusal :=
  run s fun s => s.guarded (s.serving && canEnabled s.cfg.active p) (nmtResetCommunication p)

-- heartbeats (R404, R414)
/-- Identity frames of a CAN port (R404). -/
def State.sendIdentity (s : State) (p : CanPort) : State :=
  let c := s.cfg.active
  let digest := leBytes 8 (cfgDigest c)
  let gen := leBytes 4 s.cfg.generation
  let cob := canIdent c p
  if canFd c p then s.sendCan p cob (gen ++ digest) else (s.sendCan p cob digest).sendCan p cob gen

/-- Body of a HEARTBEAT datagram (R414). -/
def heartbeatBody (s : State) : List Byte :=
  leBytes 1 (deviceState s) ++ List.replicate 3 0#8 ++ leBytes 4 s.cfg.generation ++ leBytes 8 (cfgDigest s.cfg.active)
    ++ leBytes 4 (alarms s) ++ leBytes 4 s.engine.tickSeq

/-- Send the heartbeat of a port. -/
def State.sendHeartbeat (s : State) (p : PortId) : State :=
  let can (q : CanPort) : State :=
    if canSends s q (fun _ => true) then
      (s.sendCan q (heartbeatCob s.cfg.active q) (leBytes 1 (nmtCode (s.net.can.get (canIdx q)).nmt))).sendIdentity q
    else s
  match p with
  | .cana => can .a
  | .canb => can .b
  | .spi | .eta | .etb => s.sendDatagram p none 0x91 0 0 0 (heartbeatBody s)

/-- HEARTBEAT_SEND (R404, R414). -/
def heartbeatSend (p : PortId) (s : State) : State :=
  if portEnabled s.cfg.active p && heartbeatMs s.cfg.active p != 0 then
    let s0 := s.reach ((s.net.ports.get (portIdx p)).hbAt + ms (heartbeatMs s.cfg.active p))
    (s0.updPort p (fun x => { x with hbAt := s0.now })).sendHeartbeat p
  else s

def execHeartbeatSend (p : PortId) (s : State) : Host.Outcome State Fault Refusal :=
  run s fun s => s.guarded s.serving (heartbeatSend p)

/-- Consumer entry of 0x1016: node-ID and time in ms (CiA 301; log 16). -/
def hbNode (c : CfgMap) (e : Nat) : Nat := field (cfgGet c 0x1016 (e + 1)) 22 16
def hbTime (c : CfgMap) (e : Nat) : Nat := field (cfgGet c 0x1016 (e + 1)) 15 0

/-- HEARTBEAT_RECEIVED: restart the entries that consume the node (R404). -/
def heartbeatReceived (p : CanPort) (node : Nat) (s : State) : State :=
  s.updCan p (fun x => (allFin 4).foldl (fun acc e =>
    if hbNode s.cfg.active e.val = node ∧ hbTime s.cfg.active e.val ≠ 0
    then { acc with hbAt := acc.hbAt.put e (some s.now), hbMiss := acc.hbMiss.put e false } else acc) x)

def execHeartbeatReceived (p : CanPort) (node : Nat) (s : State) : Host.Outcome State Fault Refusal :=
  run s fun s => s.guarded (canTakes s p) (heartbeatReceived p node)

/-- HB_CONSUMER_MISS (R404). -/
def hbConsumerMiss (p : CanPort) (e : Fin 4) (s : State) : State :=
  match (s.net.can.get (canIdx p)).hbAt.get e with
  | none => s
  | some t =>
    let s1 := (s.reach (t + ms (hbTime s.cfg.active e.val))).updCan p (fun x =>
      { x with hbMiss := x.hbMiss.put e true, hbAt := x.hbAt.put e none })
    s1.portEvent 0x8130 (canPortId p) none

def execHbConsumerMiss (p : CanPort) (e : Fin 4) (s : State) : Host.Outcome State Fault Refusal :=
  run s fun s => s.guarded s.serving (hbConsumerMiss p e)

-- error states (R397, R430)
def State.setBus (s : State) (p : CanPort) (b : CanBus) : State := s.updCan p (fun x => { x with bus := b })

/-- CAN_ERROR_PASSIVE: error passive or bus-off, reported on the other port (R397, R406). R406 gives no
code for the report of bus-off; it is a free value (log 40). -/
def canErrorPassive (p : CanPort) (busOff : Bool) (s : State) : State :=
  let b := if busOff then CanBus.busOff else .passive
  if (s.net.can.get (canIdx p)).bus = b then s
  else (s.updCan p (fun x => { x with bus := b, recessive := false, rejoin := false })).portEvent
    (if busOff then Config.toBusOff.toNat else 0x8120) (canPortId p) (some p)

def execCanErrorPassive (p : CanPort) (busOff : Bool) (s : State) : Host.Outcome State Fault Refusal :=
  run s fun s => s.guarded (canTakes s p) (canErrorPassive p busOff)

/-- CAN_ERROR_ACTIVE: back from error passive. R406 gives no code for this report; it is a free value
(log 40). -/
def canErrorActive (p : CanPort) (s : State) : State :=
  if (s.net.can.get (canIdx p)).bus = .passive then
    ((s.setBus p .active).draw).portEvent Config.backToActive.toNat (canPortId p) (some p)
  else s

def execCanErrorActive (p : CanPort) (s : State) : Host.Outcome State Fault Refusal :=
  run s fun s => s.guarded (canTakes s p) (canErrorActive p)

/-- BUS_OFF_RECOVERY: a bus-off controller has seen 128 occurrences of 11 recessive bits. It rejoins with
AUTO_RECOVER, or after an NMT Reset Communication (R397). -/
def busOffRecovery (p : CanPort) (s : State) : State :=
  let x := s.net.can.get (canIdx p)
  if x.bus = .busOff then
    (if canAutoRecover s.cfg.active p || x.rejoin then s.busRejoin p
     else s.updCan p (fun y => { y with recessive := true }))
  else s

def execBusOffRecovery (p : CanPort) (s : State) : Host.Outcome State Fault Refusal :=
  run s fun s => s.guarded (s.serving && canEnabled s.cfg.active p) (busOffRecovery p)

/-- ETH_LINK_DOWN: the link goes down, and the PLCA beacon with it, or the beacon alone becomes absent (R430). -/
def State.linkDown (s : State) (p : EthPort) (beaconOnly : Bool) : State :=
  s.updPort (ethPortId p) (fun x => { x with linkUp := x.linkUp && beaconOnly, beacon := false })

/-- ETH_LINK_UP: the link is up and the PLCA beacon present (R430). -/
def State.linkReturns (s : State) (p : EthPort) : State :=
  s.updPort (ethPortId p) (fun x => { x with linkUp := true, beacon := true })

def execEthLinkDown (p : EthPort) (beaconOnly : Bool) (s : State) : Host.Outcome State Fault Refusal :=
  run s fun s => s.guarded s.serving (fun s => s.linkDown p beaconOnly)

def execEthLinkUp (p : EthPort) (s : State) : Host.Outcome State Fault Refusal :=
  run s fun s => s.guarded s.serving (fun s => s.linkReturns p)

-- lost receptions (R403, R413, R430)
/-- LOST_RX is set and emergency 0x8250 is sent. -/
def State.lostRx (s : State) (p : PortId) : State :=
  (s.updPort p (fun x => { x with lostRxAt := some s.now })).portEvent 0x8250 p none

/-- LOST_RX_EXPIRY: 1 s after its last cause (R430). -/
def lostRxExpiry (p : PortId) (s : State) : State :=
  match (s.net.ports.get (portIdx p)).lostRxAt with
  | none => s
  | some t => (s.reach (t + sec 1)).updPort p (fun x => { x with lostRxAt := none })

def execLostRxExpiry (p : PortId) (s : State) : Host.Outcome State Fault Refusal :=
  run s fun s => s.guarded s.serving (lostRxExpiry p)

-- mapped data
/-- The data of mapping entries, least significant byte first (R11, R403). -/
def mapData (s : State) (m : List (Nat × Nat × Nat)) : List Byte :=
  m.flatMap (fun e => leBytes (e.2.2 / 8) (objNum s none e.1 e.2.1))

/-- The latest sending of an entry of a table of sendings. -/
def sentOf (l : List (Nat × Nat × List Byte)) (n : Nat) : Option (Nat × List Byte) :=
  (l.find? (fun e => e.1 == n)).map (fun e => e.2)

/-- A sending noted. -/
def noteSent (l : List (Nat × Nat × List Byte)) (n t : Nat) (data : List Byte) : List (Nat × Nat × List Byte) :=
  (n, t, data) :: l.filter (fun e => e.1 != n)

/-- Instant from which a period of sendings runs: the latest sending, or the start of the active
configuration. -/
def sentAt (s : State) (l : List (Nat × Nat × List Byte)) (n : Nat) : Nat :=
  (sentOf l n).elim s.cfg.activeAt (fun e => e.1)

-- TPDOs (R403, R413)
def tpdoCob (c : CfgMap) (n : Nat) : Nat := cfgGet c (0x1800 + n) 1
def tpdoType (c : CfgMap) (n : Nat) : Nat := cfgGet c (0x1800 + n) 2
/-- Inhibit time, units of 100 us (CiA 301; log 16). -/
def tpdoInhibit (c : CfgMap) (n : Nat) : Nat := us (100 * cfgGet c (0x1800 + n) 3)
def tpdoTimer (c : CfgMap) (n : Nat) : Nat := cfgGet c (0x1800 + n) 5
def tpdoOn (c : CfgMap) (n : Nat) : Bool := !bitOf (tpdoCob c n) 31
def tpdoEventDriven (c : CfgMap) (n : Nat) : Bool := decide (254 ≤ tpdoType c n)
def tpdoData (s : State) (n : Nat) : List Byte := mapData s (mapEntries s.cfg.active (0x1A00 + n))

/-- One block of a PD_DEVICE body (R413). -/
def pdBlock (e : Nat × List Byte) : List Byte := leBytes 1 (e.1 + 1) ++ leBytes 1 e.2.length ++ e.2

/-- Send TPDOs: on each CAN port in Operational, and in one PD_DEVICE datagram on each port whose
PD_MASK names one of them, in every NMT state (R401, R403, R413). -/
def State.sendTpdos (s : State) (l : List (Nat × List Byte)) : State :=
  let s1 := l.foldl (fun acc e => bothCan.foldl (fun a p =>
    if canSends a p (fun n => n == .operational) then a.sendCan p (tpdoCob a.cfg.active e.1) e.2 else a) acc) s
  let s2 := dataPorts.foldl (fun acc p =>
    let mine := l.filter (fun e => bitOf (pdMask acc.cfg.active p) e.1)
    if mine.isEmpty then acc else acc.sendDatagram p none 0x90 0 0 0 (mine.flatMap pdBlock)) s1
  { s2 with net := { s2.net with tpdoSent := l.foldl (fun acc e => noteSent acc e.1 s2.now e.2) s2.net.tpdoSent } }

/-- The synchronous TPDOs due at the tick instant at hand, with the values of the previous committed
tick (R315). A type n is due at every n-th tick instant since boot, across the wrap of PD_SEQ too: from one message to
the next it rises by n modulo 2^32 (R403). -/
def syncTpdos (s : State) : List (Nat × List Byte) :=
  (List.range 16).filterMap (fun n =>
    let c := s.cfg.active
    if tpdoOn c n && within (tpdoType c n) 1 240 && s.net.pdSeq % tpdoType c n == 0 then some (n, tpdoData s n) else none)

/-- The event-driven TPDOs whose data differ from those last sent, outside their inhibit time (R403). -/
def changedTpdos (s : State) : List (Nat × List Byte) :=
  (List.range 16).filterMap (fun n =>
    let c := s.cfg.active
    let d := tpdoData s n
    if tpdoOn c n && tpdoEventDriven c n then
      match sentOf s.net.tpdoSent n with
      | none => some (n, d)
      | some e => if e.2 != d && decide (e.1 + tpdoInhibit c n ≤ s.now) then some (n, d) else none
    else none)

/-- TPDO_EVENT_TIMER (R403). -/
def tpdoEventTimer (n : Fin 16) (s : State) : State :=
  let c := s.cfg.active
  if tpdoOn c n.val && tpdoEventDriven c n.val && tpdoTimer c n.val != 0 then
    let t := sentAt s s.net.tpdoSent n.val
    let s0 := s.reach (t + Nat.max (ms (tpdoTimer c n.val)) (tpdoInhibit c n.val))
    s0.sendTpdos [(n.val, tpdoData s0 n.val)]
  else s

def execTpdoEventTimer (n : Fin 16) (s : State) : Host.Outcome State Fault Refusal :=
  run s fun s => s.whenAlive (tpdoEventTimer n)

-- SRDOs (R405)
def srdoVal (c : CfgMap) (n sub : Nat) : Nat := cfgGet c (0x1301 + n) sub
def srdoOn (c : CfgMap) (n : Nat) : Bool := srdoVal c n 1 == 1

/-- Communication and mapping values of an SRDO as one number, for its checksum. -/
def srdoStream (c : CfgMap) (n : Nat) : Nat :=
  ofLe ((List.range 6).flatMap (fun k => leBytes 4 (srdoVal c n (k + 1)))
    ++ (List.range 16).flatMap (fun k => leBytes 4 (cfgGet c (0x1381 + n) (k + 1))))

/-- An SRDO runs: 0x13FE holds 0xA5 and its checksum matches (R405). -/
def srdoValid (c : CfgMap) (n : Nat) : Bool :=
  cfgGet c 0x13FE 0 == 0xA5 && cfgGet c 0x13FF (n + 1) == (Config.srdoChecksum (srdoStream c n)).toNat

/-- Normal and inverted data of an SRDO (R405). -/
def srdoData (s : State) (n : Nat) : List Byte × List Byte :=
  let m := mapEntries s.cfg.active (0x1381 + n)
  (mapData s (everySecond m), (mapData s (everySecond (m.drop 1))).map (fun b => ~~~b))

/-- A port on which SRDOs are sent (R398, R401). -/
def srdoPort (s : State) (p : CanPort) : Bool :=
  canSrdo s.cfg.active p && canSends s p (fun n => n == .operational)

/-- Refresh time of an SRDO in ms, in the range of R405. -/
def srdoPeriod (c : CfgMap) (n : Nat) : Nat := Nat.max 2 (Nat.min 1000 (srdoVal c n 2))

/-- Send an SRDO, normal and inverted, as classic frames (R405). -/
def State.sendSrdo (s : State) (n : Nat) : State :=
  let c := s.cfg.active
  let d := srdoData s n
  let s1 := bothCan.foldl (fun acc p =>
    if srdoPort acc p then (acc.sendFrame p (srdoVal c n 5) false d.1).sendFrame p (srdoVal c n 6) false d.2 else acc) s
  { s1 with net := { s1.net with srdoSent := noteSent s1.net.srdoSent n s1.now d.1 } }

/-- SRDO_REFRESH: sent when it runs, else emergency 0xFF11 (R405). -/
def srdoRefresh (n : Fin 8) (s : State) : State :=
  let c := s.cfg.active
  if srdoOn c n.val then
    let s0 := s.reach (sentAt s s.net.srdoSent n.val + ms (srdoPeriod c n.val))
    if srdoValid c n.val then s0.sendSrdo n.val
    else
      let s1 : State := { s0 with net := { s0.net with srdoSent := noteSent s0.net.srdoSent n.val s0.now [] } }
      if bothCan.any (srdoPort s1) then s1.emergency 0xFF11 Config.srdoSource.toNat none else s1
  else s

def execSrdoRefresh (n : Fin 8) (s : State) : Host.Outcome State Fault Refusal :=
  run s fun s => s.whenAlive (srdoRefresh n)

/-- The SRDOs with a changed mapped value, 2 ms or more after their last sending (R405). -/
def changedSrdos (s : State) : List Nat :=
  (List.range 8).filter (fun n =>
    let c := s.cfg.active
    srdoOn c n && srdoValid c n && (match sentOf s.net.srdoSent n with
      | none => true
      | some e => e.2 != (srdoData s n).1 && decide (e.1 + ms 2 ≤ s.now)))

/-- What follows phase 6 of a Tally cycle on the ports (R403, R405). -/
def State.sendChanged (s : State) : State :=
  let l := changedTpdos s
  let s1 := if l.isEmpty then s else s.sendTpdos l
  (changedSrdos s1).foldl (fun acc n => acc.sendSrdo n) s1

def execTallyCycle (dieTemp : Int) (s : State) : Host.Outcome State Fault Refusal :=
  run s fun s => s.whenAlive (fun s => (tallyCycle dieTemp s).sendChanged)

-- SYNC production (R402)
/-- Send SYNC on the producer ports at a tick instant of the internal timer. -/
def State.produceSync (s : State) : State :=
  let c := s.cfg.active
  let ovf := cfgGet c 0x1019 0
  bothCan.foldl (fun acc p =>
    if canSyncProducer c p && bitOf (cfgGet c 0x1005 0) 30 && (tickPort c).isNone
        && canSends acc p (fun n => n == .preop || n == .operational) then
      let k := if ovf = 0 then 0 else (acc.net.can.get (canIdx p)).syncCounter % ovf + 1
      (acc.updCan p (fun x => { x with syncCounter := k })).sendCan p (cfgGet c 0x1005 0 % 2 ^ 11)
        (if ovf = 0 then [] else leBytes 1 k)
    else acc) s

-- process data in (R375, R403, R413)
/-- The mapped values that received data spell. -/
def splitMap : List (Nat × Nat × Nat) → List Byte → List (Nat × Nat × List Byte)
  | [], _ => []
  | e :: rest, bs => (e.1, e.2.1, bs.take (e.2.2 / 8)) :: splitMap rest (bs.drop (e.2.2 / 8))

/-- A received RPDO: its event timer restarts, its values are process-data writes that wait for their
judgement (R375, R378, R403). Data shorter than the mapping are not taken (CiA 301; log 16). -/
def State.takeRpdo (s : State) (p : PortId) (n : Nat) (data : List Byte) : State :=
  let c := s.cfg.active
  let m := mapEntries c (0x1600 + n)
  if !bitOf (cfgGet c (0x1400 + n) 1) 31 && decide (n < 8) && decide (mapBytes m ≤ data.length) then
    { s with net := { s.net with
      rpdoAt := (p, n, s.now) :: s.net.rpdoAt.filter (fun e => !(e.1 == p && e.2.1 == n))
      held := s.net.held ++ (splitMap m data).map (fun w =>
        { by_ := ⟨p, 0⟩, pos := 0, index := w.1, sub := w.2.1, data := w.2.2 }) } }
  else s

/-- RPDO_RECEIVED, in Operational (R401). -/
def rpdoReceived (p : CanPort) (n : Fin 8) (data : List Byte) (s : State) : State :=
  if (s.net.can.get (canIdx p)).nmt = .operational then s.takeRpdo (canPortId p) n.val data else s

def execRpdoReceived (p : CanPort) (n : Fin 8) (data : List Byte) (s : State) : Host.Outcome State Fault Refusal :=
  run s fun s => s.guarded (s.alive && canTakes s p) (rpdoReceived p n data)

/-- RPDO_TIMEOUT (R403). -/
def rpdoTimeout (p : PortId) (n : Fin 8) (s : State) : State :=
  match s.net.rpdoAt.find? (fun e => e.1 == p && e.2.1 == n.val) with
  | none => s
  | some e =>
    let t := cfgGet s.cfg.active (0x1400 + n.val) 5
    if t = 0 then s
    else
      let s0 := s.reach (e.2.2 + ms t)
      ({ s0 with net := { s0.net with rpdoAt := s0.net.rpdoAt.filter (fun x => !(x.1 == p && x.2.1 == n.val)) } } : State).lostRx p

def execRpdoTimeout (p : PortId) (n : Fin 8) (s : State) : Host.Outcome State Fault Refusal :=
  run s fun s => s.whenAlive (rpdoTimeout p n)

/-- The host process-data stream of a port: a gap sets LOST_RX (R413, R420). -/
def State.hostPd (s : State) (p : PortId) (seq : Nat) : State :=
  let gap := (s.net.ports.get (portIdx p)).seq.pdExpect != seq
  let s1 := s.updPort p (fun x => { x with seq := { x.seq with pdExpect := (seq + 1) % 65536 } })
  if gap then s1.lostRx p else s1

/-- PD_HOST (R413, R415). -/
def pdHost (p : EthPort) (link : EthLink) (seq : Nat) (blocks : List PdBlock) (s : State) : State :=
  if ethEnabled s.cfg.active p && ethPdRx s.cfg.active p && frameTaken s.cfg.active p link then
    blocks.foldl (fun acc b => if b.number = 0 then acc else acc.takeRpdo (ethPortId p) (b.number - 1) b.data)
      (s.hostPd (ethPortId p) seq)
  else s

def execPdHost (p : EthPort) (link : EthLink) (seq : Nat) (blocks : List PdBlock) (s : State) :
    Host.Outcome State Fault Refusal :=
  run s fun s => s.whenAlive (pdHost p link seq blocks)

end Sys2Proof.Machine
end

