-- ==== Sys2Proof/Machine/Fatal.lean ====
section
/-! DEFINITION. Responses to held writes, and the fatal handler with its dump (R412, R482 to R493,
R504). -/

namespace Sys2Proof.Machine

-- answers to held writes (R378, R412)
/-- Body of a WRITE response (R412). -/
def writeBody (items : List (Nat × Nat × Option Nat)) : List Byte :=
  items.flatMap (fun e => leBytes 2 e.1 ++ leBytes 1 e.2.1 ++ [0#8] ++ leBytes 4 (e.2.2.getD 0))

/-- The response of a WRITE datagram goes out when every item has completed; a session that ends
itself ends then (R412, R424). -/
def State.closeRequest (s : State) (k : Fin 4) : State :=
  match (s.net.sessions.get k).bind (fun x => x.request) with
  | none => s
  | some r =>
    if r.items.all (fun e => e.2.2.isSome) then
      let s1 := (s.updSession k (fun x => { x with request := none })).respond k 0x04 r.seq (writeBody r.items)
      if r.endsSession then s1.endSession k else s1
    else s

/-- Item `pos` of a request has completed. -/
def setItem (pos abort : Nat) (r : OpenRequest) : OpenRequest :=
  { r with items := r.items.mapIdx (fun i e => if i = pos then (e.1, e.2.1, some abort) else e) }

/-- The CAN port and server channel of a session on CAN. -/
def canChannel (o : Origin) : Option (CanPort × Fin 4) :=
  match o.port, finOf? 4 (o.session - 1) with
  | .cana, some k => some (.a, k)
  | .canb, some k => some (.b, k)
  | _, _ => none

/-- COB-IDs of a server channel on a port: to it and from it. Those of SDO server 1 may follow the port's
node-ID (R399, R503). -/
def sdoRequestCob (c : CfgMap) (p : CanPort) (k : Fin 4) : Nat :=
  if k.val = 0 then cobOn c p 0x1200 1 0x600 else cfgGet c (0x1200 + k.val) 1
def sdoResponseCob (c : CfgMap) (p : CanPort) (k : Fin 4) : Nat :=
  if k.val = 0 then cobOn c p 0x1200 2 0x580 else cfgGet c (0x1200 + k.val) 2

/-- Answer an SDO request (R407). -/
def State.sdoAnswer (s : State) (p : CanPort) (k : Fin 4) (i sub abort : Nat) (data : List Byte) : State :=
  s.say (.sdo p k (sdoResponseCob s.cfg.active p k) i sub abort data)

/-- A write that process data carry: it is of no session and has no answer (R380). -/
def HeldWrite.isPd (w : HeldWrite) : Bool := !w.row && w.by_.session == 0

/-- BUSY counts a refused write (R380, R392). -/
def State.countBusy (s : State) (p : PortId) : State := s.updPort p (fun x => { x with busy := satInc32 x.busy })

/-- Answer a held write with its abort, on the port that delivered it (R378, R380, R504). -/
def State.answerHeld (s : State) (w : HeldWrite) (abort : Nat) : State :=
  if w.row then s.say (.answer w.by_ w.index w.sub abort)
  else if w.isPd then s
  else match canChannel w.by_ with
    | some c => s.sdoAnswer c.1 c.2 w.index w.sub abort []
    | none =>
      match sessionSlot s w.by_ with
      | some k => (s.updSession k (fun x => { x with request := x.request.map (setItem w.pos abort) })).closeRequest k
      | none => s

/-- A held write is refused: process data count in BUSY (R380, R392). -/
def State.dropHeld (s : State) (w : HeldWrite) (abort : Nat) : State :=
  (if w.isPd then s.countBusy w.by_.port else s).answerHeld w abort

/-- A write that a session has received in part is refused: the items of its parts in an open request, which is
answered with the held items, and its buffer (R412, R504). -/
def Session.refuseParts (x : Session) : Session :=
  { x with
    request := x.request.map (fun r => x.upPos.foldl (fun acc pos => setItem pos 0x08000000 acc) r)
    upTotal := 0, upData := [], upPos := [] }

/-- Held and partly received writes are refused at step 3 (R504). -/
def State.refuseHeld (s : State) : State :=
  let s1 : State := { s with net := { s.net with held := [] } }
  let s2 := (allFin 4).foldl (fun acc k => acc.updSession k Session.refuseParts) s1
  let s3 := s.net.held.foldl (fun acc w => acc.dropHeld w 0x08000000) s2
  (allFin 4).foldl (fun acc k => match acc.net.xfer.get k with
    | some t =>
      if t.writing then
        let a : State := { acc with net := { acc.net with xfer := acc.net.xfer.put k none } }
        a.sdoAnswer t.port k t.index t.sub 0x08000000 []
      else acc
    | none => acc) s3

-- what STOPPED keeps (R488)
/-- Objects that keep their value of step 3: those of 0x1000 to 0x1FFF, 0x2000 and 0x2A00 that are no
values of a configuration and that R488 does not keep live. STOP_SEEN goes on collecting (R486). -/
def keptObject (i sub : Nat) : Bool :=
  match objInfo i sub with
  | none => false
  | some o => !o.inCfg && o.access != .wo && !(i == 0x2000 && within sub 0x06 0x08) && !(i == 0x2A00 && sub == 0x03)

/-- Indices whose objects are served and kept while STOPPED. -/
def keptIndices : List Nat :=
  [0x1000, 0x1001, 0x1003, 0x1008, 0x1009, 0x100A, 0x1016, 0x1018, 0x2000, 0x2A00]

/-- The values kept: SEC_CLEAR_MAP reads 0 (R488). -/
def frozenValues (s : State) : List (Nat × Nat) :=
  keptIndices.flatMap (fun i => (List.range 256).filterMap (fun sub =>
    if keptObject i sub
    then some (cfgKey i sub, if i = 0x2000 ∧ sub = 0x30 then 0 else objNum s none i sub) else none))

-- the dump (R490 to R493)
/-- An object of the Tally-cycle or the committed-tick publisher (R377). -/
def publishedObject (i sub : Nat) : Bool :=
  match objInfo i sub with
  | none => false
  | some o => o.access == .ro && (i != 0x2000 || sub == 0x09 || within sub 0x30 0x33)

def publishedIndices : List Nat := [0x2000] ++ idxSpan 0x2200 0x222F ++ [0x2400, 0x2500] ++ idxSpan 0x2501 0x2511

/-- The PUBLISHED block (R490). -/
def publishedBytes (s : State) : List Byte :=
  publishedIndices.flatMap (fun i => (List.range 256).flatMap (fun sub =>
    if publishedObject i sub then imageRecord (cfgKey i sub) (objNum s none i sub) else []))

/-- The CONFIG block: the active bank as stored (R490). -/
def activeBankBytes (g : Cfg) : List Byte :=
  match g.activeBank with
  | none => []
  | some k => (bankOf g k).elim [] bankBytes

/-- One register as four bytes. -/
def regBytes (v : BitVec 32) : List Byte := leBytes 4 v.toNat

def stageBytes (x : DelayStage) : List Byte := leBytes 28 x.data.toNat ++ leBytes 4 x.parity.toNat

/-- The CORE block (R493; log 15). -/
def coreBytes (s : State) : List Byte :=
  let t := s.twin
  padBytes 1024 (t.coreA.regs.toList.flatMap regBytes ++ t.coreB.regs.toList.flatMap regBytes
    ++ (List.range 16).map (fun k => Config.coreByte s.fresh (256 + k))
    ++ stageBytes t.delay0 ++ stageBytes t.delay1
    ++ leBytes 4 t.eccLast ++ leBytes 4 t.eccSram ++ leBytes 4 t.eccFlash ++ leBytes 4 t.scrubPasses
    ++ leBytes 4 t.windows ++ leBytes 4 t.kaPassed)

/-- FATAL_RECORD: the number of the FATAL record. A record that could not be kept, or that waits for its number, has
none, and the value is open (R468, R477, R492; log 15). -/
def fatalNumber (s : State) : Nat :=
  match s.recd.queue.getLast? with
  | some q => if q.typ = 0x38 then q.number.getD (Config.fatalNumber s.fresh).toNat else (Config.fatalNumber s.fresh).toNat
  | none => (Config.fatalNumber s.fresh).toNat

/-- The contents of the dump of a fatal error are set aside at step 3; it is written once the FATAL record has been
(R483, R490, R491). -/
def State.dumpBegin (s : State) (published : List Byte) (queue : List Rec) (fatal : Nat) : State :=
  let b : DumpBlocks :=
    { core := coreBytes s, published := published, queue := queue.flatMap (fun q => recBytes q.body)
      config := activeBankBytes s.cfg, sram := s.twin.sram, sramKey := s.twin.sramKey }
  (s.draw.updRec (fun r => { r with
    dump := { r.dump with next := some b, ecc := false, fatal := fatal, opTime := opTime s } })).dumpReady

/-- Causes with a dump: 0x01 to 0x06 (R483, R485). -/
def dumpCause (s : State) : Bool := within s.twin.stopCause 1 6

/-- FATAL record, the last one (R465, R483, R488). -/
def State.fatalRecord (s : State) : State :=
  let t := s.twin
  let s1 := if s.recd.st = .ready then
      s.updRec (fun r => recFatal (recCtx s) r (leBytes 1 t.stopCause ++ leBytes 2 t.stopSeen.toNat
        ++ leBytes 4 t.stopWindow ++ leBytes 4 t.stopSigA.toNat ++ leBytes 4 t.stopSigB.toNat))
    else s
  s1.updRec (fun r => { r with stopped := true })

/-- The recorder's part of step 3: a command that runs is abandoned, so that the records that wait for it get their
numbers, and the eMMC is awake (R477, R483; DESIGN CHOICE, log 44). -/
def State.recHandler (s : State) : State :=
  s.updRec (fun r =>
    let r1 := { r with job := r.job.filter RecJob.numbers, asleep := false }
    if numbering r1 then recDrain (recCtx s) false r1 else r1)

/-- Core A enters the fatal handler: steps 3 to 7 of R483. -/
def State.enterHandler (s : State) : State :=
  let s1 : State := { s with
    power := { s.power with phase := .stopped }
    twin := { s.twin with handler := true } }
  let s2 := bothCan.foldl (fun acc p => acc.setNmt p .preop) s1.stopAll.refuseHeld
  let s3 := s2.emergency 0x6100 0xFE none
  let s4 : State := { s3 with twin := { s3.twin with frozen := frozenValues s3 } }.recHandler
  let s5 := s4.fatalRecord
  if dumpCause s then
    (if s.recd.st = .ready then s5.dumpBegin (publishedBytes s) s4.recd.queue (fatalNumber s5)
     else s5.updRec (fun r => { r with dump := { r.dump with st := .notWritten, truncated := false } }))
  else s5

/-- FATAL_HANDLER_ENTRY (R483, R486): a stopped device enters its handler once. A clock fault has none
(R484), and a halted Core A enters it when it leaves debug (R485). -/
def fatalHandlerEntry (s : State) : State :=
  if s.twin.stopLatch && !s.twin.handler then s.enterHandler else s

def execFatalHandlerEntry (s : State) : Host.Outcome State Fault Refusal :=
  run s fun s => s.whenAlive fatalHandlerEntry

/-- DEBUG_EXIT (R358, R485): Core A alone resumes, in the handler. -/
def debugExit (s : State) : State :=
  if s.power.phase = .debugHalted then
    let s1 : State := { s with twin := { s.twin with debugActive := false } }
    if s1.twin.handler then { s1 with power := { s1.power with phase := .stopped } } else s1.enterHandler
  else s

def execDebugExit (s : State) : Host.Outcome State Fault Refusal := run s debugExit

/-- All bytes of the blocks of a dump. -/
def dumpTotal (d : DumpBlocks) : Nat := (dumpExtents d).foldl (fun acc b => acc + b.len) 0

/-- Entries of the BLOCKS field (R492): offset, length written, CRC over the bytes written. -/
def blockEntries (d : DumpBlocks) : List Byte :=
  (writtenOf d.written (dumpExtents d)).flatMap (fun e =>
    leBytes 4 e.1.offset ++ leBytes 4 e.2 ++ leBytes 4 (crc32 ((List.range e.2).map (blockByte d e.1.key))))

/-- The dump header (R492). -/
def dumpHeader (s : State) : List Byte :=
  let d := s.recd.dump
  let t := s.twin
  let head := padBytes 508 (leBytes 4 0x504D5544 ++ leBytes 2 1 ++ leBytes 2 0 ++ leBytes 4 d.seq
    ++ leBytes 8 Config.serial.toNat ++ leBytes 1 t.stopCause ++ leBytes 1 0 ++ leBytes 2 t.stopSeen.toNat
    ++ leBytes 4 t.stopWindow ++ leBytes 4 t.stopSigA.toNat ++ leBytes 4 t.stopSigB.toNat ++ leBytes 6 d.opTime
    ++ leBytes 2 0 ++ leBytes 4 s.recd.powerCycles ++ leBytes 4 d.fatal ++ leBytes 4 t.stopGridTime
    ++ leBytes 4 s.tally.cycles ++ leBytes 4 s.engine.tickSeq ++ leBytes 4 s.cfg.generation
    ++ leBytes 8 (cfgDigest s.cfg.active) ++ leBytes 4 Config.fwVersion.toNat
    ++ leBytes 1 (b2n d.truncated + 2 * b2n d.ecc) ++ leBytes 3 0 ++ blockEntries d.blocks)
  head ++ leBytes 4 (crc32 head)

def State.updDump (s : State) (f : Dump → Dump) : State := s.updRec (fun r => { r with dump := f r.dump })

/-- The handler writes the header (R491, R494). -/
def State.dumpEnd (s : State) (written : Nat) (truncated headerOk : Bool) : State :=
  let s1 := s.updDump (fun d => { d with blocks := { d.blocks with written := written }, truncated := truncated })
  if headerOk then s1.updDump (fun d => { d with st := .valid, header := dumpHeader s1 })
  else s1.updDump (fun d => { d with st := .notWritten, truncated := false })

/-- DUMP_WRITE_DONE (R491). -/
def dumpWriteDone (headerOk : Bool) (s : State) : State :=
  if s.recd.dump.st = .writing then s.dumpEnd (dumpTotal s.recd.dump.blocks) false headerOk else s

def execDumpWriteDone (headerOk : Bool) (s : State) : Host.Outcome State Fault Refusal :=
  run s fun s => s.guarded s.serving (dumpWriteDone headerOk)

/-- DUMP_TIMEOUT: 10 s have passed, or a block write has failed; how much was written is open (R491). -/
def dumpTimeout (headerOk : Bool) (s : State) : State :=
  if s.recd.dump.st = .writing
  then s.draw.dumpEnd (Nat.min (Config.dumpWritten s.fresh) (dumpTotal s.recd.dump.blocks)) true headerOk else s

def execDumpTimeout (headerOk : Bool) (s : State) : Host.Outcome State Fault Refusal :=
  run s fun s => s.guarded s.serving (dumpTimeout headerOk)

end Sys2Proof.Machine
end

