-- ==== Sys2Proof/Machine/Power.lean ====
section
/-! DEFINITION. Supplies, reset, boot, clock faults, HIBERNATE, standby and boundary scan (R31 to R68,
R92, R93, R351, R446, R484). -/

namespace Sys2Proof.Machine

-- the retention latch (R47, R68)
def latchPor : BitVec 6 := 0x01#6
def latchVsup : BitVec 6 := 0x02#6
def latchVio : BitVec 6 := 0x04#6
def latchResetn : BitVec 6 := 0x08#6
def latchWake : BitVec 6 := 0x10#6
def latchClock : BitVec 6 := 0x20#6

def State.updPower (s : State) (f : Power → Power) : State := { s with power := f s.power }

def State.addLatch (s : State) (b : BitVec 6) : State := s.updPower (fun p => { p with latch := p.latch ||| b })

/-- What a supply or a pin gives and no reset changes, with the retention latch (R46, R47). The test access port has a
reset of its own, and keeps its state while there is power (R62; log 52). -/
def keptPower (p : Power) (phase : Phase) : Power :=
  { phase := phase, vsupOk := p.vsupOk, vioOk := p.vioOk, vexcLow := p.vexcLow, stbynHigh := p.stbynHigh
    resetnLow := p.resetnLow, latch := p.latch, tap := if phase = .inReset then p.tap else {}, bootAt := p.bootAt
    entryAt := p.entryAt, resetAt := p.resetAt }

/-- The recorder and the eMMC as a loss of power or a reset leaves them: a sector that is being written holds its
previous or its new contents (R456, R461). -/
def State.tornSector (s : State) : State :=
  if decide (0 < s.recd.writing) && Config.tornSector s.fresh then s.sectorStored else s

/-- The dump region stays, and its header is read when the book opens. Of a dump that was being written an open number
of bytes has been written (R491, R494, R496). -/
def unreadDump (d : Dump) (free : Nat) : Dump :=
  { d with st := .none, seq := 0, truncated := false, next := none
           blocks := if d.st = .writing
             then { d.blocks with written := Nat.min (Config.dumpWritten free) (dumpTotal d.blocks) } else d.blocks }

/-- The device without its volatile state (R46, R50): kept are the flash with banks, key and
EXPECTED_DIGEST, the eMMC with its dump, the retention latch and the taint (R47, R351, R359, R427,
R433, R435, R449). `phase` is where the device then is. -/
def State.volatileLost (s : State) (phase : Phase) : State :=
  let g := tornCfg s.cfg s.fresh
  let e := s.tornSector
  { now := s.now, fresh := s.fresh + 1, power := keptPower s.power phase
    term := { cla := s.term.cla }
    twin := { prevStopCause := s.twin.prevStopCause, debugTaint := s.twin.debugTaint, flashBad := s.twin.flashBad }
    net := { key := s.net.key, keyId := s.net.keyId }
    cfg := { bank0 := g.bank0, bank1 := g.bank1, expected := g.expected }
    recd := { dump := unreadDump s.recd.dump s.fresh, cleared := e.recd.cleared }
    emmc := e.emmc, sent := s.sent, pending := s.pending }

/-- The device is in reset already: STOP_CAUSE has been copied (R351). -/
def inReset (s : State) : Bool := s.power.phase == .inReset || s.power.phase == .unpowered

/-- Reset for any cause (R46, R92, R350, R351): STOP_CAUSE goes to PREV_STOP_CAUSE, the sources are off,
the reset sequence of the terminals begins. A device in reset already stays there, and the sequence runs
on. -/
def State.enterReset (s : State) : State :=
  let s0 := s.volatileLost .inReset
  if inReset s then { s0 with term := s.term }
  else
    let s1 := s0.excReset
    { s1 with twin := { s1.twin with prevStopCause := s.twin.stopCause } }

/-- The device is in HIBERNATE: the entry has run to completion (R53). -/
def asleep (s : State) : Bool := s.power.phase == .hibernate || entered s

/-- RESETN_LOW. It overrides HIBERNATE entry (R46). HIBERNATE ignores it (R57); without power nothing
takes it. -/
def resetnLow (s : State) : State :=
  let s1 := s.updPower (fun p => { p with resetnLow := true })
  if asleep s || s.power.phase == .unpowered then s1
  else s1.enterReset.addLatch latchResetn

/-- The retention latch is lost: POR, and what it kept is gone (R47, R57, R351, R359). -/
def State.latchLost (s : State) : State :=
  let s1 := (s.updPower (fun p => { p with latch := latchPor, wakePending := false })).volatileLost .unpowered
  { s1 with twin := { s1.twin with prevStopCause := 0, debugTaint := false } }

/-- Every switch opens (R93). -/
def State.switchesOpen (s : State) : State :=
  { s with term := { s.term with forceSw := 0#192, returnSw := 0#192, senseSw := 0#192, dischargeSw := 0#192 } }

/-- BROWNOUT (R32, R93). In HIBERNATE only the loss of the latch counts (R57). -/
def brownout (r : RailDrop) (s : State) : State :=
  if r.vsup || r.vio then
    let s1 := s.updPower (fun p => { p with vsupOk := p.vsupOk && !r.vsup, vioOk := p.vioOk && !r.vio })
    if r.vsup && r.latch then s1.latchLost
    else if asleep s || s.power.phase == .unpowered then s1
    else
      let s2 := (s1.enterReset.addLatch (if r.vsup then latchVsup else 0#6)).addLatch (if r.vio then latchVio else 0#6)
      if r.vsup && r.switchHold then s2.switchesOpen else s2
  else s

-- boot (R48)
/-- The bank that is active at boot: its ACT_COUNT is programmed and higher (R435). -/
def bootBank (g : Cfg) : Option Bool :=
  match bankAct g.bank0, bankAct g.bank1 with
  | none, none => none
  | some _, none => some false
  | none, some _ => some true
  | some a, some b => some (decide (a < b))

/-- What boot step 6 finds: the configuration, DEFAULT_CAUSE and CHECK_RESULT (R446). -/
def bootConfig (g : Cfg) : CfgMap × Nat × (Nat × Nat) :=
  match (bootBank g).bind (fun k => bankOf g k) with
  | none => ([], 1, (0, 0))
  | some b =>
    if !bankGood b then ([], 2, (0, 0))
    else
      let r1 := imageCheck b.image
      let m := imageCfg b.image
      let r := if r1 = (0, 0) then cfgCheckOf m else r1
      if r = (0, 0) then (m, 0, (0, 0)) else ([], 3, r)

/-- BOOT_CONFIG_APPLY (R372, R437, R446). -/
def bootCfg (g : Cfg) (now : Nat) : Cfg :=
  let b := bootConfig g
  let bank := (bootBank g).bind (fun k => bankOf g k)
  { g with
    active := b.1, staged := b.1, activeBank := bootBank g, defaulted := b.2.1 != 0, defaultCause := b.2.1, result := b.2.2
    generation := if b.2.1 = 0 then readGen bank else 0
    checkWord := if b.2.1 = 0 then bank.elim 0 (fun x => x.checkWord) else 0, activeAt := now }

/-- Latest instants of the boot steps (R48; log 17). -/
def bootKaNs : Nat := ms 7
def bootCfgNs : Nat := ms 70
def bootRunNs : Nat := ms 120
def bootEndNs : Nat := ms 180

/-- Windows that pass from the start of lock-step to the end of boot. -/
def bootWindows : Nat := (bootEndNs - bootKaNs) / windowNs

/-- Lock-step from boot step 4 on: the first known answer has been caught, the watchdog is armed, and
every window up to the end of boot has matched, with one word scrubbed in each (R48, R343, R345, R349,
R353; log 17). What the firmware has written is free, in both cores alike (log 15). -/
def bootTwin (t : Twin) (t0 free : Nat) : Twin :=
  let at_ := t0 + bootKaNs - windowNs - compareNs
  let core (k : Nat) : CoreRegs :=
    { regs := Vector.map (fun (n : Fin 32) => Config.coreReg free n.val) (Vector.finRange 32)
      misr := BitVec.ofNat 32 (bootWindows + 1), input := Config.bootStage free k }
  let stage (k : Nat) : DelayStage := ⟨Config.bootStage free k, stageParity (Config.bootStage free k)⟩
  { t with
    coreA := core 0, coreB := core 1, delay0 := stage 2, delay1 := stage 3, sramKey := some free, scrubAddr := bootWindows + 1
    lockstep := true, watchdog := true, lockAt := at_, window := bootWindows + 1, windows := bootWindows
    kaPassed := bootWindows / 1024 + 1, pulseAt := at_ + (bootWindows + 1) * windowNs + compareNs }

/-- Sections, permits and heads at boot step 6 (R48, R168, R219, R233, R277). -/
def State.bootResources (s : State) : State :=
  let c := s.cfg.active
  let s1 : State := { s with
    sect := Vector.map (fun (n : Fin 48) => sectionStart (secUsed c n.val) causeStart (s.sect.get n)) (Vector.finRange 48)
    head := Vector.map (fun (h : Fin 32) => freshHead c h.val (s.head.get h)) (Vector.finRange 32)
    ch := Vector.map (fun (k : Fin 64) => freshChannel c s.now k.val (s.ch.get k)) (Vector.finRange 64)
    permits := { s.permits with gridAt := s.now }
    engine := { s.engine with live := engineLive c, initDue := BitVec.allOnes 16 } }
  (s1.permitOutputs (assignedMask c)).noteRoom

/-- Boot step 7: the PHY of each Ethernet port is reset over MDIO (R415). -/
def State.phyReset (s : State) : State :=
  [EthPort.a, .b].foldl (fun acc p => acc.say (.phyReset p (phyAddr acc.cfg.active p))) s

/-- Boot step 8: the ports answer (R48, R399). -/
def State.bootPorts (s : State) : State :=
  let s1 : State := { s with net := { s.net with
    ports := Vector.map (fun (x : PortState) => { x with hbAt := s.now }) s.net.ports } }
  bothCan.foldl (fun acc p =>
    (acc.setNmt p (if canAutostart acc.cfg.active p then .operational else .preop)).bootUp p) s1

/-- BOOT (R48): steps 1 to 8, each at its latest instant (log 17). ACKn is watched from step 8 on (R293). -/
def State.boot (s : State) : State :=
  let t0 := s.now
  let s1 : State := { s.draw with
    power := { s.power with phase := .running, bootAt := t0, resetnLow := false, wakePending := false }
    term := { s.term with dischargeSw := 0#192 }
    twin := bootTwin s.twin t0 s.fresh }
  -- step 6
  let s2 := s1.reach (t0 + bootCfgNs)
  let s3 : State := { s2 with
    cfg := bootCfg s2.cfg s2.now
    power := { s2.power with
      resetCause := s2.power.latch, latch := 0#6, vsupMv := (Config.bootMv s.fresh 0).toNat
      vioMv := (Config.bootMv s.fresh 1).toNat, vexcMv := (Config.bootMv s.fresh 2).toNat
      dieTemp := (Config.bootTemp s.fresh).toInt } }
  let s4 := s3.bootResources
  -- step 7
  let s5 := ((s4.reach (t0 + bootRunNs)).phyReset.startAll).bellBoot
  let s6 := (s5.updRec (fun r => { r with st := .opening })).guardActivate
  -- step 8
  let s7 := s6.reach (t0 + bootEndNs)
  let s8 : State := { s7 with
    tally := { s7.tally with startAt := s7.now, allRecords := true }
    permits := { s7.permits with refreshedAt := s7.now, ack := { s7.permits.ack with highFrom := some s7.now } }
    engine := { s7.engine with tickAt := s7.now, syncAt := s7.now }
    bell := { s7.bell with stepAt := s7.now }
    trk := { s7.trk with stepAt := s7.now }
    recd := { s7.recd with lastRecordAt := s7.now } }
  s8.bootPorts

/-- The conditions of boot step 1: in reset, both rails good, no clock fault (R32, R44, R48). -/
def bootReady (s : State) : Bool :=
  s.power.phase == .inReset && s.power.vsupOk && s.power.vioOk && !s.power.clockFault

/-- BOOT: RESETn is seen high (R48). Where boot cannot begin (HIBERNATE, no power, a rail low, a clock
fault) the release of the pin is all that happens (R57). -/
def boot (s : State) : State := if bootReady s then s.boot else s.updPower (fun p => { p with resetnLow := false })

/-- BOOT_PLL_LOCK_TIMEOUT: the device stays in reset with CLOCK_FAULT set (R48, R68). -/
def bootPllLockTimeout (s : State) : State :=
  if bootReady s then
    ((s.reach (s.now + ms 1)).updPower (fun p => { p with clockFault := true, resetnLow := false })).addLatch latchClock
  else s

def execBootPllLockTimeout (s : State) : Host.Outcome State Fault Refusal := run s bootPllLockTimeout

/-- A supply release or a wake has been accepted, and the device is in reset (R32, R48, R57): RESETn low
holds it there and counts as a cause of the start (R47, R68; DESIGN CHOICE, log 19); otherwise boot begins,
and `pllLocks` says whether the PLL locks within 1 ms. -/
def State.beginBoot (s : State) (pllLocks : Bool) : State :=
  if s.power.resetnLow then s.addLatch latchResetn
  else if pllLocks then Machine.boot s else bootPllLockTimeout s

/-- SUPPLY_RELEASE: both rails have been above their rising thresholds for 1 ms; with RESETn high, boot
begins (R32, R47, R57). -/
def supplyRelease (pllLocks : Bool) (s : State) : State :=
  let s1 := s.updPower (fun p => { p with vsupOk := true, vioOk := true })
  match s.power.phase with
  | .unpowered | .inReset => (s1.updPower (fun p => { p with phase := .inReset })).beginBoot pllLocks
  | .hibernate => s1
  | .running | .stopped | .clockHeld | .debugHalted => if entered s then s1 else s

-- clock faults (R43, R44, R484)
/-- CLOCK_FAULT: the stop path, cores held, ports silent, sources down as in reset. -/
def State.clockFault (s : State) : State :=
  let s1 := (s.stopLatch 7 none).excReset.addLatch latchClock
  { s1 with power := { s1.power with phase := .clockHeld, clockFault := true } }

/-- The clock monitor is armed while the device runs, stopped or halted. -/
def clockFault (s : State) : State :=
  if asleep s then s
  else match s.power.phase with
    | .running | .stopped | .debugHalted => s.clockFault
    | .unpowered | .inReset | .hibernate | .clockHeld => s

def execClkinMissing (s : State) : Host.Outcome State Fault Refusal := run s clockFault
def execClockFreqError (s : State) : Host.Outcome State Fault Refusal := run s clockFault
def execPllLockLoss (s : State) : Host.Outcome State Fault Refusal := run s clockFault

-- HIBERNATE (R51 to R57)
/-- HIBERNATE entry begins (R53): the trigger is accepted, the permits are static low, the sources stop,
and the HIBERNATE record goes to the eMMC. `trigger` is 0 for a command and 1 for STBYn. Further triggers
are ignored, and so is one that meets a set stop latch (R350, R487). The entry's end comes with time, in
`State.endEntry`. -/
def State.enterHibernate (s : State) (trigger : Nat) (o : Option Origin) : State :=
  if s.power.entering || s.twin.stopLatch then s
  else
    let s1 := s.updPower (fun p => { p with entering := true, entryAt := s.now })
    let s2 := s1.permitsLow.stopAll
    let s3 := s2.record 0x04 (leBytes 1 trigger ++ originBytes o)
    (s3.updRec (fun r => recFlush (recCtx s3) r)).emmcSleep

/-- Step 5 of HIBERNATE entry: everything is off (R53). What the eMMC has not completed is abandoned, and a PENDING wake
stays (R55). -/
def State.endEntry (s : State) : State :=
  let s1 := (s.reach (s.power.entryAt + entryNs)).volatileLost .hibernate
  s1.updPower (fun p => { p with wakePending := s.power.wakePending, wakeLocks := s.power.wakeLocks })

/-- The wake is executed: the regulators come up and boot runs, unless RESETn or a rail holds the device
in reset (R32, R54, R57). -/
def State.wakeUp (s : State) (pllLocks : Bool) : State :=
  let s1 := s.addLatch latchWake
  ((s1.reach (s1.now + ms 2)).updPower (fun p => { p with phase := .inReset, wakePending := false })).beginBoot pllLocks

/-- A wake that comes during the entry is PENDING, and the entry runs on (R55). -/
def State.latchWake (s : State) (pllLocks : Bool) : State :=
  s.updPower (fun p => { p with wakePending := true, wakeLocks := pllLocks })

/-- An entry that has run its 50 ms is over (R53). A PENDING wake is then executed at once when STBYn is high, and kept
while it is low (R55). -/
def State.settleEntry (s : State) : State :=
  if entered s then
    let s1 := s.endEntry
    if s1.power.wakePending && s1.power.stbynHigh then s1.wakeUp s1.power.wakeLocks else s1
  else s

-- the rows that meet an entry which has run its 50 ms and is not settled yet
def execResetnLow (s : State) : Host.Outcome State Fault Refusal := run s fun s => resetnLow s.settleEntry

def execBrownout (r : RailDrop) (s : State) : Host.Outcome State Fault Refusal :=
  run s fun s => brownout r s.settleEntry

def execBoot (s : State) : Host.Outcome State Fault Refusal := run s fun s => boot s.settleEntry

def execSupplyRelease (pllLocks : Bool) (s : State) : Host.Outcome State Fault Refusal :=
  run s fun s => supplyRelease pllLocks s.settleEntry

/-- WAKE: WAKEn has been low for 100 us (R54 to R56). -/
def wake (pllLocks : Bool) (s : State) : State :=
  let s0 := s.settleEntry
  if s0.power.phase = .hibernate then (if s0.power.stbynHigh then s0.wakeUp pllLocks else s0)
  else if s0.goingDown then s0.latchWake pllLocks
  else s0

def execWake (pllLocks : Bool) (s : State) : Host.Outcome State Fault Refusal := run s (wake pllLocks)

/-- STBYN_RISE_WAKE (R56). During the entry the wake is PENDING, and follows at its end (R55). -/
def stbynRise (waknLow pllLocks : Bool) (s : State) : State :=
  let s0 := s.settleEntry
  let s1 := s0.updPower (fun p => { p with stbynHigh := true })
  if s0.power.wakePending || waknLow then
    (if s0.power.phase = .hibernate then s1.wakeUp pllLocks
     else if s0.goingDown then s1.latchWake pllLocks else s1)
  else s1

def execStbynRiseWake (waknLow pllLocks : Bool) (s : State) : Host.Outcome State Fault Refusal :=
  run s (stbynRise waknLow pllLocks)

/-- STBYN_LOW_QUALIFIED (R51, R56, R487): STBYn went low after a qualifying high period. Whatever the
device does, no wake is executed from now on until STBYn rises. -/
def stbynLow (s : State) : State :=
  (s.updPower (fun p => { p with stbynHigh := false })).guarded (s.alive && !s.power.stbyStuck)
    (fun t => t.enterHibernate 1 none)

def execStbynLowQualified (s : State) : Host.Outcome State Fault Refusal := run s stbynLow

/-- STBY_STUCK is set and cleared while the device runs, but not during HIBERNATE entry (R52, R505). -/
def stuckWatched (s : State) : Bool := s.alive && !s.goingDown

/-- STBY_STUCK_SET (R52, R505). -/
def stbyStuckSet (s : State) : State :=
  s.updPower (fun p => { p with stbynHigh := false, stbyStuck := p.stbyStuck || stuckWatched s })

def execStbyStuckSet (s : State) : Host.Outcome State Fault Refusal := run s stbyStuckSet

/-- STBY_STUCK_CLEAR (R52, R505). -/
def stbyStuckClear (s : State) : State :=
  s.updPower (fun p => { p with stbynHigh := true, stbyStuck := p.stbyStuck && !stuckWatched s })

def execStbyStuckClear (s : State) : Host.Outcome State Fault Refusal :=
  run s fun s => s.guarded s.serving stbyStuckClear

/-- HIBERNATE_SUPPLY_LOSS (R57). -/
def hibernateSupplyLoss (s : State) : State :=
  if s.power.phase = .hibernate || s.goingDown
  then (s.updPower (fun p => { p with vsupOk := false })).latchLost else s

def execHibernateSupplyLoss (s : State) : Host.Outcome State Fault Refusal :=
  run s fun s => hibernateSupplyLoss s.settleEntry

-- the outputs (R46, R48, R59)
/-- What drives a digital output other than PO00-PO15 (R59). -/
inductive Drive where
  | highz
  | byFunction
  deriving DecidableEq, Repr

/-- The column 'Other digital outputs' of R59. They are high-impedance without power, in reset, in boot
up to step 8 and in HIBERNATE, and driven by their function in every other state. -/
def otherOutputs (s : State) : Drive :=
  if asleep s then .highz
  else match s.power.phase with
    | .unpowered | .inReset | .hibernate => .highz
    | .running | .stopped | .clockHeld | .debugHalted => .byFunction

/-- CANA_TXD and CANB_TXD, and ETA_REFCLK and ETB_REFCLK, as boot step 8 leaves them (R48): the transmit
pins drive recessive and the reference clocks run, none while the outputs are high-impedance. -/
def txdRecessive (s : State) : Bool := otherOutputs s == .byFunction
def refclkRuns (s : State) : Bool := otherOutputs s == .byFunction

-- the TAP (R62, R63)
/-- The IDCODE register (R62), in the layout of IEEE 1149.1: version, part number, manufacturer, 1. The
version is the low four bits of SILICON_REV (log 52). -/
def idcode : BitVec 32 :=
  BitVec.ofNat 32 (Config.siliconRev.toNat % 16 * 2 ^ 28 + 0x6432 * 2 ^ 12 + 2 * Config.jtagManufacturer.toNat + 1)

/-- The digital balls of R25 in the boundary-scan chain: all but WAKEn and those of the TAP itself (R63; log 52). -/
inductive Ball where
  | resetn | stbyn | ackn | clkin | testmode
  | spiSclk | spiMosi | spiMiso | spiCsn | spiAttnn
  | emmcClk | emmcCmd | emmcDat (k : Fin 4) | emmcRstn
  | canTxd (p : CanPort) | canRxd (p : CanPort) | mdc | mdio
  | refclk (p : EthPort) | txen (p : EthPort) | txd (p : EthPort) (k : Fin 2)
  | rxd (p : EthPort) (k : Fin 2) | crsdv (p : EthPort) | rxer (p : EthPort)
  | po (p : Fin 16) | pb (p : Fin 16)
  deriving DecidableEq, Repr

def ethBalls (p : EthPort) : List Ball :=
  [.refclk p, .txen p, .txd p 0, .txd p 1, .rxd p 0, .rxd p 1, .crsdv p, .rxer p]

/-- The cells of the boundary register, in the order of R25 (DESIGN CHOICE, log 52). -/
def boundaryCells : List Ball :=
  [.resetn, .stbyn, .ackn, .clkin, .testmode, .spiSclk, .spiMosi, .spiMiso, .spiCsn, .spiAttnn, .emmcClk, .emmcCmd]
    ++ (allFin 4).map .emmcDat ++ [.emmcRstn, .canTxd .a, .canRxd .a, .canTxd .b, .canRxd .b, .mdc, .mdio]
    ++ ethBalls .a ++ ethBalls .b ++ (allFin 16).map .po ++ (allFin 16).map .pb

/-- A ball that EXTEST can drive: an output, a bidirectional or an open-drain one, but no permit (R25, R63). -/
def Ball.drivable : Ball → Bool
  | .spiMiso | .spiAttnn | .emmcClk | .emmcCmd | .emmcDat _ | .emmcRstn | .canTxd _ | .mdc | .mdio | .refclk _ | .txen _
    | .txd _ _ => true
  | .resetn | .stbyn | .ackn | .clkin | .testmode | .spiSclk | .spiMosi | .spiCsn | .canRxd _ | .rxd _ _ | .crsdv _
    | .rxer _ | .po _ | .pb _ => false

/-- EXTEST is loaded (R63). -/
def Power.extest (p : Power) : Bool := p.tap.instr == .extest

/-- The level at a permit ball: EXTEST overrides the output (R63), and a state in which every output is
high-impedance does too (R59). -/
def permitPin (s : State) (p : Fin 16) : Level3 :=
  if s.power.extest || asleep s then .highz else (s.permits.po.get p).out

def pinLevel (b : Bool) : Level3 := if b then .high else .low

/-- The level at a ball: `pins` is what stands at those that neither the pins of this state nor its permits decide.
EXTEST drives what it can from the latches; an open-drain ball only pulls low (R25, R59, R63). -/
def ballLevel (s : State) (pins : Ball → Level3) (b : Ball) : Level3 :=
  match b with
  | .resetn => pinLevel !s.power.resetnLow
  | .stbyn => pinLevel s.power.stbynHigh
  | .ackn => pinLevel !s.permits.ack.pressed
  | .po p => permitPin s p
  | b =>
    if s.power.extest && b.drivable then
      (if s.power.tap.latches.getLsbD (boundaryCells.idxOf b) then (if b = .spiAttnn then .highz else .high) else .low)
    else pins b

/-- A data register between TDI and TDO (R62, R63). -/
inductive TapRegister where
  /-- One bit that captures 0. -/
  | bypass
  | idcode (w : BitVec 32)
  /-- The boundary register: one cell per ball of `boundaryCells`. -/
  | boundary (cells : List Level3)
  deriving DecidableEq, Repr

/-- What the instruction that the TAP holds selects and captures (R62, R63). -/
def tapCapture (s : State) (pins : Ball → Level3) : TapRegister :=
  match s.power.tap.instr with
  | .bypass => .bypass
  | .idcode => .idcode idcode
  | .samplePreload | .extest => .boundary (boundaryCells.map (ballLevel s pins))

/-- The TAP works while the device has power. -/
def tapWorks (s : State) : Bool := s.power.phase != .unpowered && !asleep s

/-- An instruction is loaded (R62). -/
def State.tapLoad (s : State) (i : TapInstr) : State := s.updPower (fun p => { p with tap := { p.tap with instr := i } })

/-- The boundary register has been shifted in and reaches the update latches, by PRELOAD or in EXTEST (R62). No row of
the table shifts (log 52). -/
def State.tapUpdate (s : State) (cells : BitVec 71) : State :=
  match s.power.tap.instr with
  | .samplePreload | .extest => s.updPower (fun p => { p with tap := { p.tap with latches := cells } })
  | .bypass | .idcode => s

/-- EXTEST_ENTRY (R63). -/
def execExtestEntry (s : State) : Host.Outcome State Fault Refusal :=
  run s fun s => s.guarded (tapWorks s) (fun s => s.tapLoad .extest)

/-- EXTEST_EXIT: the TAP holds the instruction that its reset loads (R63; log 52). -/
def execExtestExit (s : State) : Host.Outcome State Fault Refusal :=
  run s fun s => s.guarded (tapWorks s) (fun s => s.tapLoad .idcode)

-- measurement (R66)
/-- SUPPLY_VOLTAGE_UPDATE. -/
def supplyVoltage (vsup vio vexc : BitVec 16) (s : State) : State :=
  s.updPower (fun p => { p with vsupMv := vsup.toNat, vioMv := vio.toNat, vexcMv := vexc.toNat })

def execSupplyVoltageUpdate (vsup vio vexc : BitVec 16) (s : State) : Host.Outcome State Fault Refusal :=
  run s fun s => s.whenAlive (supplyVoltage vsup vio vexc)

end Sys2Proof.Machine
end

