-- ==== Sys2Proof/Machine/Write.lean ====
section
/-! DEFINITION. Accesses to the dictionary: the checks of a read and of a write at receipt and at
judgement, and what an accepted write does to each object (R365 to R383, R488). -/

namespace Sys2Proof.Machine

-- abort codes (R383)
def abortWriteRo : Nat := 0x06010002
def abortNoObject : Nat := 0x06020000
def abortNotMappable : Nat := 0x06040041
def abortTooLong : Nat := 0x06070012
def abortTooShort : Nat := 0x06070013
def abortNoSub : Nat := 0x06090011
def abortValue : Nat := 0x06090030
def abortGeneral : Nat := 0x08000000
def abortLocked : Nat := 0x08000021
def abortState : Nat := 0x08000022
def abortBusy : Nat := 0x08000024
def abortLevel : Nat := 0x08000025
def abortNoSlot : Nat := 0x08000026

def State.stopped (s : State) : Bool := s.power.phase == .stopped

-- reads
/-- Indices that are read while STOPPED (R488). -/
def readWhileStopped (i : Nat) : Bool := within i 0x1000 0x1FFF || i == 0x2000 || i == 0x2800 || i == 0x2A00 || i == 0x2B00

/-- The abort of a read, 0 for none (R379, R488, R495). -/
def readCheck (s : State) (i sub : Nat) : Nat :=
  if readAbort i sub ≠ 0 then readAbort i sub
  else if s.stopped && !readWhileStopped i then abortGeneral
  else if i = 0x2800 ∧ sub = 0x0F ∧ s.recd.dump.st = .writing then abortState
  else 0

/-- A read of the eMMC has gone well, so its failures so far do not count (R480). The read comes between two sector
writes (R475). -/
def State.windowRead (s : State) : State :=
  if noMedium s || decide (0 < s.recd.writing) then s else s.updRec (fun r => { r with failures := 0 })

/-- A read by a session. Reading AUTH_CHALLENGE issues a challenge (R428), the windows read the eMMC (R475, R495). -/
def State.readObject (s : State) (k : Fin 4) (i sub : Nat) : State × Nat × List Byte :=
  let a := readCheck s i sub
  if a ≠ 0 then (s, a, [])
  else
    let s1 := if i = 0x2B00 ∧ sub = 0x0E then s.issueChallenge k
      else if i = 0x2800 ∧ (sub = 0x09 ∨ sub = 0x0F) then s.windowRead else s
    (s1, 0, objBytes s1 (s1.net.sessions.get k) i sub)

-- checks of a write
/-- Check 5: the size of a write (R368). -/
def sizeAbort (o : ObjInfo) (len : Nat) : Nat :=
  if o.size < len then abortTooLong
  else if len < (if o.varLen then 1 else o.size) then abortTooShort else 0

/-- A mapping entry names an object that received (`rx`) or transmitted process data may map (R375);
an empty entry names none. -/
def mayMap (rx : Bool) (w : Nat) : Bool :=
  w == 0 || (match objInfo (field w 31 16) (field w 15 8) with
    | none => false
    | some o => if rx then o.access == .rw && o.cls == .live else o.access != .wo && !o.varLen)

/-- A write of an RPDO or TPDO mapping entry that R375 refuses, 0 for none (log 51). -/
def mapAbort (i sub v : Nat) : Nat :=
  if within i 0x1600 0x1607 && sub != 0 then (if mayMap true v then 0 else abortNotMappable)
  else if within i 0x1A00 0x1A0F && sub != 0 then (if mayMap false v then 0 else abortNotMappable)
  else 0

/-- Check 6: a value that the object's Meaning refuses, or an image that R440 refuses. -/
def valueAbort (i sub : Nat) (o : ObjInfo) (data : List Byte) : Nat :=
  if o.varLen then (if imageCheck data = (0, 0) then 0 else abortValue)
  else if valueRefused i sub (ofLe data) then abortValue else mapAbort i sub (ofLe data)

/-- Check 4: the level of the session (R12). -/
def levelAbort (o : ObjInfo) (x : Session) : Nat :=
  match o.access with
  | .rwa l => if levelCode x.level < levelCode l then abortLevel else 0
  | .ro | .rw | .wo | .const => 0

/-- The checks of R379 at receipt, with R488 between checks 3 and 4. `x` is the writing session, none
for process data, which may write only RW LIVE objects (R375). 0 for none. -/
def receiptAbort (s : State) (x : Option Session) (i sub : Nat) (data : List Byte) : Nat :=
  match objInfo i sub with
  | none => if idxPresent i then abortNoSub else abortNoObject
  | some o =>
    if o.access = .ro ∨ o.access = .const then abortWriteRo
    else if s.stopped && o.cls != .session then abortGeneral
    else
      let l := match x with
        | some v => levelAbort o v
        | none => if o.access = .rw ∧ o.cls = .live then 0 else abortNotMappable
      if l ≠ 0 then l
      else if sizeAbort o data.length ≠ 0 then sizeAbort o data.length
      else valueAbort i sub o data

/-- CFG_IMAGE refused for its structure reports its code (R440); no other refusal leaves a trace. -/
def State.receiptRefusal (s : State) (i sub : Nat) (data : List Byte) (abort : Nat) : State :=
  if i = 0x2900 ∧ sub = 0x0B ∧ abort = abortValue then s.imageRefused data else s

/-- Check 8 of R379. -/
def stateRefused (s : State) (i sub v : Nat) : Bool :=
  if within i 0x2200 0x222F && sub == 0x0B then
    (match finOf? 48 (i - 0x2200) with
      | some n => restoreRefused s n v
      | none => false)
  else if i == 0x2800 && sub == 0x0B then recCmdRefused s v
  else if i == 0x2900 && sub == 0x07 then cfgCmdRefused s v
  else if i == 0x2900 && sub == 0x08 then epochRefused s v
  else false

/-- Checks 7 and 8 of R379, at judgement. -/
def judgeAbort (s : State) (i sub v : Nat) : Nat :=
  match objInfo i sub with
  | none => abortNoObject
  | some o =>
    if o.cls == .staged && cfgLocked s then abortLocked
    else if stateRefused s i sub v then abortState else 0

/-- What a refusal for the device's state leaves: LOAD_SHADOW its code, FOUND its TOO_SMALL (R441, R477). -/
def State.judgeRefusal (s : State) (i sub v abort : Nat) : State :=
  if abort = abortState then
    (if i = 0x2900 ∧ sub = 0x07 then s.cfgCmdRefusal v
     else if i = 0x2800 ∧ sub = 0x0B then s.recCmdRefusal v else s)
  else s

-- what an accepted write does (R369, R370)
/-- 0x1003:00 (R385). -/
def State.clearHistory (s : State) : State :=
  { s with net := { s.net with emcy := { s.net.emcy with history := [] } } }

/-- A command or live value of 0x2300 (R296). -/
def State.permitWrite (s : State) (o : Origin) (sub v : Nat) : State :=
  if sub = 0x33 then s.inhibitWrite v
  else if sub = 0x34 then s.armWrite o v
  else if sub = 0x38 then s.lockoutWrite v
  else if sub = 0x4A then s.droptestWrite v
  else s

/-- CLF and EXC_HOLD (R75, R91). -/
def State.terminalWrite (s : State) (sub v : Nat) : State :=
  if within sub 0x81 0x86 then clfWrite (sub - 0x81) v s
  else if sub = 0x8E then holdWrite false v s
  else if sub = 0x8F then holdWrite true v s
  else s

/-- A live value or command of 0x2900 (R390). -/
def State.cfgWrite (s : State) (sub v : Nat) (data : List Byte) : State :=
  if sub = 0x06 then s.expectDigest v
  else if sub = 0x07 then s.cfgCommand v
  else if sub = 0x08 then s.epochWrite v
  else if sub = 0x0B then s.stageImage data
  else s

/-- RESTORE_CMD and DISTURB_CMD (R239). -/
def State.sectionWrite (s : State) (o : Origin) (n : Fin 48) (sub v : Nat) : State :=
  if sub = 0x0B then s.restoreWrite o n v else if sub = 0x0D then s.disturbWrite n else s

/-- What a write of a LIVE or COMMAND object does (R369, R370). -/
def State.liveWrite (s : State) (o : Origin) (i sub v : Nat) (data : List Byte) : State :=
  if i = 0x1003 then s.clearHistory
  else if i = 0x2000 ∧ sub = 0x18 then s.enterHibernate 0 (some o)
  else if within i 0x2100 0x211F then (finOf? 32 (i - 0x2100)).elim s (fun h => captureArm h v s)
  else if within i 0x2200 0x222F then (finOf? 48 (i - 0x2200)).elim s (fun n => s.sectionWrite o n sub v)
  else if i = 0x2300 then s.permitWrite o sub v
  else if within i 0x2500 0x2510 then s.engineWrite i sub v
  else if i = 0x2700 then s.terminalWrite sub v
  else if i = 0x2800 then (if sub = 0x0A then s.correlateWrite o v else s.recCommand o v)
  else if i = 0x2900 then s.cfgWrite sub v data
  else if i = 0x2A00 then (if sub = 0x0F then s.stopTestWrite else checkNow v s)
  else if i = 0x2B00 ∧ sub = 0x12 then s.installKey v
  else s

/-- An accepted write of any object but a SESSION object. -/
def State.applyWrite (s : State) (o : Origin) (i sub : Nat) (data : List Byte) : State :=
  match objInfo i sub with
  | none => s
  | some x => if x.inCfg && x.cls == .staged then s.stage i sub (ofLe data)
    else s.liveWrite o i sub (ofLe data) data

/-- A write of a SESSION object completes at receipt (R378). Answers the abort. SESSION_END acts when
its answer has been sent (R424). -/
def State.sessionWrite (s : State) (k : Fin 4) (i sub : Nat) (data : List Byte) : State × Nat :=
  let v := ofLe data
  if i = 0x2900 then (s.updSession k (fun x => { x with cfgView := v }), 0)
  else if i = 0x2800 then
    (s.updSession k (fun x => if sub = 0x08 then { x with readIndex := v } else { x with dumpOffset := v }), 0)
  else if sub = 0x0D then s.authRequest k v
  else if sub = 0x0F then (s.authResponse k data, 0)
  else (s, 0)

def isSessionEnd (i sub : Nat) : Bool := i == 0x2B00 && sub == 0x11

def isSessionObject (i sub : Nat) : Bool :=
  match objInfo i sub with
  | some o => o.cls == .session
  | none => false

-- judgement (R378 to R380)
/-- The abort of a held write at judgement: checks 7 and 8; process data pass the receipt checks here. -/
def heldAbort (s : State) (w : HeldWrite) : Nat :=
  let a := if w.isPd then receiptAbort s none w.index w.sub w.data else 0
  if a ≠ 0 then a else judgeAbort s w.index w.sub (ofLe w.data)

/-- A write to the same object that R380 prefers: a higher port, or the same one and received first.
Writes carry their place in the order of receipt. -/
def beats (c : CfgMap) (a b : HeldWrite × Nat) : Bool :=
  a.1.index == b.1.index && a.1.sub == b.1.sub &&
    (decide (portRank c a.1.by_.port < portRank c b.1.by_.port)
      || (portRank c a.1.by_.port == portRank c b.1.by_.port && decide (a.2 < b.2)))

/-- Refuse a held write. -/
def State.refuseWrite (s : State) (w : HeldWrite) (abort : Nat) : State :=
  (s.judgeRefusal w.index w.sub (ofLe w.data) abort).dropHeld w abort

/-- Refuse a write that another one beats: it counts in BUSY (R380, R392). -/
def State.refuseBusy (s : State) (w : HeldWrite) : State :=
  (if w.isPd then s else s.countBusy w.by_.port).refuseWrite w abortBusy

/-- Apply the write that R380 chose, unless one applied before it at this instant has taken its ground. -/
def State.grantWrite (s : State) (w : HeldWrite) : State :=
  if s.alive then
    let a := heldAbort s w
    if a ≠ 0 then s.refuseWrite w a
    else (s.answerHeld w 0).applyWrite w.by_ w.index w.sub w.data
  else s

/-- Judge writes that are judged together, in the order of receipt (R379, R380). -/
def State.judgePart (s : State) (ws : List (HeldWrite × Nat)) : State :=
  let ok := ws.filter (fun w => heldAbort s w.1 == 0)
  ws.foldl (fun acc w =>
    let a := heldAbort s w.1
    if a ≠ 0 then acc.refuseWrite w.1 a
    else if ok.any (fun x => beats s.cfg.active x w) then acc.refuseBusy w.1
    else acc.grantWrite w.1) s

/-- A held write is one to an object. -/
def heldFor (i sub : Nat) (w : HeldWrite) : Bool := w.index == i && w.sub == sub

/-- Judge the held writes to one object (R379, R380). -/
def State.judgeObject (s : State) (i sub : Nat) : State :=
  let mine := s.net.held.filter (heldFor i sub)
  let s1 : State := { s with net := { s.net with held := s.net.held.filter (fun w => !heldFor i sub w) } }
  s1.judgePart mine.zipIdx

-- rows that make one access (log 7)
/-- The answer of such a row. -/
def State.answer (s : State) (o : Origin) (i sub abort : Nat) : State := s.say (.answer o i sub abort)

/-- A request of a session restarts its timeout (R424). -/
def State.touch (s : State) (k : Fin 4) : State := s.updSession k (fun x => { x with lastAt := s.now })

/-- A write by session `k` at receipt: refused, completed when its object is a SESSION object, else held
(R378). Says whether it is held. -/
def State.takeWrite (s : State) (k : Fin 4) (x : Session) (i sub : Nat) (data : List Byte) : State × Bool :=
  let o := x.origin
  let a := receiptAbort s (some x) i sub data
  if a ≠ 0 then ((s.receiptRefusal i sub data a).answer o i sub a, false)
  else if isSessionObject i sub then
    let r := s.sessionWrite k i sub data
    let s1 := r.1.answer o i sub r.2
    (if isSessionEnd i sub then s1.endSession k else s1, false)
  else
    ({ s with net := { s.net with held := s.net.held ++
      [{ by_ := o, pos := 0, index := i, sub := sub, data := data, row := true }] } }, true)

/-- Receipt of a write row: the origin's session must be open (R373, R424) and have no write held (R381). -/
def State.rowReceive (s : State) (o : Origin) (i sub : Nat) (data : List Byte) : State × Bool :=
  if s.serving then
    match sessionSlot s o with
    | none => (s, false)
    | some k => match s.net.sessions.get k with
      | none => (s, false)
      | some x => if outstanding s x then ((s.touch k).say (.outstanding o i sub), false)
        else (s.touch k).takeWrite k x i sub data
  else (s, false)

/-- A row that is one whole write: its receipt, and its judgement with the held writes to the same object at
the tick instant that the row stands for (R378 to R380; log 7). -/
def State.rowWrite (s : State) (o : Origin) (i sub : Nat) (data : List Byte) : State :=
  let r := s.rowReceive o i sub data
  if r.2 then r.1.judgeObject i sub else r.1

/-- A read row; it is not acted on while a write of its session is held (R381). -/
def State.rowRead (s : State) (o : Origin) (i sub : Nat) : State :=
  if s.serving then
    match sessionSlot s o with
    | none => s
    | some k =>
      let r := (s.touch k).readObject k i sub
      if (s.net.sessions.get k).any (outstanding s) then (s.touch k).say (.outstanding o i sub)
      else if r.2.1 ≠ 0 then r.1.answer o i sub r.2.1 else r.1.say (.value o i sub r.2.2)
  else s

end Sys2Proof.Machine
end

