-- ==== Sys2Proof/Machine/WriteRows.lean ====
section
/-! DEFINITION. The rows that are one access to one object: each names its object and data; checks and
effects are those of Write.lean. GENERIC_WRITE holds its write for WRITE_JUDGEMENT; every other row is one
whole write, from its receipt to its judgement (log 7). -/

namespace Sys2Proof.Machine

/-- HIBERNATE_COMMAND: HIBERNATE_CMD (R51, R66). -/
def execHibernateCommand (o : Origin) (v : Nat) (s : State) : Host.Outcome State Fault Refusal :=
  run s fun s => s.rowWrite o 0x2000 0x18 (leBytes 2 v)

/-- CLF_CLEAR_WRITE: CLF_k, with the clamps as they are (R75, R95). -/
def execClfClearWrite (o : Origin) (k : Fin 6) (v : Nat) (live : BitVec 32) (s : State) : Host.Outcome State Fault Refusal :=
  run s fun s => (s.guarded s.serving (fun s => s.setClamps k live)).rowWrite o 0x2700 (0x81 + k.val) (leBytes 4 v)

/-- EXC_HOLD_WRITE: EXC_HOLD_0 or EXC_HOLD_1 (R91, R95). -/
def execExcHoldWrite (o : Origin) (high : Bool) (v : Nat) (s : State) : Host.Outcome State Fault Refusal :=
  run s fun s => s.rowWrite o 0x2700 (if high then 0x8F else 0x8E) (leBytes 4 v)

/-- CHECK_NOW (R146, R157). -/
def execCheckNow (o : Origin) (mask : Nat) (s : State) : Host.Outcome State Fault Refusal :=
  run s fun s => s.rowWrite o 0x2A00 0x3C (leBytes 4 mask)

/-- CAPTURE_CMD_ARM: CAPTURE_CMD of a head (R192, R195). -/
def execCaptureCmdArm (o : Origin) (h : Fin 32) (v : Nat) (s : State) : Host.Outcome State Fault Refusal :=
  run s fun s => s.rowWrite o (0x2100 + h.val) 0x13 (leBytes 1 v)

/-- RESTORE_REQUEST: RESTORE_CMD of a section (R234, R239). -/
def execRestoreRequest (o : Origin) (n : Fin 48) (v : Nat) (s : State) : Host.Outcome State Fault Refusal :=
  run s fun s => s.rowWrite o (0x2200 + n.val) 0x0B (leBytes 2 v)

/-- RESTORE_WITHDRAW: RESTORE_CMD of a section (R234, R239). -/
def execRestoreWithdraw (o : Origin) (n : Fin 48) (v : Nat) (s : State) : Host.Outcome State Fault Refusal :=
  run s fun s => s.rowWrite o (0x2200 + n.val) 0x0B (leBytes 2 v)

/-- DISTURB_CMD of a section (R230, R239). -/
def execDisturbCmd (o : Origin) (n : Fin 48) (v : Nat) (s : State) : Host.Outcome State Fault Refusal :=
  run s fun s => s.rowWrite o (0x2200 + n.val) 0x0D (leBytes 2 v)

/-- DROPTEST_CMD (R279, R296). -/
def execDroptestCmd (o : Origin) (mask : Nat) (s : State) : Host.Outcome State Fault Refusal :=
  run s fun s => s.rowWrite o 0x2300 0x4A (leBytes 2 mask)

/-- INHIBIT_WRITE (R272, R296). -/
def execInhibitWrite (o : Origin) (v : Nat) (s : State) : Host.Outcome State Fault Refusal :=
  run s fun s => s.rowWrite o 0x2300 0x33 (leBytes 2 v)

/-- LOCKOUT_CMD (R287, R296). -/
def execLockoutCmd (o : Origin) (mask : Nat) (s : State) : Host.Outcome State Fault Refusal :=
  run s fun s => s.rowWrite o 0x2300 0x38 (leBytes 2 mask)

/-- ACK_ARM (R292, R296). -/
def execAckArm (o : Origin) (v : Nat) (s : State) : Host.Outcome State Fault Refusal :=
  run s fun s => s.rowWrite o 0x2300 0x34 (leBytes 2 v)

/-- ACK_ARM_WITHDRAW: ACK_ARM (R292, R296). -/
def execAckArmWithdraw (o : Origin) (v : Nat) (s : State) : Host.Outcome State Fault Refusal :=
  run s fun s => s.rowWrite o 0x2300 0x34 (leBytes 2 v)

/-- MODE_CMD_FOLLOW: MODE_CMD = 1 (R320, R330). -/
def execModeCmdFollow (o : Origin) (s : State) : Host.Outcome State Fault Refusal :=
  run s fun s => s.rowWrite o 0x2500 0x04 (leBytes 1 1)

/-- MODE_CMD_HOLD: MODE_CMD = 2 (R320, R330). -/
def execModeCmdHold (o : Origin) (s : State) : Host.Outcome State Fault Refusal :=
  run s fun s => s.rowWrite o 0x2500 0x04 (leBytes 1 2)

/-- MODE_CMD_OFF: MODE_CMD = 0 (R320, R330). -/
def execModeCmdOff (o : Origin) (s : State) : Host.Outcome State Fault Refusal :=
  run s fun s => s.rowWrite o 0x2500 0x04 (leBytes 1 0)

/-- MODE_CMD_FADE: MODE_CMD = 3 (R320, R330). -/
def execModeCmdFade (o : Origin) (s : State) : Host.Outcome State Fault Refusal :=
  run s fun s => s.rowWrite o 0x2500 0x04 (leBytes 1 3)

/-- LAW_ENABLE_WRITE (R318, R326). -/
def execLawEnableWrite (o : Origin) (v : Nat) (s : State) : Host.Outcome State Fault Refusal :=
  run s fun s => s.rowWrite o 0x2500 0x07 (leBytes 2 v)

/-- LAW_RESET (R327). -/
def execLawReset (o : Origin) (mask : Nat) (s : State) : Host.Outcome State Fault Refusal :=
  run s fun s => s.rowWrite o 0x2500 0x08 (leBytes 2 mask)

/-- STOP_TEST_CMD (R361, R363). -/
def execStopTestCmd (o : Origin) (v : Nat) (s : State) : Host.Outcome State Fault Refusal :=
  run s fun s => s.rowWrite o 0x2A00 0x0F (leBytes 2 v)

/-- GENERIC_WRITE: any object; the write passes or fails its receipt, and is then held (R378, R379). -/
def execGenericWrite (o : Origin) (i sub : Nat) (data : List Byte) (s : State) : Host.Outcome State Fault Refusal :=
  run s fun s => (s.rowReceive o i sub data).1

/-- SESSION_END (R424). -/
def execSessionEnd (o : Origin) (v : Nat) (s : State) : Host.Outcome State Fault Refusal :=
  run s fun s => s.rowWrite o 0x2B00 0x11 (leBytes 1 v)

/-- AUTH_REQUEST (R428, R429). -/
def execAuthRequest (o : Origin) (level : Nat) (s : State) : Host.Outcome State Fault Refusal :=
  run s fun s => s.rowWrite o 0x2B00 0x0D (leBytes 1 level)

/-- AUTH_CHALLENGE: a read (R428). -/
def execAuthChallenge (o : Origin) (s : State) : Host.Outcome State Fault Refusal :=
  run s fun s => s.rowRead o 0x2B00 0x0E

/-- AUTH_RESPONSE (R428). -/
def execAuthResponse (o : Origin) (response : List Byte) (s : State) : Host.Outcome State Fault Refusal :=
  run s fun s => s.rowWrite o 0x2B00 0x0F response

/-- DEVICE_KEY (R427). -/
def execDeviceKey (o : Origin) (key : List Byte) (s : State) : Host.Outcome State Fault Refusal :=
  run s fun s => s.rowWrite o 0x2B00 0x12 key

/-- ERROR_HISTORY_CLEAR: 0x1003:00 (R385). -/
def execErrorHistoryClear (o : Origin) (v : Nat) (s : State) : Host.Outcome State Fault Refusal :=
  run s fun s => s.rowWrite o 0x1003 0x00 (leBytes 1 v)

/-- CFG_CMD CHECK (R441). -/
def execCfgCheck (o : Origin) (s : State) : Host.Outcome State Fault Refusal :=
  run s fun s => s.rowWrite o 0x2900 0x07 (leBytes 2 cmdCheck)

/-- CFG_CMD DISCARD (R441). -/
def execCfgDiscard (o : Origin) (s : State) : Host.Outcome State Fault Refusal :=
  run s fun s => s.rowWrite o 0x2900 0x07 (leBytes 2 cmdDiscard)

/-- CFG_CMD STORE (R441). -/
def execCfgStore (o : Origin) (s : State) : Host.Outcome State Fault Refusal :=
  run s fun s => s.rowWrite o 0x2900 0x07 (leBytes 2 cmdStore)

/-- CFG_CMD ACTIVATE (R441, R444). -/
def execCfgActivate (o : Origin) (s : State) : Host.Outcome State Fault Refusal :=
  run s fun s => s.rowWrite o 0x2900 0x07 (leBytes 2 cmdActivate)

/-- CFG_CMD ADOPT (R441, R445). -/
def execCfgAdopt (o : Origin) (s : State) : Host.Outcome State Fault Refusal :=
  run s fun s => s.rowWrite o 0x2900 0x07 (leBytes 2 cmdAdopt)

/-- CFG_CMD LOAD_SHADOW (R441). -/
def execCfgLoadShadow (o : Origin) (s : State) : Host.Outcome State Fault Refusal :=
  run s fun s => s.rowWrite o 0x2900 0x07 (leBytes 2 cmdLoadShadow)

/-- CFG_IMAGE_WRITE (R390, R440). -/
def execCfgImageWrite (o : Origin) (image : List Byte) (s : State) : Host.Outcome State Fault Refusal :=
  run s fun s => s.rowWrite o 0x2900 0x0B image

/-- EXPECTED_DIGEST_WRITE (R449). -/
def execExpectedDigestWrite (o : Origin) (v : Nat) (s : State) : Host.Outcome State Fault Refusal :=
  run s fun s => s.rowWrite o 0x2900 0x06 (leBytes 8 v)

/-- EPOCH_ARM: ACTIVATION_EPOCH (R450). -/
def execEpochArm (o : Origin) (v : Nat) (s : State) : Host.Outcome State Fault Refusal :=
  run s fun s => s.rowWrite o 0x2900 0x08 (leBytes 4 v)

/-- EPOCH_DISARM: ACTIVATION_EPOCH (R450). -/
def execEpochDisarm (o : Origin) (v : Nat) (s : State) : Host.Outcome State Fault Refusal :=
  run s fun s => s.rowWrite o 0x2900 0x08 (leBytes 4 v)

/-- CLEAR_CMD CLEAR (R477, R478). -/
def execRecClear (o : Origin) (s : State) : Host.Outcome State Fault Refusal :=
  run s fun s => s.rowWrite o 0x2800 0x0B (leBytes 2 recClearCode)

/-- CLEAR_CMD FOUND (R477, R479). -/
def execRecFound (o : Origin) (s : State) : Host.Outcome State Fault Refusal :=
  run s fun s => s.rowWrite o 0x2800 0x0B (leBytes 2 recFoundCode)

/-- CORRELATE (R389, R465). -/
def execCorrelate (o : Origin) (v : Nat) (s : State) : Host.Outcome State Fault Refusal :=
  run s fun s => s.rowWrite o 0x2800 0x0A (leBytes 8 v)

/-- READ_WINDOW: a read (R475). -/
def execReadWindow (o : Origin) (s : State) : Host.Outcome State Fault Refusal :=
  run s fun s => s.rowRead o 0x2800 0x09

/-- DUMP_WINDOW: a read (R495). -/
def execDumpWindow (o : Origin) (s : State) : Host.Outcome State Fault Refusal :=
  run s fun s => s.rowRead o 0x2800 0x0F

end Sys2Proof.Machine
end

