-- ==== Sys2Proof/Machine/Requests.lean ====
section
/-! DEFINITION. Requests of sessions: READ and WRITE datagrams, SDO requests and segments, and the SPI
frames that carry datagrams (R407 to R412, R417, R418). -/

namespace Sys2Proof.Machine

-- READ (R411)
/-- One item of a READ response. -/
def readBlock (it : ReadItem) (abort total : Nat) (data : List Byte) : List Byte :=
  leBytes 2 it.index ++ leBytes 1 it.sub ++ [0#8] ++ leBytes 4 abort ++ leBytes 4 total
    ++ leBytes 2 data.length ++ [0#8, 0#8] ++ data

/-- CFG_IMAGE is copied at OFFSET 0, and served from the copy at other offsets (R411). -/
def State.imageRead (s : State) (k : Fin 4) (it : ReadItem) (data : List Byte) : State × List Byte :=
  if it.index = 0x2900 ∧ it.sub = 0x0B then
    if it.offset = 0 then (s.updSession k (fun x => { x with imageCopy := data }), data)
    else (s, ((s.net.sessions.get k).map (fun x => x.imageCopy)).getD [])
  else (s, data)

/-- Read one item; `room` is what the body can still take of its data. -/
def State.readItem (s : State) (k : Fin 4) (it : ReadItem) (room : Nat) : State × List Byte :=
  let r := s.readObject k it.index it.sub
  if r.2.1 ≠ 0 then (r.1, readBlock it r.2.1 0 [])
  else
    let c := r.1.imageRead k it r.2.2
    (c.1, readBlock it 0 c.2.length ((c.2.drop it.offset).take (Nat.min it.maxlen room)))

/-- Read the items in order; each later item keeps room for its 16 bytes. -/
def State.readAll (s : State) (k : Fin 4) : List ReadItem → List Byte → State × List Byte
  | [], out => (s, out)
  | it :: rest, out =>
    let r := s.readItem k it (1488 - out.length - 16 * (rest.length + 1))
    r.1.readAll k rest (out ++ r.2)

/-- READ (R411). -/
def readRequest (h : Hdr) (items : List ReadItem) (s : State) : State :=
  s.request h 0x03 (fun k t =>
    let r := t.readAll k items []
    r.1.respond k 0x03 h.seq r.2)

def execReadItems (h : Hdr) (items : List ReadItem) (s : State) : Host.Outcome State Fault Refusal :=
  run s fun s => readRequest h items s

-- WRITE (R378, R412)
/-- A whole value reaches receipt. Answers the abort, or none when the write is held. -/
def State.receive (s : State) (k : Fin 4) (pos i sub : Nat) (data : List Byte) : State × Option Nat :=
  match s.net.sessions.get k with
  | none => (s, some abortGeneral)
  | some x =>
    let a := receiptAbort s (some x) i sub data
    if a ≠ 0 then (s.receiptRefusal i sub data a, some a)
    else if isSessionObject i sub then
      let r := s.sessionWrite k i sub data
      (r.1, some r.2)
    else
      ({ s with net := { s.net with held := s.net.held ++
        [{ by_ := x.origin, pos := pos, index := i, sub := sub, data := data }] } }, none)

/-- The transfer buffer of a session takes the part in position `pos` of a request. -/
def State.setBuffer (s : State) (k : Fin 4) (pos : Nat) (it : WriteItem) (data : List Byte) : State :=
  s.updSession k (fun x => { x with
    upIndex := it.index, upSub := it.sub, upTotal := it.total, upData := data
    upPos := (if it.offset = 0 then [] else x.upPos) ++ [pos] })

def State.emptyBuffer (s : State) (k : Fin 4) : State :=
  s.updSession k (fun x => { x with upTotal := 0, upData := [], upPos := [] })

/-- The bytes received with this part; none when its OFFSET is not the one expected (R412). -/
def partData (x : Session) (it : WriteItem) : Option (List Byte) :=
  if it.offset = 0 then some it.data
  else if x.upIndex = it.index ∧ x.upSub = it.sub ∧ x.upTotal = it.total ∧ it.offset = x.upData.length
  then some (x.upData ++ it.data) else none

/-- One item of a WRITE: whole when TOTAL is its LENGTH, else a part (R412). More bytes than TOTAL are refused like a
wrong OFFSET. -/
def State.writeItem (s : State) (k : Fin 4) (pos : Nat) (it : WriteItem) : State × Option Nat :=
  if it.data.length = it.total then s.receive k pos it.index it.sub it.data
  else match (s.net.sessions.get k).bind (fun x => partData x it) with
    | none => (s.emptyBuffer k, some abortValue)
    | some d =>
      if it.total < d.length then (s.emptyBuffer k, some abortValue)
      else if d.length = it.total then (s.emptyBuffer k).receive k pos it.index it.sub d
      else (s.setBuffer k pos it d, some 0)

/-- The items in order; those after a SESSION_END that was accepted are refused (R412). -/
def State.writeAll (s : State) (k : Fin 4) (pos : Nat) (ended : Bool) :
    List WriteItem → State × List (Nat × Nat × Option Nat) × Bool
  | [] => (s, [], ended)
  | it :: rest =>
    let r := if ended then (s, some abortState) else s.writeItem k pos it
    let e := ended || (isSessionEnd it.index it.sub && r.2 == some 0 && decide (it.data.length = it.total))
    let t := r.1.writeAll k (pos + 1) e rest
    (t.1, (it.index, it.sub, r.2) :: t.2.1, t.2.2)

/-- WRITE (R412): the response goes out now when no item is held. -/
def writeRequest (h : Hdr) (items : List WriteItem) (s : State) : State :=
  s.request h 0x04 (fun k t =>
    let r := (t.updSession k (fun x => { x with upPos := [] })).writeAll k 0 false items
    (r.1.updSession k (fun x => { x with request := some { seq := h.seq, items := r.2.1, endsSession := r.2.2 } })).closeRequest k)

def execWriteItems (h : Hdr) (items : List WriteItem) (s : State) : Host.Outcome State Fault Refusal :=
  run s fun s => writeRequest h items s

-- SDO (R373, R399, R407)
/-- Bytes that an expedited transfer and a segment carry (CiA 301, CiA 1301; log 16). -/
def expeditedMax (c : CfgMap) (p : CanPort) : Nat := if canFd c p then 56 else 4
def segmentMax (c : CfgMap) (p : CanPort) : Nat := if canFd c p then 56 else 7

/-- A server channel is served on a port: SDO set, its COB-IDs valid, and an NMT state that serves SDO
(R398, R399, R401). A request reaches the channel whose COB-ID from the client it carries (R503). -/
def sdoServed (s : State) (p : CanPort) (k : Fin 4) : Bool :=
  canTakes s p && canSdo s.cfg.active p && (s.net.can.get (canIdx p)).nmt != .stopped
    && !bitOf (sdoRequestCob s.cfg.active p k) 31 && !bitOf (sdoResponseCob s.cfg.active p k) 31

/-- The session of a server channel, on either port. -/
def channelSession (s : State) (k : Fin 4) : Option (CanPort × Fin 4) :=
  match sessionSlot s ⟨.cana, k.val + 1⟩, sessionSlot s ⟨.canb, k.val + 1⟩ with
  | some j, _ => some (.a, j)
  | none, some j => some (.b, j)
  | none, none => none

def State.putXfer (s : State) (k : Fin 4) (x : Option SdoXfer) : State :=
  { s with net := { s.net with xfer := s.net.xfer.put k x } }

/-- Answer a transfer with an abort and drop it. -/
def State.abortXfer (s : State) (p : CanPort) (k : Fin 4) (i sub abort : Nat) : State :=
  (s.putXfer k none).sdoAnswer p k i sub abort []

/-- A whole value written over SDO; a held write is answered at its judgement (R378). `j` is the
session's slot. -/
def State.sdoWrite (s : State) (p : CanPort) (k j : Fin 4) (i sub : Nat) (data : List Byte) : State :=
  let r := s.receive j 0 i sub data
  match r.2 with
  | none => r.1
  | some a =>
    let s1 := r.1.sdoAnswer p k i sub a []
    if a = 0 ∧ isSessionEnd i sub = true then s1.endSession j else s1

/-- A read over SDO: expedited, or the first answer of a segmented transfer with its size (R407). -/
def State.sdoRead (s : State) (p : CanPort) (k j : Fin 4) (i sub : Nat) : State :=
  let r := s.readObject j i sub
  let d := r.2.2
  if r.2.1 ≠ 0 then r.1.abortXfer p k i sub r.2.1
  else if d.length ≤ expeditedMax s.cfg.active p then (r.1.putXfer k none).sdoAnswer p k i sub 0 d
  else
    (r.1.putXfer k (some { port := p, index := i, sub := sub, writing := false, total := d.length, data := d
                           toggle := false, lastAt := s.now })).sdoAnswer p k i sub 0 (leBytes 4 d.length)

/-- A segment of a read (R407). -/
def State.sdoReadSegment (s : State) (p : CanPort) (k : Fin 4) (t : SdoXfer) (toggle : Bool) : State :=
  if t.writing then s.abortXfer p k t.index t.sub 0x05040001
  else if toggle != t.toggle then s.abortXfer p k t.index t.sub 0x05030000
  else
    let n := segmentMax s.cfg.active p
    let rest := t.data.drop n
    (s.putXfer k (if rest.isEmpty then none else some { t with data := rest, toggle := !t.toggle, lastAt := s.now })).sdoAnswer
      p k t.index t.sub 0 (t.data.take n)

/-- A segment of a write; the last one brings the value to receipt (R378, R407). -/
def State.sdoWriteSegment (s : State) (p : CanPort) (k j : Fin 4) (t : SdoXfer) (toggle : Bool) (data : List Byte)
    (last : Bool) : State :=
  let d := t.data ++ data
  if !t.writing then s.abortXfer p k t.index t.sub 0x05040001
  else if toggle != t.toggle then s.abortXfer p k t.index t.sub 0x05030000
  else if t.total < d.length then s.abortXfer p k t.index t.sub abortTooLong
  else if last then
    (if d.length < t.total then s.abortXfer p k t.index t.sub abortTooShort
     else (s.putXfer k none).sdoWrite p k j t.index t.sub d)
  else (s.putXfer k (some { t with data := d, toggle := !t.toggle, lastAt := s.now })).sdoAnswer p k t.index t.sub 0 []

/-- Longest value that a segmented write can bring: the largest object. -/
def xferMax : Nat := 65536

/-- A request on a channel whose session is `j` (R407). -/
def State.sdoServe (s : State) (p : CanPort) (k j : Fin 4) (r : SdoReq) : State :=
  match r, s.net.xfer.get k with
  | .read i sub, _ => s.sdoRead p k j i sub
  | .write i sub d, _ => (s.putXfer k none).sdoWrite p k j i sub d
  | .beginWrite i sub total, _ =>
    if xferMax < total then s.abortXfer p k i sub 0x05040005
    else (s.putXfer k (some { port := p, index := i, sub := sub, writing := true, total := total, data := []
                              toggle := false, lastAt := s.now })).sdoAnswer p k i sub 0 []
  | .writeSegment t d l, some x => s.sdoWriteSegment p k j x t d l
  | .readSegment t, some x => s.sdoReadSegment p k x t
  | .writeSegment _ _ _, none | .readSegment _, none | .unknown, none => s.sdoAnswer p k 0 0 0x05040001 []
  | .unknown, some x => s.abortXfer p k x.index x.sub 0x05040001
  | .abort, _ => s.putXfer k none

/-- Object that an SDO request names; a segment names that of its transfer. -/
def sdoObject : SdoReq → Nat × Nat
  | .read i sub | .write i sub _ | .beginWrite i sub _ => (i, sub)
  | .writeSegment _ _ _ | .readSegment _ | .abort | .unknown => (0, 0)

/-- Open the session of a server channel (R373, R426). -/
def State.openChannel (s : State) (p : CanPort) (k j : Fin 4) : State :=
  s.openAt j { port := canPortId p, number := k.val + 1, peer := 0, lastAt := s.now }

/-- SDO_REQUEST (R373, R407). -/
def sdoRequest (p : CanPort) (k : Fin 4) (r : SdoReq) (s : State) : State :=
  let o := sdoObject r
  match channelSession s k with
  | some c =>
    if c.1 = p then (s.touch c.2).sdoServe p k c.2 r
    else if r = .abort then s else s.sdoAnswer p k o.1 o.2 abortState []
  | none =>
    if r = .abort then s
    else match freeSession s with
      | none => s.refuseSession.sdoAnswer p k o.1 o.2 abortNoSlot []
      | some j => (s.openChannel p k j).sdoServe p k j r

def execSdoRequest (p : CanPort) (k : Fin 4) (r : SdoReq) (s : State) : Host.Outcome State Fault Refusal :=
  run s fun s => s.guarded (sdoServed s p k) (sdoRequest p k r)

/-- SDO_SEGMENT_TIMEOUT (R407). -/
def sdoSegmentTimeout (k : Fin 4) (s : State) : State :=
  match s.net.xfer.get k with
  | none => s
  | some t => (s.reach (t.lastAt + sec 1)).abortXfer t.port k t.index t.sub 0x05040000

def execSdoSegmentTimeout (k : Fin 4) (s : State) : Host.Outcome State Fault Refusal :=
  run s fun s => s.guarded s.serving (sdoSegmentTimeout k)

-- SPI frames (R408 to R412, R417)
/-- Items of a READ body; none when the layout is not valid (R411). -/
def parseReads : Nat → List Byte → Option (List ReadItem)
  | 0, bs => if bs.isEmpty then some [] else none
  | n + 1, bs =>
    if bs.isEmpty then some []
    else if bs.length < 10 then none
    else (parseReads n (bs.drop 10)).map (fun rest =>
      { index := ofLe (bs.take 2), sub := ofLe ((bs.drop 2).take 1), offset := ofLe ((bs.drop 4).take 4)
        maxlen := ofLe ((bs.drop 8).take 2) } :: rest)

/-- Items of a WRITE body; none when the layout is not valid (R412). -/
def parseWrites : Nat → List Byte → Option (List WriteItem)
  | 0, bs => if bs.isEmpty then some [] else none
  | n + 1, bs =>
    if bs.isEmpty then some []
    else
      let len := ofLe ((bs.drop 12).take 2)
      if bs.length < 16 + len then none
      else (parseWrites n (bs.drop (16 + len))).map (fun rest =>
        { index := ofLe (bs.take 2), sub := ofLe ((bs.drop 2).take 1), offset := ofLe ((bs.drop 4).take 4)
          total := ofLe ((bs.drop 8).take 4), data := (bs.drop 16).take len } :: rest)

/-- Take a datagram of the SPI port (R408 to R412, R419): `bs` starts with its header, and its LENGTH is
that of the body. -/
def State.takeDatagram (s : State) (bs : List Byte) : State :=
  let typ := ofLe ((bs.drop 1).take 1)
  let h : Hdr := { port := .spi, session := ofLe ((bs.drop 2).take 1), seq := ofLe ((bs.drop 4).take 2) }
  let body := bs.drop 12
  let bad := malformed h typ .badHeader s
  if ofLe (bs.take 1) ≠ 1 then malformed h typ .badVersion s
  else if 1488 < body.length then bad
  else if typ = 0x01 then
    (if body.length ≠ 4 then bad
     else if bitOf (ofLe (body.take 1)) 0 then openTakeover h (ofLe ((body.drop 1).take 1)) s else openPlain h s)
  else if typ = 0x02 then (if body.isEmpty then closeSession h s else bad)
  else if typ = 0x03 then
    (match parseReads 32 body with
      | some (x :: xs) => readRequest h (x :: xs) s
      | _ => bad)
  else if typ = 0x04 then
    (match parseWrites 32 body with
      | some (x :: xs) => writeRequest h (x :: xs) s
      | _ => bad)
  else if typ = 0x05 then (if body.isEmpty then nopRequest h s else bad)
  else malformed h typ .badType s

/-- A host frame is discarded (R417, R422). -/
def State.spiCrcError (s : State) : State :=
  s.updPort .spi (fun x => { x with seq := { x.seq with crcErrors := satInc 255 x.seq.crcErrors } })

/-- The last four bytes of a list are the CRC-32C of the others (R417). -/
def crcOk (bs : List Byte) : Bool :=
  decide (4 ≤ bs.length) && ofLe (bs.drop (bs.length - 4)) == crc32c (bs.take (bs.length - 4))

/-- SPI_FRAME_RECEIVED (R410, R417): `bytes` are the host's bytes of the transaction. A host that has no
frame sends 0x00. -/
def spiFrame (bytes : List Byte) (s : State) : State :=
  if ofLe (bytes.take 1) = 0 then s
  else if ofLe (bytes.take 1) ≠ 0xA5 then s.spiCrcError
  else if bytes.length < 17 then (if crcOk bytes then s else s.spiCrcError)
  else
    let n := ofLe ((bytes.drop 9).take 2)
    if bytes.length < 17 + n then s.spiCrcError
    else if crcOk (bytes.take (17 + n)) then s.takeDatagram ((bytes.take (13 + n)).drop 1)
    else s.spiCrcError

def execSpiFrameReceived (bytes : List Byte) (s : State) : Host.Outcome State Fault Refusal :=
  run s fun s => s.guarded s.serving (spiFrame bytes)

/-- SPI_FRAME_CRC_ERROR (R417). -/
def execSpiFrameCrcError (s : State) : Host.Outcome State Fault Refusal :=
  run s fun s => s.guarded s.serving State.spiCrcError

/-- The header of a device datagram and its body (R408). -/
def datagramBytes (d : Datagram) : List Byte :=
  leBytes 1 1 ++ leBytes 1 d.typ ++ leBytes 1 d.session ++ leBytes 1 d.status ++ leBytes 2 d.seq ++ leBytes 2 d.ref
    ++ leBytes 2 d.body.length ++ leBytes 2 d.tick ++ d.body

/-- A device frame on SPI: preamble, datagram, CRC-32C (R417). -/
def deviceFrame (d : Datagram) : List Byte :=
  let bs := 0x5A#8 :: datagramBytes d
  bs ++ leBytes 4 (crc32c bs)

/-- SPI_ATTNn is low while the queue holds a frame (R417). -/
def spiAttnLow (s : State) : Bool := !s.net.spiQueue.isEmpty

/-- SPI_FRAME_DELIVERED: the oldest frame has been clocked out; a last response has now been delivered
(R417, R423). TICK is that of the instant at which the frame goes out (R408, R420). -/
def spiDelivered (s : State) : State :=
  match s.net.spiQueue with
  | [] => s
  | d :: rest =>
    let s1 : State := { s with net := { s.net with spiQueue := rest } }
    let out : Datagram := { d with tick := s.net.pdSeq % 65536 }
    (((allFin 4).foldl (fun acc k => acc.updSession k (fun x =>
      if x.port == .spi && x.lastRsp == some d then { x with lastDelivered := true } else x)) s1).say
        (.datagram .spi out)).say (.spiFrame (deviceFrame out))

def execSpiFrameDelivered (s : State) : Host.Outcome State Fault Refusal :=
  run s fun s => s.guarded s.serving spiDelivered

end Sys2Proof.Machine
end

