-- ==== Sys2Proof/Machine/Ticks.lean ====
section
/-! DEFINITION. Tick instants: the judgement of held writes, the tick of the moment engine, its overrun,
and what is sent at a tick (R315, R316, R322 to R324, R378 to R381, R402, R403, R451). -/

namespace Sys2Proof.Machine

-- judgement (R378 to R380)
/-- A staged object, and HIBERNATE_CMD, which is carried out last. -/
def heldStaged (w : HeldWrite) : Bool :=
  match objInfo w.index w.sub with
  | some o => o.cls == .staged
  | none => false

def heldHibernate (w : HeldWrite) : Bool := w.index == 0x2000 && w.sub == 0x18

/-- Judge all held writes: staged writes before CFG_CMD, whatever their order (R315, R442). -/
def State.judgeAll (s : State) : State :=
  let ws := s.net.held.zipIdx
  let s1 : State := { s with net := { s.net with held := [] } }
  let s2 := s1.judgePart (ws.filter (fun w => heldStaged w.1))
  let s3 := s2.judgePart (ws.filter (fun w => !heldStaged w.1 && !heldHibernate w.1))
  s3.judgePart (ws.filter (fun w => heldHibernate w.1))

-- tick instants
/-- A tick instant (R315, R403): `timer` when the internal timer gives it. `pdSeq` counts it. -/
def State.tickInstant (s : State) (timer : Bool) : State :=
  let s0 := if timer then s.reach (s.engine.tickAt + tickNs s.cfg.active) else s
  { s0 with
    engine := { s0.engine with tickAt := s0.now }
    net := { s0.net with pdSeq := s0.net.pdSeq + 1, tickOpen := true } }

/-- Ticks come from the internal timer: by TICK_SRC, or while SYNC is lost (R316). -/
def timerTicks (s : State) : Bool := (tickPort s.cfg.active).isNone || s.engine.flags.syncLost

/-- WRITE_JUDGEMENT (R378, R380). -/
def writeJudgement (s : State) : State := (s.tickInstant (timerTicks s)).judgeAll

def execWriteJudgement (s : State) : Host.Outcome State Fault Refusal := run s fun s => s.whenAlive writeJudgement

/-- A SYNC is received on a port: enabled, SYNC_RX on Ethernet, not bus-off (R398, R401, R415). -/
def syncReceived (s : State) (p : PortId) : Bool :=
  match p with
  | .cana => canTakes s .a
  | .canb => canTakes s .b
  | .eta => ethEnabled s.cfg.active .a && ethSyncRx s.cfg.active .a
  | .etb => ethEnabled s.cfg.active .b && ethSyncRx s.cfg.active .b
  | .spi => false

/-- The source gives a tick (R315, R316). -/
def tickFrom (s : State) (src : TickSource) : Bool :=
  match src with
  | .timer => timerTicks s
  | .sync p _ _ => tickPort s.cfg.active == some p && syncReceived s p

/-- What a SYNC brings besides its tick: its SEQ on ETA and ETB, the end of SYNC_LOST, and its counter
(R316, R420, R451). -/
def State.takeSync (s : State) (src : TickSource) : State :=
  match src with
  | .timer => s
  | .sync p counter seq =>
    let s1 := if isEth p && syncReceived s p then s.hostPd p seq else s
    if tickFrom s src then
      let s2 : State := { s1 with engine := { s1.engine with
        syncAt := s1.now, flags := { s1.engine.flags with syncLost := false } } }
      s2.epochSync (if cfgGet s2.cfg.active 0x1019 0 = 0 then none else counter)
    else s1

/-- The tick instant of a tick, unless a judgement has begun it already. -/
def State.openInstant (s : State) (src : TickSource) : State :=
  let s1 := if s.net.tickOpen then s else s.tickInstant (src == .timer)
  { s1 with net := { s1.net with tickOpen := false } }

/-- What is sent at a tick, committed or not: SYNC at the tick instant, and after it the synchronous TPDOs with the
values of the previous committed tick (R315, R402, R403). -/
def State.sendAtTick (s : State) : State :=
  let s1 := s.produceSync
  let l := syncTpdos s1
  if l.isEmpty then s1 else s1.sendTpdos l

/-- One tick: within ALLOWANCE it commits, else it overruns (R315, R323). -/
def State.runTick (s : State) (src : TickSource) (cycles : Nat) : State :=
  let s1 := ((s.openInstant src).takeSync src).sendAtTick
  if allowance s1.cfg.active < cycles then { s1 with engine := engineOverrun s1.engine }
  else s1.engineTick s1.net.pdSeq cycles

/-- TICK (R315). A SYNC that is no tick still counts its SEQ. -/
def tick (src : TickSource) (cycles : Nat) (s : State) : State :=
  if tickFrom s src then s.runTick src cycles else s.takeSync src

def execTick (src : TickSource) (cycles : Nat) (s : State) : Host.Outcome State Fault Refusal :=
  run s fun s => s.whenAlive (tick src cycles)

/-- TICK_OVERRUN (R323). -/
def tickOverrun (src : TickSource) (_cycles : Nat) (s : State) : State :=
  if tickFrom s src then
    let s1 := ((s.openInstant src).takeSync src).sendAtTick
    { s1 with engine := engineOverrun s1.engine }
  else s.takeSync src

def execTickOverrun (src : TickSource) (cycles : Nat) (s : State) : Host.Outcome State Fault Refusal :=
  run s fun s => s.whenAlive (tickOverrun src cycles)

/-- WARMUP_END: the committed tick at which WARMUP ticks have passed (R322). -/
def warmupEnd (src : TickSource) (cycles : Nat) (s : State) : State :=
  if s.engine.warming && s.engine.warmLeft == 1 && decide (cycles ≤ allowance s.cfg.active) then tick src cycles s else s

def execWarmupEnd (src : TickSource) (cycles : Nat) (s : State) : Host.Outcome State Fault Refusal :=
  run s fun s => s.whenAlive (warmupEnd src cycles)

end Sys2Proof.Machine
end

