-- ==== Sys2Proof/Machine/Dispatch.lean ====
section
/-! DEFINITION. Which command has which meaning: one arm per constructor of `Instr`. -/

namespace Sys2Proof.Machine

def exec (i : Instr) (s : State) : Host.Outcome State Fault Refusal :=
  match i with
  | .resetnLow => Sys2Proof.Machine.execResetnLow s
  | .brownout x => Sys2Proof.Machine.execBrownout x s
  | .supplyRelease x => Sys2Proof.Machine.execSupplyRelease x s
  | .boot => Sys2Proof.Machine.execBoot s
  | .bootPllLockTimeout => Sys2Proof.Machine.execBootPllLockTimeout s
  | .vexcLowSet => Sys2Proof.Machine.execVexcLowSet s
  | .vexcLowClear => Sys2Proof.Machine.execVexcLowClear s
  | .clkinMissing => Sys2Proof.Machine.execClkinMissing s
  | .clockFreqError => Sys2Proof.Machine.execClockFreqError s
  | .pllLockLoss => Sys2Proof.Machine.execPllLockLoss s
  | .hibernateCommand x y => Sys2Proof.Machine.execHibernateCommand x y s
  | .stbynLowQualified => Sys2Proof.Machine.execStbynLowQualified s
  | .stbyStuckSet => Sys2Proof.Machine.execStbyStuckSet s
  | .stbyStuckClear => Sys2Proof.Machine.execStbyStuckClear s
  | .wake x => Sys2Proof.Machine.execWake x s
  | .stbynRiseWake x y => Sys2Proof.Machine.execStbynRiseWake x y s
  | .hibernateSupplyLoss => Sys2Proof.Machine.execHibernateSupplyLoss s
  | .clampFlagSet x y => Sys2Proof.Machine.execClampFlagSet x y s
  | .clfClearWrite x y z w => Sys2Proof.Machine.execClfClearWrite x y z w s
  | .excHoldWrite x y z => Sys2Proof.Machine.execExcHoldWrite x y z s
  | .excStart x => Sys2Proof.Machine.execExcStart x s
  | .excRampComplete x => Sys2Proof.Machine.execExcRampComplete x s
  | .excStop x => Sys2Proof.Machine.execExcStop x s
  | .excDischargeComplete x => Sys2Proof.Machine.execExcDischargeComplete x s
  | .excDischargeTimeout x => Sys2Proof.Machine.execExcDischargeTimeout x s
  | .complianceSet x => Sys2Proof.Machine.execComplianceSet x s
  | .complianceClear x => Sys2Proof.Machine.execComplianceClear x s
  | .unsettledSpanEnd x => Sys2Proof.Machine.execUnsettledSpanEnd x s
  | .channelOutputSample x y => Sys2Proof.Machine.execChannelOutputSample x y s
  | .slotClose x y => Sys2Proof.Machine.execSlotClose x y s
  | .fitLost x => Sys2Proof.Machine.execFitLost x s
  | .overspeed x y => Sys2Proof.Machine.execOverspeed x y s
  | .wreCauseClear x => Sys2Proof.Machine.execWreCauseClear x s
  | .triggerEvent x y z => Sys2Proof.Machine.execTriggerEvent x y z s
  | .traversalVerdict x y => Sys2Proof.Machine.execTraversalVerdict x y s
  | .groupGapTimeout x => Sys2Proof.Machine.execGroupGapTimeout x s
  | .trackerWindowUpdate => Sys2Proof.Machine.execTrackerWindowUpdate s
  | .predictionFailed x => Sys2Proof.Machine.execPredictionFailed x s
  | .trackerFullClear => Sys2Proof.Machine.execTrackerFullClear s
  | .bellringerStep => Sys2Proof.Machine.execBellringerStep s
  | .overloadForcedChange x => Sys2Proof.Machine.execOverloadForcedChange x s
  | .rangeFinerRequest x => Sys2Proof.Machine.execRangeFinerRequest x s
  | .guardCauseRaised x y => Sys2Proof.Machine.execGuardCauseRaised x y s
  | .guardCauseDropped x y => Sys2Proof.Machine.execGuardCauseDropped x y s
  | .checkRequestDue x => Sys2Proof.Machine.execCheckRequestDue x s
  | .freeChannelCheckDue x => Sys2Proof.Machine.execFreeChannelCheckDue x s
  | .checkNow x y => Sys2Proof.Machine.execCheckNow x y s
  | .guardCheckEnd x y => Sys2Proof.Machine.execGuardCheckEnd x y s
  | .testStarvedSet x => Sys2Proof.Machine.execTestStarvedSet x s
  | .rebaseRequest x => Sys2Proof.Machine.execRebaseRequest x s
  | .rebaseComplete x => Sys2Proof.Machine.execRebaseComplete x s
  | .captureCmdArm x y z => Sys2Proof.Machine.execCaptureCmdArm x y z s
  | .tallyCycle x => Sys2Proof.Machine.execTallyCycle x s
  | .clearDelayExpiry x => Sys2Proof.Machine.execClearDelayExpiry x s
  | .restoreRequest x y z => Sys2Proof.Machine.execRestoreRequest x y z s
  | .restoreWithdraw x y z => Sys2Proof.Machine.execRestoreWithdraw x y z s
  | .restoreExpiry x => Sys2Proof.Machine.execRestoreExpiry x s
  | .disturbCmd x y z => Sys2Proof.Machine.execDisturbCmd x y z s
  | .dropElapsed x => Sys2Proof.Machine.execDropElapsed x s
  | .droptestCmd x y => Sys2Proof.Machine.execDroptestCmd x y s
  | .readbackFault x => Sys2Proof.Machine.execReadbackFault x s
  | .tallyStall => Sys2Proof.Machine.execTallyStall s
  | .inhibitWrite x y => Sys2Proof.Machine.execInhibitWrite x y s
  | .lockoutCmd x y => Sys2Proof.Machine.execLockoutCmd x y s
  | .ackDebouncedEdge x => Sys2Proof.Machine.execAckDebouncedEdge x s
  | .ackStuckSet => Sys2Proof.Machine.execAckStuckSet s
  | .ackHighQualified => Sys2Proof.Machine.execAckHighQualified s
  | .ackArm x y => Sys2Proof.Machine.execAckArm x y s
  | .ackArmWithdraw x y => Sys2Proof.Machine.execAckArmWithdraw x y s
  | .ackArmExpiry => Sys2Proof.Machine.execAckArmExpiry s
  | .tick x y => Sys2Proof.Machine.execTick x y s
  | .tickOverrun x y => Sys2Proof.Machine.execTickOverrun x y s
  | .syncLost => Sys2Proof.Machine.execSyncLost s
  | .warmupEnd x y => Sys2Proof.Machine.execWarmupEnd x y s
  | .modeCmdFollow x => Sys2Proof.Machine.execModeCmdFollow x s
  | .modeCmdHold x => Sys2Proof.Machine.execModeCmdHold x s
  | .modeCmdOff x => Sys2Proof.Machine.execModeCmdOff x s
  | .modeCmdFade x => Sys2Proof.Machine.execModeCmdFade x s
  | .lawEnableWrite x y => Sys2Proof.Machine.execLawEnableWrite x y s
  | .lawReset x y => Sys2Proof.Machine.execLawReset x y s
  | .reeveCompare x y z w => Sys2Proof.Machine.execReeveCompare x y z w s
  | .delayParityError x y z => Sys2Proof.Machine.execDelayParityError x y z s
  | .scrubRead x => Sys2Proof.Machine.execScrubRead x s
  | .pulseTimeout => Sys2Proof.Machine.execPulseTimeout s
  | .stopTestCmd x y => Sys2Proof.Machine.execStopTestCmd x y s
  | .debugRequest x => Sys2Proof.Machine.execDebugRequest x s
  | .debugExit => Sys2Proof.Machine.execDebugExit s
  | .fatalHandlerEntry => Sys2Proof.Machine.execFatalHandlerEntry s
  | .dumpWriteDone x => Sys2Proof.Machine.execDumpWriteDone x s
  | .dumpTimeout x => Sys2Proof.Machine.execDumpTimeout x s
  | .sdoRequest x y z => Sys2Proof.Machine.execSdoRequest x y z s
  | .sdoSegmentTimeout x => Sys2Proof.Machine.execSdoSegmentTimeout x s
  | .writeJudgement => Sys2Proof.Machine.execWriteJudgement s
  | .genericWrite x y z w => Sys2Proof.Machine.execGenericWrite x y z w s
  | .nmtStart x => Sys2Proof.Machine.execNmtStart x s
  | .nmtStop x => Sys2Proof.Machine.execNmtStop x s
  | .nmtEnterPreoperational x => Sys2Proof.Machine.execNmtEnterPreoperational x s
  | .nmtResetCommunication x => Sys2Proof.Machine.execNmtResetCommunication x s
  | .rpdoReceived x y z => Sys2Proof.Machine.execRpdoReceived x y z s
  | .rpdoTimeout x y => Sys2Proof.Machine.execRpdoTimeout x y s
  | .tpdoEventTimer x => Sys2Proof.Machine.execTpdoEventTimer x s
  | .srdoRefresh x => Sys2Proof.Machine.execSrdoRefresh x s
  | .heartbeatSend x => Sys2Proof.Machine.execHeartbeatSend x s
  | .hbConsumerMiss x y => Sys2Proof.Machine.execHbConsumerMiss x y s
  | .canErrorPassive x y => Sys2Proof.Machine.execCanErrorPassive x y s
  | .busOffRecovery x => Sys2Proof.Machine.execBusOffRecovery x s
  | .openPlain x => Sys2Proof.Machine.execOpenPlain x s
  | .openTakeover x y => Sys2Proof.Machine.execOpenTakeover x y s
  | .closeSession x => Sys2Proof.Machine.execCloseSession x s
  | .readItems x y => Sys2Proof.Machine.execReadItems x y s
  | .writeItems x y => Sys2Proof.Machine.execWriteItems x y s
  | .nopRequest x => Sys2Proof.Machine.execNopRequest x s
  | .pdHost x y z w => Sys2Proof.Machine.execPdHost x y z w s
  | .spiFrameReceived x => Sys2Proof.Machine.execSpiFrameReceived x s
  | .spiFrameCrcError => Sys2Proof.Machine.execSpiFrameCrcError s
  | .spiFrameDelivered => Sys2Proof.Machine.execSpiFrameDelivered s
  | .sessionTimeout x => Sys2Proof.Machine.execSessionTimeout x s
  | .sessionEnd x y => Sys2Proof.Machine.execSessionEnd x y s
  | .authRequest x y => Sys2Proof.Machine.execAuthRequest x y s
  | .authChallenge x => Sys2Proof.Machine.execAuthChallenge x s
  | .authResponse x y => Sys2Proof.Machine.execAuthResponse x y s
  | .authChallengeExpiry x => Sys2Proof.Machine.execAuthChallengeExpiry x s
  | .authLockoutEnd x => Sys2Proof.Machine.execAuthLockoutEnd x s
  | .deviceKey x y => Sys2Proof.Machine.execDeviceKey x y s
  | .errorHistoryClear x y => Sys2Proof.Machine.execErrorHistoryClear x y s
  | .cfgCheck x => Sys2Proof.Machine.execCfgCheck x s
  | .cfgCheckDone => Sys2Proof.Machine.execCfgCheckDone s
  | .cfgDiscard x => Sys2Proof.Machine.execCfgDiscard x s
  | .cfgStore x => Sys2Proof.Machine.execCfgStore x s
  | .cfgStoreDone x => Sys2Proof.Machine.execCfgStoreDone x s
  | .cfgActivate x => Sys2Proof.Machine.execCfgActivate x s
  | .activationEffect x => Sys2Proof.Machine.execActivationEffect x s
  | .cfgAdopt x => Sys2Proof.Machine.execCfgAdopt x s
  | .cfgAdoptDone x => Sys2Proof.Machine.execCfgAdoptDone x s
  | .cfgLoadShadow x => Sys2Proof.Machine.execCfgLoadShadow x s
  | .cfgImageWrite x y => Sys2Proof.Machine.execCfgImageWrite x y s
  | .expectedDigestWrite x y => Sys2Proof.Machine.execExpectedDigestWrite x y s
  | .epochArm x y => Sys2Proof.Machine.execEpochArm x y s
  | .epochDisarm x y => Sys2Proof.Machine.execEpochDisarm x y s
  | .bookOpen x => Sys2Proof.Machine.execBookOpen x s
  | .emmcRetry x => Sys2Proof.Machine.execEmmcRetry x s
  | .sectorFlushDue => Sys2Proof.Machine.execSectorFlushDue s
  | .sectorWriteDone x => Sys2Proof.Machine.execSectorWriteDone x s
  | .timeRecordDue => Sys2Proof.Machine.execTimeRecordDue s
  | .emmcResetReopen x => Sys2Proof.Machine.execEmmcResetReopen x s
  | .recClear x => Sys2Proof.Machine.execRecClear x s
  | .recFound x => Sys2Proof.Machine.execRecFound x s
  | .recorderCmdDone => Sys2Proof.Machine.execRecorderCmdDone s
  | .correlate x y => Sys2Proof.Machine.execCorrelate x y s
  | .readWindow x => Sys2Proof.Machine.execReadWindow x s
  | .dumpWindow x => Sys2Proof.Machine.execDumpWindow x s
  | .permitDueEdge x => Sys2Proof.Machine.execPermitDueEdge x s
  | .readbackSample x y => Sys2Proof.Machine.execReadbackSample x y s
  | .canErrorActive x => Sys2Proof.Machine.execCanErrorActive x s
  | .heartbeatReceived x y => Sys2Proof.Machine.execHeartbeatReceived x y s
  | .ethLinkDown x y => Sys2Proof.Machine.execEthLinkDown x y s
  | .ethLinkUp x => Sys2Proof.Machine.execEthLinkUp x s
  | .extestEntry => Sys2Proof.Machine.execExtestEntry s
  | .extestExit => Sys2Proof.Machine.execExtestExit s
  | .malformedDatagram x y z => Sys2Proof.Machine.execMalformedDatagram x y z s
  | .lostRxExpiry x => Sys2Proof.Machine.execLostRxExpiry x s
  | .lossHoldExpiry => Sys2Proof.Machine.execLossHoldExpiry s
  | .sectorBusyTimeout => Sys2Proof.Machine.execSectorBusyTimeout s
  | .supplyVoltageUpdate x y z => Sys2Proof.Machine.execSupplyVoltageUpdate x y z s

end Sys2Proof.Machine
end

