-- ==== Sys2Proof/Machine/Step.lean ====
section
/-! DEFINITION. One step of the block: the command at the front of the queue; on an empty queue, time
passes (log 1). -/

namespace Sys2Proof.Machine

/-- Model time that one step on an empty queue lets pass (log 1). -/
def idleNs : Nat := 10000

/-- An empty queue: 10 us pass. A HIBERNATE entry that has run its 50 ms then is over (R53); nothing else
happens. -/
def State.idle (s : State) : State := ({ s with now := s.now + idleNs } : State).settleEntry

/-- Take the command at the front, run `exec` on it with the queue's rest. -/
def step (s : State) : Host.Outcome State Fault Refusal :=
  match s.pending with
  | [] => .next s.idle
  | c :: rest => exec c { s with pending := rest }

/-- `s` with the command that a word spells put at the front of its queue. -/
def State.withFetchWord (s : State) (nbits w : Nat) : State :=
  match decodeTableWord nbits w with
  | some c => { s with pending := c :: s.pending }
  | none => s

end Sys2Proof.Machine
end

