-- ==== Sys2Proof/Safety.lean ====
section
/-! DEFINITION. What the statements speak of: the parts of the state and what a command leaves alone,
the invariants that every step keeps, and how a command completes. -/

namespace Sys2Proof.Machine

/-- The parts of the state. `stream` is the SEQ counters of the ports with the SPI queue (R408, R418),
`tickInst` PD_SEQ with the open tick instant (R403), `auth` the device key with the count of failed
authorisations (R427, R428), `pdo` what is kept of process data (R403, R405), `log` the records of the Parish
Book that are not yet stored with their numbers and counts (R465 to R468), `recd` the rest of the Book. -/
inductive Part where
  | now | fresh | power | term | src | ch | cg | hg | head | bell | sect | tally | trk | permits
  | engine | twin | sessions | held | ports | stream | can | xfer | tickInst | auth | emcy | pdo
  | cfg | recd | log | emmc | sent | pending
  deriving DecidableEq, Repr

/-- A port without the SEQ of its device stream. -/
def PortState.quiet (x : PortState) : PortState := { x with seq := { x.seq with next := 0 } }

/-- The Parish Book without what creating a record and reading a window change (R465 to R468, R473, R474, R480). -/
def Recorder.steady (r : Recorder) : Recorder :=
  { r with
    queue := [], writing := 0, failures := 0, next := 0, exhausted := false, lossAt := none, lost := 0, lostFirst := 0, lostLast := 0
    lastRecordAt := 0, chain := [], chained := [] }

/-- What creating a record and reading a window change (R465 to R468, R473, R474, R480). -/
def Recorder.journal (r : Recorder) : Recorder :=
  { queue := r.queue, writing := r.writing, failures := r.failures, next := r.next, exhausted := r.exhausted, lossAt := r.lossAt, lost := r.lost
    lostFirst := r.lostFirst, lostLast := r.lostLast, lastRecordAt := r.lastRecordAt, chain := r.chain
    chained := r.chained }

/-- A part is the same in two states. -/
def Part.same (p : Part) (s t : State) : Prop :=
  match p with
  | .now => t.now = s.now
  | .fresh => t.fresh = s.fresh
  | .power => t.power = s.power
  | .term => t.term = s.term
  | .src => t.src = s.src
  | .ch => t.ch = s.ch
  | .cg => t.cg = s.cg
  | .hg => t.hg = s.hg
  | .head => t.head = s.head
  | .bell => t.bell = s.bell
  | .sect => t.sect = s.sect
  | .tally => t.tally = s.tally
  | .trk => t.trk = s.trk
  | .permits => t.permits = s.permits
  | .engine => t.engine = s.engine
  | .twin => t.twin = s.twin
  | .sessions => t.net.sessions = s.net.sessions ∧ t.net.nextSession = s.net.nextSession
      ∧ t.net.sessionsRefused = s.net.sessionsRefused
  | .held => t.net.held = s.net.held
  | .ports => ∀ k, (t.net.ports.get k).quiet = (s.net.ports.get k).quiet
  | .stream => t.net.spiQueue = s.net.spiQueue
      ∧ ∀ k, (t.net.ports.get k).seq.next = (s.net.ports.get k).seq.next
  | .can => t.net.can = s.net.can
  | .xfer => t.net.xfer = s.net.xfer
  | .tickInst => t.net.pdSeq = s.net.pdSeq ∧ t.net.tickOpen = s.net.tickOpen
  | .auth => t.net.authFailures = s.net.authFailures ∧ t.net.key = s.net.key ∧ t.net.keyId = s.net.keyId
  | .emcy => t.net.emcy = s.net.emcy
  | .pdo => t.net.rpdoAt = s.net.rpdoAt ∧ t.net.tpdoSent = s.net.tpdoSent ∧ t.net.srdoSent = s.net.srdoSent
  | .cfg => t.cfg = s.cfg
  | .recd => t.recd.steady = s.recd.steady
  | .log => t.recd.journal = s.recd.journal
  | .emmc => t.emmc = s.emmc
  | .sent => t.sent = s.sent
  | .pending => t.pending = s.pending

/-- Every part but those named is the same in `t` as in `s`. -/
structure Keeps (l : List Part) (s t : State) : Prop where
  same : ∀ p : Part, p ∉ l → p.same s t

/-- The parts that a reset or the entry into HIBERNATE replaces (R46, R53). -/
def volatileParts : List Part :=
  [.power, .term, .src, .ch, .cg, .hg, .head, .bell, .sect, .tally, .trk, .permits, .engine, .twin, .sessions, .held,
   .ports, .can, .xfer, .tickInst, .auth, .pdo, .cfg, .recd, .emmc]

/-- The parts that any command may add to: device streams with the SPI queue, emergencies, records of the
Parish Book, messages (R388, R406, R408, R465). -/
def reports : List Part := [.stream, .emcy, .log, .sent]

/-- The parts that a command may change beside `reports`. -/
def touches : Instr → List Part
  | .resetnLow | .brownout _ | .hibernateSupplyLoss | .wake _ | .stbynRiseWake _ _ | .supplyRelease _ | .boot =>
      [.now, .fresh] ++ volatileParts
  | .bootPllLockTimeout => [.now, .power]
  | .vexcLowSet => [.fresh, .power, .cg, .hg, .head, .bell, .tally, .trk]
  | .vexcLowClear => [.power, .term, .src, .ch, .bell]
  | .clkinMissing | .clockFreqError | .pllLockLoss => [.fresh, .power, .term, .src, .permits, .twin]
  | .hibernateCommand _ _ => [.power, .term, .src, .bell, .permits, .sessions, .recd]
  | .stbynLowQualified => [.power, .term, .src, .bell, .permits, .recd]
  | .genericWrite _ _ _ _ => [.tally, .permits, .sessions, .held, .ports, .xfer, .auth, .cfg]
  | .stbyStuckSet | .stbyStuckClear | .extestEntry | .extestExit | .supplyVoltageUpdate _ _ _ => [.power]
  | .clampFlagSet _ _ => [.term, .cg]
  | .clfClearWrite _ _ _ _ => [.term, .sessions]
  | .excHoldWrite _ _ _ => [.term, .src, .ch, .bell, .sessions]
  | .excStart _ => [.term, .src, .ch, .bell]
  | .excRampComplete _ => [.now, .term, .src, .ch, .hg, .bell]
  | .excStop _ => [.term, .src, .bell]
  | .excDischargeComplete _ | .excDischargeTimeout _ => [.now, .term, .src, .ch, .bell]
  | .complianceSet _ | .complianceClear _ => [.src]
  | .unsettledSpanEnd _ => [.now, .ch]
  | .channelOutputSample _ _ => [.now, .fresh, .ch, .cg, .head, .bell, .tally, .trk]
  | .slotClose _ _ | .fitLost _ | .overspeed _ _ | .triggerEvent _ _ _ => [.fresh, .head, .tally, .trk]
  | .wreCauseClear _ => [.now, .fresh, .head, .tally, .trk]
  | .traversalVerdict _ _ => [.head, .tally, .trk]
  | .groupGapTimeout _ | .predictionFailed _ => [.now, .tally, .trk]
  | .trackerWindowUpdate => [.now, .head, .trk]
  | .trackerFullClear => [.now, .trk]
  | .bellringerStep => [.now, .fresh, .term, .src, .ch, .cg, .hg, .head, .bell, .tally, .trk]
  | .overloadForcedChange _ => [.now, .ch, .cg, .bell]
  | .rangeFinerRequest _ => [.now, .ch, .bell]
  | .guardCauseRaised _ _ | .guardCauseDropped _ _ => [.fresh, .cg, .hg, .head, .bell, .tally, .trk]
  | .checkRequestDue _ | .rebaseRequest _ => [.now, .bell]
  | .freeChannelCheckDue _ => [.now, .ch, .cg]
  | .checkNow _ _ => [.bell, .sessions]
  | .guardCheckEnd _ _ => [.now, .fresh, .ch, .cg, .hg, .head, .bell, .tally, .trk]
  | .testStarvedSet _ => [.now, .hg, .tally]
  | .rebaseComplete _ => [.now, .head, .bell]
  | .captureCmdArm _ _ _ => [.head, .sessions]
  | .tallyCycle _ =>
      [.now, .fresh, .power, .term, .src, .ch, .cg, .hg, .head, .bell, .sect, .tally, .trk, .permits, .engine, .twin, .pdo]
  | .clearDelayExpiry _ => [.now, .sect]
  | .restoreRequest _ _ _ | .restoreWithdraw _ _ _ | .disturbCmd _ _ _ | .droptestCmd _ _ | .lockoutCmd _ _
    | .ackArm _ _ | .ackArmWithdraw _ _ => [.tally, .sessions]
  | .restoreExpiry _ => [.now, .sect, .tally]
  | .dropElapsed _ | .permitDueEdge _ | .readbackSample _ _ => [.now, .permits]
  | .readbackFault _ | .ackDebouncedEdge _ => [.tally, .permits]
  | .tallyStall => [.now, .tally, .permits]
  | .inhibitWrite _ _ => [.permits, .sessions]
  | .ackStuckSet | .ackHighQualified | .ackArmExpiry => [.now, .tally, .permits]
  | .tick _ _ | .tickOverrun _ _ | .warmupEnd _ _ => [.now, .engine, .ports, .can, .tickInst, .pdo, .cfg]
  | .syncLost => [.now, .engine]
  | .modeCmdFollow _ | .modeCmdHold _ | .modeCmdOff _ | .modeCmdFade _ | .lawEnableWrite _ _ | .lawReset _ _ =>
      [.engine, .sessions]
  | .reeveCompare _ _ _ _ | .pulseTimeout => [.now, .fresh, .permits, .twin]
  | .delayParityError _ _ _ => [.fresh, .permits, .twin]
  | .scrubRead _ => [.fresh, .permits, .twin, .recd, .cfg]
  | .stopTestCmd _ _ => [.twin, .sessions]
  | .debugRequest _ => [.fresh, .power, .permits, .twin]
  | .debugExit | .fatalHandlerEntry =>
      [.fresh, .power, .term, .src, .bell, .tally, .permits, .twin, .sessions, .held, .ports, .can, .xfer, .recd]
  | .dumpWriteDone _ | .sectorBusyTimeout => [.recd]
  | .dumpTimeout _ => [.fresh, .recd]
  | .sdoRequest _ _ _ | .spiFrameReceived _ =>
      [.fresh, .tally, .permits, .sessions, .held, .ports, .xfer, .auth, .cfg]
  | .sdoSegmentTimeout _ => [.now, .xfer]
  | .writeJudgement =>
      [.now, .power, .term, .src, .ch, .head, .bell, .tally, .permits, .engine, .twin, .sessions, .held, .ports,
       .xfer, .tickInst, .auth, .cfg, .recd, .emmc]
  | .writeItems _ _ => [.tally, .permits, .sessions, .held, .ports, .xfer, .auth, .cfg]
  | .nmtStart _ | .nmtEnterPreoperational _ | .canErrorPassive _ _ | .busOffRecovery _ | .heartbeatReceived _ _ =>
      [.can]
  | .nmtStop _ => [.tally, .permits, .sessions, .held, .can, .xfer]
  | .nmtResetCommunication _ => [.tally, .permits, .sessions, .held, .can, .xfer, .pdo]
  | .rpdoReceived _ _ _ => [.held, .pdo]
  | .rpdoTimeout _ _ => [.now, .ports, .pdo]
  | .tpdoEventTimer _ | .srdoRefresh _ => [.now, .pdo]
  | .heartbeatSend _ | .authLockoutEnd _ | .lostRxExpiry _ => [.now, .ports]
  | .hbConsumerMiss _ _ => [.now, .can]
  | .openPlain _ | .spiFrameDelivered | .authRequest _ _ | .errorHistoryClear _ _ | .correlate _ _ => [.sessions]
  | .openTakeover _ _ | .sessionEnd _ _ => [.tally, .permits, .sessions, .held, .xfer]
  | .closeSession _ => [.tally, .permits, .sessions, .held, .ports, .xfer]
  | .readItems _ _ => [.fresh, .sessions, .ports]
  | .nopRequest _ => [.sessions, .ports]
  | .pdHost _ _ _ _ => [.held, .ports, .pdo]
  | .spiFrameCrcError | .ethLinkDown _ _ | .ethLinkUp _ => [.ports]
  | .sessionTimeout _ => [.now, .tally, .permits, .sessions, .held, .xfer]
  | .authChallenge _ | .readWindow _ | .dumpWindow _ => [.fresh, .sessions]
  | .authResponse _ _ => [.sessions, .ports, .auth]
  | .authChallengeExpiry _ => [.now, .sessions]
  | .deviceKey _ _ => [.sessions, .auth]
  | .cfgCheck _ | .cfgDiscard _ | .cfgStore _ | .cfgActivate _ | .cfgAdopt _ | .cfgLoadShadow _
    | .cfgImageWrite _ _ | .expectedDigestWrite _ _ | .epochArm _ _ | .epochDisarm _ _ => [.sessions, .cfg]
  | .cfgCheckDone | .cfgStoreDone _ => [.cfg]
  | .activationEffect _ =>
      [.now, .fresh, .term, .src, .ch, .cg, .hg, .head, .bell, .sect, .tally, .trk, .permits, .engine, .twin, .cfg]
  | .cfgAdoptDone _ => [.now, .cfg]
  | .bookOpen _ | .sectorWriteDone _ | .recorderCmdDone => [.recd, .emmc]
  | .emmcRetry _ | .emmcResetReopen _ => [.now, .recd, .emmc]
  | .sectorFlushDue | .lossHoldExpiry => [.now, .recd]
  | .timeRecordDue => [.now]
  | .recClear _ | .recFound _ => [.sessions, .recd, .emmc]
  | .canErrorActive _ => [.fresh, .can]
  | .malformedDatagram _ _ _ => []

-- end of touches
/-- The object of a row that is one whole write and is judged with the held writes to the same object. -/
def rowObject : Instr → Option (Nat × Nat)
  | .hibernateCommand _ _ => some (0x2000, 0x18)
  | .clfClearWrite _ k _ _ => some (0x2700, 0x81 + k.val)
  | .excHoldWrite _ high _ => some (0x2700, if high then 0x8F else 0x8E)
  | .checkNow _ _ => some (0x2A00, 0x3C)
  | .captureCmdArm _ h _ => some (0x2100 + h.val, 0x13)
  | .restoreRequest _ n _ | .restoreWithdraw _ n _ => some (0x2200 + n.val, 0x0B)
  | .disturbCmd _ n _ => some (0x2200 + n.val, 0x0D)
  | .droptestCmd _ _ => some (0x2300, 0x4A)
  | .inhibitWrite _ _ => some (0x2300, 0x33)
  | .lockoutCmd _ _ => some (0x2300, 0x38)
  | .ackArm _ _ | .ackArmWithdraw _ _ => some (0x2300, 0x34)
  | .modeCmdFollow _ | .modeCmdHold _ | .modeCmdOff _ | .modeCmdFade _ => some (0x2500, 0x04)
  | .lawEnableWrite _ _ => some (0x2500, 0x07)
  | .lawReset _ _ => some (0x2500, 0x08)
  | .stopTestCmd _ _ => some (0x2A00, 0x0F)
  | .deviceKey _ _ => some (0x2B00, 0x12)
  | .errorHistoryClear _ _ => some (0x1003, 0)
  | .cfgCheck _ | .cfgDiscard _ | .cfgStore _ | .cfgActivate _ | .cfgAdopt _ | .cfgLoadShadow _ => some (0x2900, 0x07)
  | .cfgImageWrite _ _ => some (0x2900, 0x0B)
  | .expectedDigestWrite _ _ => some (0x2900, 0x06)
  | .epochArm _ _ | .epochDisarm _ _ => some (0x2900, 0x08)
  | .recClear _ | .recFound _ => some (0x2800, 0x0B)
  | .correlate _ _ => some (0x2800, 0x0A)
  | _ => none

/-- Held writes to the object of a row, which are judged with it (R380). -/
def contested (c : Instr) (s : State) : Bool :=
  match rowObject c with
  | some x => s.net.held.any (heldFor x.1 x.2)
  | none => false

/-- What the answers to the held writes of a contested row may change (R378, R412, R424, R425). -/
def rivals : List Part := [.tally, .permits, .sessions, .held, .ports, .xfer]

/-- The parts that a command may change in a state, beside `reports`. -/
def touchesIn (c : Instr) (s : State) : List Part := touches c ++ if contested c s then rivals else []

/-- A stopped device drives no permit: every permit is HIGHZ with its output high-impedance (R277, R348). -/
def StopSafe (s : State) : Prop :=
  s.twin.stopLatch = true → ∀ p : Fin 16, (s.permits.po.get p).st = .highz ∧ (s.permits.po.get p).out = .highz

/-- A device in reset, in HIBERNATE or without power is in no HIBERNATE entry (R46, R53). -/
def EntrySafe (s : State) : Prop :=
  s.power.phase = .inReset ∨ s.power.phase = .unpowered ∨ s.power.phase = .hibernate → s.power.entering = false

/-- While the stop latch is clear both delay-register stages have good parity: a wrong bit sets it at once (R339, R349). -/
def StagesSafe (s : State) : Prop := s.twin.stopLatch = false → s.twin.stagesGood = true

/-- A command is carried out: its next state, and what holds of it. -/
def Runs (c : Instr) (s : State) (post : State → Prop) : Prop := ∃ t, exec c s = .next t ∧ post t

/-- A session of at least level `l` sends a row while the device runs: its slot is `k` and holds `x`, no held write names
the object of the row, and no write of the session is held (R12, R373, R380, R381). -/
structure Asks (c : Instr) (s : State) (o : Origin) (l : Level) (k : Fin 4) (x : Session) : Prop where
  alive : s.alive = true
  alone : contested c s = false
  slot : sessionSlot s o = some k
  holds : s.net.sessions.get k = some x
  idle : outstanding s x = false
  level : levelCode l ≤ levelCode x.level

/-- A session uses a port that answers, on a running device or a stopped one: its slot is `k` and holds `x`, and no write
of it is held (R373, R381, R488). -/
structure Served (s : State) (o : Origin) (k : Fin 4) (x : Session) : Prop where
  serving : s.serving = true
  slot : sessionSlot s o = some k
  holds : s.net.sessions.get k = some x
  idle : outstanding s x = false

/-- A write was taken: answered without an abort, at no cost in time; the session's last request is this one
and the other sessions are as before (R383, R424). -/
structure Taken (s t : State) (o : Origin) (i sub : Nat) (k : Fin 4) (x : Session) : Prop where
  answer : Msg.answer o i sub 0 ∈ t.sent
  session : t.net.sessions.get k = some { x with lastAt := s.now }
  others : ∀ j, j ≠ k → t.net.sessions.get j = s.net.sessions.get j
  clock : t.now = s.now

/-- The commands that act on a device whose ports do not answer: supplies, reset, wake, clock, debug port,
boundary scan. -/
def actsOutside : Instr → Bool
  | .resetnLow | .brownout _ | .supplyRelease _ | .boot | .bootPllLockTimeout | .wake _ | .stbynRiseWake _ _
    | .hibernateSupplyLoss | .clkinMissing | .clockFreqError | .pllLockLoss | .debugExit | .extestEntry
    | .extestExit | .vexcLowSet | .vexcLowClear | .stbynLowQualified | .stbyStuckSet => true
  | _ => false

/-- The banks go over a loss of power: the active one as it is, and so the other one unless a job of the store runs; a
store or ADOPT that was writing leaves it with an erased ACT_COUNT (R435). -/
def BanksKept (s t : State) : Prop :=
  (∀ k, k ≠ inactiveBank s.cfg ∨ s.cfg.job = none ∨ s.cfg.job = some .check → bankOf t.cfg k = bankOf s.cfg k) ∧
  (s.cfg.job = some .store ∨ s.cfg.job = some .adopt → (cfgCheckOf s.cfg.jobCopy).1 = 0 →
    bankAct (bankOf t.cfg (inactiveBank s.cfg)) = none)

/-- The eMMC goes over a loss of power: a sector that is being written holds its previous or its new contents (R456,
R461). -/
def EmmcKept (s t : State) : Prop :=
  t.emmc = s.emmc ∨ (0 < s.recd.writing ∧ t.emmc = s.sectorStored.emmc)

/-- The device has gone into reset and lost its volatile state (R46, R92). -/
def Reset (s t : State) : Prop :=
  t.power.phase = .inReset ∧ t.now = s.now ∧ (∀ k, (t.src.get k).st = .off) ∧ t.term.forceSw = 0#192 ∧
  t.term.returnSw = 0#192 ∧ t.term.senseSw = 0#192 ∧ t.term.clf = 0#192 ∧
  (∀ p, (t.permits.po.get p).st = .highz ∧ (t.permits.po.get p).out = .highz) ∧
  (∀ n, (t.sect.get n).st = .disturbed ∧ (t.sect.get n).count = 0) ∧ (∀ k, t.net.sessions.get k = none) ∧
  t.recd.queue = [] ∧ BanksKept s t ∧ t.net.key = s.net.key ∧
  EmmcKept s t ∧ t.twin.stopLatch = false ∧ t.twin.prevStopCause = s.twin.stopCause

/-- The device has booted (R48). -/
def Booted (s t : State) : Prop :=
  t.power.phase = .running ∧ t.now = s.now + ms 180 ∧ t.power.bootAt = s.now ∧
  t.power.resetCause = s.power.latch ∧ t.power.latch = 0#6 ∧
  (∀ n, (t.sect.get n).st = .disturbed) ∧
  (∀ p : Fin 16, permitAssigned t.cfg.active p.val = true →
    (t.permits.po.get p).st = .dropping ∧ (t.permits.po.get p).out = .low) ∧
  (∀ p : Fin 16, permitAssigned t.cfg.active p.val = false →
    (t.permits.po.get p).st = .highz ∧ (t.permits.po.get p).out = .highz) ∧
  t.twin.lockstep = true ∧ t.twin.watchdog = true ∧ t.recd.st = .opening ∧ t.cfg.active = (bootConfig s.cfg).1

/-- HIBERNATE entry has begun: the trigger is accepted now, every permit that is not high-impedance is low, and every
source is on its way down (R53). -/
def GoingDown (s t : State) : Prop :=
  t.power = { s.power with entering := true, entryAt := s.now } ∧ t.now = s.now ∧
  (∀ p, (s.permits.po.get p).st = .highz ∧ t.permits.po.get p = s.permits.po.get p ∨
    (t.permits.po.get p).st = .dropping ∧ (t.permits.po.get p).out = .low ∧ (t.permits.po.get p).cond = false) ∧
  (∀ k, (t.src.get k).st = .off ∨ (t.src.get k).st = .discharging) ∧ (∀ k, (t.src.get k).pending = false)

/-- The device has gone into HIBERNATE (R53, R59). -/
def Asleep (s t : State) : Prop :=
  t.power.phase = .hibernate ∧ t.power.entering = false ∧ t.power.latch = s.power.latch ∧
  t.power.wakePending = s.power.wakePending ∧
  (∀ p, (t.permits.po.get p).st = .highz ∧ (t.permits.po.get p).out = .highz) ∧ (∀ k, (t.src.get k).st = .off) ∧
  (∀ n, (t.sect.get n).st = .disturbed ∧ (t.sect.get n).count = 0) ∧ (∀ k, t.net.sessions.get k = none) ∧
  BanksKept s t ∧ t.net.key = s.net.key

/-- The device has woken from HIBERNATE at an instant and booted (R54). -/
def Woken (s t : State) (from_ : Nat) : Prop :=
  t.power.phase = .running ∧ t.power.resetCause = s.power.latch ||| latchWake ∧ t.power.latch = 0#6 ∧
  t.now = from_ + ms 2 + ms 180 ∧ t.power.wakePending = false ∧ t.power.entering = false

/-- A wake was accepted at an instant and the device stands in reset, with the causes noted (R47, R48, R57). -/
def HeldInReset (s t : State) (from_ : Nat) (causes : BitVec 6) : Prop :=
  t.power.phase = .inReset ∧ t.power.latch = s.power.latch ||| causes ∧ t.now = from_ ∧ t.power.wakePending = false ∧
  ∀ p, (t.permits.po.get p).out = (s.permits.po.get p).out

/-- The stop latch has been set with a cause: every permit is high-impedance, the watchdog is disarmed, the Reeve has
stopped and what it held is discarded (R347 to R350). -/
def StoppedBy (s t : State) (cause : Nat) : Prop :=
  t.twin.stopLatch = true ∧ t.twin.stopCause = cause ∧ t.twin.stopSeen = BitVec.ofNat 9 (2 ^ (cause - 1)) ∧
  t.twin.watchdog = false ∧ t.twin.lockstep = false ∧ t.twin.held = [] ∧ t.twin.stopGridTime = gridTime t ∧
  t.twin.stopAt = t.now ∧
  t.permits.inhibit = s.permits.inhibit ∧ t.twin.pulseAt = s.twin.pulseAt ∧
  ∀ p, (t.permits.po.get p).st = .highz ∧ (t.permits.po.get p).out = .highz

/-- A dump is being written since an instant: its contents, its number, and sector 0 all zeros (R490, R491). -/
def DumpWrites (d e : Dump) (b : DumpBlocks) (from_ : Nat) : Prop :=
  e.st = .writing ∧ e.blocks = b ∧ e.next = none ∧ e.seq = d.seq + 1 ∧ e.startAt = from_ ∧
  e.header = List.replicate 512 0#8

/-- A read of Core A has delivered a word: it entered Core A with the other bytes of its cycle and stands in the first
delay register with its parity; what stood there is in the second one, and what stood there has entered Core B, unless
that core is held (R339, R340). -/
def Delivers (a b : Twin) (w : BitVec 32) : Prop :=
  deliveredWord b.coreA.input = w ∧ b.delay0 = ⟨b.coreA.input, stageParity b.coreA.input⟩ ∧ b.delay1 = a.delay0 ∧
  (a.lockstep = true → b.coreB.input = a.entersB)

/-- Flash holds a word at a place: the firmware does, and a bank that is written (R340, R433). -/
def flashPresent (s : State) : FlashPlace → Bool
  | .program _ => true
  | .bank k _ => (bankOf s.cfg k).isSome

/-- Core A has entered its fatal handler. A dump follows the FATAL record: it begins when no record is left to be
written, and waits before that (R483, R485, R488, R490, R491). -/
def Handled (s t : State) : Prop :=
  t.power.phase = .stopped ∧ t.twin.handler = true ∧ t.now = s.now ∧
  (∀ k, (t.src.get k).st = .off ∨ (t.src.get k).st = .discharging) ∧ t.net.held = [] ∧
  (∀ p, (t.net.can.get (canIdx p)).nmt = .preop) ∧ t.recd.stopped = true ∧
  (dumpCause s = true → s.recd.st = .ready → ∃ b : DumpBlocks, b.config = activeBankBytes s.cfg ∧ b.sram = s.twin.sram ∧
    (t.recd.queue = [] → DumpWrites s.recd.dump t.recd.dump b s.now) ∧
    (t.recd.queue ≠ [] → t.recd.dump.next = some b ∧ t.recd.dump.st = s.recd.dump.st ∧
      t.recd.dump.seq = s.recd.dump.seq)) ∧
  (dumpCause s = true → s.recd.st ≠ .ready → t.recd.dump.st = .notWritten ∧ t.recd.dump.truncated = false) ∧
  (dumpCause s = false → t.recd.dump = s.recd.dump)

/-- What R207 asks of a rung offer at the step that rings it: every head of it is FREE with a GAP that holds its span, and
no other span runs on one of them where either of the two is a check or a rebase; a RANGE offer waits for a check of its
channel. -/
def RungWell (t : State) (f : Offer) : Prop :=
  (∀ h ∈ offerHeads t.cfg.active f, (t.bell.heads.get h).free = true ∧
    (∀ g, (t.bell.heads.get h).gap = some g → f.span ≤ g) ∧
    ∀ p ∈ t.bell.spans, p.heads.contains h = true → p.active = true ∨ t.now < p.endAt →
      p.cls = .check ∨ p.cls = .rebase ∨ f.cls = .check ∨ f.cls = .rebase → p.cls = f.cls ∧ p.own = f.head) ∧
  (f.cls = .range → ∀ c, f.ch = some c → (t.cg.get c).checkRunning = false)

/-- A rung offer is carried out at the step after the one that rang it (R85, R114, R137, R168, R207). -/
def CarriedOut (s t : State) (f : Offer) : Prop :=
  (∀ c, f.cls = .range → f.ch = some c → (t.ch.get c).gain =
    if f.finer = true then (if (s.ch.get c).gain < chGainMax s.cfg.active c.val then (s.ch.get c).gain + 1 else (s.ch.get c).gain)
    else if chGainMin s.cfg.active c.val < (s.ch.get c).gain then (s.ch.get c).gain - 1 else (s.ch.get c).gain) ∧
  (f.cls = .check → ∀ c ∈ reachedChans s.cfg.active (chansOf s.cfg.active f.head.val),
    startable { s with now := t.now } c = true → (t.cg.get c).checkRunning = true ∧ (t.ch.get c).injFrom = some t.now) ∧
  (f.cls = .rebase → (t.head.get f.head).rebase = some { startAt := t.now }) ∧
  (∀ k i, f.cls = .excitation → f.src = some k → f.newCurrent = some i → (s.src.get k).st = .on →
    (t.src.get k).st = .on ∧ (t.src.get k).current = i ∧ (t.src.get k).seqAt = t.now ∧
    (t.src.get k).base = levelAt (s.src.get k) t.now)

/-- A section is DISTURBED, and its DIST_CAUSE has a bit (R230, R242). -/
def Disturbed (t : State) (n : Fin 48) (bit : Nat) : Prop :=
  (t.sect.get n).st = .disturbed ∧ (t.sect.get n).distCause.getLsbD bit = true

/-- A pending request on a DISTURBED section is judged at an acknowledge: it is granted when no bounding head is
disturbed and none has an open slot, no confirmation is awaited and no cause was raised in the cycle, else refused with
the first condition that fails, in this order: a cause, a disturbed head, an open slot, a held section (R236). -/
def RestoreJudged (s t : State) (n : Fin 48) : Prop :=
  let hs := boundingHeads s.cfg.active n
  let x := t.sect.get n
  (x.rstate = .granted ∧ x.st = .ras ∧ x.reason = 0 ∧ n ∉ s.tally.disturbIn ∧
    (∀ h ∈ hs, headDisturbed t h = false ∧ anySlot (t.head.get h) = false) ∧ x.held = false) ∨
  (x.rstate = .refused ∧ x.st = .disturbed ∧ (x.reason = 1 ∨
    n ∉ s.tally.disturbIn ∧ (x.reason = 2 ∧ (∃ h ∈ hs, headDisturbed t h = true) ∨
      (∀ h ∈ hs, headDisturbed t h = false) ∧ (x.reason = 3 ∧ (∃ h ∈ hs, anySlot (t.head.get h) = true) ∨
        (∀ h ∈ hs, anySlot (t.head.get h) = false) ∧ x.reason = 4 ∧ x.held = true))))

/-- One axle alone is tracked: published RUNNING on a section with a load, and no section has a residue (R302). -/
def OneAxle (s : State) (i : Fin 128) (m : Fin 48) (load : Nat) : Prop :=
  (∀ j, j ≠ i → (s.tally.pub.tracker.entries.get j).st = .free) ∧
  (s.tally.pub.tracker.entries.get i).st = .running ∧ (s.tally.pub.tracker.entries.get i).sec = some m ∧
  (s.tally.pub.tracker.entries.get i).load = some load ∧ ∀ k, (s.engine.residues.get k).n = 0

/-- The ledger of one confirmed axle of a load in units of 10 kg on section `m` (R303, R305, R307, R308). -/
def LedgerOfOne (c : CfgMap) (x : Ledger) (m : Fin 48) (load : Nat) : Prop :=
  x.axles = 1 ∧ x.prov = 0 ∧ x.dflt = 0 ∧
  (∀ k, x.secC.get k = if k = m then satS 32 (10 * (load : Int)) else 0) ∧ (∀ k, x.secP.get k = 0) ∧
  x.vesselP = 0 ∧ (∀ a, x.modelP.get a = 0) ∧
  (frameKind c m.val = 1 → x.vesselC = satS 32 (10 * (load : Int)) ∧
    x.modelC.get 2 = satS 32 (roundAway (-(10 * (load : Rat)) * (980665 / 100000)))) ∧
  (frameKind c m.val = 0 → x.vesselC = 0 ∧ ∀ a, x.modelC.get a = 0)

/-- A session has ended: its slot is free, and its arming, its held writes and its transfers go with it; its pending
restore requests are withdrawn at the next Tally cycle (R425). -/
def Ended (s t : State) (k : Fin 4) (x : Session) : Prop :=
  t.net.sessions.get k = none ∧ (∀ j, j ≠ k → t.net.sessions.get j = s.net.sessions.get j) ∧
  t.net.held = s.net.held.filter (fun w => w.by_ != x.origin) ∧
  t.tally.restoreIn = s.tally.restoreIn ++ [.ended x.origin] ∧
  t.permits.ack.armedBy ≠ some x.origin ∧ (∀ a, ArmIn.arm x.origin a ∉ t.tally.armIn) ∧
  ∀ c, t.net.xfer.get c = xferOf x.origin c (s.net.xfer.get c)

/-- A request was taken and answered: the session expects the next SEQ, and the response names the request (R410,
R421). -/
def Answered (s t : State) (h : Hdr) (k : Fin 4) (x : Session) (typ : Nat) : Prop :=
  (∃ (y : Session) (d : Datagram), t.net.sessions.get k = some y ∧ y.expected = (x.expected + 1) % 65536 ∧
    y.level = x.level ∧ y.lastAt = s.now ∧ y.request = none ∧ y.lastRsp = some d ∧ d.typ = typ ∧ d.ref = h.seq ∧
    d.status = 0 ∧ (isEth h.port = true → Msg.datagram h.port d ∈ t.sent)) ∧
  ∀ j, j ≠ k → t.net.sessions.get j = s.net.sessions.get j

/-- The SPI frame of a NOP (R408, R409, R417). -/
def spiNop (session seq : Nat) : List Byte :=
  let b := [0xA5#8, 1#8, 5#8] ++ leBytes 1 session ++ [0#8] ++ leBytes 2 seq ++ List.replicate 6 0#8
  b ++ leBytes 4 (crc32c b)

/-- What identifying the eMMC finds and leaves (R454, R455, R470): the state of the book, and of the memory the label
sectors alone. -/
def Identified (s t : State) (card : CardFacts) : Prop :=
  (card.answers = false → t.recd.st = .noCard ∧ t.emmc = s.emmc) ∧
  (card.answers = true → card.suitable = false → t.recd.st = .unsuitable ∧ t.emmc = s.emmc) ∧
  (card.answers = true → card.suitable = true →
    ((labels s.emmc).1.or (labels s.emmc).2 = none → t.recd.st = .noBook ∧ t.emmc = s.emmc) ∧
    ∀ l, (labels s.emmc).1.or (labels s.emmc).2 = some l → t.recd.label = some l ∧
      (l.serial ≠ Config.serial.toNat → t.recd.st = .foreign ∧ t.emmc = s.emmc) ∧
      (l.serial = Config.serial.toNat → t.recd.st = .ready ∧ t.recd.opened = true ∧
        ∀ a, 1024 ≤ a → memGet t.emmc a = memGet s.emmc a)) ∧
  (card.answers = true → t.recd.cardW = windowOf card) ∧ t.recd.failures = 0

/-- The recorder takes records: none is lost for want of room or of numbers (R468, R473). -/
def Roomy (s : State) : Prop :=
  s.recd.stopped = false ∧ s.recd.exhausted = false ∧ s.recd.next + 8 < 0xFFFFFFFF ∧ recCount s.recd + 3 ≤ recCap

end Sys2Proof.Machine
end

