-- ==== Sys2Proof/Certificates/Slice0/Obligations.lean ====
section
/-! DEFINITION. What is to be proved of the model. -/

open Sys2Proof Sys2Proof.Machine

-- the machine as a whole

/-- O1: a step takes the command at the front of the queue and runs it on the state with the queue's rest (log 2); an
empty queue lets 10 us pass, the model's choice (log 1), and changes nothing else but that a HIBERNATE entry which has
run its 50 ms then is over, and a wake that is PENDING is executed at once when STBYn is high (R53, R55; logs 17, 19).
-/
def Obligations.StepTakesTheFront : Prop :=
  (∀ (s : State) (c : Instr) (rest : List Instr),
    step { s with pending := c :: rest } = exec c { s with pending := rest }) ∧
  (∀ s : State, s.pending = [] → ∃ t, step s = .next t ∧ t.now = s.now + 10000 ∧
    (s.goingDown = false ∨ s.now + 10000 < s.power.entryAt + ms 50 → t = { s with now := s.now + 10000 }) ∧
    (s.goingDown = true → s.power.entryAt + ms 50 ≤ s.now + 10000 →
      (s.power.wakePending = false ∨ s.power.stbynHigh = false → Asleep s t) ∧
      (s.power.wakePending = true → s.power.wakeLocks = true → s.power.stbynHigh = true → s.power.resetnLow = false →
        s.power.vsupOk = true → s.power.vioOk = true → Woken s t (s.now + 10000))))

/-- O2: after a power-on reset the latch holds POR alone, the device is in reset, every source is off with its
switches open, every permit is high-impedance, every section DISTURBED, and no count, session, record or message is
kept (R46, R47, R50, R59; log 4). -/
def Obligations.ResetState : Prop :=
  State.reset.power.phase = .inReset ∧ State.reset.power.latch = 1#6 ∧ State.reset.pending = [] ∧ State.reset.sent = [] ∧
  (∀ k, (State.reset.src.get k).st = .off) ∧
  State.reset.term.forceSw = 0#192 ∧ State.reset.term.returnSw = 0#192 ∧ State.reset.term.senseSw = 0#192 ∧
  State.reset.term.clf = 0#192 ∧ State.reset.term.hold = 0#64 ∧
  (∀ p, (State.reset.permits.po.get p).st = .highz ∧ (State.reset.permits.po.get p).out = .highz ∧
    (State.reset.permits.po.get p).lock = 0#4) ∧
  (∀ n, (State.reset.sect.get n).st = .disturbed ∧ (State.reset.sect.get n).count = 0) ∧
  (∀ k, State.reset.net.sessions.get k = none) ∧ State.reset.net.held = [] ∧ State.reset.recd.queue = [] ∧
  State.reset.twin.stopLatch = false ∧ State.reset.emmc = []

/-- O3: the invariants hold after reset. -/
def Obligations.ResetMeetsInvariants : Prop :=
  Memory.wf State.reset.emmc = true ∧ StopSafe State.reset ∧ EntrySafe State.reset ∧ StagesSafe State.reset

/-- O4: no command ends in a fault or a refusal (log 3). -/
def Obligations.EveryCommandCompletes : Prop := ∀ (c : Instr) (s : State), ∃ t, exec c s = .next t

/-- O5: a command changes no part of the state but those listed for it in `touches`, and those that any command may
add to: device streams, emergencies, records not yet stored, messages. A row whose object has held writes is judged
with them, and answers them too. -/
def Obligations.FrameOfEveryCommand : Prop :=
  (∀ (c : Instr) (s t : State), contested c s = false → exec c s = .next t → Keeps (touches c ++ reports) s t) ∧
  (∀ (c : Instr) (s t : State), exec c s = .next t → Keeps (touches c ++ rivals ++ reports) s t)

/-- O6: every step keeps the eMMC area in its canonical form. -/
def Obligations.MemoryStaysCanonical : Prop :=
  ∀ s t : State, Memory.wf s.emmc = true → step s = .next t → Memory.wf t.emmc = true

/-- O7: while the stop latch is set every permit is HIGHZ with its output high-impedance, whatever step is taken
(R277, R348). No step brings a device that is in reset, in HIBERNATE or without power into a HIBERNATE entry, and none
leaves wrong parity in a delay register while the latch is clear (R46, R53, R339, R349). -/
def Obligations.StopKeepsPermitsOpen : Prop :=
  ∀ s t : State, step s = .next t →
    (StopSafe s → StopSafe t) ∧ (EntrySafe s → EntrySafe t) ∧ (StagesSafe s → StagesSafe t)

/-- O8: while the ports do not answer (reset, HIBERNATE, no power, a clock fault, the debugger), every command but
those of supplies, pins, clock and debug port is without effect: no message is sent and nothing changes (R46, R49,
R53). -/
def Obligations.SilentWhileNotServing : Prop :=
  ∀ (c : Instr) (s : State), actsOutside c = false → s.serving = false → exec c s = .next { s with sent := [] }

-- supplies, clock, reset, standby (02)

/-- O9: RESETn low or a supply below its threshold resets a running, stopped or held device, also one in the course of
HIBERNATE entry: sources off, switches open, permits high-impedance, sections DISTURBED, no session, no record, and the
cause joins the retention latch; every discharge switch closes, unless the hardware can hold its switches no longer
(R32, R46, R47, R68, R92, R93; log 17). -/
def Obligations.ResetLosesState : Prop :=
  ∀ s : State, (s.power.phase = .running ∨ s.power.phase = .stopped ∨ s.power.phase = .clockHeld
      ∨ s.power.phase = .debugHalted) → asleep s = false →
    Runs .resetnLow s (fun t => Reset s t ∧ t.power.resetnLow = true ∧ t.power.latch = s.power.latch ||| latchResetn ∧
      ∀ i, dischargeClosed t i = true) ∧
    (∀ r : RailDrop, (r.vsup || r.vio) = true → (r.vsup && r.latch) = false →
      Runs (.brownout r) s (fun t => Reset s t ∧
        t.power.vsupOk = (s.power.vsupOk && !r.vsup) ∧ t.power.vioOk = (s.power.vioOk && !r.vio) ∧
        t.power.latch = s.power.latch ||| (if r.vsup then latchVsup else 0#6) ||| (if r.vio then latchVio else 0#6) ∧
        ∀ i, dischargeClosed t i = !(r.vsup && r.switchHold))) ∧
    (∀ r : RailDrop, (r.vsup && r.latch) = true →
      Runs (.brownout r) s (fun t => t.power.phase = .unpowered ∧ t.power.latch = latchPor ∧ t.twin.prevStopCause = 0 ∧
        t.twin.debugTaint = false ∧ t.now = s.now))

/-- O10: a boot of a device that is in no HIBERNATE entry (the invariant `EntrySafe`), whatever the configuration banks
hold: the device runs, 180 ms later, with the causes
in RESET_CAUSE and the latch cleared; every section is DISTURBED, every assigned permit DROPPING with its output low,
every other high-impedance; lock-step runs and the book is being opened; a PLL that does not lock within 1 ms leaves
the device in reset with CLOCK_FAULT set and noted for RESET_CAUSE; RESETn low at the supply's release holds it in
reset, and is noted too, the model's choice (R32, R47, R48, R50, R57, R68, R277; logs 17, 19). -/
def Obligations.BootRuns : Prop :=
  (∀ s : State, s.twin.stopLatch = false → s.power.clockFault = false → s.power.entering = false →
     (s.power.phase = .inReset → s.power.vsupOk = true → s.power.vioOk = true →
       Runs .boot s (fun t => Booted s t ∧ t.power.resetnLow = false)) ∧
     (s.power.phase = .inReset ∨ s.power.phase = .unpowered →
       (s.power.resetnLow = false →
         Runs (.supplyRelease true) s (fun t => Booted s t ∧ t.power.vsupOk = true ∧ t.power.vioOk = true) ∧
         Runs (.supplyRelease false) s (fun t => t.power.phase = .inReset ∧ t.power.clockFault = true ∧
           t.power.latch = s.power.latch ||| latchClock ∧ t.now = s.now + ms 1)) ∧
       (s.power.resetnLow = true → ∀ b, Runs (.supplyRelease b) s (fun t => t.power.phase = .inReset ∧
         t.power.latch = s.power.latch ||| latchResetn ∧ t.now = s.now)))) ∧
  (∀ s : State, bootReady s = true → Runs .bootPllLockTimeout s fun t =>
     t.power.phase = .inReset ∧ t.power.clockFault = true ∧ t.power.latch = s.power.latch ||| latchClock ∧
     t.now = s.now + ms 1 ∧ (∀ p, t.permits.po.get p = s.permits.po.get p))

/-- O11: a clock fault acts through the stop path: every permit is high-impedance, the stop latch holds the cause, the
lower one of those of one instant, the sources are off, the fault is noted for RESET_CAUSE, and the device stands until
reset (R43, R44, R348, R350, R360, R484; log 31). -/
def Obligations.ClockFaultStops : Prop :=
  ∀ (c : Instr) (s : State), c = .clkinMissing ∨ c = .clockFreqError ∨ c = .pllLockLoss →
    s.power.phase = .running ∨ s.power.phase = .stopped ∨ s.power.phase = .debugHalted → asleep s = false →
    Runs c s fun t => t.power.phase = .clockHeld ∧ t.power.clockFault = true ∧ t.twin.stopLatch = true ∧
      (s.twin.stopLatch = false → t.twin.stopCause = 7 ∧
        ∀ p, (t.permits.po.get p).st = .highz ∧ (t.permits.po.get p).out = .highz) ∧
      (s.twin.stopLatch = true → t.permits = s.permits ∧ t.twin.stopCause =
        if s.twin.stopAt = s.now ∧ s.twin.handler = false then Nat.min s.twin.stopCause 7 else s.twin.stopCause) ∧
      t.twin.stopSeen.getLsbD 6 = true ∧ (∀ k, (t.src.get k).st = .off) ∧
      t.power.latch = s.power.latch ||| latchClock ∧ t.now = s.now

/-- O12: HIBERNATE_CMD with 0x4842 by a MAINTAIN session, and STBYn low after a qualifying high period, begin the entry
into HIBERNATE; while it runs, and after a stop, further triggers are ignored. When it has run its 50 ms and no PENDING
wake is executed, every permit is high-impedance, every source off, no session left; the retention latch, the banks and
the key stay (R51, R52, R53, R55, R59, R350, R487; logs 1, 19). -/
def Obligations.HibernateEntry : Prop :=
  (∀ (s : State) (o : Origin) (k : Fin 4) (x : Session), Asks (.hibernateCommand o 0x4842) s o .maintain k x →
    Runs (.hibernateCommand o 0x4842) s fun t => Taken s t o 0x2000 0x18 k x ∧
      (s.power.entering = false → s.twin.stopLatch = false → GoingDown s t) ∧
      (s.power.entering = true ∨ s.twin.stopLatch = true → t.power = s.power ∧ t.permits = s.permits ∧ t.src = s.src)) ∧
  (∀ (s : State) (o : Origin) (k : Fin 4) (x : Session) (v : Nat), Asks (.hibernateCommand o v) s o .maintain k x →
    v < 65536 → v ≠ 0x4842 →
    Runs (.hibernateCommand o v) s fun t => t.power = s.power ∧ Msg.answer o 0x2000 0x18 abortValue ∈ t.sent) ∧
  (∀ s : State, s.alive = true → s.power.stbyStuck = false → s.power.entering = false → s.twin.stopLatch = false →
    Runs .stbynLowQualified s (GoingDown { s with power := { s.power with stbynHigh := false } })) ∧
  (∀ s : State, s.alive = true → s.power.stbyStuck = true ∨ s.power.entering = true ∨ s.twin.stopLatch = true →
    Runs .stbynLowQualified s fun t => t.power = { s.power with stbynHigh := false } ∧ t.permits = s.permits) ∧
  (∀ s : State, s.pending = [] → s.goingDown = true → s.power.entryAt + ms 50 ≤ s.now →
    s.power.wakePending = false ∨ s.power.stbynHigh = false → ∃ t, step s = .next t ∧ Asleep s t)

/-- O13: a wake in HIBERNATE while STBYn is high boots the device, with HIBERNATE_WAKE in RESET_CAUSE; with RESETn low
it stays in reset, with RESETN noted too, the model's choice, and so it does when the PLL does not lock. A wake during
the entry is PENDING, the entry runs on, and at its end the wake is executed while STBYn is high and kept while it is
low. VSUP below 2.0 V ends HIBERNATE without a wake. The device boots after the maxima of R48 and R54, the model's
choice (R54, R55, R57, R68; logs 1, 17, 19). -/
def Obligations.WakeFromHibernate : Prop :=
  (∀ s : State, s.power.phase = .hibernate → s.power.entering = false → s.power.vsupOk = true → s.power.vioOk = true →
      s.power.clockFault = false →
    (s.power.stbynHigh = true → s.power.resetnLow = false →
      Runs (.wake true) s (fun t => Woken s t s.now) ∧
      Runs (.wake false) s (fun t => HeldInReset s t (s.now + ms 2 + ms 1) (latchWake ||| latchClock))) ∧
    (s.power.stbynHigh = true → s.power.resetnLow = true → ∀ b,
      Runs (.wake b) s fun t => HeldInReset s t (s.now + ms 2) (latchWake ||| latchResetn)) ∧
    (s.power.stbynHigh = false → ∀ b, Runs (.wake b) s fun t => t.power = s.power) ∧
    Runs .hibernateSupplyLoss s fun t => t.power.phase = .unpowered ∧ t.power.latch = latchPor ∧
      t.power.wakePending = false ∧ t.now = s.now) ∧
  (∀ s : State, s.alive = true → s.goingDown = true → ∀ b, Runs (.wake b) s fun t =>
    t.power = { s.power with wakePending := true, wakeLocks := b } ∧ t.now = s.now ∧ t.permits = s.permits ∧
    t.src = s.src) ∧
  (∀ s : State, s.pending = [] → s.goingDown = true → s.power.entryAt + ms 50 ≤ s.now → s.power.wakePending = true →
    (s.power.stbynHigh = true → s.power.wakeLocks = true → s.power.resetnLow = false → s.power.vsupOk = true →
      s.power.vioOk = true → ∃ t, step s = .next t ∧ Woken s t (s.now + 10000)) ∧
    (s.power.stbynHigh = false → ∃ t, step s = .next t ∧ Asleep s t ∧ t.power.wakePending = true))

/-- O14: while STBYn is low, no wake is executed; when STBYn rises, a pending wake is executed, and otherwise a WAKEn
low that is still present is accepted (R56). The device boots after the maxima of R48 and R54, the model's choice (logs
1, 17). -/
def Obligations.StandbyGatesWake : Prop :=
  ∀ s : State, s.power.stbynHigh = false →
    (∀ b, Runs (.wake b) s fun t => t.power.latch = s.power.latch ∧ t.power.bootAt = s.power.bootAt ∧
      t.power.stbynHigh = false ∧ (s.power.phase = .hibernate → t.power.phase = .hibernate)) ∧
    (s.power.phase = .hibernate → s.power.entering = false →
      (s.power.vsupOk = true → s.power.vioOk = true → s.power.clockFault = false → s.power.resetnLow = false →
        ∀ waknLow : Bool, s.power.wakePending = true ∨ waknLow = true → Runs (.stbynRiseWake waknLow true) s fun t =>
          Woken s t s.now ∧ t.power.stbynHigh = true) ∧
      (s.power.wakePending = false → ∀ b, Runs (.stbynRiseWake false b) s fun t =>
        t.power = { s.power with stbynHigh := true }))

/-- O15: supply monitors, STBYn qualification, in which STBY_STUCK stands still during HIBERNATE entry, the
boundary-scan override and the measured voltages (R33, R52, R63, R66, R86, R505; logs 19, 20, 52). -/
def Obligations.SupplyPins : Prop :=
  ∀ s : State, s.alive = true →
    Runs .vexcLowSet s (fun t => t.power = { s.power with vexcLow := true } ∧ t.src = s.src ∧
      ∀ ch : Fin 64, chMode s.cfg.active ch.val ≠ 0 → (t.cg.get ch).sourceDown = true) ∧
    Runs .vexcLowClear s (fun t => t.power = { s.power with vexcLow := false } ∧
      (∀ k, (s.src.get k).st ≠ .off ∨ (s.src.get k).pending = false → t.src.get k = s.src.get k) ∧
      (s.power.vexcLow = true → ∀ k, (s.src.get k).st = .off → (t.src.get k).pending = false)) ∧
    Runs .stbyStuckSet s (fun t =>
      t.power = { s.power with stbynHigh := false, stbyStuck := s.power.stbyStuck || !s.goingDown }) ∧
    Runs .stbyStuckClear s (fun t =>
      t.power = { s.power with stbynHigh := true, stbyStuck := s.power.stbyStuck && s.goingDown }) ∧
    Runs .extestEntry s (fun t => t.power = { s.power with tap := { s.power.tap with instr := .extest } } ∧
      ∀ p, permitPin t p = .highz) ∧
    Runs .extestExit s (fun t => t.power = { s.power with tap := { s.power.tap with instr := .idcode } } ∧
      ∀ p, permitPin t p = (s.permits.po.get p).out) ∧
    (∀ a b c : BitVec 16, Runs (.supplyVoltageUpdate a b c) s fun t =>
      t.power = { s.power with vsupMv := a.toNat, vioMv := b.toNat, vexcMv := c.toNat })

-- terminals and sources (03)

/-- O16: a clamp event sets its CLF bit and counts a newly set flag; a MAINTAIN session's 1 clears a CLF bit only
while that clamp does not conduct, and a 0 leaves it; EXC_HOLD keeps what a MAINTAIN session writes: a source that was
driving and is newly held discharges, a source whose bit does not change is left alone (R74, R75, R91, R95; log 21).
-/
def Obligations.ClampFlagsAndHolds : Prop :=
  (∀ (s : State) (i : Fin 192) (b : Bool), s.serving = true → Runs (.clampFlagSet i b) s fun t =>
    t.term.clf.getLsbD i.val = true ∧ t.term.cla.getLsbD i.val = b ∧
    (∀ j : Fin 192, j ≠ i → t.term.clf.getLsbD j.val = s.term.clf.getLsbD j.val ∧
      t.term.cla.getLsbD j.val = s.term.cla.getLsbD j.val) ∧
    t.term.clfEvents = if s.term.clf.getLsbD i.val then s.term.clfEvents else satInc32 s.term.clfEvents) ∧
  (∀ (s : State) (o : Origin) (w : Fin 6) (v : Nat) (live : BitVec 32) (k : Fin 4) (x : Session),
    Asks (.clfClearWrite o w v live) s o .maintain k x → v < 2 ^ 32 → Runs (.clfClearWrite o w v live) s fun t =>
      Taken s t o 0x2700 (0x81 + w.val) k x ∧
      ∀ j : Fin 192, t.term.clf.getLsbD j.val = (s.term.clf.getLsbD j.val &&
        !(decide (j.val / 32 = w.val) && v.testBit (j.val % 32) && !live.getLsbD (j.val % 32)))) ∧
  (∀ (s : State) (o : Origin) (high : Bool) (v : Nat) (k : Fin 4) (x : Session),
    Asks (.excHoldWrite o high v) s o .maintain k x → v < 2 ^ 32 →
    Runs (.excHoldWrite o high v) s fun t =>
      Taken s t o 0x2700 (if high then 0x8F else 0x8E) k x ∧
      (∀ j : Fin 64, t.term.hold.getLsbD j.val =
        if j.val / 32 = (if high then 1 else 0) then v.testBit (j.val % 32) else s.term.hold.getLsbD j.val) ∧
      (∀ j : Fin 64, t.term.hold.getLsbD j.val = s.term.hold.getLsbD j.val → t.src.get j = s.src.get j) ∧
      (∀ j : Fin 64, t.term.hold.getLsbD j.val = true → s.term.hold.getLsbD j.val = false →
        (s.src.get j).st = .settling ∨ (s.src.get j).st = .on → (t.src.get j).st = .discharging))

/-- O17: a start of an enabled source: from OFF it settles, from zero current to its programmed one, or is offered to
the Bellringer when bound to a head, or stays PENDING under VEXC_LOW, or is dropped while held, the model's choice
where both hold; while DISCHARGING it stays PENDING; SETTLING and ON ignore it; in HIBERNATE entry it is dropped. A
stop withdraws the source's offers; SETTLING and ON ramp down from their level, OFF and DISCHARGING drop a PENDING
start. COMPLIANCE follows its limit. The other sources are left alone (R80, R85 to R87, R89; log 36). -/
def Obligations.SourceStartAndStop : Prop :=
  (∀ (s : State) (k : Fin 64), s.alive = true → s.power.entering = true → Runs (.excStart k) s fun t =>
    t.src = s.src ∧ t.bell = s.bell) ∧
  (∀ (s : State) (k : Fin 64), s.alive = true → s.power.entering = false → excEnabled s.cfg.active k.val = true →
    ((s.src.get k).st = .off → srcHeld s k = false → s.power.vexcLow = false → headOfSource s.cfg.active k = none →
      Runs (.excStart k) s fun t => (t.src.get k).st = .settling ∧ (t.src.get k).pending = false ∧
        (t.src.get k).current = wordCurrent (excWord s.cfg.active k.val) ∧ (t.src.get k).seqAt = s.now ∧
        levelAt (t.src.get k) s.now = 0 ∧
        levelAt (t.src.get k) (s.now + ms 2) = (wordCurrent (excWord s.cfg.active k.val) : Rat) ∧
        ∀ j, j ≠ k → t.src.get j = s.src.get j) ∧
    (∀ h, (s.src.get k).st = .off → srcHeld s k = false → s.power.vexcLow = false →
      headOfSource s.cfg.active k = some h → startOffered s k = false →
      Runs (.excStart k) s fun t => t.src = s.src ∧
        ∃ f ∈ t.bell.offers, f.cls = .excitation ∧ f.head = h ∧ f.src = some k ∧ f.newCurrent = none) ∧
    ((s.src.get k).st = .off → srcHeld s k = false → s.power.vexcLow = true →
      Runs (.excStart k) s fun t => t.src.get k = { s.src.get k with pending := true } ∧
        ∀ j, j ≠ k → t.src.get j = s.src.get j) ∧
    ((s.src.get k).st = .off → srcHeld s k = true →
      Runs (.excStart k) s fun t => t.src = s.src ∧ t.bell = s.bell) ∧
    ((s.src.get k).st = .discharging →
      Runs (.excStart k) s fun t => t.src.get k = { s.src.get k with pending := true } ∧
        ∀ j, j ≠ k → t.src.get j = s.src.get j) ∧
    ((s.src.get k).st = .settling ∨ (s.src.get k).st = .on → Runs (.excStart k) s fun t => t.src = s.src)) ∧
  (∀ (s : State) (k : Fin 64), s.alive = true →
    ((s.src.get k).st = .settling ∨ (s.src.get k).st = .on → Runs (.excStop k) s fun t =>
      (t.src.get k).st = .discharging ∧ (t.src.get k).pending = false ∧ (t.src.get k).latched = none ∧
      (t.src.get k).seqAt = s.now ∧ levelAt (t.src.get k) s.now = levelAt (s.src.get k) s.now ∧
      levelAt (t.src.get k) (s.now + ms 2) = 0 ∧ (∀ f ∈ t.bell.offers, f.src ≠ some k) ∧
      ∀ j, j ≠ k → t.src.get j = s.src.get j) ∧
    ((s.src.get k).st = .off ∨ (s.src.get k).st = .discharging → Runs (.excStop k) s fun t =>
      t.src.get k = { s.src.get k with pending := false } ∧ (∀ f ∈ t.bell.offers, f.src ≠ some k) ∧
      ∀ j, j ≠ k → t.src.get j = s.src.get j) ∧
    ((s.src.get k).st ≠ .off → Runs (.complianceSet k) s fun t =>
      t.src.get k = { s.src.get k with compliance := true } ∧ ∀ j, j ≠ k → t.src.get j = s.src.get j) ∧
    Runs (.complianceClear k) s fun t =>
      t.src.get k = { s.src.get k with compliance := false } ∧ ∀ j, j ≠ k → t.src.get j = s.src.get j)

/-- O18: 2 ms after its start a source is ON; a stop ends OFF once the terminal is discharged, and 10 ms after its
start in any case, then with DISCH_INCOMPLETE; an UNSETTLED span ends when its time has passed (R86 to R90, R103; log
1). -/
def Obligations.SourceTimers : Prop :=
  (∀ (s : State) (k : Fin 64), s.alive = true → (s.src.get k).st = .settling → Runs (.excRampComplete k) s fun t =>
    t.now = Nat.max s.now ((s.src.get k).seqAt + ms 2) ∧ (t.src.get k).st = .on ∧ (t.src.get k).onFrom = t.now ∧
    (t.src.get k).latched = none ∧ ∀ j, j ≠ k → t.src.get j = s.src.get j) ∧
  (∀ (s : State) (k : Fin 64), s.serving = true → (s.src.get k).st = .discharging → (s.src.get k).pending = false →
    s.now ≤ (s.src.get k).seqAt + ms 10 →
    Runs (.excDischargeComplete k) s fun t => t.now = Nat.max s.now ((s.src.get k).seqAt + ms 2 + us 100) ∧
      (t.src.get k).st = .off ∧ (t.src.get k).current = 0 ∧ (t.src.get k).dischIncomplete = false ∧
      ∀ j, j ≠ k → t.src.get j = s.src.get j) ∧
  (∀ (s : State) (k : Fin 64), s.serving = true → (s.src.get k).st = .discharging → (s.src.get k).pending = false →
    Runs (.excDischargeTimeout k) s fun t => t.now = Nat.max s.now ((s.src.get k).seqAt + ms 10) ∧
      (t.src.get k).st = .off ∧ (t.src.get k).current = 0 ∧ (t.src.get k).dischIncomplete = true ∧
      ∀ j, j ≠ k → t.src.get j = s.src.get j) ∧
  (∀ (s : State) (c : Fin 64) (a b : Nat), s.alive = true → (s.ch.get c).unsetFrom = some a → (s.ch.get c).unsetTo = some b →
    Runs (.unsettledSpanEnd c) s fun t => t.now = Nat.max s.now b ∧ (t.ch.get c).unsetFrom = none ∧
      (t.ch.get c).unsetPrev = some (a, b) ∧ ∀ j, j ≠ c → t.ch.get j = s.ch.get j)

-- channels, ranging, wheel recognition (04, 06)

/-- O19: an output sample of an enabled channel, of the voltages that stand at its terminals up to one group delay after
its centre instant: OVERLOAD follows the range monitor; with the source not ON the value is 0 and UNSETTLED; otherwise,
unless CLIPPED, a bridge's sample carries what stages 1 to 7 make of the voltages, and an inductive channel's the
amplitude and the phase of stage 8, both saturated (R99, R100, R103, R105, R113, R114, R120, R121, R128; logs 1, 12,
54). -/
def Obligations.ChannelSample : Prop :=
  ∀ (s : State) (c : Fin 64) (x : SampleIn) (out : Nat), s.alive = true → chMode s.cfg.active c.val ≠ 0 →
    out = nextCentre s c + groupDelay s.cfg.active c.val → Runs (.channelOutputSample c x) s fun t =>
      t.now = Nat.max s.now out ∧
      (t.ch.get c).lastCentre = some (nextCentre s c) ∧ (t.ch.get c).overload = overloadAt s c out x ∧
      (∃ (v : Int) (f : SampleFlags), (t.ch.get c).sampleA = sampleWord v f ∧ f.clipped = clippedAt s c out x ∧
        f.unsettled = (!sourceOnAt s c.val (nextCentre s c) || unsettledAt (s.ch.get c) (nextCentre s c)) ∧
        (sourceOnAt s c.val (nextCentre s c) = false → v = 0) ∧
        (sourceOnAt s c.val (nextCentre s c) = true → clippedAt s c out x = false →
          (chInductive s.cfg.active c.val = false → v = satS 24 (bridgeValue s c out x)) ∧
          (chInductive s.cfg.active c.val = true →
            v = satS 24 (envelopeAmp (inPhase s c out x) (quadrature s c out x)) ∧
            (t.ch.get c).sampleP = sampleWord (satS 24 (envelopePhase (inPhase s c out x) (quadrature s c out x))) f))) ∧
      (chInductive s.cfg.active c.val = false → (t.ch.get c).sampleP = 0#32) ∧
      ∀ j, j ≠ c → t.ch.get j = s.ch.get j

/-- O20: an overload of an autoranging channel above GAIN_MIN forces it two ranges down, not below GAIN_MIN, 12.8 us
after a forced change at the earliest, and one at GAIN_MIN shows as OVERLOAD, counted once; a peak below 35 % for 100
ms asks a range up, carried out at once on a channel of no head, else offered to the Bellringer (R114 to R117, R122;
logs 1, 22, 53). -/
def Obligations.RangeChanges : Prop :=
  ∀ (s : State) (c : Fin 64), s.alive = true → chMode s.cfg.active c.val ≠ 0 → chAuto s.cfg.active c.val = true →
    (chGainMin s.cfg.active c.val < (s.ch.get c).gain → Runs (.overloadForcedChange c) s fun t =>
      (∀ a, (s.ch.get c).forcedAt = some a → t.now = Nat.max s.now (a + 12800)) ∧
      ((s.ch.get c).forcedAt = none → t.now = s.now) ∧
      (t.ch.get c).forcedAt = some t.now ∧ (t.ch.get c).peakFrom = t.now ∧
      (t.ch.get c).gain = Nat.max ((s.ch.get c).gain - 2) (chGainMin s.cfg.active c.val) ∧
      (t.ch.get c).pendFiner = false ∧ (t.ch.get c).pendCoarser = false ∧
      (t.ch.get c).forcedChanges = satInc32 (s.ch.get c).forcedChanges ∧
      (t.ch.get c).rangeChanges = satInc32 (s.ch.get c).rangeChanges ∧
      ((s.cg.get c).checkRunning = true → (t.cg.get c).voided = true) ∧ ∀ j, j ≠ c → t.ch.get j = s.ch.get j) ∧
    ((s.ch.get c).gain ≤ chGainMin s.cfg.active c.val → Runs (.overloadForcedChange c) s fun t =>
      (t.ch.get c).gain = (s.ch.get c).gain ∧ (t.ch.get c).overload = true ∧
      (t.ch.get c).overloadCount = (if (s.ch.get c).overCounted then (s.ch.get c).overloadCount
        else satInc32 (s.ch.get c).overloadCount) ∧ ∀ j, j ≠ c → t.ch.get j = s.ch.get j) ∧
    ((s.ch.get c).gain < chGainMax s.cfg.active c.val → (s.ch.get c).pendFiner = false →
      (s.ch.get c).pendCoarser = false → Runs (.rangeFinerRequest c) s fun t =>
        t.now = Nat.max s.now ((s.ch.get c).histFrom + ms 100) ∧
        (headOfChannel s.cfg.active c.val = none → (s.cg.get c).checkRunning = false →
          (t.ch.get c).gain = (s.ch.get c).gain + 1 ∧ t.bell.rung = s.bell.rung ∧
            ∀ f ∈ t.bell.offers, f ∈ s.bell.offers) ∧
        (∀ h, headOfChannel s.cfg.active c.val = some h → (t.ch.get c).gain = (s.ch.get c).gain ∧
          (t.ch.get c).pendFiner = true ∧ ∃ f ∈ t.bell.offers, f.cls = .range ∧ f.head = h ∧ f.ch = some c) ∧
        ∀ j, j ≠ c → t.ch.get j = s.ch.get j)

/-- O21: a slot that has left the sensing length closes, and inside the head raises FIT_LOST; a residual above its
limit for 1 ms or a third wheel raises FIT_LOST, a speed beyond VMAX for 1 ms OVERSPEED; the causes clear after 1 s
without an open slot (R171, R172, R184, R190, R249; logs 1, 39). -/
def Obligations.WheelRecognition : Prop :=
  ∀ (s : State) (h : Fin 32), s.alive = true →
    (∀ (i : Fin 2) (sl : Slot), (s.head.get h).slots.get i = some sl →
      slotDone s.cfg.active h.val (s.head.get h).lastKnownAt sl = true → Runs (.slotClose h i) s fun t =>
        (t.head.get h).slots.get i = none ∧ (regionIn sl.region = true → (t.head.get h).causes.fitLost = true) ∧
        ∀ j, j ≠ h → t.head.get j = s.head.get j) ∧
    ((∃ (i : Fin 2) (sl : Slot), (s.head.get h).slots.get i = some sl ∧ ms 1 ≤ sl.residRun) ∨
        (s.head.get h).third = true →
      Runs (.fitLost h) s fun t => (t.head.get h).causes.fitLost = true ∧ ∀ j, j ≠ h → t.head.get j = s.head.get j) ∧
    (∀ (i : Fin 2) (sl : Slot), (s.head.get h).slots.get i = some sl → ms 1 ≤ sl.speedRun →
      Runs (.overspeed h i) s fun t => (t.head.get h).causes.overspeed = true ∧ ∀ j, j ≠ h → t.head.get j = s.head.get j) ∧
    (∀ q, (s.head.get h).quietFrom = some q → wreDisturbed (s.head.get h) = true → anySlot (s.head.get h) = false →
      Runs (.wreCauseClear h) s fun t => t.now = Nat.max s.now (q + sec 1) ∧ (t.head.get h).causes = {} ∧
        (t.head.get h).claimTie = false ∧ ∀ j, j ≠ h → t.head.get j = s.head.get j)

/-- O22: after 1 s of free time a defined head asks for a rebase; 20 ms after it began a rebase ends with new
baselines; a COMMISSION session's 1 arms a template capture (R168, R192, R201; log 1). -/
def Obligations.Rebases : Prop :=
  (∀ (s : State) (h : Fin 32), s.alive = true → headDefined s.cfg.active h.val = true → offerPending s .rebase h = false →
    (∀ p ∈ s.bell.spans, p.cls ≠ .rebase ∨ p.own ≠ h ∨ p.active = false) →
    (s.head.get h).rebaseMark + sec 1 ≤ freeTotal s h →
    Runs (.rebaseRequest h) s fun t => ∃ f, t.bell.offers = s.bell.offers ++ [f] ∧ f.cls = .rebase ∧ f.head = h ∧
      f.span = ms 20 ∧ f.offeredAt = t.now) ∧
  (∀ (s : State) (h : Fin 32) (r : RebaseAcc), s.alive = true → (s.head.get h).rebase = some r →
    Runs (.rebaseComplete h) s fun t => t.now = Nat.max s.now (r.startAt + ms 20) ∧ (t.head.get h).rebase = none ∧
      (t.head.get h).base = rebased s.cfg.active h.val r (s.head.get h).base ∧
      (∀ p ∈ t.bell.spans, p.cls ≠ .rebase ∨ p.own ≠ h) ∧ ∀ j, j ≠ h → t.head.get j = s.head.get j) ∧
  (∀ (s : State) (o : Origin) (h : Fin 32) (k : Fin 4) (x : Session), Asks (.captureCmdArm o h 1) s o .commission k x →
    Runs (.captureCmdArm o h 1) s fun t => Taken s t o (0x2100 + h.val) 0x13 k x ∧ (t.head.get h).captureCmd = 1 ∧
      (t.head.get h).capture = (s.head.get h).capture ∧ ∀ j, j ≠ h → t.head.get j = s.head.get j)

-- channel guard (05)

/-- O23: a cause is raised on a channel when its monitor's condition holds, and every head on which the channel counts
is then DISTURBED; it is dropped when the condition has ended, and a head on which no cause is left awaits its check.
A check is offered for a defined head that is not DISTURBED, when GUARD_TEST_PERIOD of free time has passed or a
MAINTAIN session's CHECK_NOW names it; a free channel's check starts at its period; 10 s without a complete check set
TEST_STARVED (R134, R136, R137, R146, R148, R149; instants: log 1, causes: log 35). -/
def Obligations.GuardCausesAndRequests : Prop :=
  (∀ (s : State) (c : Fin 64) (g : GuardCause), s.alive = true →
    (monitorHolds s c g = true → causeFlag (s.cg.get c) g = false → Runs (.guardCauseRaised c g) s fun t =>
      causeFlag (t.cg.get c) g = true ∧
      (∀ h : Fin 32, countingOf s.cfg.active h.val c.val = true → (t.hg.get h).gs = .disturbed) ∧
      ∀ j, j ≠ c → t.cg.get j = s.cg.get j) ∧
    (monitorHolds s c g = false → causeFlag (s.cg.get c) g = true → Runs (.guardCauseDropped c g) s fun t =>
      causeFlag (t.cg.get c) g = false ∧ (∀ j, j ≠ c → t.cg.get j = s.cg.get j) ∧
      ∀ h : Fin 32, countingOf s.cfg.active h.val c.val = true → (s.hg.get h).gs = .disturbed →
        (t.hg.get h).gs = if countingCause t h then .disturbed else .awaitingCheck) ∧
    (monitorHolds s c g = causeFlag (s.cg.get c) g →
      Runs (.guardCauseRaised c g) s (fun t => t.cg = s.cg ∧ t.hg = s.hg) ∧
      Runs (.guardCauseDropped c g) s (fun t => t.cg = s.cg ∧ t.hg = s.hg))) ∧
  (∀ (s : State) (h : Fin 32), s.alive = true → headDefined s.cfg.active h.val = true → (s.hg.get h).gs ≠ .disturbed →
    offerPending s .check h = false → (∀ p ∈ s.bell.spans, p.cls ≠ .check ∨ p.own ≠ h ∨ p.active = false) →
    (s.hg.get h).freeMark + testPeriodNs s.cfg.active ≤ freeTotal s h →
    Runs (.checkRequestDue h) s fun t => ∃ f, t.bell.offers = s.bell.offers ++ [f] ∧ f.cls = .check ∧ f.head = h ∧
      f.span = headCheckSpan s.cfg.active h.val) ∧
  (∀ (s : State) (o : Origin) (h : Fin 32) (k : Fin 4) (x : Session), Asks (.checkNow o (2 ^ h.val)) s o .maintain k x →
    headDefined s.cfg.active h.val = true → (s.hg.get h).gs ≠ .disturbed → offerPending s .check h = false →
    Runs (.checkNow o (2 ^ h.val)) s fun t => Taken s t o 0x2A00 0x3C k x ∧ t.hg = s.hg ∧
      ∃ f, t.bell.offers = s.bell.offers ++ [f] ∧ f.cls = .check ∧ f.head = h) ∧
  (∀ (s : State) (c : Fin 64), s.alive = true → freeChecked s.cfg.active c = true → (s.cg.get c).checkRunning = false →
    (s.cg.get c).freeCheckFrom + testPeriodNs s.cfg.active ≤ s.now →
    Runs (.freeChannelCheckDue c) s fun t => t.now = s.now ∧
      (startable s c = true → (t.cg.get c).checkRunning = true ∧ (t.cg.get c).voided = false ∧
        (t.ch.get c).injFrom = some s.now) ∧
      (startable s c = false → (t.cg.get c).checkRunning = false ∧ (t.cg.get c).freeCheckFrom = s.now)) ∧
  (∀ (s : State) (h : Fin 32) (a : Nat), s.alive = true → headDefined s.cfg.active h.val = true →
    (s.hg.get h).checkedAt.or (s.hg.get h).sourcesOnAt = some a →
    Runs (.testStarvedSet h) s fun t => t.now = Nat.max s.now (a + sec 10) ∧
      t.hg.get h = { s.hg.get h with starved := true } ∧ ∀ j, j ≠ h → t.hg.get j = s.hg.get j)

/-- O24: the end of an injection: each channel under it takes its finding, VOID without a result; a complete one
counts; the span of a head's check is no longer active, and a head that is not DISTURBED is IN_SERVICE after a check
that every counting channel passed; a complete check in which one of them fails takes a head out of IN_SERVICE into
AWAITING_CHECK (R142, R144, R145, R149, R159; logs 1, 22, 35). -/
def Obligations.GuardCheckEnds : Prop :=
  (∀ (s : State) (c : Fin 64) (rs : List CheckMeas) (a b : Nat), s.alive = true → (s.cg.get c).checkRunning = true →
    (s.ch.get c).injFrom = some a → (s.ch.get c).injTo = some b →
    (∀ p ∈ s.bell.spans, p.cls ≠ .check ∨ p.active = false ∨ c ∉ p.chans) →
    ∃ t, exec (.guardCheckEnd (.channel c) rs) s = .next t ∧ t.now = Nat.max s.now b ∧
      (∀ j, j = c ∨ (partnerChan s.cfg.active c = some j ∧ (s.cg.get j).checkRunning = true ∧
          (s.ch.get j).injFrom = some a) →
        (t.cg.get j).checkRunning = false ∧
        (t.cg.get j).lastFinding = (channelFinding { s with now := t.now } rs j).1 ∧
        ((t.cg.get j).lastFinding ≠ .void → (t.cg.get j).checkCount = ((s.cg.get j).checkCount + 1) % 65536 ∧
          (t.cg.get j).lastComplete = (t.cg.get j).lastFinding) ∧
        ((∀ r ∈ rs, r.ch ≠ j) → (t.cg.get j).lastFinding = .void)) ∧
      ∀ j, j ≠ c → partnerChan s.cfg.active c ≠ some j → t.cg.get j = s.cg.get j) ∧
  (∀ (s : State) (h : Fin 32) (rs : List CheckMeas) (p : Span), s.alive = true →
    s.bell.spans.find? (fun p => p.cls == .check && p.own == h && p.active) = some p →
    ∃ t, exec (.guardCheckEnd (.head h) rs) s = .next t ∧ t.now = Nat.max s.now p.injEnd ∧
      (∀ c ∈ p.chans, (t.cg.get c).checkRunning = false ∧
        (t.cg.get c).lastFinding = (channelFinding { s with now := t.now } rs c).1) ∧
      (∀ c, c ∉ p.chans → t.cg.get c = s.cg.get c) ∧
      (headDefined s.cfg.active h.val = true → (s.hg.get h).gs ≠ .disturbed →
        (∀ c ∈ countingOfHead s.cfg.active h.val, c ∈ p.chans ∧
          (channelFinding { s with now := t.now } rs c).1 = .pass) →
        (t.hg.get h).gs = .inService ∧ (t.hg.get h).starved = false) ∧
      (headDefined s.cfg.active h.val = true →
        (∀ c ∈ countingOfHead s.cfg.active h.val, c ∈ p.chans ∧
          (channelFinding { s with now := t.now } rs c).1 ≠ .void) →
        (∃ c ∈ countingOfHead s.cfg.active h.val, isFail (channelFinding { s with now := t.now } rs c).1 = true) →
        (t.hg.get h).gs = (if (s.hg.get h).gs = .inService then .awaitingCheck else (s.hg.get h).gs) ∧
        (t.hg.get h).starved = false ∧ (t.hg.get h).checkedAt = some t.now) ∧
      ∀ q ∈ t.bell.spans, q.cls = .check → q.own = h → q.active = false)

-- tracker and Bellringer (07, 09)

/-- O25: a trigger on a defined head opens a PROVISIONAL entry in a FREE one, or else evicts a PARKED one, and tells
Tally the two sections; with no entry FREE or PARKED it opens none and TRACKER_FULL is set (R247, R250, R264; log 27).
-/
def Obligations.TriggerOpensEntry : Prop :=
  ∀ (s : State) (h : Fin 32) (neg : Bool) (g : Nat), s.alive = true → headDefined s.cfg.active h.val = true →
    beforeActivation s g = false →
    ((∃ i, (s.trk.entries.get i).st = .free) → Runs (.triggerEvent h neg g) s fun t =>
      t.trk.counts.opened = satInc32 s.trk.counts.opened ∧ t.now = s.now ∧
      (∃ i, (s.trk.entries.get i).st = .free ∧ (t.trk.entries.get i).st = .provisional ∧
        (t.trk.entries.get i).head = h ∧ (t.trk.entries.get i).neg = neg ∧ (t.trk.entries.get i).tRef = g ∧
        (t.trk.entries.get i).openedAt = s.now) ∧
      TallyItem.opened (sideSection s.cfg.active h.val neg) (sideSection s.cfg.active h.val (!neg)) ∈ t.tally.inbox) ∧
    ((∀ i, (s.trk.entries.get i).st ≠ .free) → (∃ i, (s.trk.entries.get i).st = .parked) →
      Runs (.triggerEvent h neg g) s fun t => t.trk.counts.opened = satInc32 s.trk.counts.opened ∧
        t.trk.counts.releasedEarly = satInc32 s.trk.counts.releasedEarly ∧ t.trk.full = s.trk.full ∧
        ∃ i, (s.trk.entries.get i).st = .parked ∧ (t.trk.entries.get i).st = .provisional ∧
          (t.trk.entries.get i).head = h ∧ (t.trk.entries.get i).tRef = g) ∧
    ((∀ i, (s.trk.entries.get i).st ≠ .free ∧ (s.trk.entries.get i).st ≠ .parked) →
      Runs (.triggerEvent h neg g) s fun t => t.trk.full = true ∧ t.trk.entries = s.trk.entries ∧
        t.trk.counts = s.trk.counts ∧ t.tally = s.tally)

/-- O26: a FULL verdict confirms the entry of its trigger, which runs on into the section beyond or, where there is
none, becomes FREE; without an entry it is a confirmed axle for Tally alone; any other verdict refutes the entry
(R251, R252, R254, R265; logs 27, 38). -/
def Obligations.VerdictSettlesEntry : Prop :=
  ∀ (s : State) (h : Fin 32) (v : VerdictRec), s.alive = true → headDefined s.cfg.active h.val = true →
    (∀ i, entryOfVerdict s h v = some i → isFull v.verdict = true → Runs (.traversalVerdict h v) s fun t =>
      t.trk.counts.confirmed = satInc32 s.trk.counts.confirmed ∧
      (∀ n, sideSection s.cfg.active h.val (v.verdict != .fullNeg) = some n →
        (t.trk.entries.get i).st = .running ∧ (t.trk.entries.get i).sec = some n ∧ (t.trk.entries.get i).head = h ∧
        (t.trk.entries.get i).speed = v.exitSpeed) ∧
      (sideSection s.cfg.active h.val (v.verdict != .fullNeg) = none → (t.trk.entries.get i).st = .free) ∧
      ∃ g, TallyItem.confirmed h v (some i) (s.trk.entries.get i).axleId g
        (sideSection s.cfg.active h.val (v.verdict == .fullNeg))
        (sideSection s.cfg.active h.val (v.verdict != .fullNeg)) ∈ t.tally.inbox) ∧
    (entryOfVerdict s h v = none → isFull v.verdict = true → Runs (.traversalVerdict h v) s fun t =>
      t.trk.counts.confirmedOnly = satInc32 s.trk.counts.confirmedOnly ∧ t.trk.entries = s.trk.entries ∧
      ∃ g, TallyItem.confirmed h v none 0 g (sideSection s.cfg.active h.val (v.verdict == .fullNeg))
        (sideSection s.cfg.active h.val (v.verdict != .fullNeg)) ∈ t.tally.inbox) ∧
    (∀ i, entryOfVerdict s h v = some i → isFull v.verdict = false → Runs (.traversalVerdict h v) s fun t =>
      t.trk.counts.refutedVerdict = satInc32 s.trk.counts.refutedVerdict ∧ (t.trk.entries.get i).st = .free ∧
      t.trk.counts.confirmed = s.trk.counts.confirmed)

/-- O27: a passage group closes and is published GROUP_GAP over the last member's exit speed, at least 100 mm/s, after
that member's exit instant; every 20 us each entry moves on; a
prediction that fails frees its entry; TRACKER_FULL clears after 1 s with room (R252, R256, R257, R261, R264; logs 1,
27). -/
def Obligations.TrackerTimers : Prop :=
  ∀ s : State, s.alive = true →
    (∀ (h : Fin 32) (g : Group), s.trk.groups.get h = some g → Runs (.groupGapTimeout h) s fun t =>
      (∀ m, g.members.getLast? = some m → t.now = s.now +
        (((groupGap s.cfg.active : Rat) / 16 / ((Nat.max m.exitSpeed.natAbs 100 : Nat) : Rat) * 1000000000).ceil.toNat -
          gridSince (gridTime s) m.exitTime * 20000)) ∧
      t.trk.groups.get h = none ∧ t.trk.lastGroup = groupInfo h g ∧ TallyItem.group (groupInfo h g) ∈ t.tally.inbox ∧
      ∀ j, j ≠ h → t.trk.groups.get j = s.trk.groups.get j) ∧
    Runs .trackerWindowUpdate s (fun t => t.trk.stepAt = nextStep s.power.bootAt s.now s.trk.stepAt ∧
      t.now = Nat.max s.now t.trk.stepAt ∧
      ∀ i, t.trk.entries.get i = stepEntry { s with now := t.now } (s.trk.entries.get i)) ∧
    (∀ (i : Fin 128) (a : Nat), failInstant s.cfg.active (s.trk.entries.get i) = some a →
      Runs (.predictionFailed i) s fun t => t.now = Nat.max s.now a ∧ t.trk.entries.get i = {} ∧
        t.trk.counts.refutedPrediction = satInc32 s.trk.counts.refutedPrediction ∧
        ∀ j, j ≠ i → t.trk.entries.get j = s.trk.entries.get j) ∧
    (∀ a, s.trk.roomFrom = some a → s.trk.full = true → Runs .trackerFullClear s fun t =>
      t.now = Nat.max s.now (a + sec 1) ∧ t.trk = { s.trk with full := false })

/-- O28: a step of the Bellringer: what the step before rang is carried out, so that a rung start of a free source
settles, and, where no head stops being FREE, a rung range change, check, rebase or current change too. An offer,
pending before or made at this step, is rung only when each of its heads is FREE with a GAP of at least its span and no
check or rebase forbids it, and every offer that is left pending is not RINGABLE; under TRACKER_FULL nothing is rung
(R85, R207, R209, R210, R212; logs 1, 28). -/
def Obligations.BellringerSteps : Prop :=
  ∀ s : State, s.alive = true → Runs .bellringerStep s fun t =>
    t.bell.stepAt = nextStep s.power.bootAt s.now s.bell.stepAt ∧ t.now = Nat.max s.now t.bell.stepAt ∧
    (∀ (f : Offer) (k : Fin 64), s.bell.rung = [f] → f.cls = .excitation → f.src = some k → f.newCurrent = none →
      (s.src.get k).st = .off → srcHeld s k = false → s.power.vexcLow = false → s.power.entering = false →
      excEnabled s.cfg.active k.val = true → (t.src.get k).st = .settling) ∧
    (∀ f : Offer, s.bell.rung = [f] → (∀ h, (s.bell.heads.get h).free = true → (t.bell.heads.get h).free = true) →
      CarriedOut s t f) ∧
    (∀ f ∈ t.bell.rung, (f ∈ s.bell.offers ∨ f.offeredAt = t.now) ∧ RungWell t f) ∧
    (t.trk.full = false → ∀ f ∈ t.bell.offers, ringable t f = false) ∧
    (s.trk.full = true → t.bell.rung = [] ∧ t.bell.rungExc = s.bell.rungExc ∧ t.bell.rungRange = s.bell.rungRange ∧
      t.bell.rungCheck = s.bell.rungCheck ∧ t.bell.rungRebase = s.bell.rungRebase)

-- Tally and sections (08)

/-- O29: a Tally cycle starts on the 1 ms grid, takes the die temperature, every restore and disturb write and every
tracker result (those that the cycle's own trip or RTD checks lead to wait), publishes the sections as it leaves them,
and hands the Reeve the refresh of this cycle, with the permit condition of every permit. A used section becomes or
stays DISTURBED, with the bit of its DIST_CAUSE, by a disturb write, by a bounding head that is disturbed or was since
the cycle before, by an underflow or an overflow at the one axle that the cycle takes, and by a rise of THERMAL_TRIP. A
DISTURBED section stays so unless its restore is granted: a request taken before and acknowledged is granted or refused
by the conditions of R236. The residue of a section without untracked axles is empty (R38, R221, R224, R230, R233,
R235, R236, R242, R272, R276, R304, R347; logs 1, 26). -/
def Obligations.TallyCycleCompletes : Prop :=
  ∀ (s : State) (d : Int), s.alive = true → Runs (.tallyCycle d) s fun t =>
    t.tally.startAt = nextFrom (ms 1) s.power.bootAt s.now s.tally.startAt ∧ t.now = Nat.max s.now t.tally.startAt ∧
    t.tally.cycles = (s.tally.cycles + 1) % 2 ^ 32 ∧ t.tally.pub.cycles = t.tally.cycles ∧ t.power.dieTemp = d ∧
    t.tally.restoreIn = [] ∧ t.tally.disturbIn = [] ∧ t.tally.ackIn = false ∧
    (t.tally.tripTaken = s.tally.tripTaken → (∀ c : Fin 64, chRtd s.cfg.active c.val = false) → t.tally.inbox = []) ∧
    (s.twin.stopLatch = false → ∃ r : Refresh, t.twin.held = s.twin.held ++ [(retireWindow t, .refresh r)] ∧
      (∀ p : Fin 16, r.cond.getLsbD p.val = permitCondition t p) ∧ t.tally.inhibit = s.permits.inhibit ∧
      r.force = forceMask s (t.tally.tripTaken && !s.tally.tripTaken) ∧ r.test = s.tally.dropIn) ∧
    (∀ n, (t.tally.pub.sections.get n).st = (t.sect.get n).st ∧
      (t.tally.pub.sections.get n).count = (t.sect.get n).count) ∧
    (∀ n, (s.sect.get n).st = .disturbed → (t.sect.get n).st = .disturbed ∨
      (t.sect.get n).st = .ras ∧ (t.sect.get n).rstate = .granted ∧ (t.sect.get n).count = 0) ∧
    (∀ n, (s.sect.get n).unused = false →
      (n ∈ s.tally.disturbIn → Disturbed t n 6) ∧
      (∀ h ∈ boundingHeads s.cfg.active n,
        ((s.hg.get h).raised = true → Disturbed t n 2) ∧ ((s.head.get h).raised = true → Disturbed t n 3) ∧
        ((s.sect.get n).st ≠ .disturbed →
          (guardDisturbed t h = true → Disturbed t n 2) ∧ (wreDisturbed (t.head.get h) = true → Disturbed t n 3))) ∧
      (∀ h v e x g b, (s.sect.get n).st ≠ .disturbed → s.tally.inbox = [TallyItem.confirmed h v e x g (some n) b] →
        (s.sect.get n).count = 0 → Disturbed t n 4) ∧
      (∀ h v e x g a, (s.sect.get n).st ≠ .disturbed → s.tally.inbox = [TallyItem.confirmed h v e x g a (some n)] →
        a ≠ some n → (s.sect.get n).count = 4095 → Disturbed t n 5) ∧
      (1500 ≤ d → s.tally.tripTaken = false → Disturbed t n 7)) ∧
    (∀ n, s.tally.restoreIn = [] → (s.sect.get n).st = .disturbed → (s.sect.get n).rstate = .pending →
      (t.now < (s.sect.get n).reqAt + sec 60 → s.tally.ackIn = true → RestoreJudged s t n) ∧
      (t.now < (s.sect.get n).reqAt + sec 60 → s.tally.ackIn = false → (t.sect.get n).rstate = .pending) ∧
      ((s.sect.get n).reqAt + sec 60 ≤ t.now → (t.sect.get n).rstate = .expired)) ∧
    (∀ n, s.tally.restoreIn = [] → (s.sect.get n).st = .disturbed → (s.sect.get n).rstate = .pending →
      t.now < (s.sect.get n).reqAt + sec 60 → s.tally.ackIn = true → (s.sect.get n).raised = 0#8 →
      n ∉ s.tally.disturbIn → s.tally.inbox = [] → t.power.thermalTrip = s.power.thermalTrip →
      t.tally.tripTaken = s.tally.tripTaken → (∀ c : Fin 64, chRtd s.cfg.active c.val = false) →
      (∀ h ∈ boundingHeads s.cfg.active n, (s.hg.get h).raised = false ∧ (s.head.get h).raised = false ∧
        headDisturbed s h = false ∧ anySlot (s.head.get h) = false) →
      (s.sect.get n).provRefs = 0 → (s.sect.get n).touched = false →
      (t.sect.get n).st = .ras ∧ (t.sect.get n).rstate = .granted) ∧
    (∀ n, (t.engine.residues.get n).n ≤ t.tally.pub.untracked.get n ∧
      (t.tally.pub.untracked.get n = 0 → t.engine.residues.get n = {}))

/-- O30: one confirmed axle moves from the section it leaves to the one it enters within one Tally cycle: neither
count changes without the other (R20, R222, R223). -/
def Obligations.ConfirmedAxleCounts : Prop :=
  ∀ (s : State) (d : Int) (h : Fin 32) (v : VerdictRec) (e : Option (Fin 128)) (x g : Nat) (a b : Fin 48),
    s.alive = true → a ≠ b → s.tally.ackIn = false →
    s.tally.inbox = [TallyItem.confirmed h v e x g (some a) (some b)] →
    0 < (s.sect.get a).count → (s.sect.get b).count < 4095 → Runs (.tallyCycle d) s fun t =>
      (t.sect.get a).count + 1 = (s.sect.get a).count ∧ (t.sect.get b).count = (s.sect.get b).count + 1 ∧
      (t.sect.get a).countOut = satInc32 (s.sect.get a).countOut ∧
      (t.sect.get b).countIn = satInc32 (s.sect.get b).countIn ∧
      ∀ n, n ≠ a → n ≠ b → (t.sect.get n).count = (s.sect.get n).count

/-- O31: whatever command is carried out, a section becomes CLEAR only out of CLEARING, with COUNT 0, not held, at a
cycle start or a delay's expiry that T0 + CLEAR_DELAY does not come after; it leaves RESTORED-AWAITING-SWEEP, but for
DISTURBED, only in a Tally cycle with SWEEP_IN at least 1 and COUNT 0; and it leaves DISTURBED only for
RESTORED-AWAITING-SWEEP by a granted restore (R226, R227, R228, R233). -/
def Obligations.SectionTransitions : Prop :=
  ∀ (c : Instr) (s t : State) (n : Fin 48), exec c s = .next t →
    ((t.sect.get n).st = .clear → (s.sect.get n).st ≠ .clear → (s.sect.get n).st = .clearing ∧
      (t.sect.get n).count = 0 ∧ (t.sect.get n).provRefs = 0 ∧
      ((∃ d, c = .tallyCycle d ∧ (t.sect.get n).held = false ∧
          (t.sect.get n).t0 + ms (clearDelay s.cfg.active n.val) ≤ t.tally.startAt) ∨
        c = .clearDelayExpiry n ∧ (t.sect.get n).t0 + ms (clearDelay s.cfg.active n.val) ≤ t.now)) ∧
    ((s.sect.get n).st = .ras → (t.sect.get n).st = .ras ∨ (t.sect.get n).st = .disturbed ∨
      (∃ d, c = .tallyCycle d) ∧ 1 ≤ (t.sect.get n).sweepIn ∧ (t.sect.get n).count = 0 ∧
        ((t.sect.get n).st = .clearing ∨ (t.sect.get n).st = .occupied)) ∧
    ((s.sect.get n).st = .disturbed → (t.sect.get n).st = .disturbed ∨
      (t.sect.get n).st = .ras ∧ (t.sect.get n).rstate = .granted)

/-- O32: a MAINTAIN session asks for a restore with 0x5253 and withdraws with 0; the write is refused while the
section is unused or its STATE is not DISTURBED; DISTURB_CMD with 0x4453 is kept for Tally (R230, R234, R239, R370;
log 26). -/
def Obligations.SectionWrites : Prop :=
  ∀ (s : State) (o : Origin) (n : Fin 48) (k : Fin 4) (x : Session),
    (Asks (.restoreRequest o n 0x5253) s o .maintain k x →
      (secUsed s.cfg.active n.val = true → (s.tally.pub.sections.get n).st = .disturbed →
        Runs (.restoreRequest o n 0x5253) s fun t => Taken s t o (0x2200 + n.val) 0x0B k x ∧
          t.tally = { s.tally with restoreIn := s.tally.restoreIn ++ [.request n o s.now] } ∧ t.sect = s.sect) ∧
      (secUsed s.cfg.active n.val = false ∨ (s.tally.pub.sections.get n).st ≠ .disturbed →
        Runs (.restoreRequest o n 0x5253) s fun t => Msg.answer o (0x2200 + n.val) 0x0B abortState ∈ t.sent ∧
          t.tally = s.tally ∧ t.sect = s.sect)) ∧
    (Asks (.restoreWithdraw o n 0) s o .maintain k x →
      Runs (.restoreWithdraw o n 0) s (fun t => Taken s t o (0x2200 + n.val) 0x0B k x ∧
        t.tally = { s.tally with restoreIn := s.tally.restoreIn ++ [.withdraw n o] } ∧ t.sect = s.sect)) ∧
    (Asks (.disturbCmd o n 0x4453) s o .maintain k x →
      Runs (.disturbCmd o n 0x4453) s (fun t => Taken s t o (0x2200 + n.val) 0x0D k x ∧
        t.tally = { s.tally with disturbIn := s.tally.disturbIn ++ [n] } ∧ t.sect = s.sect))

/-- O33: a CLEARING section that is neither counting nor held is CLEAR at the first cycle start at or after T0 +
CLEAR_DELAY; a pending restore request is EXPIRED 60 s after its write (R228, R233, R235; log 1). -/
def Obligations.SectionTimers : Prop :=
  (∀ (s : State) (n : Fin 48), s.alive = true → (s.sect.get n).st = .clearing → (s.sect.get n).count = 0 →
    (s.sect.get n).provRefs = 0 →
    ∃ t, exec (.clearDelayExpiry n) s = .next t ∧ (t.sect.get n).st = .clear ∧ (t.sect.get n).count = 0 ∧
      t.now = Nat.max s.now (s.tally.startAt +
        ((s.sect.get n).t0 + ms (clearDelay s.cfg.active n.val) - s.tally.startAt + ms 1 - 1) / ms 1 * ms 1) ∧
      ∀ j, j ≠ n → t.sect.get j = s.sect.get j) ∧
  (∀ (s : State) (n : Fin 48), s.alive = true → (s.sect.get n).rstate = .pending →
    ∃ t, exec (.restoreExpiry n) s = .next t ∧ t.now = Nat.max s.now ((s.sect.get n).reqAt + sec 60) ∧
      t.sect.get n = { s.sect.get n with rstate := .expired, reason := 0, reqBy := none } ∧
      ∀ j, j ≠ n → t.sect.get j = s.sect.get j)

-- permits (10)

/-- O34: what an OPERATE session writes to INHIBIT, LOCKOUT_CMD and ACK_ARM, and a MAINTAIN session to DROPTEST_CMD,
is taken; ACK_ARM other than 0x4152 and 0 is refused (R272, R279, R287, R292, R296; log 23). -/
def Obligations.PermitWrites : Prop :=
  ∀ (s : State) (o : Origin) (k : Fin 4) (x : Session),
    (∀ v, v < 2 ^ 16 → Asks (.inhibitWrite o v) s o .operate k x → Runs (.inhibitWrite o v) s fun t =>
      Taken s t o 0x2300 0x33 k x ∧ t.permits = { s.permits with inhibit := BitVec.ofNat 16 v }) ∧
    (∀ v, v < 2 ^ 16 → Asks (.lockoutCmd o v) s o .operate k x → Runs (.lockoutCmd o v) s fun t =>
      Taken s t o 0x2300 0x38 k x ∧ t.permits = s.permits ∧
      t.tally = { s.tally with lockIn := s.tally.lockIn ||| BitVec.ofNat 16 v }) ∧
    (Asks (.ackArm o 0x4152) s o .operate k x → Runs (.ackArm o 0x4152) s (fun t =>
      Taken s t o 0x2300 0x34 k x ∧ t.permits = s.permits ∧
      t.tally = { s.tally with armIn := s.tally.armIn ++ [.arm o s.now] })) ∧
    (Asks (.ackArmWithdraw o 0) s o .operate k x → Runs (.ackArmWithdraw o 0) s (fun t =>
      Taken s t o 0x2300 0x34 k x ∧ t.permits = s.permits ∧
      t.tally = { s.tally with armIn := s.tally.armIn ++ [.withdraw o] })) ∧
    (∀ v, v < 2 ^ 16 → v ≠ 0 → v ≠ 0x4152 → Asks (.ackArm o v) s o .operate k x → Runs (.ackArm o v) s fun t =>
      Msg.answer o 0x2300 0x34 abortValue ∈ t.sent ∧ t.tally = s.tally ∧ t.permits = s.permits) ∧
    (∀ v, v < 2 ^ 16 → Asks (.droptestCmd o v) s o .maintain k x → Runs (.droptestCmd o v) s fun t =>
      Taken s t o 0x2300 0x4A k x ∧ t.permits = s.permits ∧
      t.tally = { s.tally with dropIn := s.tally.dropIn ||| BitVec.ofNat 16 v })

/-- O35: at a due edge a RUNNING permit changes level, a starting one rises, a stopping or stopped one is low, a
high-impedance one stays so; a drop runs for DROP and then ends in OFF, or in RUNNING when PENDING is set and the
condition is true, with PENDING and TESTED clear; no other permit changes (R273 to R275, R277, R278; instants: log 1).
-/
def Obligations.PermitEdgesAndDrops : Prop :=
  (∀ (s : State) (p : Fin 16), s.serving = true → Runs (.permitDueEdge p) s fun t =>
    t.now = Nat.max s.now (nextEdge s p) ∧ (t.permits.po.get p).edgeAt = nextEdge s p ∧
    (t.permits.po.get p).st = (s.permits.po.get p).st ∧
    ((s.permits.po.get p).st = .highz → (t.permits.po.get p).out = (s.permits.po.get p).out) ∧
    ((s.permits.po.get p).st = .running → (s.permits.po.get p).startNext = true →
      (t.permits.po.get p).out = .high ∧ (t.permits.po.get p).startNext = false ∧ (t.permits.po.get p).runAt = t.now) ∧
    ((s.permits.po.get p).st = .running → (s.permits.po.get p).startNext = false →
      (t.permits.po.get p).out = if (s.permits.po.get p).out = .high then .low else .high) ∧
    ((s.permits.po.get p).st = .dropping ∨ (s.permits.po.get p).st = .off → (t.permits.po.get p).out = .low) ∧
    ((s.permits.po.get p).st = .dropping → (s.permits.po.get p).stopNext = true → (t.permits.po.get p).dropAt = t.now) ∧
    ∀ q, q ≠ p → t.permits.po.get q = s.permits.po.get q) ∧
  (∀ (s : State) (p : Fin 16), s.serving = true → (s.permits.po.get p).st = .dropping →
    (s.permits.po.get p).stopNext = false → Runs (.dropElapsed p) s fun t =>
      t.now = Nat.max s.now ((s.permits.po.get p).dropAt + ms (permitDrop s.cfg.active p.val)) ∧
      (t.permits.po.get p).st =
        (if (s.permits.po.get p).pending = true ∧ (s.permits.po.get p).cond = true then .running else .off) ∧
      (t.permits.po.get p).pending = false ∧ (t.permits.po.get p).tested = false ∧
      (t.permits.po.get p).out = (s.permits.po.get p).out ∧ ∀ q, q ≠ p → t.permits.po.get q = s.permits.po.get q)

/-- O36: no command makes a permit RUNNING unless the permit condition released to it is true (R272, R277). -/
def Obligations.RunningNeedsCondition : Prop :=
  ∀ (c : Instr) (s t : State) (p : Fin 16), exec c s = .next t → (t.permits.po.get p).st = .running →
    (s.permits.po.get p).st = .running ∨ (t.permits.po.get p).cond = true

/-- O37: a readback sample keeps RB_MAP and counts a mismatch with the expected level, a match ends the run and no
expectation leaves it; the third mismatch of a run is one readback fault, told to Tally; 1.5 ms without a refresh
drive every output low (R280, R281, R283; log 1). -/
def Obligations.ReadbackAndStall : Prop :=
  (∀ (s : State) (p : Fin 16) (b : Bool), s.serving = true → Runs (.readbackSample p b) s fun t =>
    t.now = Nat.max s.now (nextEdge s p - us 10) ∧ t.permits.rbMap.getLsbD p.val = b ∧
    (expectedLevel s.cfg.active p.val t.now (s.permits.po.get p) = none →
      t.permits.po.get p = s.permits.po.get p) ∧
    (∀ e, expectedLevel s.cfg.active p.val t.now (s.permits.po.get p) = some e →
      (t.permits.po.get p).mism = if b = (e != permitInv s.cfg.active p.val) then 0 else satInc 3 (s.permits.po.get p).mism) ∧
    (t.permits.po.get p).st = (s.permits.po.get p).st ∧ ∀ q, q ≠ p → t.permits.po.get q = s.permits.po.get q) ∧
  (∀ (s : State) (p : Fin 16), s.serving = true → 3 ≤ (s.permits.po.get p).mism →
    (s.permits.po.get p).runReported = false → Runs (.readbackFault p) s fun t =>
      t.permits.rbFaults = satInc32 s.permits.rbFaults ∧ t.tally.readbackIn.getLsbD p.val = true ∧
      t.permits.po.get p = { s.permits.po.get p with runReported := true } ∧
      ∀ q, q ≠ p → t.permits.po.get q = s.permits.po.get q) ∧
  (∀ (s : State) (p : Fin 16), s.serving = true → (s.permits.po.get p).runReported = true →
    Runs (.readbackFault p) s fun t => t.permits = s.permits ∧ t.tally = s.tally) ∧
  (∀ s : State, s.alive = true → s.twin.stopLatch = false → s.permits.stalled = false → Runs .tallyStall s fun t =>
    t.now = Nat.max s.now (s.permits.refreshedAt + us 1500) ∧ t.permits.stalled = true ∧ t.tally.stallIn = true ∧
    ∀ p, (s.permits.po.get p).st ≠ .highz → (t.permits.po.get p).st = .dropping ∧ (t.permits.po.get p).out = .low ∧
      (t.permits.po.get p).cond = false ∧ (t.permits.po.get p).pending = false)

/-- O38: a press of 200 ms to 5 s after 1 s of ACKn high, armed and without ACK_STUCK, is an acknowledge at its
release and consumes the arming; any other press is ignored and counted; 5 s of press set ACK_STUCK, 1 s of ACKn high
clears it; the arming ends after 60 s (R290 to R294; logs 1, 24). -/
def Obligations.Acknowledge : Prop :=
  ∀ s : State, s.alive = true →
    (s.permits.ack.pressed = false → Runs (.ackDebouncedEdge true) s fun t => t.permits.ack.pressed = true ∧
      t.permits.ack.pressAt = s.now ∧ t.permits.ack.highFrom = none ∧ t.tally = s.tally ∧
      (t.permits.ack.pressOk = true ↔ ∃ a, s.permits.ack.highFrom = some a ∧ a + sec 1 ≤ s.now)) ∧
    (s.permits.ack.pressed = true → s.now - s.permits.ack.pressAt < sec 5 → Runs (.ackDebouncedEdge false) s fun t =>
      t.permits.ack.pressed = false ∧ t.permits.ack.highFrom = some s.now ∧ t.permits.ack.stuck = s.permits.ack.stuck ∧
      (ackCounts s = true → t.tally.ackIn = true ∧ t.permits.ack.armedBy = none ∧
        t.permits.ack.accepted = satInc32 s.permits.ack.accepted ∧ t.permits.ack.ignored = s.permits.ack.ignored) ∧
      (ackCounts s = false → t.tally.ackIn = s.tally.ackIn ∧ t.permits.ack.armedBy = s.permits.ack.armedBy ∧
        t.permits.ack.ignored = satInc32 s.permits.ack.ignored ∧ t.permits.ack.accepted = s.permits.ack.accepted)) ∧
    (s.permits.ack.pressed = true → Runs .ackStuckSet s fun t =>
      t.now = Nat.max s.now (s.permits.ack.pressAt + sec 5) ∧ t.permits.ack = { s.permits.ack with stuck := true }) ∧
    (∀ a, s.permits.ack.highFrom = some a → Runs .ackHighQualified s fun t =>
      t.now = Nat.max s.now (a + sec 1) ∧ t.permits.ack = { s.permits.ack with highQualified := true, stuck := false }) ∧
    (∀ o, s.permits.ack.armedBy = some o → Runs .ackArmExpiry s fun t =>
      t.now = Nat.max s.now (s.permits.ack.armedAt + sec 60) ∧ t.permits.ack = { s.permits.ack with armedBy := none })

-- moment engine (11)

/-- O39: a tick that reaches step 5 within ALLOWANCE commits: TICK_SEQ counts on, each output is target plus offset
saturated, what was due has taken effect, a mode command as in R320, a LAW_RESET in OFF initialises its laws. The
ledger of a tick at which one confirmed axle alone is tracked holds its mass on its section and in set C, and on a DECK
section in the mass and as its weight on the hull; where none is tracked, it holds the residues of the latest Tally
cycle. Warm-up ends at the tick at which WARMUP ticks have passed, and the targets are then the sums of the enabled
laws; 2.5 tick periods without a SYNC set SYNC_LOST and fade FOLLOW and HOLD (R301 to R305, R307, R308, R310, R314 to
R317, R320, R322, R327; instants: log 1, which tick instant a write is due at: log 30, when an output is handed over:
log 29). -/
def Obligations.EngineTicks : Prop :=
  (∀ (s : State) (src : TickSource) (n : Nat), s.alive = true → tickFrom s src = true →
    (n ≤ allowance s.cfg.active → Runs (.tick src n) s fun t =>
      t.engine.tickSeq = (s.engine.tickSeq + 1) % 2 ^ 32 ∧ t.engine.outSeq = t.engine.tickSeq ∧
      t.engine.flags.overrun = false ∧ t.engine.ovrConsec = 0 ∧ t.engine.lastCycles = n ∧ t.net.tickOpen = false ∧
      t.engine.waiting = s.engine.waiting.filter (fun w => !decide (w.due ≤ t.net.pdSeq)) ∧
      (∀ a, t.engine.out.get a = (sat32 (t.engine.target.get a + t.engine.offset.get a)).1) ∧
      (t.engine.mode = .off → ∀ a, t.engine.out.get a = 0) ∧
      (∀ (m : EMode) (d : Nat), s.engine.waiting = [⟨0x2500, 4, emodeCode m, d⟩] → d ≤ s.net.pdSeq →
        s.engine.fadeDue = false →
        (s.engine.mode = .off → t.engine.mode = if m = .fade then .off else m) ∧
        (s.engine.mode = .follow ∨ s.engine.mode = .hold → t.engine.mode = if m = .off then .fade else m)) ∧
      (∀ (v d : Nat) (l : Fin 16), s.engine.waiting = [⟨0x2500, 8, v, d⟩] → d ≤ s.net.pdSeq → s.engine.mode = .off →
        v.testBit l.val = true →
        (t.engine.laws.get l).i = 0 ∧ (t.engine.laws.get l).ePrev = 0 ∧ (t.engine.laws.get l).bq = Tab.all {}) ∧
      t.engine.residues = s.engine.residues ∧
      (∀ (i : Fin 128) (m : Fin 48) (l : Nat), OneAxle s i m l → LedgerOfOne s.cfg.active t.engine.ledger m l) ∧
      ((∀ j, (s.tally.pub.tracker.entries.get j).st = .free) → t.engine.ledger.axles = 0 ∧ ∀ k,
        t.engine.ledger.secC.get k =
          satS 32 (roundAway (if (s.engine.residues.get k).n = 0 then 0 else (s.engine.residues.get k).mass))))) ∧
  (∀ (s : State) (src : TickSource) (n : Nat), s.alive = true → tickFrom s src = true → n ≤ allowance s.cfg.active →
    s.engine.warming = true → s.engine.warmLeft = 1 → s.engine.mode = .follow → s.engine.fadeDue = false →
    s.engine.waiting = [] → Runs (.warmupEnd src n) s fun t => t.engine.warming = false ∧ t.engine.mode = .follow ∧
      ∀ a : Fin 6, t.engine.target.get a = lawTargetSum s.cfg.active t.engine t.engine.laws a.val) ∧
  (∀ (s : State) (p : PortId), s.alive = true → tickPort s.cfg.active = some p → s.engine.flags.syncLost = false →
    Runs .syncLost s fun t => t.now = Nat.max s.now (s.engine.syncAt + 5 * tickNs s.cfg.active / 2) ∧ t.engine.flags.syncLost = true ∧
    (s.engine.mode = .follow ∨ s.engine.mode = .hold → t.engine.mode = .fade ∧ t.engine.flags.fadeSync = true) ∧
    (s.engine.mode = .off ∨ s.engine.mode = .fade → t.engine.mode = s.engine.mode) ∧ t.engine.out = s.engine.out)

/-- O40: a tick that has not reached step 5 within ALLOWANCE cycles, or before the next tick instant, commits nothing:
every state, output and offset keeps its value, and a live write or command stays due; OVR_COUNT increases, OVERRUN
reads 1 and OVR_CONSEC increases, saturating at 3; the first committed tick clears OVERRUN and OVR_CONSEC (R323). -/
def Obligations.OverrunCommitsNothing : Prop :=
  ∀ (s : State) (src : TickSource) (n : Nat), s.alive = true → tickFrom s src = true →
    (∀ c : Instr, c = .tickOverrun src n ∨ (c = .tick src n ∧ allowance s.cfg.active < n) → Runs c s fun t =>
      t.engine.ovrCount = satInc32 s.engine.ovrCount ∧ t.engine.ovrConsec = satInc 3 s.engine.ovrConsec ∧
      t.engine.flags = { s.engine.flags with overrun := true, syncLost := t.engine.flags.syncLost } ∧
      t.engine = { s.engine with
        ovrCount := t.engine.ovrCount, ovrConsec := t.engine.ovrConsec, flags := t.engine.flags
        quality := t.engine.quality, fadeDue := t.engine.fadeDue, tickAt := t.engine.tickAt, syncAt := t.engine.syncAt }) ∧
    (n ≤ allowance s.cfg.active → Runs (.tick src n) s fun t =>
      t.engine.flags.overrun = false ∧ t.engine.ovrConsec = 0)

/-- O41: what an OPERATE session writes to MODE_CMD, and a MAINTAIN session to LAW_ENABLE and LAW_RESET, waits in the
order of receipt for the next tick; an OPERATE session's write to LAW_ENABLE is refused (R12, R315, R320, R326, R330;
log 30). -/
def Obligations.EngineWrites : Prop :=
  ∀ (s : State) (o : Origin) (k : Fin 4) (x : Session),
    (∀ (c : Instr) (m : EMode), (c = .modeCmdFollow o ∧ m = .follow) ∨ (c = .modeCmdHold o ∧ m = .hold) ∨
        (c = .modeCmdOff o ∧ m = .off) ∨ (c = .modeCmdFade o ∧ m = .fade) → Asks c s o .operate k x → Runs c s fun t =>
      Taken s t o 0x2500 4 k x ∧ t.engine = { s.engine with
        waiting := s.engine.waiting ++ [⟨0x2500, 4, emodeCode m, s.net.pdSeq + 1⟩], cmd := emodeCode m }) ∧
    (∀ v, v < 2 ^ 16 →
      (Asks (.lawEnableWrite o v) s o .maintain k x →
        Runs (.lawEnableWrite o v) s fun t => Taken s t o 0x2500 7 k x ∧ t.engine = { s.engine with
          waiting := s.engine.waiting ++ [⟨0x2500, 7, v, s.net.pdSeq + 1⟩] }) ∧
      (Asks (.lawReset o v) s o .maintain k x →
        Runs (.lawReset o v) s fun t => Taken s t o 0x2500 8 k x ∧ t.engine = { s.engine with
          waiting := s.engine.waiting ++ [⟨0x2500, 8, v, s.net.pdSeq + 1⟩] })) ∧
    (x.level = .operate → ∀ v, Asks (.lawEnableWrite o v) s o .operate k x → Runs (.lawEnableWrite o v) s fun t =>
      Msg.answer o 0x2500 7 abortLevel ∈ t.sent ∧ t.engine = s.engine)

-- twin execution, errors and debug (12)

/-- O42: the comparison of window n, when its time has come; the parity of the delay registers is good (`StagesSafe`),
or the stop of O45 comes before it. The cores' registers are seeded with the number of the next window. Equal
signatures, outside a stop test, release in their order the writes that retired in window n and, in a known-answer
window, arm the watchdog; unequal ones outside a known-answer window and a stop test stop the device with MISMATCH and
discard what is held; in HIBERNATE entry no condition of a refresh is true. Windows that differ in the value of one
register write have unequal signatures (R53, R339, R341 to R344, R347, R349; instants: log 1, held writes: log 23, what
the cores retire: log 15). -/
def Obligations.ReeveWindows : Prop :=
  (∀ (s : State) (a b : CoreWindow) (d0 d1 : BitVec 224) (sa sb : BitVec 32), s.alive = true → s.twin.lockstep = true →
    s.twin.stopLatch = false → s.twin.stagesGood = true →
    sa = signature s.twin.coreA.misr a → sb = signature s.twin.coreB.misr b →
    (sa = sb → kaWindow s.twin.window = true ∨ s.twin.stopTest ≠ some s.twin.window →
      Runs (.reeveCompare a b d0 d1) s fun t =>
        t.now = Nat.max s.now (s.twin.lockAt + (s.twin.window + 1) * windowNs + compareNs) ∧ t.twin.stopLatch = false ∧
        t.twin.held = s.twin.held.filter (fun w => w.1 != s.twin.window) ∧
        t.twin.window = (s.twin.window + 1) % 2 ^ 32 ∧ t.twin.windows = s.twin.window ∧
        t.twin.coreA.misr = BitVec.ofNat 32 t.twin.window ∧ t.twin.coreB.misr = BitVec.ofNat 32 t.twin.window ∧
        t.twin.sram = a.cycles.foldl sramStore s.twin.sram ∧ t.twin.coreA.input = d0 ∧ t.twin.delay0.data = d0 ∧
        t.twin.entersB = d1 ∧
        (kaWindow s.twin.window = true → t.twin.watchdog = true) ∧
        ((∀ w ∈ s.twin.held, w.1 ≠ s.twin.window) → t.permits = s.permits) ∧
        (∀ r, s.twin.held.filter (fun w => w.1 == s.twin.window) = [(s.twin.window, .refresh r)] →
          t.permits.refreshedAt = t.now ∧ t.permits.stalled = false ∧
          ∀ p : Fin 16, permitAssigned s.cfg.active p.val = true →
            (t.permits.po.get p).st = (permitRefresh t.now (r.cond.getLsbD p.val && !s.power.entering)
              (r.force.getLsbD p.val) (r.test.getLsbD p.val) (s.permits.po.get p)).st) ∧
        ∀ (l : List (Nat × PermitWrite)) (m : BitVec 16),
          s.twin.held.filter (fun w => w.1 == s.twin.window) = l ++ [(s.twin.window, .activation m)] →
          ∀ p : Fin 16, (m.getLsbD p.val = true → (t.permits.po.get p).st = .dropping ∧
              (t.permits.po.get p).out = .low ∧ (t.permits.po.get p).dropAt = t.now) ∧
            (m.getLsbD p.val = false → (t.permits.po.get p).st = .highz ∧ (t.permits.po.get p).out = .highz)) ∧
    (sa ≠ sb → kaWindow s.twin.window = false → s.twin.stopTest ≠ some s.twin.window →
      Runs (.reeveCompare a b d0 d1) s fun t =>
        StoppedBy s t 4 ∧ t.twin.stopWindow = s.twin.window ∧ t.twin.stopSigA = sa ∧ t.twin.stopSigB = sb)) ∧
  (∀ (seed n : BitVec 32) (pre post : List (Option Retire)) (r : BitVec 5) (v w : BitVec 32), pre.length < windowCycles →
    v ≠ w → signature seed ⟨pre ++ some (.reg r v) :: post, n⟩ ≠ signature seed ⟨pre ++ some (.reg r w) :: post, n⟩)

/-- O43: window n is a known-answer window when n modulo 1024 is 0, and bit (n / 1024) modulo 32 of SIG_B is then
inverted: a difference in that lane only is CAUGHT and counted, none is KA_MISSED, any other lane is MISMATCH; window
0 is one, with bit 0, and a device that has booted has passed one. Each CAUGHT and each MATCH sends one pulse to the
stop-path watchdog (R345, R346). -/
def Obligations.KnownAnswers : Prop :=
  (∀ n : Nat, (kaWindow n = true ↔ n % 1024 = 0) ∧ kaLaneOf n = n / 1024 % 32 ∧ kaWindow 0 = true ∧ kaLaneOf 0 = 0) ∧
  (∀ s : State, bootReady s = true → s.power.entering = false → Runs .boot s fun t => 1 ≤ t.twin.kaPassed) ∧
  (∀ (s : State) (a b : CoreWindow) (d0 d1 : BitVec 224) (sa sb : BitVec 32), s.alive = true → s.twin.lockstep = true →
    s.twin.stopLatch = false → s.twin.stagesGood = true →
    sa = signature s.twin.coreA.misr a → sb = signature s.twin.coreB.misr b →
    (kaWindow s.twin.window = true → ∀ inv : BitVec 32, inv = sb ^^^ BitVec.ofNat 32 (2 ^ kaLaneOf s.twin.window) →
      Runs (.reeveCompare a b d0 d1) s fun t =>
        (sa ^^^ inv = BitVec.ofNat 32 (2 ^ kaLaneOf s.twin.window) →
          t.twin.stopLatch = false ∧ t.twin.kaPassed = satInc32 s.twin.kaPassed ∧ t.twin.pulseAt = t.now) ∧
        (sa = inv → t.twin.stopLatch = true ∧ t.twin.stopCause = 5 ∧ t.twin.kaPassed = s.twin.kaPassed) ∧
        (sa ≠ inv → sa ^^^ inv ≠ BitVec.ofNat 32 (2 ^ kaLaneOf s.twin.window) →
          t.twin.stopLatch = true ∧ t.twin.stopCause = 4 ∧ t.twin.kaPassed = s.twin.kaPassed)) ∧
    (kaWindow s.twin.window = false → s.twin.stopTest ≠ some s.twin.window → sa = sb →
      Runs (.reeveCompare a b d0 d1) s fun t => t.twin.stopLatch = false ∧ t.twin.pulseAt = t.now) ∧
    Runs (.reeveCompare a b d0 d1) s (fun t => t.twin.stopLatch = true → t.twin.pulseAt = s.twin.pulseAt))

/-- O44: STOP_TEST_CMD of a COMMISSION session tests the next window that is no known-answer window; there equal
signatures, which the inversion of bit 0 makes unequal in lane 0, stop the device with STOP_TEST, and a divergence in
bit 0 alone with KA_MISSED; any other value is refused (R363; log 31). -/
def Obligations.StopTest : Prop :=
  (∀ (s : State) (o : Origin) (k : Fin 4) (x : Session) (v : Nat), Asks (.stopTestCmd o v) s o .commission k x →
    (v = 0x5354 → Runs (.stopTestCmd o v) s fun t => Taken s t o 0x2A00 0x0F k x ∧
      (s.twin.lockstep = true → s.twin.stopTest = none → ∃ n, t.twin = { s.twin with stopTest := some n } ∧
        kaWindow n = false ∧ (n = (s.twin.window + 1) % 2 ^ 32 ∨
          kaWindow ((s.twin.window + 1) % 2 ^ 32) = true ∧ n = (s.twin.window + 1) % 2 ^ 32 + 1))) ∧
    (v < 2 ^ 16 → v ≠ 0x5354 → Runs (.stopTestCmd o v) s fun t =>
      Msg.answer o 0x2A00 0x0F abortValue ∈ t.sent ∧ t.twin = s.twin)) ∧
  (∀ (s : State) (a b : CoreWindow) (d0 d1 : BitVec 224) (sa sb : BitVec 32), s.alive = true → s.twin.lockstep = true →
    s.twin.stopLatch = false → s.twin.stagesGood = true →
    sa = signature s.twin.coreA.misr a → sb = signature s.twin.coreB.misr b →
    kaWindow s.twin.window = false → s.twin.stopTest = some s.twin.window →
    (sa = sb → Runs (.reeveCompare a b d0 d1) s fun t => StoppedBy s t 9) ∧
    (sa ^^^ sb = 1#32 → Runs (.reeveCompare a b d0 d1) s fun t => StoppedBy s t 5))

/-- O45: a delay-register stage whose parity bits are wrong, 24 monitor periods without a pulse, an uncorrectable word
of SRAM or flash, in which state the word then stays, and a debug request stop the device; a further cause joins
STOP_SEEN, and STOP_CAUSE keeps the first one, or of those of one instant the lower code. What Core A reads goes
through the delay registers as it is stored, and is known to be uncorrectable, corrected or as delivered; a corrected
word is counted and, in SRAM, written back, unless a store hits it. A debug request halts the device with the taint
set, and none is taken while TRSTn is low. The parity of both stages is good before (`StagesSafe`), or the stop comes
by cause 1 (R339, R340, R349, R350, R352, R353, R357, R360; logs 1, 15, 31). -/
def Obligations.StopCauses : Prop :=
  ∀ s : State, s.serving = true → s.twin.stagesGood = true →
    (∀ (second : Bool) (data : BitVec 224) (parity : BitVec 28),
      (parity ≠ stageParity data → s.twin.stopLatch = false → Runs (.delayParityError second data parity) s fun t =>
        StoppedBy s t 1) ∧
      (parity = stageParity data → Runs (.delayParityError second data parity) s fun t =>
        t.twin.stopLatch = s.twin.stopLatch ∧ t.twin.stopSeen = s.twin.stopSeen ∧ t.permits = s.permits)) ∧
    (s.twin.stopLatch = false →
      (s.twin.watchdog = true → Runs .pulseTimeout s fun t => StoppedBy s t 6 ∧
        t.now = Nat.max s.now (s.twin.pulseAt + pulseNs)) ∧
      (∀ x, Runs (.scrubRead (.double x)) s fun t => StoppedBy s t 2 ∧ sramStored t.twin s.twin.scrubAddr = x) ∧
      (∀ a x, Runs (.scrubRead (.coreDouble a x)) s fun t => StoppedBy s t 2 ∧ sramStored t.twin a.toNat = x ∧
        Delivers s.twin t.twin (wordData x)) ∧
      (∀ p x, Runs (.scrubRead (.flashDouble p x)) s fun t => StoppedBy s t 3 ∧ (flashPresent s p = true →
        flashStored t p = x) ∧ Delivers s.twin t.twin (wordData x)) ∧
      (∀ a, sramBad s.twin a.toNat = true → Runs (.scrubRead (.coreClean a)) s (StoppedBy s · 2)) ∧
      Runs (.debugRequest true) s (fun t => StoppedBy s t 8 ∧ t.power.phase = .debugHalted)) ∧
    (s.twin.stopLatch = true → ∀ (c : Instr) (b : Nat),
      (∃ second data parity, c = .delayParityError second data parity ∧ parity ≠ stageParity data ∧ b = 0) ∨
      (∃ word, c = .scrubRead (.double word) ∧ b = 1) ∨ (∃ addr word, c = .scrubRead (.coreDouble addr word) ∧ b = 1) ∨
      (∃ place word, c = .scrubRead (.flashDouble place word) ∧ b = 2) ∨ (c = .debugRequest true ∧ b = 7) → Runs c s fun t =>
        t.twin.stopCause = (if s.twin.stopAt = s.now ∧ s.twin.handler = false then Nat.min s.twin.stopCause (b + 1)
          else s.twin.stopCause) ∧ t.twin.stopLatch = true ∧
        t.twin.stopSeen = s.twin.stopSeen ||| BitVec.ofNat 9 (2 ^ b) ∧ t.permits = s.permits) ∧
    Runs (.debugRequest true) s (fun t => t.power.phase = .debugHalted ∧ t.twin.debugTaint = true ∧
      t.twin.debugActive = true ∧ t.twin.lockstep = false ∧ t.twin.delay1 = s.twin.delay0) ∧
    Runs (.debugRequest false) s (fun t => t.power = s.power ∧ t.twin = s.twin) ∧
    (sramBad s.twin s.twin.scrubAddr = false →
      Runs (.scrubRead .clean) s (fun t => t.twin = scrubNext s.twin) ∧
      Runs (.scrubRead (.coreAccess true)) s (fun t => Delivers s.twin t.twin (sramData s.twin s.twin.scrubAddr) ∧
        t.twin = s.twin.shift t.twin.coreA.input)) ∧
    Runs (.scrubRead (.coreAccess false)) s (fun t => t.twin = s.twin) ∧
    Runs (.scrubRead .single) s (fun t => t.twin = scrubNext { s.twin with
      eccSram := satInc32 s.twin.eccSram, eccLast := 4 * s.twin.scrubAddr
      sramCheck := cfgDel s.twin.sramCheck s.twin.scrubAddr }) ∧
    (∀ mask data, Runs (.scrubRead (.singleThenStore mask data)) s fun t => t.twin = scrubNext { s.twin with
      eccSram := satInc32 s.twin.eccSram, eccLast := 4 * s.twin.scrubAddr
      sramCheck := cfgDel s.twin.sramCheck s.twin.scrubAddr
      sram := sramPut s.twin.sram s.twin.scrubAddr mask data }) ∧
    (∀ a : BitVec 18,
      (sramBad s.twin a.toNat = false → Runs (.scrubRead (.coreClean a)) s fun t =>
        Delivers s.twin t.twin (sramData s.twin a.toNat) ∧ t.twin = s.twin.shift t.twin.coreA.input) ∧
      Runs (.scrubRead (.coreSingle a)) s (fun t => Delivers s.twin t.twin (sramData s.twin a.toNat) ∧
        sramStored t.twin a.toNat = storedWord (sramData s.twin a.toNat) ∧
        t.twin = { s.twin.shift t.twin.coreA.input with
          eccSram := satInc32 s.twin.eccSram, eccLast := 4 * a.toNat, sramCheck := cfgDel s.twin.sramCheck a.toNat })) ∧
    (∀ p : FlashPlace,
      (flashBadAt s p = none → Runs (.scrubRead (.flashClean p)) s fun t =>
        Delivers s.twin t.twin (flashData s p) ∧ t.twin = s.twin.shift t.twin.coreA.input) ∧
      Runs (.scrubRead (.flashSingle p)) s (fun t => Delivers s.twin t.twin (flashData s p) ∧ t.cfg = s.cfg ∧
        t.twin = { s.twin.shift t.twin.coreA.input with
          eccFlash := satInc32 s.twin.eccFlash, eccLast := flashAddr p }))

-- fatal errors and the dump (17)

/-- O46: after a stop, and when a halted Core A leaves debug, the fatal handler is entered once: no source drives, no
write is held, both CAN ports are pre-operational, the recorder takes no more, and for the causes that have one, when
the book is open, a dump follows the last record of the queue: at once, or when its sector has been written. The dump
ends whole or truncated, VALID or, without its header, NOT_WRITTEN (R358, R483, R485, R488, R490 to R492; logs 15, 41,
44). -/
def Obligations.FatalHandler : Prop :=
  (∀ s : State, s.twin.handler = false →
    (s.alive = true → s.twin.stopLatch = true → Runs .fatalHandlerEntry s (Handled s)) ∧
    (s.power.phase = .debugHalted → Runs .debugExit s fun t => Handled s t ∧ t.twin.debugActive = false ∧
      t.twin.lockstep = s.twin.lockstep ∧ t.twin.stopLatch = s.twin.stopLatch)) ∧
  (∀ s : State, s.twin.handler = true → s.power.phase = .debugHalted → Runs .debugExit s fun t =>
    t.power.phase = .stopped ∧ t.recd.dump = s.recd.dump) ∧
  (∀ (s : State) (b : DumpBlocks) (l : Label) (q : Rec) (rest : List Rec), s.serving = true → s.recd.st = .ready →
    s.recd.stopped = true → 0 < s.recd.writing → s.recd.label = some l → s.recd.queue = q :: rest →
    flushAbandoned s = false → s.recd.dump.next = some b → Runs (.sectorWriteDone true) s fun t =>
      (s.recd.queue.drop s.recd.writing = [] → t.recd.queue = [] ∧ DumpWrites s.recd.dump t.recd.dump b s.now) ∧
      (s.recd.queue.drop s.recd.writing ≠ [] → t.recd.queue ≠ [] ∧ t.recd.dump = s.recd.dump)) ∧
  (∀ (s : State) (ok : Bool), s.serving = true → s.recd.dump.st = .writing →
    Runs (.dumpWriteDone ok) s (fun t => t.recd.dump.st = (if ok then .valid else .notWritten) ∧
      t.recd.dump.blocks.written = dumpTotal s.recd.dump.blocks ∧ t.recd.dump.truncated = false) ∧
    Runs (.dumpTimeout ok) s (fun t => t.recd.dump.st = (if ok then .valid else .notWritten) ∧
      t.recd.dump.blocks.written ≤ dumpTotal s.recd.dump.blocks ∧ t.recd.dump.truncated = ok))

-- ports and process data (14)

/-- O47: NMT moves the state of one CAN port: Operational, Pre-operational, Stopped, where the port's sessions end,
and Reset Communication, where they end too, a bus-off controller that has seen 128 occurrences of 11 recessive bits
rejoins and the boot-up message is sent; one that has not rejoins when it has; a device that is STOPPED ignores the
start (R397, R399 to R401, R424, R488; log 16). -/
def Obligations.NetworkManagement : Prop :=
  ∀ (s : State) (p : CanPort),
    (canTakes s p = true →
      (s.alive = true → Runs (.nmtStart p) s fun t =>
        t.net.can = s.net.can.upd (canIdx p) (fun x => { x with nmt := .operational })) ∧
      (s.power.phase = .stopped → Runs (.nmtStart p) s fun t => t.net.can = s.net.can) ∧
      Runs (.nmtEnterPreoperational p) s (fun t =>
        t.net.can = s.net.can.upd (canIdx p) (fun x => { x with nmt := .preop })) ∧
      Runs (.nmtStop p) s (fun t => t.net.can = s.net.can.upd (canIdx p) (fun x => { x with nmt := .stopped }) ∧
        ∀ (k : Fin 4) (x : Session), s.net.sessions.get k = some x →
          t.net.sessions.get k = if x.port = canPortId p then none else some x)) ∧
    (s.serving = true → canEnabled s.cfg.active p = true → Runs (.nmtResetCommunication p) s fun t =>
      (t.net.can.get (canIdx p)).nmt = .preop ∧
      (t.net.can.get (canIdx p)).bus =
        (if (s.net.can.get (canIdx p)).bus = .busOff ∧ (s.net.can.get (canIdx p)).recessive = true then .active
         else (s.net.can.get (canIdx p)).bus) ∧
      ((s.net.can.get (canIdx p)).bus = .busOff → (s.net.can.get (canIdx p)).recessive = false →
        (t.net.can.get (canIdx p)).rejoin = true) ∧
      (∀ q, q ≠ p → t.net.can.get (canIdx q) = s.net.can.get (canIdx q)) ∧
      (∀ (k : Fin 4) (x : Session), s.net.sessions.get k = some x →
        t.net.sessions.get k = if x.port = canPortId p then none else some x) ∧
      ((t.net.can.get (canIdx p)).bus ≠ .busOff →
        Msg.can p (heartbeatCob s.cfg.active p % 2 ^ 11) (canFd s.cfg.active p) [0#8] ∈ t.sent))

/-- O48: a CAN port shows error passive, bus-off and the way back, and the other port sends the emergency; after 128
occurrences of 11 recessive bits bus-off ends with AUTO_RECOVER or after an NMT Reset Communication; a link and its
beacon show up or down; a port sends its heartbeat at its period, one received restarts the entries of 0x1016 that
consume the node, an entry whose time runs out is missed; the code that reports bus-off is a free value (R397, R404,
R406, R414, R430; logs 1, 16, 40). -/
def Obligations.PortStates : Prop :=
  (∀ (s : State) (p : CanPort),
     (∀ off : Bool, canTakes s p = true → (s.net.can.get (canIdx p)).bus ≠ (if off then .busOff else .passive) →
       Runs (.canErrorPassive p off) s fun t =>
         t.net.can = s.net.can.upd (canIdx p) (fun x =>
           { x with bus := if off then .busOff else .passive, recessive := false, rejoin := false }) ∧
         ∀ q, q ≠ p → canSends s q (fun n => n == .preop || n == .operational) = true →
           bitOf (cobOn s.cfg.active q 0x1014 0 0x80) 31 = false → ∃ d : List Byte,
             Msg.can q (cobOn s.cfg.active q 0x1014 0 0x80 % 2 ^ 11) (canFd s.cfg.active q) d ∈ t.sent ∧
             d.take 2 = leBytes 2 (if off then Config.toBusOff.toNat else 0x8120)) ∧
     (canTakes s p = true → (s.net.can.get (canIdx p)).bus = .passive → Runs (.canErrorActive p) s fun t =>
       t.net.can = s.net.can.upd (canIdx p) (fun x => { x with bus := .active })) ∧
     (s.serving = true → canEnabled s.cfg.active p = true → (s.net.can.get (canIdx p)).bus = .busOff →
       Runs (.busOffRecovery p) s fun t =>
         (canAutoRecover s.cfg.active p = true ∨ (s.net.can.get (canIdx p)).rejoin = true →
           (t.net.can.get (canIdx p)).bus = .active) ∧
         (canAutoRecover s.cfg.active p = false → (s.net.can.get (canIdx p)).rejoin = false →
           (t.net.can.get (canIdx p)).bus = .busOff ∧ (t.net.can.get (canIdx p)).recessive = true)) ∧
     (s.serving = true → ∀ e : EthPort,
       Runs (.ethLinkDown e false) s (fun t => (t.net.ports.get (portIdx (ethPortId e))).linkUp = false ∧
         (t.net.ports.get (portIdx (ethPortId e))).beacon = false) ∧
       Runs (.ethLinkDown e true) s (fun t => (t.net.ports.get (portIdx (ethPortId e))).linkUp =
           (s.net.ports.get (portIdx (ethPortId e))).linkUp ∧
         (t.net.ports.get (portIdx (ethPortId e))).beacon = false) ∧
       Runs (.ethLinkUp e) s (fun t => (t.net.ports.get (portIdx (ethPortId e))).linkUp = true ∧
         (t.net.ports.get (portIdx (ethPortId e))).beacon = true))) ∧
  (∀ s : State,
     (∀ (p : CanPort) (node : Nat) (e : Fin 4), canTakes s p = true → Runs (.heartbeatReceived p node) s fun t =>
       (hbNode s.cfg.active e.val = node ∧ hbTime s.cfg.active e.val ≠ 0 →
         (t.net.can.get (canIdx p)).hbAt.get e = some s.now ∧ (t.net.can.get (canIdx p)).hbMiss.get e = false) ∧
       (hbNode s.cfg.active e.val ≠ node ∨ hbTime s.cfg.active e.val = 0 →
         (t.net.can.get (canIdx p)).hbAt.get e = (s.net.can.get (canIdx p)).hbAt.get e ∧
         (t.net.can.get (canIdx p)).hbMiss.get e = (s.net.can.get (canIdx p)).hbMiss.get e)) ∧
     (∀ (p : CanPort) (e : Fin 4) (a : Nat), s.serving = true → (s.net.can.get (canIdx p)).hbAt.get e = some a →
       Runs (.hbConsumerMiss p e) s fun t => t.now = Nat.max s.now (a + ms (hbTime s.cfg.active e.val)) ∧
         (t.net.can.get (canIdx p)).hbMiss.get e = true ∧ (t.net.can.get (canIdx p)).hbAt.get e = none) ∧
     (∀ p : PortId, s.serving = true → portEnabled s.cfg.active p = true → heartbeatMs s.cfg.active p ≠ 0 →
       Runs (.heartbeatSend p) s fun t =>
         t.now = Nat.max s.now ((s.net.ports.get (portIdx p)).hbAt + ms (heartbeatMs s.cfg.active p)) ∧
         (t.net.ports.get (portIdx p)).hbAt = t.now ∧
         (isEth p = true → ∃ d : Datagram, Msg.datagram p d ∈ t.sent ∧ d.typ = 0x91 ∧ d.dest = none) ∧
         ∀ q, p = canPortId q → canSends s q (fun _ => true) = true →
           Msg.can q (heartbeatCob s.cfg.active q % 2 ^ 11) (canFd s.cfg.active q)
             (leBytes 1 (nmtCode (s.net.can.get (canIdx q)).nmt)) ∈ t.sent))

/-- O49: a received RPDO restarts its timer and its values are held for judgement, on CAN in Operational only; the
timer run out sets LOST_RX, which ends 1 s later; a gap of the host's process data sets it too; a TPDO whose event timer
runs out and an SRDO at its refresh, from 2 ms to 1,000 ms, are sent, the SRDO as a classic frame (R375, R378, R403,
R405, R413, R420, R430; logs 1, 16, 48). -/
def Obligations.ProcessData : Prop :=
  ∀ (s : State) (n : Fin 8), s.alive = true →
    (∀ (p : CanPort) (data : List Byte), canTakes s p = true →
      ((s.net.can.get (canIdx p)).nmt = .operational → bitOf (cfgGet s.cfg.active (0x1400 + n.val) 1) 31 = false →
        mapBytes (mapEntries s.cfg.active (0x1600 + n.val)) ≤ data.length → Runs (.rpdoReceived p n data) s fun t =>
          t.net.held = s.net.held ++ (splitMap (mapEntries s.cfg.active (0x1600 + n.val)) data).map
            (fun w => { by_ := ⟨canPortId p, 0⟩, pos := 0, index := w.1, sub := w.2.1, data := w.2.2 }) ∧
          (canPortId p, n.val, s.now) ∈ t.net.rpdoAt) ∧
      ((s.net.can.get (canIdx p)).nmt ≠ .operational → Runs (.rpdoReceived p n data) s fun t =>
        t.net.held = s.net.held ∧ t.net.rpdoAt = s.net.rpdoAt)) ∧
    (∀ (p : EthPort) (f : EthLink) (seq : Nat) (data : List Byte), ethEnabled s.cfg.active p = true → ethPdRx s.cfg.active p = true →
      frameTaken s.cfg.active p f = true → bitOf (cfgGet s.cfg.active (0x1400 + n.val) 1) 31 = false →
      mapBytes (mapEntries s.cfg.active (0x1600 + n.val)) ≤ data.length →
      Runs (.pdHost p f seq [⟨n.val + 1, data⟩]) s fun t =>
        t.net.held = s.net.held ++ (splitMap (mapEntries s.cfg.active (0x1600 + n.val)) data).map
          (fun w => { by_ := ⟨ethPortId p, 0⟩, pos := 0, index := w.1, sub := w.2.1, data := w.2.2 }) ∧
        (t.net.ports.get (portIdx (ethPortId p))).seq.pdExpect = (seq + 1) % 65536 ∧
        (t.net.ports.get (portIdx (ethPortId p))).lostRxAt =
          if (s.net.ports.get (portIdx (ethPortId p))).seq.pdExpect = seq
          then (s.net.ports.get (portIdx (ethPortId p))).lostRxAt else some s.now) ∧
    (∀ (p : PortId) (a : Nat), s.net.rpdoAt.find? (fun e => e.1 == p && e.2.1 == n.val) = some (p, n.val, a) →
      cfgGet s.cfg.active (0x1400 + n.val) 5 ≠ 0 → Runs (.rpdoTimeout p n) s fun t =>
        t.now = Nat.max s.now (a + ms (cfgGet s.cfg.active (0x1400 + n.val) 5)) ∧
        (t.net.ports.get (portIdx p)).lostRxAt = some t.now) ∧
    (∀ (p : PortId) (a : Nat), (s.net.ports.get (portIdx p)).lostRxAt = some a → Runs (.lostRxExpiry p) s fun t =>
      t.now = Nat.max s.now (a + sec 1) ∧ (t.net.ports.get (portIdx p)).lostRxAt = none) ∧
    (∀ m : Fin 16, tpdoOn s.cfg.active m.val = true → tpdoEventDriven s.cfg.active m.val = true →
      tpdoTimer s.cfg.active m.val ≠ 0 → Runs (.tpdoEventTimer m) s fun t =>
        t.now = Nat.max s.now (sentAt s s.net.tpdoSent m.val +
          Nat.max (ms (tpdoTimer s.cfg.active m.val)) (tpdoInhibit s.cfg.active m.val)) ∧
        ∃ d, sentOf t.net.tpdoSent m.val = some (t.now, d) ∧
          ∀ q, canSends s q (fun x => x == .operational) = true →
            Msg.can q (tpdoCob s.cfg.active m.val % 2 ^ 11) (canFd s.cfg.active q) d ∈ t.sent) ∧
    (srdoOn s.cfg.active n.val = true → Runs (.srdoRefresh n) s fun t =>
      t.now = Nat.max s.now (sentAt s s.net.srdoSent n.val + ms (srdoPeriod s.cfg.active n.val)) ∧
      2 ≤ srdoPeriod s.cfg.active n.val ∧ srdoPeriod s.cfg.active n.val ≤ 1000 ∧
      ∃ d, sentOf t.net.srdoSent n.val = some (t.now, d) ∧ (srdoValid s.cfg.active n.val = false → d = []) ∧
        (srdoValid s.cfg.active n.val = true → ∀ q, srdoPort s q = true →
          bitOf (srdoVal s.cfg.active n.val 5) 31 = false →
          Msg.can q (srdoVal s.cfg.active n.val 5 % 2 ^ 11) false d ∈ t.sent))

-- sessions, requests and writes (13, 14)

/-- O50: SDO requests on a served channel: a read is answered with the object or its abort; a write that passes the
checks at receipt is held; the first request opens the channel's session at OBSERVE, without a free slot it is
refused; 1 s without a segment drops the transfer (R373, R374, R376, R378, R379, R407, R503; logs 16, 45). -/
def Obligations.SdoTransfers : Prop :=
  (∀ (s : State) (p : CanPort) (k : Fin 4) (i sub : Nat), sdoServed s p k = true →
    (∀ (j : Fin 4) (x : Session), channelSession s k = some (p, j) → s.net.sessions.get j = some x →
      (readCheck s i sub ≠ 0 → Runs (.sdoRequest p k (.read i sub)) s fun t =>
        Msg.sdo p k (sdoResponseCob s.cfg.active p k) i sub (readCheck s i sub) [] ∈ t.sent) ∧
      (readCheck s i sub = 0 → ¬(i = 0x2B00 ∧ sub = 0x0E) → Runs (.sdoRequest p k (.read i sub)) s fun t =>
        t.net.sessions.get j = some { x with lastAt := s.now } ∧ ∃ d,
          (d.length ≤ expeditedMax s.cfg.active p → Msg.sdo p k (sdoResponseCob s.cfg.active p k) i sub 0 d ∈ t.sent) ∧
          (expeditedMax s.cfg.active p < d.length → Msg.sdo p k (sdoResponseCob s.cfg.active p k) i sub 0 (leBytes 4 d.length) ∈ t.sent) ∧
          d = objBytes (s.begin.touch j) (some { x with lastAt := s.now }) i sub) ∧
      (∀ data, isSessionObject i sub = false →
        (receiptAbort s (some x) i sub data = 0 → Runs (.sdoRequest p k (.write i sub data)) s fun t =>
          t.net.held = s.net.held ++ [{ by_ := x.origin, pos := 0, index := i, sub := sub, data := data }]) ∧
        (receiptAbort s (some x) i sub data ≠ 0 → Runs (.sdoRequest p k (.write i sub data)) s fun t =>
          Msg.sdo p k (sdoResponseCob s.cfg.active p k) i sub (receiptAbort s (some x) i sub data) [] ∈ t.sent ∧ t.net.held = s.net.held))) ∧
    (channelSession s k = none →
      (freeSession s = none → Runs (.sdoRequest p k (.read i sub)) s fun t =>
        Msg.sdo p k (sdoResponseCob s.cfg.active p k) i sub abortNoSlot [] ∈ t.sent ∧ t.net.sessions = s.net.sessions ∧
        t.net.sessionsRefused = satInc32 s.net.sessionsRefused) ∧
      (∀ j, freeSession s = some j → ¬(i = 0x2B00 ∧ sub = 0x0E) → Runs (.sdoRequest p k (.read i sub)) s fun t =>
        t.net.sessions.get j = some { port := canPortId p, number := k.val + 1, peer := 0, lastAt := s.now } ∧
        ∀ n, n ≠ j → t.net.sessions.get n = s.net.sessions.get n))) ∧
  (∀ (s : State) (k : Fin 4) (x : SdoXfer), s.serving = true → s.net.xfer.get k = some x →
    Runs (.sdoSegmentTimeout k) s fun t => t.now = Nat.max s.now (x.lastAt + sec 1) ∧ t.net.xfer.get k = none ∧
      Msg.sdo x.port k (sdoResponseCob s.cfg.active x.port k) x.index x.sub 0x05040000 [] ∈ t.sent ∧ ∀ j, j ≠ k → t.net.xfer.get j = s.net.xfer.get j)

/-- O51: a write that fails a check at receipt is answered with its abort and changes nothing but the session's time;
any other one, but to a SESSION object, is held; a request of a session of which a write is held is not acted on and
answered OUTSTANDING. A judgement begins a tick instant and leaves no write held. Where
that instant does not fall after the end of a HIBERNATE entry, a staged write goes into the staged configuration, or
is refused while that is locked; of two writes to one object the port with the higher priority, or the first received,
is applied, and the other is refused as busy and counted; a law's FB_VALUE from process data waits for the next tick
(R12, R53, R315, R372, R375, R378 to R381, R392, R403; logs 7, 30, 42, 49). -/
def Obligations.WritesAndJudgement : Prop :=
  (∀ (s : State) (o : Origin) (i sub : Nat) (data : List Byte) (k : Fin 4) (x : Session),
    Asks (.genericWrite o i sub data) s o .observe k x →
    (receiptAbort s (some x) i sub data ≠ 0 → ¬(i = 0x2900 ∧ sub = 0x0B) → Runs (.genericWrite o i sub data) s fun t =>
      Msg.answer o i sub (receiptAbort s (some x) i sub data) ∈ t.sent ∧ Keeps (.sessions :: reports) s t) ∧
    (receiptAbort s (some x) i sub data = 0 → isSessionObject i sub = false → Runs (.genericWrite o i sub data) s fun t =>
      t.net.held = s.net.held ++ [{ by_ := o, pos := 0, index := i, sub := sub, data := data, row := true }] ∧
      Keeps ([.sessions, .held] ++ reports) s t)) ∧
  (∀ (s : State) (o : Origin) (k : Fin 4) (x : Session), s.serving = true → sessionSlot s o = some k →
    s.net.sessions.get k = some x → outstanding s x = true →
    (∀ i sub data, Runs (.genericWrite o i sub data) s fun t =>
      Msg.outstanding o i sub ∈ t.sent ∧ Keeps (.sessions :: reports) s t) ∧
    Runs (.readWindow o) s (fun t => Msg.outstanding o 0x2800 9 ∈ t.sent ∧ Keeps (.sessions :: reports) s t) ∧
    Runs (.dumpWindow o) s (fun t => Msg.outstanding o 0x2800 0x0F ∈ t.sent ∧ Keeps (.sessions :: reports) s t) ∧
    Runs (.authChallenge o) s (fun t => Msg.outstanding o 0x2B00 0x0E ∈ t.sent ∧ Keeps (.sessions :: reports) s t)) ∧
  (∀ (s : State) (o : Origin) (i sub : Nat) (data : List Byte) (ob : ObjInfo), s.alive = true →
    objInfo i sub = some ob → ob.inCfg = true → ob.cls = .staged →
    entered (s.tickInstant (timerTicks s)) = false →
    s.net.held = [{ by_ := o, pos := 0, index := i, sub := sub, data := data, row := true }] →
    (cfgLocked s = false → Runs .writeJudgement s fun t => Msg.answer o i sub 0 ∈ t.sent ∧
      t.cfg = { s.cfg with staged := cfgSet s.cfg.staged i sub (heldValue i sub (ofLe data)) }) ∧
    (cfgLocked s = true → Runs .writeJudgement s fun t => Msg.answer o i sub abortLocked ∈ t.sent ∧ t.cfg = s.cfg)) ∧
  (∀ (s : State) (a b won lost : HeldWrite), s.alive = true →
    entered (s.tickInstant (timerTicks s)) = false → s.net.held = [a, b] → a.row = true → b.row = true →
    a.index = b.index → a.sub = b.sub → heldAbort s a = 0 → heldAbort s b = 0 →
    (if portRank s.cfg.active b.by_.port < portRank s.cfg.active a.by_.port then won = b ∧ lost = a
     else won = a ∧ lost = b) → Runs .writeJudgement s fun t =>
      Msg.answer won.by_ won.index won.sub 0 ∈ t.sent ∧ Msg.answer lost.by_ lost.index lost.sub abortBusy ∈ t.sent ∧
      (t.net.ports.get (portIdx lost.by_.port)).busy = satInc32 (s.net.ports.get (portIdx lost.by_.port)).busy) ∧
  (∀ s : State, s.alive = true → (∀ w ∈ s.net.held, heldHibernate w = false) → Runs .writeJudgement s fun t =>
    t.net.held = [] ∧ t.net.pdSeq = s.net.pdSeq + 1 ∧ t.net.tickOpen = true ∧ t.engine.tickAt = t.now ∧
    t.now = (if timerTicks s then Nat.max s.now (s.engine.tickAt + tickNs s.cfg.active) else s.now) ∧
    (∀ (p : PortId) (l : Fin 16) (data : List Byte), data.length = 4 →
      entered (s.tickInstant (timerTicks s)) = false →
      s.net.held = [{ by_ := ⟨p, 0⟩, pos := 0, index := 0x2501 + l.val, sub := 0x1D, data := data }] →
      t.engine.waiting = s.engine.waiting ++ [⟨0x2501 + l.val, 0x1D, ofLe data, s.net.pdSeq + 2⟩]))

/-- O52: OPEN takes a free slot at OBSERVE with its own first SEQ, is refused without one, and with TAKEOVER ends and
opens a session of the same peer again; a request with the expected SEQ is taken and answered, or answered OUTSTANDING
while a write of the session is held; another one that is not the one before is answered SEQ_ERROR and counted; CLOSE
ends the session (R373, R374, R381, R410 to R412, R421 to R424; logs 7, 46). -/
def Obligations.SessionRequests : Prop :=
  ∀ (s : State) (h : Hdr), takesDatagrams s h = true →
    (∀ k, freeSession s = some k → Runs (.openPlain h) s fun t => (∃ y : Session, t.net.sessions.get k = some y ∧
      y.port = h.port ∧ y.level = .observe ∧ y.expected = (h.seq + 1) % 65536 ∧ y.number = freeNumber s ∧
      y.lastAt = s.now) ∧ ∀ j, j ≠ k → t.net.sessions.get j = s.net.sessions.get j) ∧
    (freeSession s = none → Runs (.openPlain h) s fun t => t.net.sessions = s.net.sessions ∧
      t.net.sessionsRefused = satInc32 s.net.sessionsRefused) ∧
    (∀ (n : Nat) (k : Fin 4) (x : Session), takeoverSlots s h n = [k] → s.net.sessions.get k = some x →
      Runs (.openTakeover h n) s fun t => ∃ y : Session, t.net.sessions.get k = some y ∧ y.number = x.number ∧
        y.level = .observe ∧ y.request = none ∧
        y.expected = if x.request.isSome then (x.expected + 65535) % 65536 else x.expected) ∧
    (∀ n, (takeoverSlots s h n).length ≠ 1 → Runs (.openTakeover h n) s fun t => t.net.sessions = s.net.sessions) ∧
    (∀ (k : Fin 4) (x : Session), hdrSlot s h = some k → s.net.sessions.get k = some x →
      (h.seq = x.expected → outstanding s x = true →
        ∀ c : Instr, c = .nopRequest h ∨ c = .closeSession h ∨ (∃ l, c = .readItems h l) ∨ (∃ l, c = .writeItems h l) →
          Runs c s fun t => t.net.sessions.get k = some { x with lastAt := s.now } ∧ t.net.held = s.net.held ∧
            (isEth h.port = true → ∃ d : Datagram, Msg.datagram h.port d ∈ t.sent ∧ d.status = 5 ∧ d.ref = h.seq)) ∧
      (h.seq = x.expected → outstanding s x = false →
        Runs (.closeSession h) s (Ended s · k x) ∧
        Runs (.nopRequest h) s (fun t => Answered s t h k x 0x85) ∧
        (∀ it : ReadItem, Runs (.readItems h [it]) s fun t => Answered s t h k x 0x83) ∧
        (∀ (i sub : Nat) (data : List Byte), isSessionObject i sub = false →
          (receiptAbort s (some x) i sub data ≠ 0 → Runs (.writeItems h [⟨i, sub, 0, data.length, data⟩]) s fun t =>
            Answered s t h k x 0x84 ∧ t.net.held = s.net.held) ∧
          (receiptAbort s (some x) i sub data = 0 → Runs (.writeItems h [⟨i, sub, 0, data.length, data⟩]) s fun t =>
            t.net.held = s.net.held ++ [{ by_ := x.origin, pos := 0, index := i, sub := sub, data := data }] ∧
            t.net.sessions.get k = some { x with lastAt := s.now, expected := (x.expected + 1) % 65536
                                                 request := some ⟨h.seq, [(i, sub, none)], false⟩ }))) ∧
      (h.seq ≠ x.expected → (h.seq + 1) % 65536 ≠ x.expected →
        ∀ c : Instr, c = .nopRequest h ∨ c = .closeSession h ∨ (∃ l, c = .readItems h l) ∨ (∃ l, c = .writeItems h l) →
          Runs c s fun t => t.net.sessions.get k = some { x with lastAt := s.now } ∧
            (t.net.ports.get (portIdx h.port)).seq.seqErrors =
              satInc 255 (s.net.ports.get (portIdx h.port)).seq.seqErrors))

/-- O53: a datagram of a wrong version, type or layout is answered as a whole, one too short for its header not at
all; an SPI frame with a bad CRC is discarded and counted, one that holds is its datagram; a frame clocked out has
been sent, with the TICK of that instant (R408 to R410, R417, R418; log 46). -/
def Obligations.FramesAndMalformed : Prop :=
  (∀ (s : State) (h : Hdr) (typ : Nat) (m : Malformation), takesDatagrams s h = true → Runs (.malformedDatagram h typ m) s fun t =>
    Keeps reports s t ∧ (isEth h.port = true → m ≠ .tooShort → ∃ d : Datagram, Msg.datagram h.port d ∈ t.sent ∧
      d.status = (if m = .badVersion then 4 else 3) ∧ d.typ = typ % 128 + 128 ∧ d.ref = h.seq ∧
      d.dest = some h.peer)) ∧
  (∀ s : State, s.serving = true →
    Runs .spiFrameCrcError s (fun t => (t.net.ports.get (portIdx .spi)).seq.crcErrors =
      satInc 255 (s.net.ports.get (portIdx .spi)).seq.crcErrors) ∧
    (∀ bytes : List Byte, ofLe (bytes.take 1) ≠ 0 → ofLe (bytes.take 1) ≠ 0xA5 → Runs (.spiFrameReceived bytes) s fun t =>
      (t.net.ports.get (portIdx .spi)).seq.crcErrors = satInc 255 (s.net.ports.get (portIdx .spi)).seq.crcErrors) ∧
    (∀ session seq : Nat, session < 256 → seq < 65536 → ∃ t,
      exec (.spiFrameReceived (spiNop session seq)) s = .next t ∧
      exec (.nopRequest { port := .spi, session := session, seq := seq }) s = .next t) ∧
    (∀ (d : Datagram) (rest : List Datagram), s.net.spiQueue = d :: rest → Runs .spiFrameDelivered s fun t =>
      Msg.datagram .spi { d with tick := s.net.pdSeq % 65536 } ∈ t.sent ∧
      Msg.spiFrame (deviceFrame { d with tick := s.net.pdSeq % 65536 }) ∈ t.sent ∧ ∃ q : List Datagram, t.net.spiQueue = q.foldl spiPush rest))

/-- O54: a session ends by its timeout and by SESSION_END; with a key a level rises only by the response to a valid
challenge, a wrong one is counted and the third in a row locks the port for 10 s; a challenge ends after 10 s;
DEVICE_KEY installs the key (R374, R424, R425, R427, R428; instants: log 1, challenge bytes free: log 5). -/
def Obligations.SessionEndAndAuthorisation : Prop :=
  (∀ (s : State) (k : Fin 4) (x : Session), s.serving = true → s.net.sessions.get k = some x →
    Runs (.sessionTimeout k) s (fun t => Ended s t k x ∧
      t.now = Nat.max s.now (x.lastAt + sec (portTimeout s.cfg.active x.port))) ∧
    (∀ c a, x.challenge = some (c, a) → Runs (.authChallengeExpiry k) s fun t =>
      t.now = Nat.max s.now (a + sec 10) ∧ t.net.sessions.get k = some { x with challenge := none })) ∧
  (∀ (s : State) (p : PortId) (a : Nat), s.serving = true → (s.net.ports.get (portIdx p)).authLockAt = some a →
    Runs (.authLockoutEnd p) s fun t => t.now = Nat.max s.now (a + sec 10) ∧
      (t.net.ports.get (portIdx p)).authLockAt = none) ∧
  (∀ (s : State) (o : Origin) (k : Fin 4) (x : Session),
    (∀ v, Asks (.sessionEnd o v) s o .observe k x → Runs (.sessionEnd o v) s fun t => Ended s t k x ∧
      Msg.answer o 0x2B00 0x11 0 ∈ t.sent) ∧
    (∀ v, v ≤ 3 → Asks (.authRequest o v) s o .observe k x → s.net.keyId ≠ 0 → authRefused s x.port = false → Runs (.authRequest o v) s fun t =>
      Msg.answer o 0x2B00 0x0D 0 ∈ t.sent ∧ t.net.sessions.get k = some { x with
        lastAt := s.now, authLevel := v, level := if v ≤ levelCode x.level then levelOf v else x.level }) ∧
    (Asks (.authChallenge o) s o .observe k x → Runs (.authChallenge o) s fun t => ∃ c a, Msg.value o 0x2B00 0x0E (leBytes 16 c.toNat) ∈ t.sent ∧
      t.net.sessions.get k = some { x with lastAt := s.now, challenge := some (c, a) } ∧
      (challengeValid s x = true → x.challenge = some (c, a)) ∧ (challengeValid s x = false → a = s.now)) ∧
    (∀ r : List Byte, r.length = 32 → Asks (.authResponse o r) s o .observe k x → Runs (.authResponse o r) s fun t => Msg.answer o 0x2B00 0x0F 0 ∈ t.sent ∧
      t.net.sessions.get k = some { x with
        lastAt := s.now, challenge := none, level := if authMatches s x r then levelOf x.authLevel else x.level } ∧
      t.net.authFailures = (if authMatches s x r then s.net.authFailures else satInc32 s.net.authFailures) ∧
      (authMatches s x r = false → 2 ≤ (s.net.ports.get (portIdx x.port)).authFails →
        (t.net.ports.get (portIdx x.port)).authLockAt = some s.now)) ∧
    (∀ key : List Byte, key.length = 32 → Asks (.deviceKey o key) s o .commission k x →
      (ofLe key ≠ 0 → Runs (.deviceKey o key) s fun t => Taken s t o 0x2B00 0x12 k x ∧
        t.net.key = some (ofLe key) ∧ t.net.keyId = keyIdOf key ∧ t.net.keyId ≠ 0) ∧
      (ofLe key = 0 → Runs (.deviceKey o key) s fun t => Msg.answer o 0x2B00 0x12 abortValue ∈ t.sent ∧
        t.net.key = s.net.key ∧ t.net.keyId = s.net.keyId)) ∧
    (Asks (.errorHistoryClear o 0) s o .maintain k x → alarms s = s.net.emcy.lastAlarms → Runs (.errorHistoryClear o 0) s fun t =>
      Taken s t o 0x1003 0 k x ∧ t.net.emcy.history = []))

/-- O55: while KEY_ID is 0, a write to AUTH_REQUEST on SPI is granted at once, at the level written; on every other
port it is refused with 0x0800 0022 (R429). -/
def Obligations.KeylessAuthorisation : Prop :=
  ∀ (s : State) (o : Origin) (k : Fin 4) (x : Session) (v : Nat), Asks (.authRequest o v) s o .observe k x →
    s.net.keyId = 0 → v ≤ 3 →
    (x.port = .spi → Runs (.authRequest o v) s fun t => Msg.answer o 0x2B00 0x0D 0 ∈ t.sent ∧
      t.net.sessions.get k = some { x with lastAt := s.now, authLevel := v, level := levelOf v }) ∧
    (x.port ≠ .spi → Runs (.authRequest o v) s fun t => Msg.answer o 0x2B00 0x0D 0x08000022 ∈ t.sent ∧
      t.net.sessions.get k = some { x with lastAt := s.now })

-- configuration (15)

/-- O56: the commands of CFG_CMD by a COMMISSION session while no other runs and no epoch is armed: each does what
R441 gives it, and is refused in the states R441 names; CFG_IMAGE replaces the staged configuration or reports what is
wrong with it; EXPECTED_DIGEST and ACTIVATION_EPOCH are set (R390, R391, R440, R441, R443 to R445, R449, R450; log
43). -/
def Obligations.ConfigurationCommands : Prop :=
  ∀ (s : State) (o : Origin) (k : Fin 4) (x : Session),
    (s.cfg.job = none → s.cfg.epoch = none →
      (Asks (.cfgCheck o) s o .commission k x → Runs (.cfgCheck o) s fun t => Taken s t o 0x2900 7 k x ∧
        t.cfg = { s.cfg with job := some .check, jobCopy := s.cfg.staged }) ∧
      (Asks (.cfgDiscard o) s o .commission k x → Runs (.cfgDiscard o) s fun t => Taken s t o 0x2900 7 k x ∧
        t.cfg = { s.cfg with staged := s.cfg.active, lastFailed := false }) ∧
      (Asks (.cfgStore o) s o .commission k x → Runs (.cfgStore o) s fun t => Taken s t o 0x2900 7 k x ∧
        t.cfg = { s.cfg with job := some .store, jobCopy := s.cfg.staged }) ∧
      (shadowValid s = true → Asks (.cfgActivate o) s o .commission k x →
        Runs (.cfgActivate o) s fun t => Taken s t o 0x2900 7 k x ∧
          t.cfg = { s.cfg with job := some .activation, how := 0, lastEpoch := 0 }) ∧
      (s.cfg.staged = s.cfg.active → Asks (.cfgAdopt o) s o .commission k x → Runs (.cfgAdopt o) s fun t =>
        Taken s t o 0x2900 7 k x ∧ t.cfg = { s.cfg with
          job := some .adopt, staged := withLive s.cfg.staged s.engine.live
          jobCopy := withLive s.cfg.staged s.engine.live }) ∧
      (∀ b, bankOf s.cfg (inactiveBank s.cfg) = some b → bankGood b = true → imageCheck b.image = (0, 0) →
        Asks (.cfgLoadShadow o) s o .commission k x → Runs (.cfgLoadShadow o) s fun t =>
          Taken s t o 0x2900 7 k x ∧ t.cfg = { s.cfg with
            staged := imageCfg b.image, shadow := some (imageCfg b.image), lastFailed := false, result := (0, 0) })) ∧
    (∀ (c : Instr) (v : Nat), (c = .cfgCheck o ∧ v = cmdCheck) ∨ (c = .cfgDiscard o ∧ v = cmdDiscard) ∨
        (c = .cfgStore o ∧ v = cmdStore) ∨ (c = .cfgActivate o ∧ v = cmdActivate) ∨
        (c = .cfgAdopt o ∧ v = cmdAdopt) ∨ (c = .cfgLoadShadow o ∧ v = cmdLoadShadow) → cfgCmdRefused s v = true →
      Asks c s o .commission k x →
      Runs c s fun t => Msg.answer o 0x2900 7 abortState ∈ t.sent ∧ t.cfg = { s.cfg with result := t.cfg.result }) ∧
    (∀ image : List Byte, 1 ≤ image.length → image.length ≤ 65536 → Asks (.cfgImageWrite o image) s o .commission k x →
      (imageCheck image = (0, 0) → cfgLocked s = false → Runs (.cfgImageWrite o image) s fun t =>
        Taken s t o 0x2900 0x0B k x ∧ t.cfg = { s.cfg with staged := imageCfg image, result := (0, 0) }) ∧
      (imageCheck image = (0, 0) → cfgLocked s = true → Runs (.cfgImageWrite o image) s fun t =>
        Msg.answer o 0x2900 0x0B abortLocked ∈ t.sent ∧ t.cfg = s.cfg) ∧
      (imageCheck image ≠ (0, 0) → Runs (.cfgImageWrite o image) s fun t =>
        Msg.answer o 0x2900 0x0B abortValue ∈ t.sent ∧
        t.cfg = { s.cfg with result := imageCheck image, lastFailed := true })) ∧
    (∀ v, v < 2 ^ 64 → Asks (.expectedDigestWrite o v) s o .commission k x → Runs (.expectedDigestWrite o v) s fun t =>
      Taken s t o 0x2900 6 k x ∧ t.cfg = { s.cfg with expected := v }) ∧
    (∀ v, 1 ≤ v → v ≤ 240 → Asks (.epochArm o v) s o .commission k x →
      (epochRefused s v = false → Runs (.epochArm o v) s fun t => Taken s t o 0x2900 8 k x ∧
        t.cfg = { s.cfg with epoch := some v, epochLate := false }) ∧
      (epochRefused s v = true → Runs (.epochArm o v) s fun t => Msg.answer o 0x2900 8 abortState ∈ t.sent ∧
        t.cfg = s.cfg)) ∧
    (s.cfg.job ≠ some .activation → Asks (.epochDisarm o 0) s o .commission k x → Runs (.epochDisarm o 0) s fun t =>
      Taken s t o 0x2900 8 k x ∧ t.cfg = { s.cfg with epoch := none })

/-- O57: a check reports the first rule that fails; a store writes the inactive bank with the next GENERATION, not yet
activated; an activation makes the staged configuration the active one at a Tally cycle start, with every section
DISTURBED and empty, the writes that set every assigned permit DROPPING held for the Reeve, the lock-out causes of
every unassigned one gone, every entry FREE and the engine fading, and does nothing when ACT_COUNT cannot be
programmed; an adoption changes the active configuration and no section, and a device on its defaults stays so marked
(R230, R251, R277, R287, R320, R347, R434, R435, R439, R441, R444, R445, R447; logs 1, 23, 26, 43). -/
def Obligations.ConfigurationCompletions : Prop :=
  ∀ s : State, s.alive = true →
    (s.cfg.job = some .check → Runs .cfgCheckDone s fun t => t.cfg = { s.cfg with
      job := none, result := cfgCheckOf s.cfg.jobCopy, lastFailed := (cfgCheckOf s.cfg.jobCopy).1 != 0 }) ∧
    (s.cfg.job = some .store →
      ((cfgCheckOf s.cfg.jobCopy).1 = 0 → Runs (.cfgStoreDone true) s fun t => t.cfg.job = none ∧
        t.cfg.lastFailed = false ∧ t.cfg.shadow = some s.cfg.jobCopy ∧ t.cfg.active = s.cfg.active ∧
        bankOf t.cfg (!inactiveBank s.cfg) = bankOf s.cfg (!inactiveBank s.cfg) ∧
        ∃ b, bankOf t.cfg (inactiveBank s.cfg) = some b ∧ b.generation = nextGen s.cfg ∧ b.act = none ∧
          b.image = imageOf s.cfg.jobCopy ∧ b.digest = cfgDigest s.cfg.jobCopy ∧ b.checkWord = bankCrc b) ∧
      ((cfgCheckOf s.cfg.jobCopy).1 = 0 → Runs (.cfgStoreDone false) s fun t => t.cfg.job = none ∧
        t.cfg.lastFailed = true ∧ t.cfg.shadow = none ∧ t.cfg.active = s.cfg.active ∧
        bankOf t.cfg (!inactiveBank s.cfg) = bankOf s.cfg (!inactiveBank s.cfg)) ∧
      (∀ ok, (cfgCheckOf s.cfg.jobCopy).1 ≠ 0 → Runs (.cfgStoreDone ok) s fun t => t.cfg = { s.cfg with
        job := none, result := cfgCheckOf s.cfg.jobCopy, lastFailed := true })) ∧
    (s.cfg.job = some .activation → Runs (.activationEffect false) s fun t =>
      t.cfg = { s.cfg with job := none, lastFailed := true } ∧ t.sect = s.sect ∧ t.permits = s.permits) ∧
    (s.cfg.job = some .activation → Runs (.activationEffect true) s fun t =>
      t.now = Nat.max s.now (s.tally.startAt + ms 1) ∧ t.cfg.job = none ∧ t.cfg.active = s.cfg.staged ∧
      t.cfg.activeBank = some (inactiveBank s.cfg) ∧ t.cfg.liveEdit = false ∧ t.cfg.defaulted = false ∧
      (∀ n, (t.sect.get n).st = .disturbed ∧ (t.sect.get n).count = 0) ∧
      (∀ p : Fin 16, (permitAssigned s.cfg.staged p.val = true → t.permits.po.get p = s.permits.po.get p) ∧
        (permitAssigned s.cfg.staged p.val = false → t.permits.po.get p =
          { s.permits.po.get p with lock := 0#4, shownLock := 0, rbBy := 0#16 })) ∧
      (s.twin.stopLatch = false → ∃ m : BitVec 16, (∀ p : Fin 16, m.getLsbD p.val = permitAssigned s.cfg.staged p.val) ∧
        t.twin.held = s.twin.held ++ [(retireWindow t, .activation m)]) ∧
      (∀ i, (t.trk.entries.get i).st = .free) ∧ t.engine.live = engineLive s.cfg.staged ∧
      t.engine.mode = (if s.engine.mode = .off then .off else .fade)) ∧
    (s.cfg.job = some .adopt →
      ((cfgCheckOf s.cfg.jobCopy).1 = 0 → Runs (.cfgAdoptDone true) s fun t =>
        t.now = Nat.max s.now (s.tally.startAt + ms 1) ∧ t.cfg.job = none ∧ t.cfg.active = s.cfg.jobCopy ∧
        t.cfg.generation = nextGen s.cfg ∧ t.cfg.activeBank = some (inactiveBank s.cfg) ∧ t.sect = s.sect ∧
        t.cfg.defaulted = s.cfg.defaulted ∧ t.cfg.defaultCause = s.cfg.defaultCause ∧
        t.permits = s.permits ∧ t.engine = s.engine) ∧
      (∀ ok, (cfgCheckOf s.cfg.jobCopy).1 ≠ 0 ∨ ok = false → Runs (.cfgAdoptDone ok) s fun t => t.cfg.job = none ∧
        t.cfg.lastFailed = true ∧ t.cfg.active = s.cfg.active ∧ t.cfg.staged = s.cfg.active ∧ t.now = s.now))

-- the Parish Book (16)

/-- O58: the eMMC is identified when the book is opened, every 10 s without one, and 10 s after a failure; a full or
due sector is written whole, as one reliable block, at the slots of its records and no other byte changes; the third
failure in a row makes the book FAILED; HIBERNATE entry gives up the eMMC after 40 ms; a TIME record comes 60 s after
the last record; RECORD_LOSS is held for 10 s (R53, R454 to R458, R464, R466, R467, R470, R480, R481; logs 1, 14, 44).
-/
def Obligations.RecorderStorage : Prop :=
  ∀ s : State, Memory.wf s.emmc = true →
    (s.alive = true → ∀ card : CardFacts,
      (s.recd.st = .opening →
        (flushAbandoned s = false → Runs (.bookOpen card) s fun t => Identified s t card ∧ t.now = s.now) ∧
        (flushAbandoned s = true → Runs (.bookOpen card) s fun t => t.recd.st = .opening ∧ t.emmc = s.emmc)) ∧
      (s.recd.st = .noCard → flushAbandoned (s.reach (s.recd.failedAt + sec 10)) = false →
        Runs (.emmcRetry card) s fun t => Identified s t card ∧ t.now = Nat.max s.now (s.recd.failedAt + sec 10)) ∧
      (s.recd.st = .failed → flushAbandoned (s.reach (s.recd.failedAt + sec 10)) = false →
        Runs (.emmcResetReopen card) s fun t => Identified s t card ∧
          t.now = Nat.max s.now (s.recd.failedAt + sec 10) ∧ t.recd.rstAt = some t.now)) ∧
    (∀ d, s.serving = true → flushDue s.goingDown s.recd = some d → s.recd.opened = true → s.recd.st = .ready →
      s.recd.writing = 0 → s.recd.asleep = false → flushAbandoned (s.reach d) = false →
      Runs .sectorFlushDue s fun t => t.now = Nat.max s.now d ∧ t.recd.writing = recBatch s.recd ∧ 0 < t.recd.writing) ∧
    (∀ (l : Label) (q : Rec) (rest : List Rec) (n : Nat), s.serving = true → s.recd.st = .ready → 0 < s.recd.writing →
      s.recd.label = some l → s.recd.queue = q :: rest → q.number = some n → flushAbandoned s = false →
      sectorCommands s = [.setBlockCount true 1, .writeMultiple (64 * recSlot l (n - n % 8) / 512)
        (sectorBytes s.emmc (64 * recSlot l (n - n % 8)) (n % 8) (s.recd.queue.take s.recd.writing))] ∧
      Runs (.sectorWriteDone true) s fun t =>
        memRead t.emmc (64 * recSlot l (n - n % 8)) (sectorBytes s.emmc (64 * recSlot l (n - n % 8)) (n % 8)
            (s.recd.queue.take s.recd.writing)).length
          = sectorBytes s.emmc (64 * recSlot l (n - n % 8)) (n % 8) (s.recd.queue.take s.recd.writing) ∧
        (∀ a, a < 64 * recSlot l (n - n % 8) ∨ 64 * recSlot l (n - n % 8) + (sectorBytes s.emmc
            (64 * recSlot l (n - n % 8)) (n % 8) (s.recd.queue.take s.recd.writing)).length ≤ a →
          memGet t.emmc a = memGet s.emmc a) ∧
        s.recd.queue.drop s.recd.writing <+: t.recd.queue ∧ t.recd.failures = 0) ∧
    (∀ c : Instr, s.serving = true → flushAbandoned s = false →
        (c = .sectorWriteDone false ∧ emmcWrites s.recd = true) ∨ (c = .sectorBusyTimeout ∧ emmcUsed s.recd.st = true) →
        Runs c s fun t => t.emmc = s.emmc ∧
      (s.recd.failures < 2 → t.recd.failures = s.recd.failures + 1 ∧ t.recd.st = s.recd.st) ∧
      (2 ≤ s.recd.failures → t.recd.st = .failed ∧ t.recd.errors = satInc32 s.recd.errors ∧ t.recd.failedAt = s.now)) ∧
    (∀ ok, flushAbandoned s = true → Runs (.sectorWriteDone ok) s fun t => t.emmc = s.emmc ∧
      t.recd.writing = s.recd.writing) ∧
    (s.alive = true → Runs .timeRecordDue s fun t => t.now = Nat.max s.now (s.recd.lastRecordAt + sec 60) ∧
      (Roomy s → ∃ q ∈ t.recd.queue, q.typ = 0x09 ∧ q.createdAt = t.now)) ∧
    (∀ a, s.serving = true → s.recd.lossAt = some a → Roomy s → Runs .lossHoldExpiry s fun t =>
      t.now = Nat.max s.now (a + sec 10) ∧ t.recd.lossAt = none)

/-- O59: a COMMISSION session's CLEAR and FOUND begin and are refused in the states R477 names; FOUND erases the window
and writes the label; CLEAR erases at most the Daybook, never the Founding Book, makes OLDEST_RECORD the number of its
CLEARED record, which follows the GAP record of a loss, and completes when that record has been written; a HIBERNATE
entry that has given up the eMMC stops both; CORRELATE is recorded; READ_WINDOW answers the sector of the record (R53,
R464, R468, R471, R475, R477 to R479; logs 19, 44). -/
def Obligations.RecorderCommands : Prop :=
  (∀ (s : State) (o : Origin) (k : Fin 4) (x : Session), Memory.wf s.emmc = true →
    (Asks (.recClear o) s o .commission k x → s.recd.st = .ready → s.recd.job = none → Runs (.recClear o) s fun t => Taken s t o 0x2800 0x0B k x ∧
      t.recd.job = some (.clear o s.recd.exhausted s.recd.oldest (s.recd.next - 1)) ∧ t.emmc = s.emmc) ∧
    (Asks (.recClear o) s o .commission k x → recCmdRefused s recClearCode = true → Runs (.recClear o) s fun t =>
      Msg.answer o 0x2800 0x0B abortState ∈ t.sent ∧ t.recd.job = s.recd.job ∧ t.emmc = s.emmc) ∧
    (Asks (.recFound o) s o .commission k x → s.recd.st = .noBook ∨ s.recd.st = .foreign → s.recd.job = none →
      (windowTooSmall s = false → Runs (.recFound o) s fun t => Taken s t o 0x2800 0x0B k x ∧
        t.recd.job = some (.found o) ∧ t.recd.label = none ∧ t.recd.dump = {} ∧
        (∀ a, a < 64 * s.recd.cardW → memGet t.emmc a = 0#8) ∧
        ∀ a, 64 * s.recd.cardW ≤ a → memGet t.emmc a = memGet s.emmc a) ∧
      (windowTooSmall s = true → Runs (.recFound o) s fun t => Msg.answer o 0x2800 0x0B abortState ∈ t.sent ∧
        t.recd.st = .tooSmall ∧ t.emmc = s.emmc))) ∧
  (∀ s : State, s.alive = true → Memory.wf s.emmc = true → flushAbandoned s = false →
    (∀ o, s.recd.job = some (.found o) → Runs .recorderCmdDone s fun t => t.recd.job = none ∧ t.recd.st = .ready ∧
      t.recd.opened = true ∧ t.recd.powerCycles = 1 ∧
      (∃ l : Label, t.recd.label = some l ∧ l.f = cfgGet s.cfg.active 0x2800 4 ∧ l.w = s.recd.cardW ∧
        l.serial = Config.serial.toNat ∧ memRead t.emmc 0 512 = labelBytes l ∧ memRead t.emmc 512 512 = labelBytes l) ∧
      ∀ a, 1024 ≤ a → memGet t.emmc a = memGet s.emmc a) ∧
    (∀ (o : Origin) (erase : Bool) (a b : Nat) (l : Label), s.recd.job = some (.clear o erase a b) →
      s.recd.label = some l → s.recd.st = .ready → s.recd.queue.length + 10 ≤ recCap → Runs .recorderCmdDone s fun t =>
        (∃ n, t.recd.job = some (.cleared n) ∧ t.recd.oldest = n ∧ t.recd.wrapBase = n ∧
          (erase = false → 0 < s.recd.lost → s.recd.exhausted = false → s.recd.next + 8 < 0xFFFFFFFF →
            ∃ q ∈ t.recd.queue, ∃ m, q.typ = 0x0A ∧ q.number = some m ∧ m < n)) ∧
        (erase = false → t.emmc = s.emmc) ∧
        (∀ i, i < 64 * (64 + l.f) ∨ 64 * (64 + l.f + l.d) ≤ i → memGet t.emmc i = memGet s.emmc i) ∧
        (erase = true → ∀ i, 64 * (64 + l.f) ≤ i → i < 64 * (64 + l.f + l.d) → memGet t.emmc i = 0#8))) ∧
  (∀ s : State, flushAbandoned s = true → Runs .recorderCmdDone s fun t => t.emmc = s.emmc ∧ t.recd.job = s.recd.job) ∧
  (∀ (s : State) (l : Label) (q : Rec) (rest : List Rec) (n : Nat), s.serving = true → s.recd.st = .ready →
    0 < s.recd.writing → s.recd.label = some l → s.recd.queue = q :: rest → flushAbandoned s = false →
    s.recd.job = some (.cleared n) → Runs (.sectorWriteDone true) s fun t => t.recd.job =
      if (s.recd.queue.take s.recd.writing).any (fun x => x.number == some n) then none else some (.cleared n)) ∧
  (∀ (s : State) (o : Origin) (k : Fin 4) (x : Session),
    (∀ v, v < 2 ^ 64 → Asks (.correlate o v) s o .operate k x → Roomy s → Runs (.correlate o v) s fun t =>
      Taken s t o 0x2800 0x0A k x ∧ ∃ q ∈ t.recd.queue, q.typ = 0x08 ∧ q.payload.take 8 = leBytes 8 v) ∧
    (Asks (.readWindow o) s o .observe k x → Runs (.readWindow o) s fun t =>
      Msg.value o 0x2800 9 (readWindow s x.readIndex) ∈ t.sent))

/-- O60: on a running device and on a stopped one, DUMP_OFFSET accepts the multiples of 512 from 0 to 16,776,704 and
refuses any other value with 0x0609 0030; DUMP_WINDOW returns 512 bytes from DUMP_OFFSET, at once, the model's choice
(R495 says within 20 ms; log 2), and those of the dump region where BOOK_STATE is not one in which the model reads
0x00, its choice too (log 44); while DSTATE is WRITING a read of it is refused with 0x0800 0022 (R488, R495). -/
def Obligations.DumpWindowReads : Prop :=
  ∀ (s : State) (o : Origin) (k : Fin 4) (x : Session), Served s o k x →
    (∀ v, v < 2 ^ 32 →
      (v % 512 = 0 ∧ v ≤ 16776704 → Runs (.genericWrite o 0x2800 0x0E (leBytes 4 v)) s fun t =>
        Msg.answer o 0x2800 0x0E 0 ∈ t.sent ∧
        t.net.sessions.get k = some { x with lastAt := s.now, dumpOffset := v }) ∧
      (v % 512 ≠ 0 ∨ 16776704 < v → Runs (.genericWrite o 0x2800 0x0E (leBytes 4 v)) s fun t =>
        Msg.answer o 0x2800 0x0E 0x06090030 ∈ t.sent ∧ t.net.sessions.get k = some { x with lastAt := s.now })) ∧
    (s.recd.dump.st ≠ .writing → ∃ t, exec (.dumpWindow o) s = .next t ∧ t.now = s.now ∧ t.recd.dump = s.recd.dump ∧
      ∃ d : List Byte, Msg.value o 0x2800 0x0F d ∈ t.sent ∧ d.length = 512 ∧
        (noMedium s = false → d = (List.range 512).map (fun j => dumpByte s.recd.dump (x.dumpOffset + j)))) ∧
    (s.recd.dump.st = .writing → ∃ t, exec (.dumpWindow o) s = .next t ∧
      Msg.answer o 0x2800 0x0F 0x08000022 ∈ t.sent ∧ t.recd.dump = s.recd.dump)
end

