-- ==== Sys2Proof/Laws/Frame.lean ====
section
/-! SUPPORT. How frames combine: what `Keeps` allows one to conclude, and one lemma per field of the state. -/

namespace Sys2Proof.Machine

/-- Every part of one list is in the other. -/
def subParts (a b : List Part) : Bool := a.all (fun p => decide (p ∈ b))

theorem subParts_mem {a b : List Part} (h : subParts a b = true) {p : Part} (hp : p ∈ a) : p ∈ b := by
  unfold subParts at h
  exact of_decide_eq_true (List.all_eq_true.mp h p hp)

theorem Part.same_refl (p : Part) (s : State) : p.same s s := by
  cases p <;> simp [Part.same]

theorem Part.same_trans {p : Part} {s t u : State} (h : p.same s t) (g : p.same t u) : p.same s u := by
  cases p <;> simp only [Part.same] at h g ⊢ <;>
    first
      | exact g.trans h
      | exact ⟨g.1.trans h.1, g.2.1.trans h.2.1, g.2.2.trans h.2.2⟩
      | exact ⟨g.1.trans h.1, g.2.trans h.2⟩
      | exact fun k => (g k).trans (h k)
      | exact ⟨g.1.trans h.1, fun k => (g.2 k).trans (h.2 k)⟩

theorem Keeps.refl (l : List Part) (s : State) : Keeps l s s := ⟨fun p _ => p.same_refl s⟩

theorem Keeps.trans {l : List Part} {s t u : State} (h : Keeps l s t) (g : Keeps l t u) : Keeps l s u :=
  ⟨fun p hp => Part.same_trans (h.same p hp) (g.same p hp)⟩

theorem Keeps.mono {a b : List Part} {s t : State} (hs : subParts a b = true) (h : Keeps a s t) :
    Keeps b s t := ⟨fun p hp => h.same p (fun ha => hp (subParts_mem hs ha))⟩

/-- A further operation whose own frame is known. -/
theorem Keeps.app {a l : List Part} {s t u : State} (h : Keeps a t u) (hs : subParts a l = true)
    (g : Keeps l s t) : Keeps l s u := g.trans (h.mono hs)

theorem Keeps.foldl {α : Type} {l : List Part} {s t : State} {f : State → α → State}
    (hf : ∀ acc x, Keeps l acc (f acc x)) (g : Keeps l s t) (xs : List α) :
    Keeps l s (xs.foldl f t) := by
  induction xs generalizing t with
  | nil => exact g
  | cons x xs ih => exact ih (g.trans (hf t x))

theorem Keeps.whenAlive {l : List Part} {s t : State} {f : State → State} (hf : ∀ u, Keeps l u (f u))
    (g : Keeps l s t) : Keeps l s (t.whenAlive f) := by
  unfold State.whenAlive
  split
  · exact g.trans (hf t)
  · exact g

theorem Keeps.guarded {l : List Part} {s t : State} {b : Bool} {f : State → State}
    (hf : ∀ u, Keeps l u (f u)) (g : Keeps l s t) : Keeps l s (t.guarded b f) := by
  unfold State.guarded
  split
  · exact g.trans (hf t)
  · exact g

theorem Keeps.elim {α : Type} {l : List Part} {s t : State} {o : Option α} {f : α → State} (g : Keeps l s t)
    (hf : ∀ x, Keeps l s (f x)) : Keeps l s (o.elim t f) := by
  cases o with
  | none => exact g
  | some x => exact hf x

theorem Keeps.ite {l : List Part} {s a b : State} {c : Prop} [Decidable c] (ha : c → Keeps l s a)
    (hb : ¬ c → Keeps l s b) : Keeps l s (if c then a else b) := by
  by_cases h : c
  · rw [if_pos h]; exact ha h
  · rw [if_neg h]; exact hb h

theorem Tab.get_put_self {n : Nat} {α : Type} (t : Tab n α) (i : Fin n) (x : α) : (t.put i x).get i = x := by
  show (Vector.set t i.val x i.isLt)[i.val]'i.isLt = x
  exact Vector.getElem_set_self i.isLt

theorem Tab.get_put_other {n : Nat} {α : Type} (t : Tab n α) (i k : Fin n) (x : α) (h : k ≠ i) :
    (t.put i x).get k = t.get k := by
  show (Vector.set t i.val x i.isLt)[k.val]'k.isLt = t[k.val]'k.isLt
  exact Vector.getElem_set_ne i.isLt k.isLt (fun e => h (Fin.ext e.symm))

/-- Writing one port so that a view of it is unchanged leaves that view of every port unchanged. -/
theorem Tab.view_put {n : Nat} {α β : Type} (f : α → β) (t : Tab n α) (i k : Fin n) (x : α)
    (h : f x = f (t.get i)) : f ((t.put i x).get k) = f (t.get k) := by
  by_cases hk : k = i
  · subst hk; rw [Tab.get_put_self, h]
  · rw [Tab.get_put_other t i k x hk]

-- fields written
theorem keeps_set_sent (s : State) (x0 : List Msg) :
    Keeps [.sent] s { s with sent := x0 } := by
  constructor; intro p hp; cases p <;> first | exact absurd (by decide) hp | simp [Part.same]
theorem keeps_set_now (s : State) (x0 : Nat) :
    Keeps [.now] s { s with now := x0 } := by
  constructor; intro p hp; cases p <;> first | exact absurd (by decide) hp | simp [Part.same]
theorem keeps_set_fresh (s : State) (x0 : Nat) :
    Keeps [.fresh] s { s with fresh := x0 } := by
  constructor; intro p hp; cases p <;> first | exact absurd (by decide) hp | simp [Part.same]
theorem keeps_set_recd (s : State) (x0 : Recorder) :
    Keeps [.recd, .log] s { s with recd := x0 } := by
  constructor; intro p hp; cases p <;> first | exact absurd (by decide) hp | simp [Part.same]
theorem keeps_set_src (s : State) (x0 : Tab 64 Source) :
    Keeps [.src] s { s with src := x0 } := by
  constructor; intro p hp; cases p <;> first | exact absurd (by decide) hp | simp [Part.same]
theorem keeps_set_ch (s : State) (x0 : Tab 64 Channel) :
    Keeps [.ch] s { s with ch := x0 } := by
  constructor; intro p hp; cases p <;> first | exact absurd (by decide) hp | simp [Part.same]
theorem keeps_set_cg (s : State) (x0 : Tab 64 ChGuard) :
    Keeps [.cg] s { s with cg := x0 } := by
  constructor; intro p hp; cases p <;> first | exact absurd (by decide) hp | simp [Part.same]
theorem keeps_set_hg (s : State) (x0 : Tab 32 HeadGuard) :
    Keeps [.hg] s { s with hg := x0 } := by
  constructor; intro p hp; cases p <;> first | exact absurd (by decide) hp | simp [Part.same]
theorem keeps_set_head (s : State) (x0 : Tab 32 Head) :
    Keeps [.head] s { s with head := x0 } := by
  constructor; intro p hp; cases p <;> first | exact absurd (by decide) hp | simp [Part.same]
theorem keeps_set_sect (s : State) (x0 : Tab 48 Section) :
    Keeps [.sect] s { s with sect := x0 } := by
  constructor; intro p hp; cases p <;> first | exact absurd (by decide) hp | simp [Part.same]
theorem keeps_set_net_ports (s : State) (y0 : Tab 5 PortState) :
    Keeps [.ports, .stream] s { s with net := { s.net with ports := y0 } } := by
  constructor; intro p hp; cases p <;> first | exact absurd (by decide) hp | simp [Part.same]
theorem keeps_set_net_can (s : State) (y0 : Tab 2 CanState) :
    Keeps [.can] s { s with net := { s.net with can := y0 } } := by
  constructor; intro p hp; cases p <;> first | exact absurd (by decide) hp | simp [Part.same]
theorem keeps_set_permits (s : State) (x0 : Permits) :
    Keeps [.permits] s { s with permits := x0 } := by
  constructor; intro p hp; cases p <;> first | exact absurd (by decide) hp | simp [Part.same]
theorem keeps_set_net_spiQueue (s : State) (y0 : List Datagram) :
    Keeps [.stream] s { s with net := { s.net with spiQueue := y0 } } := by
  constructor; intro p hp; cases p <;> first | exact absurd (by decide) hp | simp [Part.same]
theorem keeps_set_net_emcy (s : State) (y0 : Emcy) :
    Keeps [.emcy] s { s with net := { s.net with emcy := y0 } } := by
  constructor; intro p hp; cases p <;> first | exact absurd (by decide) hp | simp [Part.same]
theorem keeps_set_twin (s : State) (x0 : Twin) :
    Keeps [.twin] s { s with twin := x0 } := by
  constructor; intro p hp; cases p <;> first | exact absurd (by decide) hp | simp [Part.same]
theorem keeps_set_tally (s : State) (x0 : Tally) :
    Keeps [.tally] s { s with tally := x0 } := by
  constructor; intro p hp; cases p <;> first | exact absurd (by decide) hp | simp [Part.same]
theorem keeps_set_trk (s : State) (x0 : Tracker) :
    Keeps [.trk] s { s with trk := x0 } := by
  constructor; intro p hp; cases p <;> first | exact absurd (by decide) hp | simp [Part.same]
theorem keeps_set_tally_trk (s : State) (x0 : Tally) (x1 : Tracker) :
    Keeps [.tally, .trk] s { s with tally := x0, trk := x1 } := by
  constructor; intro p hp; cases p <;> first | exact absurd (by decide) hp | simp [Part.same]
theorem keeps_set_bell (s : State) (x0 : Bell) :
    Keeps [.bell] s { s with bell := x0 } := by
  constructor; intro p hp; cases p <;> first | exact absurd (by decide) hp | simp [Part.same]
theorem keeps_set_term (s : State) (x0 : Terminals) :
    Keeps [.term] s { s with term := x0 } := by
  constructor; intro p hp; cases p <;> first | exact absurd (by decide) hp | simp [Part.same]
theorem keeps_set_power (s : State) (x0 : Power) :
    Keeps [.power] s { s with power := x0 } := by
  constructor; intro p hp; cases p <;> first | exact absurd (by decide) hp | simp [Part.same]
theorem keeps_set_power_term_src (s : State) (x0 : Power) (x1 : Terminals) (x2 : Tab 64 Source) :
    Keeps [.power, .term, .src] s { s with power := x0, term := x1, src := x2 } := by
  constructor; intro p hp; cases p <;> first | exact absurd (by decide) hp | simp [Part.same]
theorem keeps_set_tally_permits (s : State) (x0 : Tally) (x1 : Permits) :
    Keeps [.tally, .permits] s { s with tally := x0, permits := x1 } := by
  constructor; intro p hp; cases p <;> first | exact absurd (by decide) hp | simp [Part.same]
theorem keeps_set_sect_tally (s : State) (x0 : Tab 48 Section) (x1 : Tally) :
    Keeps [.sect, .tally] s { s with sect := x0, tally := x1 } := by
  constructor; intro p hp; cases p <;> first | exact absurd (by decide) hp | simp [Part.same]
theorem keeps_set_power_tally (s : State) (x0 : Power) (x1 : Tally) :
    Keeps [.power, .tally] s { s with power := x0, tally := x1 } := by
  constructor; intro p hp; cases p <;> first | exact absurd (by decide) hp | simp [Part.same]
theorem keeps_set_hg_head (s : State) (x0 : Tab 32 HeadGuard) (x1 : Tab 32 Head) :
    Keeps [.hg, .head] s { s with hg := x0, head := x1 } := by
  constructor; intro p hp; cases p <;> first | exact absurd (by decide) hp | simp [Part.same]
theorem keeps_set_tally_trk_engine (s : State) (x0 : Tally) (x1 : Tracker) (x2 : Engine) :
    Keeps [.tally, .trk, .engine] s { s with tally := x0, trk := x1, engine := x2 } := by
  constructor; intro p hp; cases p <;> first | exact absurd (by decide) hp | simp [Part.same]
theorem keeps_set_hg_head_tally (s : State) (x0 : Tab 32 HeadGuard) (x1 : Tab 32 Head) (x2 : Tally) :
    Keeps [.hg, .head, .tally] s { s with hg := x0, head := x1, tally := x2 } := by
  constructor; intro p hp; cases p <;> first | exact absurd (by decide) hp | simp [Part.same]
theorem keeps_set_engine_cfg (s : State) (x0 : Engine) (x1 : Cfg) :
    Keeps [.engine, .cfg] s { s with engine := x0, cfg := x1 } := by
  constructor; intro p hp; cases p <;> first | exact absurd (by decide) hp | simp [Part.same]
theorem keeps_set_engine (s : State) (x0 : Engine) :
    Keeps [.engine] s { s with engine := x0 } := by
  constructor; intro p hp; cases p <;> first | exact absurd (by decide) hp | simp [Part.same]
theorem keeps_set_twin_recd (s : State) (x0 : Twin) (x1 : Recorder) :
    Keeps [.twin, .recd, .log] s { s with twin := x0, recd := x1 } := by
  constructor; intro p hp; cases p <;> first | exact absurd (by decide) hp | simp [Part.same]
theorem keeps_set_power_twin (s : State) (x0 : Power) (x1 : Twin) :
    Keeps [.power, .twin] s { s with power := x0, twin := x1 } := by
  constructor; intro p hp; cases p <;> first | exact absurd (by decide) hp | simp [Part.same]
theorem keeps_set_cfg (s : State) (x0 : Cfg) :
    Keeps [.cfg] s { s with cfg := x0 } := by
  constructor; intro p hp; cases p <;> first | exact absurd (by decide) hp | simp [Part.same]
theorem keeps_set_emmc (s : State) (x0 : List Host.Cell) :
    Keeps [.emmc] s { s with emmc := x0 } := by
  constructor; intro p hp; cases p <;> first | exact absurd (by decide) hp | simp [Part.same]
theorem keeps_set_net_sessions (s : State) (y0 : Tab 4 (Option Session)) :
    Keeps [.sessions] s { s with net := { s.net with sessions := y0 } } := by
  constructor; intro p hp; cases p <;> first | exact absurd (by decide) hp | simp [Part.same]
theorem keeps_set_net_sessionsRefused (s : State) (y0 : Nat) :
    Keeps [.sessions] s { s with net := { s.net with sessionsRefused := y0 } } := by
  constructor; intro p hp; cases p <;> first | exact absurd (by decide) hp | simp [Part.same]
theorem keeps_set_tally_net_held_xfer (s : State) (x0 : Tally) (y0 : List HeldWrite) (y1 : Tab 4 (Option SdoXfer)) :
    Keeps [.tally, .held, .xfer] s { s with tally := x0, net := { s.net with held := y0, xfer := y1 } } := by
  constructor; intro p hp; cases p <;> first | exact absurd (by decide) hp | simp [Part.same]
theorem keeps_set_net_nextSession (s : State) (y0 : Nat) :
    Keeps [.sessions] s { s with net := { s.net with nextSession := y0 } } := by
  constructor; intro p hp; cases p <;> first | exact absurd (by decide) hp | simp [Part.same]
theorem keeps_set_net_authFailures (s : State) (y0 : Nat) :
    Keeps [.auth] s { s with net := { s.net with authFailures := y0 } } := by
  constructor; intro p hp; cases p <;> first | exact absurd (by decide) hp | simp [Part.same]
theorem keeps_set_net_key_keyId (s : State) (y0 : Option Nat) (y1 : Nat) :
    Keeps [.auth] s { s with net := { s.net with key := y0, keyId := y1 } } := by
  constructor; intro p hp; cases p <;> first | exact absurd (by decide) hp | simp [Part.same]
theorem keeps_set_net_rpdoAt (s : State) (y0 : List (PortId × Nat × Nat)) :
    Keeps [.pdo] s { s with net := { s.net with rpdoAt := y0 } } := by
  constructor; intro p hp; cases p <;> first | exact absurd (by decide) hp | simp [Part.same]
theorem keeps_set_net_tpdoSent (s : State) (y0 : List (Nat × Nat × List Byte)) :
    Keeps [.pdo] s { s with net := { s.net with tpdoSent := y0 } } := by
  constructor; intro p hp; cases p <;> first | exact absurd (by decide) hp | simp [Part.same]
theorem keeps_set_net_srdoSent (s : State) (y0 : List (Nat × Nat × List Byte)) :
    Keeps [.pdo] s { s with net := { s.net with srdoSent := y0 } } := by
  constructor; intro p hp; cases p <;> first | exact absurd (by decide) hp | simp [Part.same]
theorem keeps_set_net_held_rpdoAt (s : State) (y0 : List HeldWrite) (y1 : List (PortId × Nat × Nat)) :
    Keeps [.held, .pdo] s { s with net := { s.net with held := y0, rpdoAt := y1 } } := by
  constructor; intro p hp; cases p <;> first | exact absurd (by decide) hp | simp [Part.same]
theorem keeps_set_net_held (s : State) (y0 : List HeldWrite) :
    Keeps [.held] s { s with net := { s.net with held := y0 } } := by
  constructor; intro p hp; cases p <;> first | exact absurd (by decide) hp | simp [Part.same]
theorem keeps_set_net_xfer (s : State) (y0 : Tab 4 (Option SdoXfer)) :
    Keeps [.xfer] s { s with net := { s.net with xfer := y0 } } := by
  constructor; intro p hp; cases p <;> first | exact absurd (by decide) hp | simp [Part.same]
theorem keeps_set_ch_head_sect_permits_engine (s : State) (x0 : Tab 64 Channel) (x1 : Tab 32 Head) (x2 : Tab 48 Section) (x3 : Permits) (x4 : Engine) :
    Keeps [.ch, .head, .sect, .permits, .engine] s { s with ch := x0, head := x1, sect := x2, permits := x3, engine := x4 } := by
  constructor; intro p hp; cases p <;> first | exact absurd (by decide) hp | simp [Part.same]
theorem keeps_set_power_term_twin (s : State) (x0 : Power) (x1 : Terminals) (x2 : Twin) :
    Keeps [.power, .term, .twin] s { s with power := x0, term := x1, twin := x2 } := by
  constructor; intro p hp; cases p <;> first | exact absurd (by decide) hp | simp [Part.same]
theorem keeps_set_power_cfg (s : State) (x0 : Power) (x1 : Cfg) :
    Keeps [.power, .cfg] s { s with power := x0, cfg := x1 } := by
  constructor; intro p hp; cases p <;> first | exact absurd (by decide) hp | simp [Part.same]
theorem keeps_set_bell_tally_trk_permits_engine_recd (s : State) (x0 : Bell) (x1 : Tally) (x2 : Tracker) (x3 : Permits) (x4 : Engine) (x5 : Recorder) :
    Keeps [.bell, .tally, .trk, .permits, .engine, .recd, .log] s { s with bell := x0, tally := x1, trk := x2, permits := x3, engine := x4, recd := x5 } := by
  constructor; intro p hp; cases p <;> first | exact absurd (by decide) hp | simp [Part.same]
theorem keeps_set_engine_net_pdSeq_tickOpen (s : State) (x0 : Engine) (y0 : Nat) (y1 : Bool) :
    Keeps [.engine, .tickInst] s { s with engine := x0, net := { s.net with pdSeq := y0, tickOpen := y1 } } := by
  constructor; intro p hp; cases p <;> first | exact absurd (by decide) hp | simp [Part.same]
theorem keeps_set_net_tickOpen (s : State) (y0 : Bool) :
    Keeps [.tickInst] s { s with net := { s.net with tickOpen := y0 } } := by
  constructor; intro p hp; cases p <;> first | exact absurd (by decide) hp | simp [Part.same]

end Sys2Proof.Machine
end

