-- ==== Sys2Proof/Laws/FrameOps.lean ====
section
/-! SUPPORT. The frame of every operation on the state, one lemma each: the shared operations, the groups and the records. -/

namespace Sys2Proof.Machine

theorem keeps_begin (s : State) :
    Keeps [.sent] s (State.begin s) := by
  unfold State.begin
  repeat (first
    | with_reducible exact Keeps.refl _ _
    | ((with_reducible apply Keeps.app (keeps_set_sent ..)); case hs => exact rfl))

theorem keeps_reach (s : State) (t : Nat) :
    Keeps [.now] s (State.reach s t) := by
  unfold State.reach
  repeat (first
    | with_reducible exact Keeps.refl _ _
    | with_reducible apply Keeps.ite
    | intro _
    | ((with_reducible apply Keeps.app (keeps_set_now ..)); case hs => exact rfl))

theorem keeps_say (s : State) (m : Msg) :
    Keeps [.sent] s (State.say s m) := by
  unfold State.say
  repeat (first
    | with_reducible exact Keeps.refl _ _
    | ((with_reducible apply Keeps.app (keeps_set_sent ..)); case hs => exact rfl))

theorem keeps_draw (s : State) :
    Keeps [.fresh] s (State.draw s) := by
  unfold State.draw
  repeat (first
    | with_reducible exact Keeps.refl _ _
    | ((with_reducible apply Keeps.app (keeps_set_fresh ..)); case hs => exact rfl))

theorem recAppend_steady (x : RecCtx) (r : Recorder) (typ : Nat) (p : List Byte) :
    (recAppend x r typ p).steady = r.steady := rfl

theorem recSeal_steady (x : RecCtx) (r : Recorder) : (recSeal x r).steady = r.steady := rfl

theorem recLose_steady (x : RecCtx) (time : Nat) (r : Recorder) : (recLose x time r).steady = r.steady := rfl

theorem recSealed_steady (x : RecCtx) (r : Recorder) : (recSealed x r).steady = r.steady := by
  unfold recSealed
  split <;> rfl

theorem recNumber_steady (x : RecCtx) (r : Recorder) (typ : Nat) (p : List Byte) :
    (recNumber x r typ p).steady = r.steady := by
  unfold recNumber
  extract_lets r1
  have h : r1.steady = r.steady := recSealed_steady x r
  clear_value r1
  split
  · exact (recLose_steady x _ r1).trans h
  · exact (recAppend_steady x r1 typ p).trans h

theorem recPut_steady (x : RecCtx) (r : Recorder) (typ : Nat) (p : List Byte) :
    (recPut x r typ p).steady = r.steady := by
  unfold recPut
  split
  · dsimp only
    split
    · exact (recLose_steady ..).trans (recSealed_steady ..)
    · exact (recNumber_steady ..).trans (recSealed_steady ..)
  · rfl

theorem recKick_steady (x : RecCtx) (r : Recorder) : (recKick x r).steady = r.steady := by
  unfold recKick
  split <;> rfl

theorem recFlush_steady (x : RecCtx) (r : Recorder) : (recFlush x r).steady = r.steady := by
  unfold recFlush
  split <;> rfl

theorem recGap_steady (x : RecCtx) (r : Recorder) : (recGap x r).steady = r.steady := by
  unfold recGap
  split
  · rfl
  · exact recPut_steady x r 0x0A _

theorem Recorder.steady_ite {c : Prop} [Decidable c] {a b r : Recorder} (ha : a.steady = r.steady)
    (hb : b.steady = r.steady) : (if c then a else b).steady = r.steady := by
  split <;> assumption

/-- Creating a record leaves the book itself as it is: its state, label, founding, command and dump. -/
theorem recCreate_steady (x : RecCtx) (r : Recorder) (typ : Nat) (p : List Byte) :
    (recCreate x r typ p).steady = r.steady := by
  unfold recCreate
  split
  · rfl
  · extract_lets r0
    have h0 : r0.steady = r.steady := rfl
    exact Recorder.steady_ite ((recLose_steady x _ r0).trans h0)
      ((recKick_steady ..).trans ((recPut_steady ..).trans ((recGap_steady x r0).trans h0)))

theorem recGapBeyond_steady (x : RecCtx) (r : Recorder) : (recGapBeyond x r).steady = r.steady := by
  unfold recGapBeyond
  split
  · rfl
  · exact recNumber_steady x r 0x0A _

theorem recFatal_steady (x : RecCtx) (r : Recorder) (p : List Byte) : (recFatal x r p).steady = r.steady := by
  unfold recFatal
  extract_lets r0
  have h0 : r0.steady = r.steady := rfl
  exact Recorder.steady_ite ((recLose_steady x _ r0).trans h0)
    ((recKick_steady ..).trans ((recNumber_steady ..).trans ((recGapBeyond_steady x r0).trans h0)))

theorem keeps_record (s : State) (typ : Nat) (payload : List Byte) :
    Keeps [.log] s (State.record s typ payload) := by
  constructor; intro p hp; cases p <;> first
    | exact absurd (by decide) hp
    | exact recCreate_steady ..
    | simp [Part.same, State.record]

theorem keeps_updSrc (s : State) (k : Fin 64) (f : Source → Source) :
    Keeps [.src] s (State.updSrc s k f) := by
  unfold State.updSrc
  repeat (first
    | with_reducible exact Keeps.refl _ _
    | ((with_reducible apply Keeps.app (keeps_set_src ..)); case hs => exact rfl))

theorem keeps_updCh (s : State) (c : Fin 64) (f : Channel → Channel) :
    Keeps [.ch] s (State.updCh s c f) := by
  unfold State.updCh
  repeat (first
    | with_reducible exact Keeps.refl _ _
    | ((with_reducible apply Keeps.app (keeps_set_ch ..)); case hs => exact rfl))

theorem keeps_updCg (s : State) (c : Fin 64) (f : ChGuard → ChGuard) :
    Keeps [.cg] s (State.updCg s c f) := by
  unfold State.updCg
  repeat (first
    | with_reducible exact Keeps.refl _ _
    | ((with_reducible apply Keeps.app (keeps_set_cg ..)); case hs => exact rfl))

theorem keeps_updHg (s : State) (h : Fin 32) (f : HeadGuard → HeadGuard) :
    Keeps [.hg] s (State.updHg s h f) := by
  unfold State.updHg
  repeat (first
    | with_reducible exact Keeps.refl _ _
    | ((with_reducible apply Keeps.app (keeps_set_hg ..)); case hs => exact rfl))

theorem keeps_updHead (s : State) (h : Fin 32) (f : Head → Head) :
    Keeps [.head] s (State.updHead s h f) := by
  unfold State.updHead
  repeat (first
    | with_reducible exact Keeps.refl _ _
    | ((with_reducible apply Keeps.app (keeps_set_head ..)); case hs => exact rfl))

theorem keeps_updSect (s : State) (n : Fin 48) (f : Section → Section) :
    Keeps [.sect] s (State.updSect s n f) := by
  unfold State.updSect
  repeat (first
    | with_reducible exact Keeps.refl _ _
    | ((with_reducible apply Keeps.app (keeps_set_sect ..)); case hs => exact rfl))

theorem keeps_updPort (s : State) (p : PortId) (f : PortState → PortState) :
    Keeps [.ports, .stream] s (State.updPort s p f) := by
  unfold State.updPort
  repeat (first
    | with_reducible exact Keeps.refl _ _
    | ((with_reducible apply Keeps.app (keeps_set_net_ports ..)); case hs => exact rfl))

theorem keeps_updCan (s : State) (p : CanPort) (f : CanState → CanState) :
    Keeps [.can] s (State.updCan s p f) := by
  unfold State.updCan
  repeat (first
    | with_reducible exact Keeps.refl _ _
    | ((with_reducible apply Keeps.app (keeps_set_net_can ..)); case hs => exact rfl))

theorem keeps_updPermit (s : State) (p : Fin 16) (f : Permit → Permit) :
    Keeps [.permits] s (State.updPermit s p f) := by
  unfold State.updPermit
  repeat (first
    | with_reducible exact Keeps.refl _ _
    | ((with_reducible apply Keeps.app (keeps_set_permits ..)); case hs => exact rfl))

theorem keeps_sendDatagram (s : State) (p : PortId) (dst : Option Nat) (typ : Nat) (session : Nat) (status : Nat) (ref : Nat) (body : List Byte) :
    Keeps [.stream, .sent] s (State.sendDatagram s p dst typ session status ref body) := by
  unfold State.sendDatagram State.updPort State.say
  split
  · dsimp only
    split
    · constructor; intro q hq; cases q <;> first
        | exact absurd (by decide) hq
        | simp [Part.same]
      exact fun k => Tab.view_put PortState.quiet _ _ _ _ rfl
    · constructor; intro q hq; cases q <;> first
        | exact absurd (by decide) hq
        | simp [Part.same]
      exact fun k => Tab.view_put PortState.quiet _ _ _ _ rfl
  · exact Keeps.refl _ _


theorem keeps_sendFrame (s : State) (p : CanPort) (cob : Nat) (fd : Bool) (data : List Byte) :
    Keeps [.sent] s (State.sendFrame s p cob fd data) := by
  unfold State.sendFrame
  repeat (first
    | with_reducible exact Keeps.refl _ _
    | ((with_reducible apply Keeps.app (keeps_say ..)); case hs => exact rfl)
    | with_reducible apply Keeps.ite
    | intro _)

theorem keeps_sendCan (s : State) (p : CanPort) (cob : Nat) (data : List Byte) :
    Keeps [.sent] s (State.sendCan s p cob data) := by
  unfold State.sendCan
  repeat (first
    | with_reducible exact Keeps.refl _ _
    | ((with_reducible apply Keeps.app (keeps_sendFrame ..)); case hs => exact rfl))

theorem keeps_emergency (s : State) (code : Nat) (source : Nat) (except : Option CanPort) :
    Keeps [.stream, .emcy, .sent] s (State.emergency s code source except) := by
  unfold State.emergency
  dsimp only
  repeat (first
    | with_reducible exact Keeps.refl _ _
    | with_reducible apply Keeps.foldl
    | ((with_reducible apply Keeps.app (keeps_sendCan ..)); case hs => exact rfl)
    | ((with_reducible apply Keeps.app (keeps_sendDatagram ..)); case hs => exact rfl)
    | with_reducible apply Keeps.ite
    | intro _
    | ((with_reducible apply Keeps.app (keeps_set_net_emcy ..)); case hs => exact rfl))

theorem keeps_emergencyBit (s : State) (b : Nat) :
    Keeps [.stream, .emcy, .sent] s (State.emergencyBit s b) := by
  unfold State.emergencyBit
  dsimp only
  repeat (first
    | with_reducible exact Keeps.refl _ _
    | ((with_reducible apply Keeps.app (keeps_emergency ..)); case hs => exact rfl)
    | with_reducible apply Keeps.ite
    | intro _
    | ((with_reducible apply Keeps.app (keeps_set_net_emcy ..)); case hs => exact rfl))

theorem keeps_portEvent (s : State) (code : Nat) (p : PortId) (except : Option CanPort) :
    Keeps [.stream, .emcy, .sent] s (State.portEvent s code p except) := by
  unfold State.portEvent
  repeat (first
    | with_reducible exact Keeps.refl _ _
    | ((with_reducible apply Keeps.app (keeps_emergency ..)); case hs => exact rfl))

theorem keeps_judgeBits (s : State) (a : Nat) (b : Nat) :
    Keeps [.stream, .emcy, .log, .sent] s (State.judgeBits s a b) := by
  unfold State.judgeBits
  dsimp only
  repeat (first
    | with_reducible exact Keeps.refl _ _
    | with_reducible apply Keeps.foldl
    | ((with_reducible apply Keeps.app (keeps_emergencyBit ..)); case hs => exact rfl)
    | ((with_reducible apply Keeps.app (keeps_record ..)); case hs => exact rfl)
    | with_reducible apply Keeps.ite
    | intro _
    | ((with_reducible apply Keeps.app (keeps_set_net_emcy ..)); case hs => exact rfl))

theorem keeps_judgeAlarms (s : State) :
    Keeps [.stream, .emcy, .log, .sent] s (State.judgeAlarms s) := by
  unfold State.judgeAlarms
  dsimp only
  repeat (first
    | with_reducible exact Keeps.refl _ _
    | ((with_reducible apply Keeps.app (keeps_judgeBits ..)); case hs => exact rfl)
    | ((with_reducible apply Keeps.app (keeps_emergency ..)); case hs => exact rfl)
    | with_reducible apply Keeps.ite
    | intro _
    | ((with_reducible apply Keeps.app (keeps_set_net_emcy ..)); case hs => exact rfl))

theorem keeps_finish (s : State) :
    Keeps [.stream, .emcy, .log, .sent] s (State.finish s) := by
  unfold State.finish
  repeat (first
    | with_reducible exact Keeps.refl _ _
    | ((with_reducible apply Keeps.app (keeps_judgeAlarms ..)); case hs => exact rfl)
    | with_reducible apply Keeps.ite
    | intro _)

theorem keeps_permitsHighz (s : State) :
    Keeps [.permits] s (State.permitsHighz s) := by
  unfold State.permitsHighz
  repeat (first
    | with_reducible exact Keeps.refl _ _
    | ((with_reducible apply Keeps.app (keeps_set_permits ..)); case hs => exact rfl))

theorem keeps_stopLatch (s : State) (cause : Nat) (sigs : Option (BitVec 32 × BitVec 32)) :
    Keeps [.fresh, .permits, .twin] s (State.stopLatch s cause sigs) := by
  unfold State.stopLatch
  dsimp only
  repeat (first
    | with_reducible exact Keeps.refl _ _
    | ((with_reducible apply Keeps.app (keeps_permitsHighz ..)); case hs => exact rfl)
    | ((with_reducible apply Keeps.app (keeps_draw ..)); case hs => exact rfl)
    | with_reducible apply Keeps.ite
    | intro _
    | ((with_reducible apply Keeps.app (keeps_set_twin ..)); case hs => exact rfl))

theorem keeps_toTally (s : State) (x : TallyItem) :
    Keeps [.tally] s (State.toTally s x) := by
  unfold State.toTally
  repeat (first
    | with_reducible exact Keeps.refl _ _
    | ((with_reducible apply Keeps.app (keeps_set_tally ..)); case hs => exact rfl))

theorem keeps_closeGroup (s : State) (h : Fin 32) :
    Keeps [.tally, .trk] s (State.closeGroup s h) := by
  unfold State.closeGroup
  dsimp only
  repeat (first
    | with_reducible exact Keeps.refl _ _
    | ((with_reducible apply Keeps.app (keeps_toTally ..)); case hs => exact rfl)
    | split
    | ((with_reducible apply Keeps.app (keeps_set_trk ..)); case hs => exact rfl))

theorem keeps_joinGroup (s : State) (h : Fin 32) (neg : Bool) (m : GroupMember) :
    Keeps [.tally, .trk] s (State.joinGroup s h neg m).1 := by
  unfold State.joinGroup
  dsimp only
  repeat (first
    | with_reducible exact Keeps.refl _ _
    | ((with_reducible apply Keeps.app (keeps_closeGroup ..)); case hs => exact rfl)
    | with_reducible apply Keeps.ite
    | intro _
    | split
    | ((with_reducible apply Keeps.app (keeps_set_trk ..)); case hs => exact rfl))

theorem keeps_groupTimeout (h : Fin 32) (s : State) :
    Keeps [.now, .tally, .trk] s (groupTimeout h s) := by
  unfold groupTimeout
  dsimp only
  repeat (first
    | with_reducible exact Keeps.refl _ _
    | ((with_reducible apply Keeps.app (keeps_reach ..)); case hs => exact rfl)
    | ((with_reducible apply Keeps.app (keeps_closeGroup ..)); case hs => exact rfl)
    | split)

end Sys2Proof.Machine
end

