-- ==== Sys2Proof/Laws/State.lean ====
section
/-! SUPPORT. What each update of the state leaves in each field: one lemma per field per update, true by
definition, so that no later proof unfolds a record update. -/

namespace Sys2Proof.Machine

-- begin
@[simp] theorem State.begin_now (s : State) : (State.begin s).now = s.now := rfl
@[simp] theorem State.begin_fresh (s : State) : (State.begin s).fresh = s.fresh := rfl
@[simp] theorem State.begin_power (s : State) : (State.begin s).power = s.power := rfl
@[simp] theorem State.begin_term (s : State) : (State.begin s).term = s.term := rfl
@[simp] theorem State.begin_src (s : State) : (State.begin s).src = s.src := rfl
@[simp] theorem State.begin_ch (s : State) : (State.begin s).ch = s.ch := rfl
@[simp] theorem State.begin_cg (s : State) : (State.begin s).cg = s.cg := rfl
@[simp] theorem State.begin_hg (s : State) : (State.begin s).hg = s.hg := rfl
@[simp] theorem State.begin_head (s : State) : (State.begin s).head = s.head := rfl
@[simp] theorem State.begin_bell (s : State) : (State.begin s).bell = s.bell := rfl
@[simp] theorem State.begin_sect (s : State) : (State.begin s).sect = s.sect := rfl
@[simp] theorem State.begin_tally (s : State) : (State.begin s).tally = s.tally := rfl
@[simp] theorem State.begin_trk (s : State) : (State.begin s).trk = s.trk := rfl
@[simp] theorem State.begin_permits (s : State) : (State.begin s).permits = s.permits := rfl
@[simp] theorem State.begin_engine (s : State) : (State.begin s).engine = s.engine := rfl
@[simp] theorem State.begin_twin (s : State) : (State.begin s).twin = s.twin := rfl
@[simp] theorem State.begin_net (s : State) : (State.begin s).net = s.net := rfl
@[simp] theorem State.begin_cfg (s : State) : (State.begin s).cfg = s.cfg := rfl
@[simp] theorem State.begin_recd (s : State) : (State.begin s).recd = s.recd := rfl
@[simp] theorem State.begin_emmc (s : State) : (State.begin s).emmc = s.emmc := rfl
@[simp] theorem State.begin_pending (s : State) : (State.begin s).pending = s.pending := rfl
-- reach
@[simp] theorem State.reach_fresh (s : State) (t : Nat) : (State.reach s t).fresh = s.fresh := rfl
@[simp] theorem State.reach_power (s : State) (t : Nat) : (State.reach s t).power = s.power := rfl
@[simp] theorem State.reach_term (s : State) (t : Nat) : (State.reach s t).term = s.term := rfl
@[simp] theorem State.reach_src (s : State) (t : Nat) : (State.reach s t).src = s.src := rfl
@[simp] theorem State.reach_ch (s : State) (t : Nat) : (State.reach s t).ch = s.ch := rfl
@[simp] theorem State.reach_cg (s : State) (t : Nat) : (State.reach s t).cg = s.cg := rfl
@[simp] theorem State.reach_hg (s : State) (t : Nat) : (State.reach s t).hg = s.hg := rfl
@[simp] theorem State.reach_head (s : State) (t : Nat) : (State.reach s t).head = s.head := rfl
@[simp] theorem State.reach_bell (s : State) (t : Nat) : (State.reach s t).bell = s.bell := rfl
@[simp] theorem State.reach_sect (s : State) (t : Nat) : (State.reach s t).sect = s.sect := rfl
@[simp] theorem State.reach_tally (s : State) (t : Nat) : (State.reach s t).tally = s.tally := rfl
@[simp] theorem State.reach_trk (s : State) (t : Nat) : (State.reach s t).trk = s.trk := rfl
@[simp] theorem State.reach_permits (s : State) (t : Nat) : (State.reach s t).permits = s.permits := rfl
@[simp] theorem State.reach_engine (s : State) (t : Nat) : (State.reach s t).engine = s.engine := rfl
@[simp] theorem State.reach_twin (s : State) (t : Nat) : (State.reach s t).twin = s.twin := rfl
@[simp] theorem State.reach_net (s : State) (t : Nat) : (State.reach s t).net = s.net := rfl
@[simp] theorem State.reach_cfg (s : State) (t : Nat) : (State.reach s t).cfg = s.cfg := rfl
@[simp] theorem State.reach_recd (s : State) (t : Nat) : (State.reach s t).recd = s.recd := rfl
@[simp] theorem State.reach_emmc (s : State) (t : Nat) : (State.reach s t).emmc = s.emmc := rfl
@[simp] theorem State.reach_sent (s : State) (t : Nat) : (State.reach s t).sent = s.sent := rfl
@[simp] theorem State.reach_pending (s : State) (t : Nat) : (State.reach s t).pending = s.pending := rfl
-- say
@[simp] theorem State.say_now (s : State) (m : Msg) : (State.say s m).now = s.now := rfl
@[simp] theorem State.say_fresh (s : State) (m : Msg) : (State.say s m).fresh = s.fresh := rfl
@[simp] theorem State.say_power (s : State) (m : Msg) : (State.say s m).power = s.power := rfl
@[simp] theorem State.say_term (s : State) (m : Msg) : (State.say s m).term = s.term := rfl
@[simp] theorem State.say_src (s : State) (m : Msg) : (State.say s m).src = s.src := rfl
@[simp] theorem State.say_ch (s : State) (m : Msg) : (State.say s m).ch = s.ch := rfl
@[simp] theorem State.say_cg (s : State) (m : Msg) : (State.say s m).cg = s.cg := rfl
@[simp] theorem State.say_hg (s : State) (m : Msg) : (State.say s m).hg = s.hg := rfl
@[simp] theorem State.say_head (s : State) (m : Msg) : (State.say s m).head = s.head := rfl
@[simp] theorem State.say_bell (s : State) (m : Msg) : (State.say s m).bell = s.bell := rfl
@[simp] theorem State.say_sect (s : State) (m : Msg) : (State.say s m).sect = s.sect := rfl
@[simp] theorem State.say_tally (s : State) (m : Msg) : (State.say s m).tally = s.tally := rfl
@[simp] theorem State.say_trk (s : State) (m : Msg) : (State.say s m).trk = s.trk := rfl
@[simp] theorem State.say_permits (s : State) (m : Msg) : (State.say s m).permits = s.permits := rfl
@[simp] theorem State.say_engine (s : State) (m : Msg) : (State.say s m).engine = s.engine := rfl
@[simp] theorem State.say_twin (s : State) (m : Msg) : (State.say s m).twin = s.twin := rfl
@[simp] theorem State.say_net (s : State) (m : Msg) : (State.say s m).net = s.net := rfl
@[simp] theorem State.say_cfg (s : State) (m : Msg) : (State.say s m).cfg = s.cfg := rfl
@[simp] theorem State.say_recd (s : State) (m : Msg) : (State.say s m).recd = s.recd := rfl
@[simp] theorem State.say_emmc (s : State) (m : Msg) : (State.say s m).emmc = s.emmc := rfl
@[simp] theorem State.say_pending (s : State) (m : Msg) : (State.say s m).pending = s.pending := rfl
-- draw
@[simp] theorem State.draw_now (s : State) : (State.draw s).now = s.now := rfl
@[simp] theorem State.draw_power (s : State) : (State.draw s).power = s.power := rfl
@[simp] theorem State.draw_term (s : State) : (State.draw s).term = s.term := rfl
@[simp] theorem State.draw_src (s : State) : (State.draw s).src = s.src := rfl
@[simp] theorem State.draw_ch (s : State) : (State.draw s).ch = s.ch := rfl
@[simp] theorem State.draw_cg (s : State) : (State.draw s).cg = s.cg := rfl
@[simp] theorem State.draw_hg (s : State) : (State.draw s).hg = s.hg := rfl
@[simp] theorem State.draw_head (s : State) : (State.draw s).head = s.head := rfl
@[simp] theorem State.draw_bell (s : State) : (State.draw s).bell = s.bell := rfl
@[simp] theorem State.draw_sect (s : State) : (State.draw s).sect = s.sect := rfl
@[simp] theorem State.draw_tally (s : State) : (State.draw s).tally = s.tally := rfl
@[simp] theorem State.draw_trk (s : State) : (State.draw s).trk = s.trk := rfl
@[simp] theorem State.draw_permits (s : State) : (State.draw s).permits = s.permits := rfl
@[simp] theorem State.draw_engine (s : State) : (State.draw s).engine = s.engine := rfl
@[simp] theorem State.draw_twin (s : State) : (State.draw s).twin = s.twin := rfl
@[simp] theorem State.draw_net (s : State) : (State.draw s).net = s.net := rfl
@[simp] theorem State.draw_cfg (s : State) : (State.draw s).cfg = s.cfg := rfl
@[simp] theorem State.draw_recd (s : State) : (State.draw s).recd = s.recd := rfl
@[simp] theorem State.draw_emmc (s : State) : (State.draw s).emmc = s.emmc := rfl
@[simp] theorem State.draw_sent (s : State) : (State.draw s).sent = s.sent := rfl
@[simp] theorem State.draw_pending (s : State) : (State.draw s).pending = s.pending := rfl
-- updSrc
@[simp] theorem State.updSrc_now (s : State) (k : Fin 64) (f : Source → Source) : (State.updSrc s k f).now = s.now := rfl
@[simp] theorem State.updSrc_fresh (s : State) (k : Fin 64) (f : Source → Source) : (State.updSrc s k f).fresh = s.fresh := rfl
@[simp] theorem State.updSrc_power (s : State) (k : Fin 64) (f : Source → Source) : (State.updSrc s k f).power = s.power := rfl
@[simp] theorem State.updSrc_term (s : State) (k : Fin 64) (f : Source → Source) : (State.updSrc s k f).term = s.term := rfl
@[simp] theorem State.updSrc_ch (s : State) (k : Fin 64) (f : Source → Source) : (State.updSrc s k f).ch = s.ch := rfl
@[simp] theorem State.updSrc_cg (s : State) (k : Fin 64) (f : Source → Source) : (State.updSrc s k f).cg = s.cg := rfl
@[simp] theorem State.updSrc_hg (s : State) (k : Fin 64) (f : Source → Source) : (State.updSrc s k f).hg = s.hg := rfl
@[simp] theorem State.updSrc_head (s : State) (k : Fin 64) (f : Source → Source) : (State.updSrc s k f).head = s.head := rfl
@[simp] theorem State.updSrc_bell (s : State) (k : Fin 64) (f : Source → Source) : (State.updSrc s k f).bell = s.bell := rfl
@[simp] theorem State.updSrc_sect (s : State) (k : Fin 64) (f : Source → Source) : (State.updSrc s k f).sect = s.sect := rfl
@[simp] theorem State.updSrc_tally (s : State) (k : Fin 64) (f : Source → Source) : (State.updSrc s k f).tally = s.tally := rfl
@[simp] theorem State.updSrc_trk (s : State) (k : Fin 64) (f : Source → Source) : (State.updSrc s k f).trk = s.trk := rfl
@[simp] theorem State.updSrc_permits (s : State) (k : Fin 64) (f : Source → Source) : (State.updSrc s k f).permits = s.permits := rfl
@[simp] theorem State.updSrc_engine (s : State) (k : Fin 64) (f : Source → Source) : (State.updSrc s k f).engine = s.engine := rfl
@[simp] theorem State.updSrc_twin (s : State) (k : Fin 64) (f : Source → Source) : (State.updSrc s k f).twin = s.twin := rfl
@[simp] theorem State.updSrc_net (s : State) (k : Fin 64) (f : Source → Source) : (State.updSrc s k f).net = s.net := rfl
@[simp] theorem State.updSrc_cfg (s : State) (k : Fin 64) (f : Source → Source) : (State.updSrc s k f).cfg = s.cfg := rfl
@[simp] theorem State.updSrc_recd (s : State) (k : Fin 64) (f : Source → Source) : (State.updSrc s k f).recd = s.recd := rfl
@[simp] theorem State.updSrc_emmc (s : State) (k : Fin 64) (f : Source → Source) : (State.updSrc s k f).emmc = s.emmc := rfl
@[simp] theorem State.updSrc_sent (s : State) (k : Fin 64) (f : Source → Source) : (State.updSrc s k f).sent = s.sent := rfl
@[simp] theorem State.updSrc_pending (s : State) (k : Fin 64) (f : Source → Source) : (State.updSrc s k f).pending = s.pending := rfl
-- updCh
@[simp] theorem State.updCh_now (s : State) (c : Fin 64) (f : Channel → Channel) : (State.updCh s c f).now = s.now := rfl
@[simp] theorem State.updCh_fresh (s : State) (c : Fin 64) (f : Channel → Channel) : (State.updCh s c f).fresh = s.fresh := rfl
@[simp] theorem State.updCh_power (s : State) (c : Fin 64) (f : Channel → Channel) : (State.updCh s c f).power = s.power := rfl
@[simp] theorem State.updCh_term (s : State) (c : Fin 64) (f : Channel → Channel) : (State.updCh s c f).term = s.term := rfl
@[simp] theorem State.updCh_src (s : State) (c : Fin 64) (f : Channel → Channel) : (State.updCh s c f).src = s.src := rfl
@[simp] theorem State.updCh_cg (s : State) (c : Fin 64) (f : Channel → Channel) : (State.updCh s c f).cg = s.cg := rfl
@[simp] theorem State.updCh_hg (s : State) (c : Fin 64) (f : Channel → Channel) : (State.updCh s c f).hg = s.hg := rfl
@[simp] theorem State.updCh_head (s : State) (c : Fin 64) (f : Channel → Channel) : (State.updCh s c f).head = s.head := rfl
@[simp] theorem State.updCh_bell (s : State) (c : Fin 64) (f : Channel → Channel) : (State.updCh s c f).bell = s.bell := rfl
@[simp] theorem State.updCh_sect (s : State) (c : Fin 64) (f : Channel → Channel) : (State.updCh s c f).sect = s.sect := rfl
@[simp] theorem State.updCh_tally (s : State) (c : Fin 64) (f : Channel → Channel) : (State.updCh s c f).tally = s.tally := rfl
@[simp] theorem State.updCh_trk (s : State) (c : Fin 64) (f : Channel → Channel) : (State.updCh s c f).trk = s.trk := rfl
@[simp] theorem State.updCh_permits (s : State) (c : Fin 64) (f : Channel → Channel) : (State.updCh s c f).permits = s.permits := rfl
@[simp] theorem State.updCh_engine (s : State) (c : Fin 64) (f : Channel → Channel) : (State.updCh s c f).engine = s.engine := rfl
@[simp] theorem State.updCh_twin (s : State) (c : Fin 64) (f : Channel → Channel) : (State.updCh s c f).twin = s.twin := rfl
@[simp] theorem State.updCh_net (s : State) (c : Fin 64) (f : Channel → Channel) : (State.updCh s c f).net = s.net := rfl
@[simp] theorem State.updCh_cfg (s : State) (c : Fin 64) (f : Channel → Channel) : (State.updCh s c f).cfg = s.cfg := rfl
@[simp] theorem State.updCh_recd (s : State) (c : Fin 64) (f : Channel → Channel) : (State.updCh s c f).recd = s.recd := rfl
@[simp] theorem State.updCh_emmc (s : State) (c : Fin 64) (f : Channel → Channel) : (State.updCh s c f).emmc = s.emmc := rfl
@[simp] theorem State.updCh_sent (s : State) (c : Fin 64) (f : Channel → Channel) : (State.updCh s c f).sent = s.sent := rfl
@[simp] theorem State.updCh_pending (s : State) (c : Fin 64) (f : Channel → Channel) : (State.updCh s c f).pending = s.pending := rfl
-- updCg
@[simp] theorem State.updCg_now (s : State) (c : Fin 64) (f : ChGuard → ChGuard) : (State.updCg s c f).now = s.now := rfl
@[simp] theorem State.updCg_fresh (s : State) (c : Fin 64) (f : ChGuard → ChGuard) : (State.updCg s c f).fresh = s.fresh := rfl
@[simp] theorem State.updCg_power (s : State) (c : Fin 64) (f : ChGuard → ChGuard) : (State.updCg s c f).power = s.power := rfl
@[simp] theorem State.updCg_term (s : State) (c : Fin 64) (f : ChGuard → ChGuard) : (State.updCg s c f).term = s.term := rfl
@[simp] theorem State.updCg_src (s : State) (c : Fin 64) (f : ChGuard → ChGuard) : (State.updCg s c f).src = s.src := rfl
@[simp] theorem State.updCg_ch (s : State) (c : Fin 64) (f : ChGuard → ChGuard) : (State.updCg s c f).ch = s.ch := rfl
@[simp] theorem State.updCg_hg (s : State) (c : Fin 64) (f : ChGuard → ChGuard) : (State.updCg s c f).hg = s.hg := rfl
@[simp] theorem State.updCg_head (s : State) (c : Fin 64) (f : ChGuard → ChGuard) : (State.updCg s c f).head = s.head := rfl
@[simp] theorem State.updCg_bell (s : State) (c : Fin 64) (f : ChGuard → ChGuard) : (State.updCg s c f).bell = s.bell := rfl
@[simp] theorem State.updCg_sect (s : State) (c : Fin 64) (f : ChGuard → ChGuard) : (State.updCg s c f).sect = s.sect := rfl
@[simp] theorem State.updCg_tally (s : State) (c : Fin 64) (f : ChGuard → ChGuard) : (State.updCg s c f).tally = s.tally := rfl
@[simp] theorem State.updCg_trk (s : State) (c : Fin 64) (f : ChGuard → ChGuard) : (State.updCg s c f).trk = s.trk := rfl
@[simp] theorem State.updCg_permits (s : State) (c : Fin 64) (f : ChGuard → ChGuard) : (State.updCg s c f).permits = s.permits := rfl
@[simp] theorem State.updCg_engine (s : State) (c : Fin 64) (f : ChGuard → ChGuard) : (State.updCg s c f).engine = s.engine := rfl
@[simp] theorem State.updCg_twin (s : State) (c : Fin 64) (f : ChGuard → ChGuard) : (State.updCg s c f).twin = s.twin := rfl
@[simp] theorem State.updCg_net (s : State) (c : Fin 64) (f : ChGuard → ChGuard) : (State.updCg s c f).net = s.net := rfl
@[simp] theorem State.updCg_cfg (s : State) (c : Fin 64) (f : ChGuard → ChGuard) : (State.updCg s c f).cfg = s.cfg := rfl
@[simp] theorem State.updCg_recd (s : State) (c : Fin 64) (f : ChGuard → ChGuard) : (State.updCg s c f).recd = s.recd := rfl
@[simp] theorem State.updCg_emmc (s : State) (c : Fin 64) (f : ChGuard → ChGuard) : (State.updCg s c f).emmc = s.emmc := rfl
@[simp] theorem State.updCg_sent (s : State) (c : Fin 64) (f : ChGuard → ChGuard) : (State.updCg s c f).sent = s.sent := rfl
@[simp] theorem State.updCg_pending (s : State) (c : Fin 64) (f : ChGuard → ChGuard) : (State.updCg s c f).pending = s.pending := rfl
-- updHg
@[simp] theorem State.updHg_now (s : State) (h : Fin 32) (f : HeadGuard → HeadGuard) : (State.updHg s h f).now = s.now := rfl
@[simp] theorem State.updHg_fresh (s : State) (h : Fin 32) (f : HeadGuard → HeadGuard) : (State.updHg s h f).fresh = s.fresh := rfl
@[simp] theorem State.updHg_power (s : State) (h : Fin 32) (f : HeadGuard → HeadGuard) : (State.updHg s h f).power = s.power := rfl
@[simp] theorem State.updHg_term (s : State) (h : Fin 32) (f : HeadGuard → HeadGuard) : (State.updHg s h f).term = s.term := rfl
@[simp] theorem State.updHg_src (s : State) (h : Fin 32) (f : HeadGuard → HeadGuard) : (State.updHg s h f).src = s.src := rfl
@[simp] theorem State.updHg_ch (s : State) (h : Fin 32) (f : HeadGuard → HeadGuard) : (State.updHg s h f).ch = s.ch := rfl
@[simp] theorem State.updHg_cg (s : State) (h : Fin 32) (f : HeadGuard → HeadGuard) : (State.updHg s h f).cg = s.cg := rfl
@[simp] theorem State.updHg_head (s : State) (h : Fin 32) (f : HeadGuard → HeadGuard) : (State.updHg s h f).head = s.head := rfl
@[simp] theorem State.updHg_bell (s : State) (h : Fin 32) (f : HeadGuard → HeadGuard) : (State.updHg s h f).bell = s.bell := rfl
@[simp] theorem State.updHg_sect (s : State) (h : Fin 32) (f : HeadGuard → HeadGuard) : (State.updHg s h f).sect = s.sect := rfl
@[simp] theorem State.updHg_tally (s : State) (h : Fin 32) (f : HeadGuard → HeadGuard) : (State.updHg s h f).tally = s.tally := rfl
@[simp] theorem State.updHg_trk (s : State) (h : Fin 32) (f : HeadGuard → HeadGuard) : (State.updHg s h f).trk = s.trk := rfl
@[simp] theorem State.updHg_permits (s : State) (h : Fin 32) (f : HeadGuard → HeadGuard) : (State.updHg s h f).permits = s.permits := rfl
@[simp] theorem State.updHg_engine (s : State) (h : Fin 32) (f : HeadGuard → HeadGuard) : (State.updHg s h f).engine = s.engine := rfl
@[simp] theorem State.updHg_twin (s : State) (h : Fin 32) (f : HeadGuard → HeadGuard) : (State.updHg s h f).twin = s.twin := rfl
@[simp] theorem State.updHg_net (s : State) (h : Fin 32) (f : HeadGuard → HeadGuard) : (State.updHg s h f).net = s.net := rfl
@[simp] theorem State.updHg_cfg (s : State) (h : Fin 32) (f : HeadGuard → HeadGuard) : (State.updHg s h f).cfg = s.cfg := rfl
@[simp] theorem State.updHg_recd (s : State) (h : Fin 32) (f : HeadGuard → HeadGuard) : (State.updHg s h f).recd = s.recd := rfl
@[simp] theorem State.updHg_emmc (s : State) (h : Fin 32) (f : HeadGuard → HeadGuard) : (State.updHg s h f).emmc = s.emmc := rfl
@[simp] theorem State.updHg_sent (s : State) (h : Fin 32) (f : HeadGuard → HeadGuard) : (State.updHg s h f).sent = s.sent := rfl
@[simp] theorem State.updHg_pending (s : State) (h : Fin 32) (f : HeadGuard → HeadGuard) : (State.updHg s h f).pending = s.pending := rfl
-- updHead
@[simp] theorem State.updHead_now (s : State) (h : Fin 32) (f : Head → Head) : (State.updHead s h f).now = s.now := rfl
@[simp] theorem State.updHead_fresh (s : State) (h : Fin 32) (f : Head → Head) : (State.updHead s h f).fresh = s.fresh := rfl
@[simp] theorem State.updHead_power (s : State) (h : Fin 32) (f : Head → Head) : (State.updHead s h f).power = s.power := rfl
@[simp] theorem State.updHead_term (s : State) (h : Fin 32) (f : Head → Head) : (State.updHead s h f).term = s.term := rfl
@[simp] theorem State.updHead_src (s : State) (h : Fin 32) (f : Head → Head) : (State.updHead s h f).src = s.src := rfl
@[simp] theorem State.updHead_ch (s : State) (h : Fin 32) (f : Head → Head) : (State.updHead s h f).ch = s.ch := rfl
@[simp] theorem State.updHead_cg (s : State) (h : Fin 32) (f : Head → Head) : (State.updHead s h f).cg = s.cg := rfl
@[simp] theorem State.updHead_hg (s : State) (h : Fin 32) (f : Head → Head) : (State.updHead s h f).hg = s.hg := rfl
@[simp] theorem State.updHead_bell (s : State) (h : Fin 32) (f : Head → Head) : (State.updHead s h f).bell = s.bell := rfl
@[simp] theorem State.updHead_sect (s : State) (h : Fin 32) (f : Head → Head) : (State.updHead s h f).sect = s.sect := rfl
@[simp] theorem State.updHead_tally (s : State) (h : Fin 32) (f : Head → Head) : (State.updHead s h f).tally = s.tally := rfl
@[simp] theorem State.updHead_trk (s : State) (h : Fin 32) (f : Head → Head) : (State.updHead s h f).trk = s.trk := rfl
@[simp] theorem State.updHead_permits (s : State) (h : Fin 32) (f : Head → Head) : (State.updHead s h f).permits = s.permits := rfl
@[simp] theorem State.updHead_engine (s : State) (h : Fin 32) (f : Head → Head) : (State.updHead s h f).engine = s.engine := rfl
@[simp] theorem State.updHead_twin (s : State) (h : Fin 32) (f : Head → Head) : (State.updHead s h f).twin = s.twin := rfl
@[simp] theorem State.updHead_net (s : State) (h : Fin 32) (f : Head → Head) : (State.updHead s h f).net = s.net := rfl
@[simp] theorem State.updHead_cfg (s : State) (h : Fin 32) (f : Head → Head) : (State.updHead s h f).cfg = s.cfg := rfl
@[simp] theorem State.updHead_recd (s : State) (h : Fin 32) (f : Head → Head) : (State.updHead s h f).recd = s.recd := rfl
@[simp] theorem State.updHead_emmc (s : State) (h : Fin 32) (f : Head → Head) : (State.updHead s h f).emmc = s.emmc := rfl
@[simp] theorem State.updHead_sent (s : State) (h : Fin 32) (f : Head → Head) : (State.updHead s h f).sent = s.sent := rfl
@[simp] theorem State.updHead_pending (s : State) (h : Fin 32) (f : Head → Head) : (State.updHead s h f).pending = s.pending := rfl
-- updSect
@[simp] theorem State.updSect_now (s : State) (n : Fin 48) (f : Section → Section) : (State.updSect s n f).now = s.now := rfl
@[simp] theorem State.updSect_fresh (s : State) (n : Fin 48) (f : Section → Section) : (State.updSect s n f).fresh = s.fresh := rfl
@[simp] theorem State.updSect_power (s : State) (n : Fin 48) (f : Section → Section) : (State.updSect s n f).power = s.power := rfl
@[simp] theorem State.updSect_term (s : State) (n : Fin 48) (f : Section → Section) : (State.updSect s n f).term = s.term := rfl
@[simp] theorem State.updSect_src (s : State) (n : Fin 48) (f : Section → Section) : (State.updSect s n f).src = s.src := rfl
@[simp] theorem State.updSect_ch (s : State) (n : Fin 48) (f : Section → Section) : (State.updSect s n f).ch = s.ch := rfl
@[simp] theorem State.updSect_cg (s : State) (n : Fin 48) (f : Section → Section) : (State.updSect s n f).cg = s.cg := rfl
@[simp] theorem State.updSect_hg (s : State) (n : Fin 48) (f : Section → Section) : (State.updSect s n f).hg = s.hg := rfl
@[simp] theorem State.updSect_head (s : State) (n : Fin 48) (f : Section → Section) : (State.updSect s n f).head = s.head := rfl
@[simp] theorem State.updSect_bell (s : State) (n : Fin 48) (f : Section → Section) : (State.updSect s n f).bell = s.bell := rfl
@[simp] theorem State.updSect_tally (s : State) (n : Fin 48) (f : Section → Section) : (State.updSect s n f).tally = s.tally := rfl
@[simp] theorem State.updSect_trk (s : State) (n : Fin 48) (f : Section → Section) : (State.updSect s n f).trk = s.trk := rfl
@[simp] theorem State.updSect_permits (s : State) (n : Fin 48) (f : Section → Section) : (State.updSect s n f).permits = s.permits := rfl
@[simp] theorem State.updSect_engine (s : State) (n : Fin 48) (f : Section → Section) : (State.updSect s n f).engine = s.engine := rfl
@[simp] theorem State.updSect_twin (s : State) (n : Fin 48) (f : Section → Section) : (State.updSect s n f).twin = s.twin := rfl
@[simp] theorem State.updSect_net (s : State) (n : Fin 48) (f : Section → Section) : (State.updSect s n f).net = s.net := rfl
@[simp] theorem State.updSect_cfg (s : State) (n : Fin 48) (f : Section → Section) : (State.updSect s n f).cfg = s.cfg := rfl
@[simp] theorem State.updSect_recd (s : State) (n : Fin 48) (f : Section → Section) : (State.updSect s n f).recd = s.recd := rfl
@[simp] theorem State.updSect_emmc (s : State) (n : Fin 48) (f : Section → Section) : (State.updSect s n f).emmc = s.emmc := rfl
@[simp] theorem State.updSect_sent (s : State) (n : Fin 48) (f : Section → Section) : (State.updSect s n f).sent = s.sent := rfl
@[simp] theorem State.updSect_pending (s : State) (n : Fin 48) (f : Section → Section) : (State.updSect s n f).pending = s.pending := rfl
-- updPort
@[simp] theorem State.updPort_now (s : State) (p : PortId) (f : PortState → PortState) : (State.updPort s p f).now = s.now := rfl
@[simp] theorem State.updPort_fresh (s : State) (p : PortId) (f : PortState → PortState) : (State.updPort s p f).fresh = s.fresh := rfl
@[simp] theorem State.updPort_power (s : State) (p : PortId) (f : PortState → PortState) : (State.updPort s p f).power = s.power := rfl
@[simp] theorem State.updPort_term (s : State) (p : PortId) (f : PortState → PortState) : (State.updPort s p f).term = s.term := rfl
@[simp] theorem State.updPort_src (s : State) (p : PortId) (f : PortState → PortState) : (State.updPort s p f).src = s.src := rfl
@[simp] theorem State.updPort_ch (s : State) (p : PortId) (f : PortState → PortState) : (State.updPort s p f).ch = s.ch := rfl
@[simp] theorem State.updPort_cg (s : State) (p : PortId) (f : PortState → PortState) : (State.updPort s p f).cg = s.cg := rfl
@[simp] theorem State.updPort_hg (s : State) (p : PortId) (f : PortState → PortState) : (State.updPort s p f).hg = s.hg := rfl
@[simp] theorem State.updPort_head (s : State) (p : PortId) (f : PortState → PortState) : (State.updPort s p f).head = s.head := rfl
@[simp] theorem State.updPort_bell (s : State) (p : PortId) (f : PortState → PortState) : (State.updPort s p f).bell = s.bell := rfl
@[simp] theorem State.updPort_sect (s : State) (p : PortId) (f : PortState → PortState) : (State.updPort s p f).sect = s.sect := rfl
@[simp] theorem State.updPort_tally (s : State) (p : PortId) (f : PortState → PortState) : (State.updPort s p f).tally = s.tally := rfl
@[simp] theorem State.updPort_trk (s : State) (p : PortId) (f : PortState → PortState) : (State.updPort s p f).trk = s.trk := rfl
@[simp] theorem State.updPort_permits (s : State) (p : PortId) (f : PortState → PortState) : (State.updPort s p f).permits = s.permits := rfl
@[simp] theorem State.updPort_engine (s : State) (p : PortId) (f : PortState → PortState) : (State.updPort s p f).engine = s.engine := rfl
@[simp] theorem State.updPort_twin (s : State) (p : PortId) (f : PortState → PortState) : (State.updPort s p f).twin = s.twin := rfl
@[simp] theorem State.updPort_net_sessions (s : State) (p : PortId) (f : PortState → PortState) : (State.updPort s p f).net.sessions = s.net.sessions := rfl
@[simp] theorem State.updPort_net_nextSession (s : State) (p : PortId) (f : PortState → PortState) : (State.updPort s p f).net.nextSession = s.net.nextSession := rfl
@[simp] theorem State.updPort_net_held (s : State) (p : PortId) (f : PortState → PortState) : (State.updPort s p f).net.held = s.net.held := rfl
@[simp] theorem State.updPort_net_can (s : State) (p : PortId) (f : PortState → PortState) : (State.updPort s p f).net.can = s.net.can := rfl
@[simp] theorem State.updPort_net_xfer (s : State) (p : PortId) (f : PortState → PortState) : (State.updPort s p f).net.xfer = s.net.xfer := rfl
@[simp] theorem State.updPort_net_spiQueue (s : State) (p : PortId) (f : PortState → PortState) : (State.updPort s p f).net.spiQueue = s.net.spiQueue := rfl
@[simp] theorem State.updPort_net_pdSeq (s : State) (p : PortId) (f : PortState → PortState) : (State.updPort s p f).net.pdSeq = s.net.pdSeq := rfl
@[simp] theorem State.updPort_net_tickOpen (s : State) (p : PortId) (f : PortState → PortState) : (State.updPort s p f).net.tickOpen = s.net.tickOpen := rfl
@[simp] theorem State.updPort_net_sessionsRefused (s : State) (p : PortId) (f : PortState → PortState) : (State.updPort s p f).net.sessionsRefused = s.net.sessionsRefused := rfl
@[simp] theorem State.updPort_net_authFailures (s : State) (p : PortId) (f : PortState → PortState) : (State.updPort s p f).net.authFailures = s.net.authFailures := rfl
@[simp] theorem State.updPort_net_key (s : State) (p : PortId) (f : PortState → PortState) : (State.updPort s p f).net.key = s.net.key := rfl
@[simp] theorem State.updPort_net_keyId (s : State) (p : PortId) (f : PortState → PortState) : (State.updPort s p f).net.keyId = s.net.keyId := rfl
@[simp] theorem State.updPort_net_emcy (s : State) (p : PortId) (f : PortState → PortState) : (State.updPort s p f).net.emcy = s.net.emcy := rfl
@[simp] theorem State.updPort_net_rpdoAt (s : State) (p : PortId) (f : PortState → PortState) : (State.updPort s p f).net.rpdoAt = s.net.rpdoAt := rfl
@[simp] theorem State.updPort_net_tpdoSent (s : State) (p : PortId) (f : PortState → PortState) : (State.updPort s p f).net.tpdoSent = s.net.tpdoSent := rfl
@[simp] theorem State.updPort_net_srdoSent (s : State) (p : PortId) (f : PortState → PortState) : (State.updPort s p f).net.srdoSent = s.net.srdoSent := rfl
@[simp] theorem State.updPort_cfg (s : State) (p : PortId) (f : PortState → PortState) : (State.updPort s p f).cfg = s.cfg := rfl
@[simp] theorem State.updPort_recd (s : State) (p : PortId) (f : PortState → PortState) : (State.updPort s p f).recd = s.recd := rfl
@[simp] theorem State.updPort_emmc (s : State) (p : PortId) (f : PortState → PortState) : (State.updPort s p f).emmc = s.emmc := rfl
@[simp] theorem State.updPort_sent (s : State) (p : PortId) (f : PortState → PortState) : (State.updPort s p f).sent = s.sent := rfl
@[simp] theorem State.updPort_pending (s : State) (p : PortId) (f : PortState → PortState) : (State.updPort s p f).pending = s.pending := rfl
-- updCan
@[simp] theorem State.updCan_now (s : State) (p : CanPort) (f : CanState → CanState) : (State.updCan s p f).now = s.now := rfl
@[simp] theorem State.updCan_fresh (s : State) (p : CanPort) (f : CanState → CanState) : (State.updCan s p f).fresh = s.fresh := rfl
@[simp] theorem State.updCan_power (s : State) (p : CanPort) (f : CanState → CanState) : (State.updCan s p f).power = s.power := rfl
@[simp] theorem State.updCan_term (s : State) (p : CanPort) (f : CanState → CanState) : (State.updCan s p f).term = s.term := rfl
@[simp] theorem State.updCan_src (s : State) (p : CanPort) (f : CanState → CanState) : (State.updCan s p f).src = s.src := rfl
@[simp] theorem State.updCan_ch (s : State) (p : CanPort) (f : CanState → CanState) : (State.updCan s p f).ch = s.ch := rfl
@[simp] theorem State.updCan_cg (s : State) (p : CanPort) (f : CanState → CanState) : (State.updCan s p f).cg = s.cg := rfl
@[simp] theorem State.updCan_hg (s : State) (p : CanPort) (f : CanState → CanState) : (State.updCan s p f).hg = s.hg := rfl
@[simp] theorem State.updCan_head (s : State) (p : CanPort) (f : CanState → CanState) : (State.updCan s p f).head = s.head := rfl
@[simp] theorem State.updCan_bell (s : State) (p : CanPort) (f : CanState → CanState) : (State.updCan s p f).bell = s.bell := rfl
@[simp] theorem State.updCan_sect (s : State) (p : CanPort) (f : CanState → CanState) : (State.updCan s p f).sect = s.sect := rfl
@[simp] theorem State.updCan_tally (s : State) (p : CanPort) (f : CanState → CanState) : (State.updCan s p f).tally = s.tally := rfl
@[simp] theorem State.updCan_trk (s : State) (p : CanPort) (f : CanState → CanState) : (State.updCan s p f).trk = s.trk := rfl
@[simp] theorem State.updCan_permits (s : State) (p : CanPort) (f : CanState → CanState) : (State.updCan s p f).permits = s.permits := rfl
@[simp] theorem State.updCan_engine (s : State) (p : CanPort) (f : CanState → CanState) : (State.updCan s p f).engine = s.engine := rfl
@[simp] theorem State.updCan_twin (s : State) (p : CanPort) (f : CanState → CanState) : (State.updCan s p f).twin = s.twin := rfl
@[simp] theorem State.updCan_net_sessions (s : State) (p : CanPort) (f : CanState → CanState) : (State.updCan s p f).net.sessions = s.net.sessions := rfl
@[simp] theorem State.updCan_net_nextSession (s : State) (p : CanPort) (f : CanState → CanState) : (State.updCan s p f).net.nextSession = s.net.nextSession := rfl
@[simp] theorem State.updCan_net_held (s : State) (p : CanPort) (f : CanState → CanState) : (State.updCan s p f).net.held = s.net.held := rfl
@[simp] theorem State.updCan_net_ports (s : State) (p : CanPort) (f : CanState → CanState) : (State.updCan s p f).net.ports = s.net.ports := rfl
@[simp] theorem State.updCan_net_xfer (s : State) (p : CanPort) (f : CanState → CanState) : (State.updCan s p f).net.xfer = s.net.xfer := rfl
@[simp] theorem State.updCan_net_spiQueue (s : State) (p : CanPort) (f : CanState → CanState) : (State.updCan s p f).net.spiQueue = s.net.spiQueue := rfl
@[simp] theorem State.updCan_net_pdSeq (s : State) (p : CanPort) (f : CanState → CanState) : (State.updCan s p f).net.pdSeq = s.net.pdSeq := rfl
@[simp] theorem State.updCan_net_tickOpen (s : State) (p : CanPort) (f : CanState → CanState) : (State.updCan s p f).net.tickOpen = s.net.tickOpen := rfl
@[simp] theorem State.updCan_net_sessionsRefused (s : State) (p : CanPort) (f : CanState → CanState) : (State.updCan s p f).net.sessionsRefused = s.net.sessionsRefused := rfl
@[simp] theorem State.updCan_net_authFailures (s : State) (p : CanPort) (f : CanState → CanState) : (State.updCan s p f).net.authFailures = s.net.authFailures := rfl
@[simp] theorem State.updCan_net_key (s : State) (p : CanPort) (f : CanState → CanState) : (State.updCan s p f).net.key = s.net.key := rfl
@[simp] theorem State.updCan_net_keyId (s : State) (p : CanPort) (f : CanState → CanState) : (State.updCan s p f).net.keyId = s.net.keyId := rfl
@[simp] theorem State.updCan_net_emcy (s : State) (p : CanPort) (f : CanState → CanState) : (State.updCan s p f).net.emcy = s.net.emcy := rfl
@[simp] theorem State.updCan_net_rpdoAt (s : State) (p : CanPort) (f : CanState → CanState) : (State.updCan s p f).net.rpdoAt = s.net.rpdoAt := rfl
@[simp] theorem State.updCan_net_tpdoSent (s : State) (p : CanPort) (f : CanState → CanState) : (State.updCan s p f).net.tpdoSent = s.net.tpdoSent := rfl
@[simp] theorem State.updCan_net_srdoSent (s : State) (p : CanPort) (f : CanState → CanState) : (State.updCan s p f).net.srdoSent = s.net.srdoSent := rfl
@[simp] theorem State.updCan_cfg (s : State) (p : CanPort) (f : CanState → CanState) : (State.updCan s p f).cfg = s.cfg := rfl
@[simp] theorem State.updCan_recd (s : State) (p : CanPort) (f : CanState → CanState) : (State.updCan s p f).recd = s.recd := rfl
@[simp] theorem State.updCan_emmc (s : State) (p : CanPort) (f : CanState → CanState) : (State.updCan s p f).emmc = s.emmc := rfl
@[simp] theorem State.updCan_sent (s : State) (p : CanPort) (f : CanState → CanState) : (State.updCan s p f).sent = s.sent := rfl
@[simp] theorem State.updCan_pending (s : State) (p : CanPort) (f : CanState → CanState) : (State.updCan s p f).pending = s.pending := rfl
-- updPermit
@[simp] theorem State.updPermit_now (s : State) (p : Fin 16) (f : Permit → Permit) : (State.updPermit s p f).now = s.now := rfl
@[simp] theorem State.updPermit_fresh (s : State) (p : Fin 16) (f : Permit → Permit) : (State.updPermit s p f).fresh = s.fresh := rfl
@[simp] theorem State.updPermit_power (s : State) (p : Fin 16) (f : Permit → Permit) : (State.updPermit s p f).power = s.power := rfl
@[simp] theorem State.updPermit_term (s : State) (p : Fin 16) (f : Permit → Permit) : (State.updPermit s p f).term = s.term := rfl
@[simp] theorem State.updPermit_src (s : State) (p : Fin 16) (f : Permit → Permit) : (State.updPermit s p f).src = s.src := rfl
@[simp] theorem State.updPermit_ch (s : State) (p : Fin 16) (f : Permit → Permit) : (State.updPermit s p f).ch = s.ch := rfl
@[simp] theorem State.updPermit_cg (s : State) (p : Fin 16) (f : Permit → Permit) : (State.updPermit s p f).cg = s.cg := rfl
@[simp] theorem State.updPermit_hg (s : State) (p : Fin 16) (f : Permit → Permit) : (State.updPermit s p f).hg = s.hg := rfl
@[simp] theorem State.updPermit_head (s : State) (p : Fin 16) (f : Permit → Permit) : (State.updPermit s p f).head = s.head := rfl
@[simp] theorem State.updPermit_bell (s : State) (p : Fin 16) (f : Permit → Permit) : (State.updPermit s p f).bell = s.bell := rfl
@[simp] theorem State.updPermit_sect (s : State) (p : Fin 16) (f : Permit → Permit) : (State.updPermit s p f).sect = s.sect := rfl
@[simp] theorem State.updPermit_tally (s : State) (p : Fin 16) (f : Permit → Permit) : (State.updPermit s p f).tally = s.tally := rfl
@[simp] theorem State.updPermit_trk (s : State) (p : Fin 16) (f : Permit → Permit) : (State.updPermit s p f).trk = s.trk := rfl
@[simp] theorem State.updPermit_engine (s : State) (p : Fin 16) (f : Permit → Permit) : (State.updPermit s p f).engine = s.engine := rfl
@[simp] theorem State.updPermit_twin (s : State) (p : Fin 16) (f : Permit → Permit) : (State.updPermit s p f).twin = s.twin := rfl
@[simp] theorem State.updPermit_net (s : State) (p : Fin 16) (f : Permit → Permit) : (State.updPermit s p f).net = s.net := rfl
@[simp] theorem State.updPermit_cfg (s : State) (p : Fin 16) (f : Permit → Permit) : (State.updPermit s p f).cfg = s.cfg := rfl
@[simp] theorem State.updPermit_recd (s : State) (p : Fin 16) (f : Permit → Permit) : (State.updPermit s p f).recd = s.recd := rfl
@[simp] theorem State.updPermit_emmc (s : State) (p : Fin 16) (f : Permit → Permit) : (State.updPermit s p f).emmc = s.emmc := rfl
@[simp] theorem State.updPermit_sent (s : State) (p : Fin 16) (f : Permit → Permit) : (State.updPermit s p f).sent = s.sent := rfl
@[simp] theorem State.updPermit_pending (s : State) (p : Fin 16) (f : Permit → Permit) : (State.updPermit s p f).pending = s.pending := rfl
-- updPower
@[simp] theorem State.updPower_now (s : State) (f : Power → Power) : (State.updPower s f).now = s.now := rfl
@[simp] theorem State.updPower_fresh (s : State) (f : Power → Power) : (State.updPower s f).fresh = s.fresh := rfl
@[simp] theorem State.updPower_term (s : State) (f : Power → Power) : (State.updPower s f).term = s.term := rfl
@[simp] theorem State.updPower_src (s : State) (f : Power → Power) : (State.updPower s f).src = s.src := rfl
@[simp] theorem State.updPower_ch (s : State) (f : Power → Power) : (State.updPower s f).ch = s.ch := rfl
@[simp] theorem State.updPower_cg (s : State) (f : Power → Power) : (State.updPower s f).cg = s.cg := rfl
@[simp] theorem State.updPower_hg (s : State) (f : Power → Power) : (State.updPower s f).hg = s.hg := rfl
@[simp] theorem State.updPower_head (s : State) (f : Power → Power) : (State.updPower s f).head = s.head := rfl
@[simp] theorem State.updPower_bell (s : State) (f : Power → Power) : (State.updPower s f).bell = s.bell := rfl
@[simp] theorem State.updPower_sect (s : State) (f : Power → Power) : (State.updPower s f).sect = s.sect := rfl
@[simp] theorem State.updPower_tally (s : State) (f : Power → Power) : (State.updPower s f).tally = s.tally := rfl
@[simp] theorem State.updPower_trk (s : State) (f : Power → Power) : (State.updPower s f).trk = s.trk := rfl
@[simp] theorem State.updPower_permits (s : State) (f : Power → Power) : (State.updPower s f).permits = s.permits := rfl
@[simp] theorem State.updPower_engine (s : State) (f : Power → Power) : (State.updPower s f).engine = s.engine := rfl
@[simp] theorem State.updPower_twin (s : State) (f : Power → Power) : (State.updPower s f).twin = s.twin := rfl
@[simp] theorem State.updPower_net (s : State) (f : Power → Power) : (State.updPower s f).net = s.net := rfl
@[simp] theorem State.updPower_cfg (s : State) (f : Power → Power) : (State.updPower s f).cfg = s.cfg := rfl
@[simp] theorem State.updPower_recd (s : State) (f : Power → Power) : (State.updPower s f).recd = s.recd := rfl
@[simp] theorem State.updPower_emmc (s : State) (f : Power → Power) : (State.updPower s f).emmc = s.emmc := rfl
@[simp] theorem State.updPower_sent (s : State) (f : Power → Power) : (State.updPower s f).sent = s.sent := rfl
@[simp] theorem State.updPower_pending (s : State) (f : Power → Power) : (State.updPower s f).pending = s.pending := rfl
-- updTrack
@[simp] theorem State.updTrack_now (s : State) (f : TrackCounts → TrackCounts) : (State.updTrack s f).now = s.now := rfl
@[simp] theorem State.updTrack_fresh (s : State) (f : TrackCounts → TrackCounts) : (State.updTrack s f).fresh = s.fresh := rfl
@[simp] theorem State.updTrack_power (s : State) (f : TrackCounts → TrackCounts) : (State.updTrack s f).power = s.power := rfl
@[simp] theorem State.updTrack_term (s : State) (f : TrackCounts → TrackCounts) : (State.updTrack s f).term = s.term := rfl
@[simp] theorem State.updTrack_src (s : State) (f : TrackCounts → TrackCounts) : (State.updTrack s f).src = s.src := rfl
@[simp] theorem State.updTrack_ch (s : State) (f : TrackCounts → TrackCounts) : (State.updTrack s f).ch = s.ch := rfl
@[simp] theorem State.updTrack_cg (s : State) (f : TrackCounts → TrackCounts) : (State.updTrack s f).cg = s.cg := rfl
@[simp] theorem State.updTrack_hg (s : State) (f : TrackCounts → TrackCounts) : (State.updTrack s f).hg = s.hg := rfl
@[simp] theorem State.updTrack_head (s : State) (f : TrackCounts → TrackCounts) : (State.updTrack s f).head = s.head := rfl
@[simp] theorem State.updTrack_bell (s : State) (f : TrackCounts → TrackCounts) : (State.updTrack s f).bell = s.bell := rfl
@[simp] theorem State.updTrack_sect (s : State) (f : TrackCounts → TrackCounts) : (State.updTrack s f).sect = s.sect := rfl
@[simp] theorem State.updTrack_tally (s : State) (f : TrackCounts → TrackCounts) : (State.updTrack s f).tally = s.tally := rfl
@[simp] theorem State.updTrack_permits (s : State) (f : TrackCounts → TrackCounts) : (State.updTrack s f).permits = s.permits := rfl
@[simp] theorem State.updTrack_engine (s : State) (f : TrackCounts → TrackCounts) : (State.updTrack s f).engine = s.engine := rfl
@[simp] theorem State.updTrack_twin (s : State) (f : TrackCounts → TrackCounts) : (State.updTrack s f).twin = s.twin := rfl
@[simp] theorem State.updTrack_net (s : State) (f : TrackCounts → TrackCounts) : (State.updTrack s f).net = s.net := rfl
@[simp] theorem State.updTrack_cfg (s : State) (f : TrackCounts → TrackCounts) : (State.updTrack s f).cfg = s.cfg := rfl
@[simp] theorem State.updTrack_recd (s : State) (f : TrackCounts → TrackCounts) : (State.updTrack s f).recd = s.recd := rfl
@[simp] theorem State.updTrack_emmc (s : State) (f : TrackCounts → TrackCounts) : (State.updTrack s f).emmc = s.emmc := rfl
@[simp] theorem State.updTrack_sent (s : State) (f : TrackCounts → TrackCounts) : (State.updTrack s f).sent = s.sent := rfl
@[simp] theorem State.updTrack_pending (s : State) (f : TrackCounts → TrackCounts) : (State.updTrack s f).pending = s.pending := rfl
-- updEntry
@[simp] theorem State.updEntry_now (s : State) (i : Fin 128) (f : Entry → Entry) : (State.updEntry s i f).now = s.now := rfl
@[simp] theorem State.updEntry_fresh (s : State) (i : Fin 128) (f : Entry → Entry) : (State.updEntry s i f).fresh = s.fresh := rfl
@[simp] theorem State.updEntry_power (s : State) (i : Fin 128) (f : Entry → Entry) : (State.updEntry s i f).power = s.power := rfl
@[simp] theorem State.updEntry_term (s : State) (i : Fin 128) (f : Entry → Entry) : (State.updEntry s i f).term = s.term := rfl
@[simp] theorem State.updEntry_src (s : State) (i : Fin 128) (f : Entry → Entry) : (State.updEntry s i f).src = s.src := rfl
@[simp] theorem State.updEntry_ch (s : State) (i : Fin 128) (f : Entry → Entry) : (State.updEntry s i f).ch = s.ch := rfl
@[simp] theorem State.updEntry_cg (s : State) (i : Fin 128) (f : Entry → Entry) : (State.updEntry s i f).cg = s.cg := rfl
@[simp] theorem State.updEntry_hg (s : State) (i : Fin 128) (f : Entry → Entry) : (State.updEntry s i f).hg = s.hg := rfl
@[simp] theorem State.updEntry_head (s : State) (i : Fin 128) (f : Entry → Entry) : (State.updEntry s i f).head = s.head := rfl
@[simp] theorem State.updEntry_bell (s : State) (i : Fin 128) (f : Entry → Entry) : (State.updEntry s i f).bell = s.bell := rfl
@[simp] theorem State.updEntry_sect (s : State) (i : Fin 128) (f : Entry → Entry) : (State.updEntry s i f).sect = s.sect := rfl
@[simp] theorem State.updEntry_tally (s : State) (i : Fin 128) (f : Entry → Entry) : (State.updEntry s i f).tally = s.tally := rfl
@[simp] theorem State.updEntry_permits (s : State) (i : Fin 128) (f : Entry → Entry) : (State.updEntry s i f).permits = s.permits := rfl
@[simp] theorem State.updEntry_engine (s : State) (i : Fin 128) (f : Entry → Entry) : (State.updEntry s i f).engine = s.engine := rfl
@[simp] theorem State.updEntry_twin (s : State) (i : Fin 128) (f : Entry → Entry) : (State.updEntry s i f).twin = s.twin := rfl
@[simp] theorem State.updEntry_net (s : State) (i : Fin 128) (f : Entry → Entry) : (State.updEntry s i f).net = s.net := rfl
@[simp] theorem State.updEntry_cfg (s : State) (i : Fin 128) (f : Entry → Entry) : (State.updEntry s i f).cfg = s.cfg := rfl
@[simp] theorem State.updEntry_recd (s : State) (i : Fin 128) (f : Entry → Entry) : (State.updEntry s i f).recd = s.recd := rfl
@[simp] theorem State.updEntry_emmc (s : State) (i : Fin 128) (f : Entry → Entry) : (State.updEntry s i f).emmc = s.emmc := rfl
@[simp] theorem State.updEntry_sent (s : State) (i : Fin 128) (f : Entry → Entry) : (State.updEntry s i f).sent = s.sent := rfl
@[simp] theorem State.updEntry_pending (s : State) (i : Fin 128) (f : Entry → Entry) : (State.updEntry s i f).pending = s.pending := rfl
-- updRec
@[simp] theorem State.updRec_now (s : State) (f : Recorder → Recorder) : (State.updRec s f).now = s.now := rfl
@[simp] theorem State.updRec_fresh (s : State) (f : Recorder → Recorder) : (State.updRec s f).fresh = s.fresh := rfl
@[simp] theorem State.updRec_power (s : State) (f : Recorder → Recorder) : (State.updRec s f).power = s.power := rfl
@[simp] theorem State.updRec_term (s : State) (f : Recorder → Recorder) : (State.updRec s f).term = s.term := rfl
@[simp] theorem State.updRec_src (s : State) (f : Recorder → Recorder) : (State.updRec s f).src = s.src := rfl
@[simp] theorem State.updRec_ch (s : State) (f : Recorder → Recorder) : (State.updRec s f).ch = s.ch := rfl
@[simp] theorem State.updRec_cg (s : State) (f : Recorder → Recorder) : (State.updRec s f).cg = s.cg := rfl
@[simp] theorem State.updRec_hg (s : State) (f : Recorder → Recorder) : (State.updRec s f).hg = s.hg := rfl
@[simp] theorem State.updRec_head (s : State) (f : Recorder → Recorder) : (State.updRec s f).head = s.head := rfl
@[simp] theorem State.updRec_bell (s : State) (f : Recorder → Recorder) : (State.updRec s f).bell = s.bell := rfl
@[simp] theorem State.updRec_sect (s : State) (f : Recorder → Recorder) : (State.updRec s f).sect = s.sect := rfl
@[simp] theorem State.updRec_tally (s : State) (f : Recorder → Recorder) : (State.updRec s f).tally = s.tally := rfl
@[simp] theorem State.updRec_trk (s : State) (f : Recorder → Recorder) : (State.updRec s f).trk = s.trk := rfl
@[simp] theorem State.updRec_permits (s : State) (f : Recorder → Recorder) : (State.updRec s f).permits = s.permits := rfl
@[simp] theorem State.updRec_engine (s : State) (f : Recorder → Recorder) : (State.updRec s f).engine = s.engine := rfl
@[simp] theorem State.updRec_twin (s : State) (f : Recorder → Recorder) : (State.updRec s f).twin = s.twin := rfl
@[simp] theorem State.updRec_net (s : State) (f : Recorder → Recorder) : (State.updRec s f).net = s.net := rfl
@[simp] theorem State.updRec_cfg (s : State) (f : Recorder → Recorder) : (State.updRec s f).cfg = s.cfg := rfl
@[simp] theorem State.updRec_emmc (s : State) (f : Recorder → Recorder) : (State.updRec s f).emmc = s.emmc := rfl
@[simp] theorem State.updRec_sent (s : State) (f : Recorder → Recorder) : (State.updRec s f).sent = s.sent := rfl
@[simp] theorem State.updRec_pending (s : State) (f : Recorder → Recorder) : (State.updRec s f).pending = s.pending := rfl
-- updSession
@[simp] theorem State.updSession_now (s : State) (k : Fin 4) (f : Session → Session) : (State.updSession s k f).now = s.now := rfl
@[simp] theorem State.updSession_fresh (s : State) (k : Fin 4) (f : Session → Session) : (State.updSession s k f).fresh = s.fresh := rfl
@[simp] theorem State.updSession_power (s : State) (k : Fin 4) (f : Session → Session) : (State.updSession s k f).power = s.power := rfl
@[simp] theorem State.updSession_term (s : State) (k : Fin 4) (f : Session → Session) : (State.updSession s k f).term = s.term := rfl
@[simp] theorem State.updSession_src (s : State) (k : Fin 4) (f : Session → Session) : (State.updSession s k f).src = s.src := rfl
@[simp] theorem State.updSession_ch (s : State) (k : Fin 4) (f : Session → Session) : (State.updSession s k f).ch = s.ch := rfl
@[simp] theorem State.updSession_cg (s : State) (k : Fin 4) (f : Session → Session) : (State.updSession s k f).cg = s.cg := rfl
@[simp] theorem State.updSession_hg (s : State) (k : Fin 4) (f : Session → Session) : (State.updSession s k f).hg = s.hg := rfl
@[simp] theorem State.updSession_head (s : State) (k : Fin 4) (f : Session → Session) : (State.updSession s k f).head = s.head := rfl
@[simp] theorem State.updSession_bell (s : State) (k : Fin 4) (f : Session → Session) : (State.updSession s k f).bell = s.bell := rfl
@[simp] theorem State.updSession_sect (s : State) (k : Fin 4) (f : Session → Session) : (State.updSession s k f).sect = s.sect := rfl
@[simp] theorem State.updSession_tally (s : State) (k : Fin 4) (f : Session → Session) : (State.updSession s k f).tally = s.tally := rfl
@[simp] theorem State.updSession_trk (s : State) (k : Fin 4) (f : Session → Session) : (State.updSession s k f).trk = s.trk := rfl
@[simp] theorem State.updSession_permits (s : State) (k : Fin 4) (f : Session → Session) : (State.updSession s k f).permits = s.permits := rfl
@[simp] theorem State.updSession_engine (s : State) (k : Fin 4) (f : Session → Session) : (State.updSession s k f).engine = s.engine := rfl
@[simp] theorem State.updSession_twin (s : State) (k : Fin 4) (f : Session → Session) : (State.updSession s k f).twin = s.twin := rfl
@[simp] theorem State.updSession_net_nextSession (s : State) (k : Fin 4) (f : Session → Session) : (State.updSession s k f).net.nextSession = s.net.nextSession := rfl
@[simp] theorem State.updSession_net_held (s : State) (k : Fin 4) (f : Session → Session) : (State.updSession s k f).net.held = s.net.held := rfl
@[simp] theorem State.updSession_net_ports (s : State) (k : Fin 4) (f : Session → Session) : (State.updSession s k f).net.ports = s.net.ports := rfl
@[simp] theorem State.updSession_net_can (s : State) (k : Fin 4) (f : Session → Session) : (State.updSession s k f).net.can = s.net.can := rfl
@[simp] theorem State.updSession_net_xfer (s : State) (k : Fin 4) (f : Session → Session) : (State.updSession s k f).net.xfer = s.net.xfer := rfl
@[simp] theorem State.updSession_net_spiQueue (s : State) (k : Fin 4) (f : Session → Session) : (State.updSession s k f).net.spiQueue = s.net.spiQueue := rfl
@[simp] theorem State.updSession_net_pdSeq (s : State) (k : Fin 4) (f : Session → Session) : (State.updSession s k f).net.pdSeq = s.net.pdSeq := rfl
@[simp] theorem State.updSession_net_tickOpen (s : State) (k : Fin 4) (f : Session → Session) : (State.updSession s k f).net.tickOpen = s.net.tickOpen := rfl
@[simp] theorem State.updSession_net_sessionsRefused (s : State) (k : Fin 4) (f : Session → Session) : (State.updSession s k f).net.sessionsRefused = s.net.sessionsRefused := rfl
@[simp] theorem State.updSession_net_authFailures (s : State) (k : Fin 4) (f : Session → Session) : (State.updSession s k f).net.authFailures = s.net.authFailures := rfl
@[simp] theorem State.updSession_net_key (s : State) (k : Fin 4) (f : Session → Session) : (State.updSession s k f).net.key = s.net.key := rfl
@[simp] theorem State.updSession_net_keyId (s : State) (k : Fin 4) (f : Session → Session) : (State.updSession s k f).net.keyId = s.net.keyId := rfl
@[simp] theorem State.updSession_net_emcy (s : State) (k : Fin 4) (f : Session → Session) : (State.updSession s k f).net.emcy = s.net.emcy := rfl
@[simp] theorem State.updSession_net_rpdoAt (s : State) (k : Fin 4) (f : Session → Session) : (State.updSession s k f).net.rpdoAt = s.net.rpdoAt := rfl
@[simp] theorem State.updSession_net_tpdoSent (s : State) (k : Fin 4) (f : Session → Session) : (State.updSession s k f).net.tpdoSent = s.net.tpdoSent := rfl
@[simp] theorem State.updSession_net_srdoSent (s : State) (k : Fin 4) (f : Session → Session) : (State.updSession s k f).net.srdoSent = s.net.srdoSent := rfl
@[simp] theorem State.updSession_cfg (s : State) (k : Fin 4) (f : Session → Session) : (State.updSession s k f).cfg = s.cfg := rfl
@[simp] theorem State.updSession_recd (s : State) (k : Fin 4) (f : Session → Session) : (State.updSession s k f).recd = s.recd := rfl
@[simp] theorem State.updSession_emmc (s : State) (k : Fin 4) (f : Session → Session) : (State.updSession s k f).emmc = s.emmc := rfl
@[simp] theorem State.updSession_sent (s : State) (k : Fin 4) (f : Session → Session) : (State.updSession s k f).sent = s.sent := rfl
@[simp] theorem State.updSession_pending (s : State) (k : Fin 4) (f : Session → Session) : (State.updSession s k f).pending = s.pending := rfl
-- the field that changes
@[simp] theorem State.begin_sent (s : State) : (State.begin s).sent = [] := rfl
@[simp] theorem State.say_sent (s : State) (m : Msg) : (State.say s m).sent = s.sent ++ [m] := rfl
@[simp] theorem State.draw_fresh (s : State) : (State.draw s).fresh = s.fresh + 1 := rfl
@[simp] theorem State.reach_now (s : State) (t : Nat) : (State.reach s t).now = Nat.max s.now t := by
  unfold State.reach
  show (if s.now < t then t else s.now) = Nat.max s.now t
  split <;> simp only [Nat.max_def] <;> split <;> omega
@[simp] theorem State.updSrc_src (s : State) (k : Fin 64) (f : Source → Source) : (State.updSrc s k f).src = s.src.upd k f := rfl
@[simp] theorem State.updCh_ch (s : State) (c : Fin 64) (f : Channel → Channel) : (State.updCh s c f).ch = s.ch.upd c f := rfl
@[simp] theorem State.updCg_cg (s : State) (c : Fin 64) (f : ChGuard → ChGuard) : (State.updCg s c f).cg = s.cg.upd c f := rfl
@[simp] theorem State.updHg_hg (s : State) (h : Fin 32) (f : HeadGuard → HeadGuard) : (State.updHg s h f).hg = s.hg.upd h f := rfl
@[simp] theorem State.updHead_head (s : State) (h : Fin 32) (f : Head → Head) : (State.updHead s h f).head = s.head.upd h f := rfl
@[simp] theorem State.updSect_sect (s : State) (n : Fin 48) (f : Section → Section) : (State.updSect s n f).sect = s.sect.upd n f := rfl
@[simp] theorem State.updPort_net_ports (s : State) (p : PortId) (f : PortState → PortState) : (State.updPort s p f).net.ports = s.net.ports.upd (portIdx p) f := rfl
@[simp] theorem State.updCan_net_can (s : State) (p : CanPort) (f : CanState → CanState) : (State.updCan s p f).net.can = s.net.can.upd (canIdx p) f := rfl
@[simp] theorem State.updPower_power (s : State) (f : Power → Power) : (State.updPower s f).power = f s.power := rfl
@[simp] theorem State.updRec_recd (s : State) (f : Recorder → Recorder) : (State.updRec s f).recd = f s.recd := rfl
@[simp] theorem State.updPermit_po (s : State) (p : Fin 16) (f : Permit → Permit) :
    (State.updPermit s p f).permits.po = s.permits.po.upd p f := rfl
@[simp] theorem State.updEntry_entries (s : State) (i : Fin 128) (f : Entry → Entry) :
    (State.updEntry s i f).trk.entries = s.trk.entries.upd i f := rfl

-- tables
@[simp] theorem Tab.get_upd_self {n : Nat} {α : Type} (t : Tab n α) (i : Fin n) (f : α → α) :
    (t.upd i f).get i = f (t.get i) := by
  show (Vector.set t i.val (f (t.get i)) i.isLt)[i.val]'i.isLt = f (t.get i)
  exact Vector.getElem_set_self i.isLt

theorem Tab.get_upd_other {n : Nat} {α : Type} (t : Tab n α) (i k : Fin n) (f : α → α) (h : k ≠ i) :
    (t.upd i f).get k = t.get k := by
  show (Vector.set t i.val (f (t.get i)) i.isLt)[k.val]'k.isLt = t[k.val]'k.isLt
  exact Vector.getElem_set_ne i.isLt k.isLt (fun e => h (Fin.ext e.symm))

end Sys2Proof.Machine
end

