-- ==== Sys2Proof/Laws/Finish.lean ====
section
/-! SUPPORT. The judgement of ALARMS that ends every command: what it leaves, field by field, and that
messages are only added to those sent. -/

namespace Sys2Proof.Machine

@[simp] theorem State.finish_now (s : State) : (State.finish s).now = s.now := (keeps_finish s).same .now (by decide)
@[simp] theorem State.finish_fresh (s : State) : (State.finish s).fresh = s.fresh := (keeps_finish s).same .fresh (by decide)
@[simp] theorem State.finish_power (s : State) : (State.finish s).power = s.power := (keeps_finish s).same .power (by decide)
@[simp] theorem State.finish_term (s : State) : (State.finish s).term = s.term := (keeps_finish s).same .term (by decide)
@[simp] theorem State.finish_src (s : State) : (State.finish s).src = s.src := (keeps_finish s).same .src (by decide)
@[simp] theorem State.finish_ch (s : State) : (State.finish s).ch = s.ch := (keeps_finish s).same .ch (by decide)
@[simp] theorem State.finish_cg (s : State) : (State.finish s).cg = s.cg := (keeps_finish s).same .cg (by decide)
@[simp] theorem State.finish_hg (s : State) : (State.finish s).hg = s.hg := (keeps_finish s).same .hg (by decide)
@[simp] theorem State.finish_head (s : State) : (State.finish s).head = s.head := (keeps_finish s).same .head (by decide)
@[simp] theorem State.finish_bell (s : State) : (State.finish s).bell = s.bell := (keeps_finish s).same .bell (by decide)
@[simp] theorem State.finish_sect (s : State) : (State.finish s).sect = s.sect := (keeps_finish s).same .sect (by decide)
@[simp] theorem State.finish_tally (s : State) : (State.finish s).tally = s.tally := (keeps_finish s).same .tally (by decide)
@[simp] theorem State.finish_trk (s : State) : (State.finish s).trk = s.trk := (keeps_finish s).same .trk (by decide)
@[simp] theorem State.finish_permits (s : State) : (State.finish s).permits = s.permits := (keeps_finish s).same .permits (by decide)
@[simp] theorem State.finish_engine (s : State) : (State.finish s).engine = s.engine := (keeps_finish s).same .engine (by decide)
@[simp] theorem State.finish_twin (s : State) : (State.finish s).twin = s.twin := (keeps_finish s).same .twin (by decide)
@[simp] theorem State.finish_cfg (s : State) : (State.finish s).cfg = s.cfg := (keeps_finish s).same .cfg (by decide)
@[simp] theorem State.finish_emmc (s : State) : (State.finish s).emmc = s.emmc := (keeps_finish s).same .emmc (by decide)
@[simp] theorem State.finish_pending (s : State) : (State.finish s).pending = s.pending := (keeps_finish s).same .pending (by decide)
@[simp] theorem State.finish_net_sessions (s : State) : (State.finish s).net.sessions = s.net.sessions :=
  ((keeps_finish s).same .sessions (by decide)).1
@[simp] theorem State.finish_net_nextSession (s : State) : (State.finish s).net.nextSession = s.net.nextSession :=
  ((keeps_finish s).same .sessions (by decide)).2.1
@[simp] theorem State.finish_net_sessionsRefused (s : State) : (State.finish s).net.sessionsRefused = s.net.sessionsRefused :=
  ((keeps_finish s).same .sessions (by decide)).2.2
@[simp] theorem State.finish_net_held (s : State) : (State.finish s).net.held = s.net.held :=
  ((keeps_finish s).same .held (by decide))
@[simp] theorem State.finish_net_can (s : State) : (State.finish s).net.can = s.net.can :=
  ((keeps_finish s).same .can (by decide))
@[simp] theorem State.finish_net_xfer (s : State) : (State.finish s).net.xfer = s.net.xfer :=
  ((keeps_finish s).same .xfer (by decide))
@[simp] theorem State.finish_net_pdSeq (s : State) : (State.finish s).net.pdSeq = s.net.pdSeq :=
  ((keeps_finish s).same .tickInst (by decide)).1
@[simp] theorem State.finish_net_tickOpen (s : State) : (State.finish s).net.tickOpen = s.net.tickOpen :=
  ((keeps_finish s).same .tickInst (by decide)).2
@[simp] theorem State.finish_net_authFailures (s : State) : (State.finish s).net.authFailures = s.net.authFailures :=
  ((keeps_finish s).same .auth (by decide)).1
@[simp] theorem State.finish_net_key (s : State) : (State.finish s).net.key = s.net.key :=
  ((keeps_finish s).same .auth (by decide)).2.1
@[simp] theorem State.finish_net_keyId (s : State) : (State.finish s).net.keyId = s.net.keyId :=
  ((keeps_finish s).same .auth (by decide)).2.2
@[simp] theorem State.finish_net_rpdoAt (s : State) : (State.finish s).net.rpdoAt = s.net.rpdoAt :=
  ((keeps_finish s).same .pdo (by decide)).1
@[simp] theorem State.finish_net_tpdoSent (s : State) : (State.finish s).net.tpdoSent = s.net.tpdoSent :=
  ((keeps_finish s).same .pdo (by decide)).2.1
@[simp] theorem State.finish_net_srdoSent (s : State) : (State.finish s).net.srdoSent = s.net.srdoSent :=
  ((keeps_finish s).same .pdo (by decide)).2.2
theorem State.finish_ports (s : State) (k : Fin 5) : ((State.finish s).net.ports.get k).quiet = (s.net.ports.get k).quiet :=
  (keeps_finish s).same .ports (by decide) k
theorem State.finish_steady (s : State) : (State.finish s).recd.steady = s.recd.steady :=
  (keeps_finish s).same .recd (by decide)
@[simp] theorem State.finish_recd_st (s : State) : (State.finish s).recd.st = s.recd.st :=
  show (State.finish s).recd.steady.st = s.recd.steady.st from by rw [State.finish_steady]
@[simp] theorem State.finish_recd_bus4 (s : State) : (State.finish s).recd.bus4 = s.recd.bus4 :=
  show (State.finish s).recd.steady.bus4 = s.recd.steady.bus4 from by rw [State.finish_steady]
@[simp] theorem State.finish_recd_hs52 (s : State) : (State.finish s).recd.hs52 = s.recd.hs52 :=
  show (State.finish s).recd.steady.hs52 = s.recd.steady.hs52 from by rw [State.finish_steady]
@[simp] theorem State.finish_recd_label (s : State) : (State.finish s).recd.label = s.recd.label :=
  show (State.finish s).recd.steady.label = s.recd.steady.label from by rw [State.finish_steady]
@[simp] theorem State.finish_recd_cardW (s : State) : (State.finish s).recd.cardW = s.recd.cardW :=
  show (State.finish s).recd.steady.cardW = s.recd.steady.cardW from by rw [State.finish_steady]
@[simp] theorem State.finish_recd_failedAt (s : State) : (State.finish s).recd.failedAt = s.recd.failedAt :=
  show (State.finish s).recd.steady.failedAt = s.recd.steady.failedAt from by rw [State.finish_steady]
@[simp] theorem State.finish_recd_oldest (s : State) : (State.finish s).recd.oldest = s.recd.oldest :=
  show (State.finish s).recd.steady.oldest = s.recd.steady.oldest from by rw [State.finish_steady]
@[simp] theorem State.finish_recd_wrapBase (s : State) : (State.finish s).recd.wrapBase = s.recd.wrapBase :=
  show (State.finish s).recd.steady.wrapBase = s.recd.steady.wrapBase from by rw [State.finish_steady]
@[simp] theorem State.finish_recd_foundingFull (s : State) : (State.finish s).recd.foundingFull = s.recd.foundingFull :=
  show (State.finish s).recd.steady.foundingFull = s.recd.steady.foundingFull from by rw [State.finish_steady]
@[simp] theorem State.finish_recd_errors (s : State) : (State.finish s).recd.errors = s.recd.errors :=
  show (State.finish s).recd.steady.errors = s.recd.steady.errors from by rw [State.finish_steady]
@[simp] theorem State.finish_recd_opBase (s : State) : (State.finish s).recd.opBase = s.recd.opBase :=
  show (State.finish s).recd.steady.opBase = s.recd.steady.opBase from by rw [State.finish_steady]
@[simp] theorem State.finish_recd_powerCycles (s : State) : (State.finish s).recd.powerCycles = s.recd.powerCycles :=
  show (State.finish s).recd.steady.powerCycles = s.recd.steady.powerCycles from by rw [State.finish_steady]
@[simp] theorem State.finish_recd_opened (s : State) : (State.finish s).recd.opened = s.recd.opened :=
  show (State.finish s).recd.steady.opened = s.recd.steady.opened from by rw [State.finish_steady]
@[simp] theorem State.finish_recd_job (s : State) : (State.finish s).recd.job = s.recd.job :=
  show (State.finish s).recd.steady.job = s.recd.steady.job from by rw [State.finish_steady]
@[simp] theorem State.finish_recd_stopped (s : State) : (State.finish s).recd.stopped = s.recd.stopped :=
  show (State.finish s).recd.steady.stopped = s.recd.steady.stopped from by rw [State.finish_steady]
@[simp] theorem State.finish_recd_dump (s : State) : (State.finish s).recd.dump = s.recd.dump :=
  show (State.finish s).recd.steady.dump = s.recd.steady.dump from by rw [State.finish_steady]
@[simp] theorem State.finish_port_busy (s : State) (k : Fin 5) :
    ((State.finish s).net.ports.get k).busy = (s.net.ports.get k).busy :=
  show ((State.finish s).net.ports.get k).quiet.busy = (s.net.ports.get k).quiet.busy from by rw [State.finish_ports]
@[simp] theorem State.finish_port_authFails (s : State) (k : Fin 5) :
    ((State.finish s).net.ports.get k).authFails = (s.net.ports.get k).authFails :=
  show ((State.finish s).net.ports.get k).quiet.authFails = (s.net.ports.get k).quiet.authFails from by rw [State.finish_ports]
@[simp] theorem State.finish_port_authLockAt (s : State) (k : Fin 5) :
    ((State.finish s).net.ports.get k).authLockAt = (s.net.ports.get k).authLockAt :=
  show ((State.finish s).net.ports.get k).quiet.authLockAt = (s.net.ports.get k).quiet.authLockAt from by rw [State.finish_ports]
@[simp] theorem State.finish_port_lostRxAt (s : State) (k : Fin 5) :
    ((State.finish s).net.ports.get k).lostRxAt = (s.net.ports.get k).lostRxAt :=
  show ((State.finish s).net.ports.get k).quiet.lostRxAt = (s.net.ports.get k).quiet.lostRxAt from by rw [State.finish_ports]
@[simp] theorem State.finish_port_linkUp (s : State) (k : Fin 5) :
    ((State.finish s).net.ports.get k).linkUp = (s.net.ports.get k).linkUp :=
  show ((State.finish s).net.ports.get k).quiet.linkUp = (s.net.ports.get k).quiet.linkUp from by rw [State.finish_ports]
@[simp] theorem State.finish_port_hbAt (s : State) (k : Fin 5) :
    ((State.finish s).net.ports.get k).hbAt = (s.net.ports.get k).hbAt :=
  show ((State.finish s).net.ports.get k).quiet.hbAt = (s.net.ports.get k).quiet.hbAt from by rw [State.finish_ports]
@[simp] theorem State.finish_port_beacon (s : State) (k : Fin 5) :
    ((State.finish s).net.ports.get k).beacon = (s.net.ports.get k).beacon :=
  show ((State.finish s).net.ports.get k).quiet.beacon = (s.net.ports.get k).quiet.beacon from by rw [State.finish_ports]
@[simp] theorem State.finish_port_seqErrors (s : State) (k : Fin 5) :
    ((State.finish s).net.ports.get k).seq.seqErrors = (s.net.ports.get k).seq.seqErrors :=
  show ((State.finish s).net.ports.get k).quiet.seq.seqErrors = (s.net.ports.get k).quiet.seq.seqErrors from by
    rw [State.finish_ports]
@[simp] theorem State.finish_port_crcErrors (s : State) (k : Fin 5) :
    ((State.finish s).net.ports.get k).seq.crcErrors = (s.net.ports.get k).seq.crcErrors :=
  show ((State.finish s).net.ports.get k).quiet.seq.crcErrors = (s.net.ports.get k).quiet.seq.crcErrors from by
    rw [State.finish_ports]
@[simp] theorem State.finish_port_pdExpect (s : State) (k : Fin 5) :
    ((State.finish s).net.ports.get k).seq.pdExpect = (s.net.ports.get k).seq.pdExpect :=
  show ((State.finish s).net.ports.get k).quiet.seq.pdExpect = (s.net.ports.get k).quiet.seq.pdExpect from by
    rw [State.finish_ports]

-- what creating a record leaves beside `Recorder.steady`
@[simp] theorem recSealed_failures (x : RecCtx) (r : Recorder) : (recSealed x r).failures = r.failures := by
  unfold recSealed; split <;> rfl
@[simp] theorem recNumber_failures (x : RecCtx) (r : Recorder) (typ : Nat) (payload : List Byte) :
    (recNumber x r typ payload).failures = r.failures := by
  unfold recNumber
  dsimp only
  split <;> exact recSealed_failures x r
@[simp] theorem recPut_failures (x : RecCtx) (r : Recorder) (typ : Nat) (payload : List Byte) :
    (recPut x r typ payload).failures = r.failures := by
  unfold recPut
  split
  · dsimp only
    split
    · exact recSealed_failures x r
    · exact (recNumber_failures ..).trans (recSealed_failures x r)
  · rfl
@[simp] theorem recKick_failures (x : RecCtx) (r : Recorder) : (recKick x r).failures = r.failures := by
  unfold recKick; split <;> rfl
@[simp] theorem recGap_failures (x : RecCtx) (r : Recorder) : (recGap x r).failures = r.failures := by
  unfold recGap
  split
  · rfl
  · exact recPut_failures ..
theorem failures_ite {c : Prop} [Decidable c] {a b : Recorder} {n : Nat} (ha : a.failures = n) (hb : b.failures = n) :
    (if c then a else b).failures = n := by
  split
  · exact ha
  · exact hb
theorem recCreate_failures (x : RecCtx) (r : Recorder) (typ : Nat) (payload : List Byte) :
    (recCreate x r typ payload).failures = r.failures := by
  unfold recCreate
  exact failures_ite rfl (failures_ite rfl (by simp))

/-- What leaves the records alone leaves the count of failed transfers alone. -/
theorem failures_of_log {l : List Part} {s t : State} (h : Keeps l s t) (hl : Part.log ∉ l) :
    t.recd.failures = s.recd.failures :=
  show t.recd.journal.failures = s.recd.journal.failures from by
    rw [show t.recd.journal = s.recd.journal from h.same .log hl]

/-- The emergencies of the bits that rise (R406). -/
theorem keeps_bits (u : State) (a b : Nat) (l : List Nat) : Keeps [.stream, .emcy, .sent] u
    (l.foldl (fun acc i => if bitOf a i && !bitOf b i then acc.emergencyBit i else acc) u) :=
  Keeps.foldl (fun acc i => by
    split
    · exact keeps_emergencyBit acc i
    · exact .refl _ acc) (.refl _ u) _

theorem State.judgeBits_failures (s : State) (a b : Nat) : (s.judgeBits a b).recd.failures = s.recd.failures := by
  unfold State.judgeBits
  split
  · rfl
  · refine (failures_of_log (keeps_bits _ a b _) (by decide)).trans ?_
    exact recCreate_failures (recCtx s) s.recd _ _

theorem State.judgeAlarms_failures (s : State) : s.judgeAlarms.recd.failures = s.recd.failures := by
  unfold State.judgeAlarms
  extract_lets s1
  have h1 : s1.recd.failures = s.recd.failures := s.judgeBits_failures ..
  clear_value s1
  by_cases h : resetOwed s1 = true
  · rw [if_pos h]; exact h1
  · rw [if_neg h]
    by_cases h' : (s1.net.emcy.active && s1.alive) = true
    · rw [if_pos h']
      exact (failures_of_log (keeps_emergency s1 0 0xFF none) (by decide)).trans h1
    · rw [if_neg h']; exact h1

@[simp] theorem State.finish_recd_failures (s : State) : (State.finish s).recd.failures = s.recd.failures := by
  unfold State.finish
  split
  · exact s.judgeAlarms_failures
  · rfl

-- messages
/-- Messages are only added. -/
def Grows (s t : State) : Prop := ∃ l, t.sent = s.sent ++ l

theorem Grows.refl (s : State) : Grows s s := ⟨[], (List.append_nil _).symm⟩

theorem Grows.of_eq {s t : State} (h : t.sent = s.sent) : Grows s t := ⟨[], by rw [h, List.append_nil]⟩

theorem Grows.trans {s t u : State} (h : Grows s t) (g : Grows t u) : Grows s u := by
  obtain ⟨a, ha⟩ := h
  obtain ⟨b, hb⟩ := g
  exact ⟨a ++ b, by rw [hb, ha, List.append_assoc]⟩

theorem Grows.mem {s t : State} {m : Msg} (h : Grows s t) (hm : m ∈ s.sent) : m ∈ t.sent := by
  obtain ⟨l, hl⟩ := h
  rw [hl]
  exact List.mem_append_left _ hm

theorem Grows.foldl {α : Type} {f : State → α → State} (hf : ∀ acc x, Grows acc (f acc x)) (xs : List α) (s : State) :
    Grows s (xs.foldl f s) := by
  induction xs generalizing s with
  | nil => exact .refl s
  | cons x xs ih => exact (hf s x).trans (ih _)

theorem grows_say (s : State) (m : Msg) : Grows s (s.say m) := ⟨[m], rfl⟩

theorem grows_sendCan (s : State) (p : CanPort) (cob : Nat) (data : List Byte) : Grows s (s.sendCan p cob data) := by
  unfold State.sendCan State.sendFrame
  split
  · exact .refl s
  · exact grows_say ..

theorem grows_sendDatagram (s : State) (p : PortId) (dst : Option Nat) (typ session status ref : Nat)
    (body : List Byte) : Grows s (s.sendDatagram p dst typ session status ref body) := by
  unfold State.sendDatagram
  split
  · dsimp only
    split
    · exact .of_eq rfl
    · exact ⟨_, rfl⟩
  · exact .refl s

theorem grows_emergency (s : State) (code source : Nat) (except : Option CanPort) :
    Grows s (s.emergency code source except) := by
  unfold State.emergency
  extract_lets a body s1 s2
  have h1 : Grows s s1 := Grows.foldl (fun acc p => by
    split
    · exact grows_sendCan ..
    · exact .refl _) bothCan s
  have h2 : Grows s1 s2 := Grows.foldl (fun acc p => by
    split
    · exact grows_sendDatagram ..
    · exact .refl _) dataPorts s1
  refine (h1.trans h2).trans ?_
  split
  · exact .refl _
  · exact .of_eq rfl

theorem grows_emergencyBit (s : State) (b : Nat) : Grows s (s.emergencyBit b) := by
  unfold State.emergencyBit
  split
  · exact (grows_emergency s (emcyCode b) b none).trans (.of_eq rfl)
  · exact .refl s

theorem grows_bits (s : State) (a b : Nat) (l : List Nat) :
    Grows s (l.foldl (fun acc i => if bitOf a i && !bitOf b i then acc.emergencyBit i else acc) s) :=
  Grows.foldl (fun acc p => by
    split
    · exact grows_emergencyBit ..
    · exact .refl _) l s

theorem Grows.set_net {s t : State} (h : Grows s t) (x : Net) : Grows s { t with net := x } := h

theorem Grows.ite {s a b : State} {c : Prop} [Decidable c] (ha : Grows s a) (hb : Grows s b) :
    Grows s (if c then a else b) := by
  split
  · exact ha
  · exact hb

theorem grows_judgeBits (s : State) (a b : Nat) : Grows s (s.judgeBits a b) := by
  unfold State.judgeBits
  split
  · exact .refl s
  · exact (Grows.of_eq rfl).trans (grows_bits ..)

theorem grows_judgeAlarms (s : State) : Grows s s.judgeAlarms := by
  unfold State.judgeAlarms
  extract_lets s1
  have h1 : Grows s s1 := grows_judgeBits ..
  clear_value s1
  by_cases h : resetOwed s1 = true
  · rw [if_pos h]; exact h1
  · rw [if_neg h]
    by_cases h' : (s1.net.emcy.active && s1.alive) = true
    · rw [if_pos h']
      obtain ⟨l, hl⟩ := h1.trans (grows_emergency s1 0 0xFF none)
      exact ⟨l, hl⟩
    · rw [if_neg h']; exact h1

theorem grows_finish (s : State) : Grows s s.finish := by
  unfold State.finish
  split
  · exact grows_judgeAlarms s
  · exact .refl s

end Sys2Proof.Machine
end

