-- ==== Sys2Proof/Laws/FrameHeads.lean ====
section
/-! SUPPORT. The frame of every operation on the state, one lemma each: wheel response, guard, excitation, channels, tracker and Bellringer. -/

namespace Sys2Proof.Machine

theorem keeps_breakHead (s : State) (h : Fin 32) :
    Keeps [.fresh, .head, .tally, .trk] s (State.breakHead s h) := by
  unfold State.breakHead
  dsimp only
  repeat (first
    | with_reducible exact Keeps.refl _ _
    | ((with_reducible apply Keeps.app (keeps_updHead ..)); case hs => exact rfl)
    | ((with_reducible apply Keeps.app (keeps_draw ..)); case hs => exact rfl)
    | ((with_reducible apply Keeps.app (keeps_closeGroup ..)); case hs => exact rfl))

theorem keeps_settleHead (s : State) (h : Fin 32) :
    Keeps [.head] s (State.settleHead s h) := by
  unfold State.settleHead
  dsimp only
  repeat (first
    | with_reducible exact Keeps.refl _ _
    | ((with_reducible apply Keeps.app (keeps_updHead ..)); case hs => exact rfl)
    | with_reducible apply Keeps.ite
    | intro _)

theorem keeps_noteHead (s : State) (h : Fin 32) :
    Keeps [.tally] s (State.noteHead s h) := by
  unfold State.noteHead
  dsimp only
  repeat (first
    | with_reducible exact Keeps.refl _ _
    | with_reducible apply Keeps.ite
    | intro _
    | ((with_reducible apply Keeps.app (keeps_set_tally ..)); case hs => exact rfl))

theorem Keeps.withDist {l : List Part} {s t : State} {h : Fin 32} {f : State → State}
    (hl : subParts [.fresh, .head, .tally, .trk] l = true) (hf : Keeps l t (f t)) (g : Keeps l s t) :
    Keeps l s (t.withDist h f) := by
  unfold State.withDist
  dsimp only
  have nt (u : State) : Keeps l u (u.noteHead h) := ((keeps_noteHead ..).mono (b := [.fresh, .head, .tally, .trk]) rfl).mono hl
  have hg := (g.trans hf).trans (nt _)
  split
  · exact hg.trans ((keeps_breakHead ..).mono hl)
  · split
    · exact (hg.trans (((keeps_settleHead ..).mono (b := [.fresh, .head, .tally, .trk]) rfl).mono hl)).trans (nt _)
    · exact hg

theorem keeps_raiseWre (s : State) (h : Fin 32) (f : WreCauses → WreCauses) :
    Keeps [.fresh, .head, .tally, .trk] s (State.raiseWre s h f) := by
  unfold State.raiseWre
  dsimp only
  repeat (first
    | with_reducible exact Keeps.refl _ _
    | ((with_reducible apply Keeps.withDist); case hl => decide)
    | ((with_reducible apply Keeps.app (keeps_updHead ..)); case hs => exact rfl))

theorem keeps_raiseClaimTie (s : State) (h : Fin 32) :
    Keeps [.fresh, .head, .tally, .trk] s (State.raiseClaimTie s h) := by
  unfold State.raiseClaimTie
  repeat (first
    | with_reducible exact Keeps.refl _ _
    | ((with_reducible apply Keeps.withDist); case hl => decide)
    | ((with_reducible apply Keeps.app (keeps_updHead ..)); case hs => exact rfl))

theorem keeps_moveAll (s : State) (h : Fin 32) (reduced : Bool) (bridged : Bool) (e : Env) (dt : Nat) (t0 : Nat) (t1 : Nat) (l : List Fitted) :
    Keeps [.fresh, .head] s (State.moveAll s h reduced bridged e dt t0 t1 l) := by
  unfold State.moveAll
  dsimp only
  repeat (first
    | with_reducible exact Keeps.refl _ _
    | with_reducible apply Keeps.foldl
    | ((with_reducible apply Keeps.app (keeps_updHead ..)); case hs => exact rfl)
    | ((with_reducible apply Keeps.app (keeps_draw ..)); case hs => exact rfl)
    | intro _)

theorem keeps_searchOpens (s : State) (h : Fin 32) (reduced : Bool) (t1 : Nat) (k : Candidate) (p : Rat) (g : Rat) (v : Rat) (e2 : Rat) :
    Keeps [.fresh, .head, .tally, .trk] s (State.searchOpens s h reduced t1 k p g v e2) := by
  unfold State.searchOpens
  dsimp only
  repeat (first
    | with_reducible exact Keeps.refl _ _
    | ((with_reducible apply Keeps.app (keeps_updHead ..)); case hs => exact rfl)
    | ((with_reducible apply Keeps.app (keeps_raiseWre ..)); case hs => exact rfl)
    | with_reducible apply Keeps.ite
    | intro _
    | split)

theorem keeps_searchEmpty (s : State) (h : Fin 32) :
    Keeps [.fresh, .head, .tally, .trk] s (State.searchEmpty s h) := by
  unfold State.searchEmpty
  dsimp only
  repeat (first
    | with_reducible exact Keeps.refl _ _
    | ((with_reducible apply Keeps.app (keeps_updHead ..)); case hs => exact rfl)
    | ((with_reducible apply Keeps.app (keeps_raiseWre ..)); case hs => exact rfl)
    | with_reducible apply Keeps.ite
    | intro _
    | split)

theorem keeps_wreSearch (s : State) (h : Fin 32) (reduced : Bool) (e : Env) (t1 : Nat) :
    Keeps [.fresh, .head, .tally, .trk] s (State.wreSearch s h reduced e t1) := by
  unfold State.wreSearch
  dsimp only
  repeat (first
    | with_reducible exact Keeps.refl _ _
    | ((with_reducible apply Keeps.app (keeps_searchEmpty ..)); case hs => exact rfl)
    | ((with_reducible apply Keeps.app (keeps_updHead ..)); case hs => exact rfl)
    | ((with_reducible apply Keeps.app (keeps_searchOpens ..)); case hs => exact rfl)
    | with_reducible apply Keeps.ite
    | intro _
    | split)

theorem keeps_wreUnknown (s : State) (h : Fin 32) (t1 : Nat) :
    Keeps [.head] s (State.wreUnknown s h t1) := by
  unfold State.wreUnknown
  dsimp only
  repeat (first
    | with_reducible exact Keeps.refl _ _
    | ((with_reducible apply Keeps.app (keeps_updHead ..)); case hs => exact rfl)
    | split)

theorem keeps_wreResume (s : State) (h : Fin 32) (reduced : Bool) (e : Env) (dt : Nat) (u : Nat) (t1 : Nat) :
    Keeps [.fresh, .head, .tally, .trk] s (State.wreResume s h reduced e dt u t1) := by
  unfold State.wreResume
  dsimp only
  repeat (first
    | with_reducible exact Keeps.refl _ _
    | ((with_reducible apply Keeps.app (keeps_updHead ..)); case hs => exact rfl)
    | ((with_reducible apply Keeps.app (keeps_raiseWre ..)); case hs => exact rfl)
    | ((with_reducible apply Keeps.app (keeps_moveAll ..)); case hs => exact rfl)
    | with_reducible apply Keeps.ite
    | intro _)

theorem keeps_wreFollow (s : State) (h : Fin 32) (reduced : Bool) (e : Env) (dt : Nat) (t1 : Nat) :
    Keeps [.fresh, .head, .tally, .trk] s (State.wreFollow s h reduced e dt t1) := by
  unfold State.wreFollow
  dsimp only
  repeat (first
    | with_reducible exact Keeps.refl _ _
    | ((with_reducible apply Keeps.app (keeps_raiseWre ..)); case hs => exact rfl)
    | ((with_reducible apply Keeps.app (keeps_moveAll ..)); case hs => exact rfl)
    | with_reducible apply Keeps.ite
    | intro _)

theorem keeps_wreKnown (s : State) (h : Fin 32) (reduced : Bool) (e : Env) (t1 : Nat) :
    Keeps [.fresh, .head, .tally, .trk] s (State.wreKnown s h reduced e t1) := by
  unfold State.wreKnown
  dsimp only
  repeat (first
    | with_reducible exact Keeps.refl _ _
    | ((with_reducible apply Keeps.app (keeps_wreFollow ..)); case hs => exact rfl)
    | ((with_reducible apply Keeps.app (keeps_updHead ..)); case hs => exact rfl)
    | ((with_reducible apply Keeps.app (keeps_wreResume ..)); case hs => exact rfl)
    | ((with_reducible apply Keeps.app (keeps_wreSearch ..)); case hs => exact rfl)
    | with_reducible apply Keeps.ite
    | intro _
    | split)

theorem keeps_wreSample (s : State) (h : Fin 32) :
    Keeps [.fresh, .head, .tally, .trk] s (State.wreSample s h) := by
  unfold State.wreSample
  dsimp only
  repeat (first
    | with_reducible exact Keeps.refl _ _
    | ((with_reducible apply Keeps.app (keeps_wreUnknown ..)); case hs => exact rfl)
    | ((with_reducible apply Keeps.app (keeps_wreKnown ..)); case hs => exact rfl)
    | with_reducible apply Keeps.ite
    | intro _
    | split)

theorem keeps_noteClosed (s : State) (h : Fin 32) (i : Fin 2) (sl : Slot) :
    Keeps [.tally, .trk] s (State.noteClosed s h i sl) := by
  unfold State.noteClosed
  dsimp only
  repeat (first
    | with_reducible exact Keeps.refl _ _
    | ((with_reducible apply Keeps.app (keeps_set_tally_trk ..)); case hs => exact rfl))

theorem keeps_slotClose (h : Fin 32) (i : Fin 2) (s : State) :
    Keeps [.fresh, .head, .tally, .trk] s (slotClose h i s) := by
  unfold slotClose
  dsimp only
  repeat (first
    | with_reducible exact Keeps.refl _ _
    | ((with_reducible apply Keeps.app (keeps_noteClosed ..)); case hs => exact rfl)
    | ((with_reducible apply Keeps.app (keeps_updHead ..)); case hs => exact rfl)
    | ((with_reducible apply Keeps.app (keeps_raiseWre ..)); case hs => exact rfl)
    | ((with_reducible apply Keeps.app (keeps_draw ..)); case hs => exact rfl)
    | with_reducible apply Keeps.ite
    | intro _
    | split)

theorem keeps_fitLost (h : Fin 32) (s : State) :
    Keeps [.fresh, .head, .tally, .trk] s (fitLost h s) := by
  unfold fitLost
  dsimp only
  repeat (first
    | with_reducible exact Keeps.refl _ _
    | ((with_reducible apply Keeps.app (keeps_raiseWre ..)); case hs => exact rfl)
    | with_reducible apply Keeps.ite
    | intro _
    | split)

theorem keeps_overspeed (h : Fin 32) (i : Fin 2) (s : State) :
    Keeps [.fresh, .head, .tally, .trk] s (overspeed h i s) := by
  unfold overspeed
  repeat (first
    | with_reducible exact Keeps.refl _ _
    | ((with_reducible apply Keeps.app (keeps_raiseWre ..)); case hs => exact rfl)
    | with_reducible apply Keeps.ite
    | intro _
    | split)

theorem keeps_wreCauseClear (h : Fin 32) (s : State) :
    Keeps [.now, .fresh, .head, .tally, .trk] s (wreCauseClear h s) := by
  unfold wreCauseClear
  dsimp only
  repeat (first
    | with_reducible exact Keeps.refl _ _
    | ((with_reducible apply Keeps.withDist); case hl => decide)
    | ((with_reducible apply Keeps.app (keeps_updHead ..)); case hs => exact rfl)
    | ((with_reducible apply Keeps.app (keeps_reach ..)); case hs => exact rfl)
    | with_reducible apply Keeps.ite
    | intro _
    | split)

theorem keeps_captureArm (h : Fin 32) (value : Nat) (s : State) :
    Keeps [.head] s (captureArm h value s) := by
  unfold captureArm
  repeat (first
    | with_reducible exact Keeps.refl _ _
    | ((with_reducible apply Keeps.app (keeps_updHead ..)); case hs => exact rfl)
    | with_reducible apply Keeps.ite
    | intro _)

theorem keeps_offer (s : State) (o : Offer) :
    Keeps [.bell] s (State.offer s o) := by
  unfold State.offer
  repeat (first
    | with_reducible exact Keeps.refl _ _
    | ((with_reducible apply Keeps.app (keeps_set_bell ..)); case hs => exact rfl))

theorem keeps_withdraw (s : State) (p : Offer → Bool) :
    Keeps [.bell] s (State.withdraw s p) := by
  unfold State.withdraw
  repeat (first
    | with_reducible exact Keeps.refl _ _
    | ((with_reducible apply Keeps.app (keeps_set_bell ..)); case hs => exact rfl))

theorem keeps_recall (s : State) (p : Offer → Bool) :
    Keeps [.bell] s (State.recall s p) := by
  unfold State.recall
  repeat (first
    | with_reducible exact Keeps.refl _ _
    | ((with_reducible apply Keeps.app (keeps_set_bell ..)); case hs => exact rfl))

theorem keeps_reachFree (s : State) (h : Fin 32) (total : Nat) :
    Keeps [.now] s (State.reachFree s h total) := by
  unfold State.reachFree
  repeat (first
    | with_reducible exact Keeps.refl _ _
    | ((with_reducible apply Keeps.app (keeps_reach ..)); case hs => exact rfl)
    | with_reducible apply Keeps.ite
    | intro _)

theorem keeps_changeRange (s : State) (ch : Fin 64) (g : Nat) (forced : Bool) :
    Keeps [.ch, .bell] s (State.changeRange s ch g forced) := by
  unfold State.changeRange
  repeat (first
    | with_reducible exact Keeps.refl _ _
    | ((with_reducible apply Keeps.app (keeps_withdraw ..)); case hs => exact rfl)
    | ((with_reducible apply Keeps.app (keeps_updCh ..)); case hs => exact rfl)
    | with_reducible apply Keeps.ite
    | intro _)

theorem keeps_dropRange (s : State) (ch : Fin 64) :
    Keeps [.ch, .bell] s (State.dropRange s ch) := by
  unfold State.dropRange
  repeat (first
    | with_reducible exact Keeps.refl _ _
    | ((with_reducible apply Keeps.app (keeps_withdraw ..)); case hs => exact rfl)
    | ((with_reducible apply Keeps.app (keeps_updCh ..)); case hs => exact rfl))

theorem keeps_oneRange (s : State) (ch : Fin 64) (finer : Bool) :
    Keeps [.ch, .bell] s (State.oneRange s ch finer) := by
  unfold State.oneRange
  dsimp only
  repeat (first
    | with_reducible exact Keeps.refl _ _
    | ((with_reducible apply Keeps.app (keeps_changeRange ..)); case hs => exact rfl)
    | with_reducible apply Keeps.ite
    | intro _)

theorem keeps_carryRange (s : State) (ch : Fin 64) :
    Keeps [.ch, .bell] s (State.carryRange s ch) := by
  unfold State.carryRange
  dsimp only
  repeat (first
    | with_reducible exact Keeps.refl _ _
    | ((with_reducible apply Keeps.app (keeps_oneRange ..)); case hs => exact rfl)
    | with_reducible apply Keeps.ite
    | intro _)

theorem keeps_requestCheck (s : State) (h : Fin 32) :
    Keeps [.bell] s (State.requestCheck s h) := by
  unfold State.requestCheck
  dsimp only
  repeat (first
    | with_reducible exact Keeps.refl _ _
    | ((with_reducible apply Keeps.app (keeps_offer ..)); case hs => exact rfl)
    | with_reducible apply Keeps.ite
    | intro _)

theorem keeps_setGuard (s : State) (h : Fin 32) (g : GState) :
    Keeps [.fresh, .hg, .head, .tally, .trk] s (State.setGuard s h g) := by
  unfold State.setGuard
  repeat (first
    | with_reducible exact Keeps.refl _ _
    | ((with_reducible apply Keeps.withDist); case hl => decide)
    | ((with_reducible apply Keeps.app (keeps_updHg ..)); case hs => exact rfl))

theorem keeps_startGuard (s : State) (h : Fin 32) (g : GState) :
    Keeps [.fresh, .hg, .head, .tally, .trk] s (State.startGuard s h g) := by
  unfold State.startGuard
  repeat (first
    | with_reducible exact Keeps.refl _ _
    | ((with_reducible apply Keeps.withDist); case hl => decide)
    | ((with_reducible apply Keeps.app (keeps_updHg ..)); case hs => exact rfl))

theorem keeps_judgeLoad (s : State) (h : Fin 32) :
    Keeps [.hg] s (State.judgeLoad s h) := by
  unfold State.judgeLoad
  dsimp only
  repeat (first
    | with_reducible exact Keeps.refl _ _
    | ((with_reducible apply Keeps.app (keeps_updHg ..)); case hs => exact rfl)
    | split)

theorem keeps_judgeLoads (s : State) (ch : Fin 64) :
    Keeps [.hg] s (State.judgeLoads s ch) := by
  unfold State.judgeLoads
  repeat (first
    | with_reducible exact Keeps.refl _ _
    | with_reducible apply Keeps.foldl
    | ((with_reducible apply Keeps.app (keeps_judgeLoad ..)); case hs => exact rfl)
    | with_reducible apply Keeps.ite
    | intro _)

theorem keeps_causeRaised (s : State) (ch : Fin 64) :
    Keeps [.fresh, .hg, .head, .bell, .tally, .trk] s (State.causeRaised s ch) := by
  unfold State.causeRaised
  dsimp only
  repeat (first
    | with_reducible exact Keeps.refl _ _
    | with_reducible apply Keeps.foldl
    | ((with_reducible apply Keeps.app (keeps_judgeLoads ..)); case hs => exact rfl)
    | ((with_reducible apply Keeps.app (keeps_withdraw ..)); case hs => exact rfl)
    | ((with_reducible apply Keeps.app (keeps_setGuard ..)); case hs => exact rfl)
    | with_reducible apply Keeps.ite
    | intro _)

theorem keeps_causeDropped (s : State) (ch : Fin 64) :
    Keeps [.fresh, .hg, .head, .bell, .tally, .trk] s (State.causeDropped s ch) := by
  unfold State.causeDropped
  dsimp only
  repeat (first
    | with_reducible exact Keeps.refl _ _
    | with_reducible apply Keeps.foldl
    | ((with_reducible apply Keeps.app (keeps_judgeLoads ..)); case hs => exact rfl)
    | ((with_reducible apply Keeps.app (keeps_requestCheck ..)); case hs => exact rfl)
    | ((with_reducible apply Keeps.app (keeps_setGuard ..)); case hs => exact rfl)
    | with_reducible apply Keeps.ite
    | intro _)

theorem keeps_guardCauseRaised (ch : Fin 64) (k : GuardCause) (s : State) :
    Keeps [.fresh, .cg, .hg, .head, .bell, .tally, .trk] s (guardCauseRaised ch k s) := by
  unfold guardCauseRaised
  repeat (first
    | with_reducible exact Keeps.refl _ _
    | ((with_reducible apply Keeps.app (keeps_causeRaised ..)); case hs => exact rfl)
    | ((with_reducible apply Keeps.app (keeps_updCg ..)); case hs => exact rfl)
    | with_reducible apply Keeps.ite
    | intro _)

theorem keeps_guardCauseDropped (ch : Fin 64) (k : GuardCause) (s : State) :
    Keeps [.fresh, .cg, .hg, .head, .bell, .tally, .trk] s (guardCauseDropped ch k s) := by
  unfold guardCauseDropped
  repeat (first
    | with_reducible exact Keeps.refl _ _
    | ((with_reducible apply Keeps.app (keeps_causeDropped ..)); case hs => exact rfl)
    | ((with_reducible apply Keeps.app (keeps_updCg ..)); case hs => exact rfl)
    | with_reducible apply Keeps.ite
    | intro _)

theorem keeps_checkRequestDue (h : Fin 32) (s : State) :
    Keeps [.now, .bell] s (checkRequestDue h s) := by
  unfold checkRequestDue
  dsimp only
  repeat (first
    | with_reducible exact Keeps.refl _ _
    | ((with_reducible apply Keeps.app (keeps_requestCheck ..)); case hs => exact rfl)
    | ((with_reducible apply Keeps.app (keeps_reachFree ..)); case hs => exact rfl)
    | with_reducible apply Keeps.ite
    | intro _)

theorem keeps_checkNow (mask : Nat) (s : State) :
    Keeps [.bell] s (checkNow mask s) := by
  unfold checkNow
  repeat (first
    | with_reducible exact Keeps.refl _ _
    | with_reducible apply Keeps.foldl
    | ((with_reducible apply Keeps.app (keeps_requestCheck ..)); case hs => exact rfl)
    | with_reducible apply Keeps.ite
    | intro _)

theorem keeps_testStarvedSet (h : Fin 32) (s : State) :
    Keeps [.now, .hg, .tally] s (testStarvedSet h s) := by
  unfold testStarvedSet
  dsimp only
  repeat (first
    | with_reducible exact Keeps.refl _ _
    | ((with_reducible apply Keeps.app (keeps_updHg ..)); case hs => exact rfl)
    | ((with_reducible apply Keeps.app (keeps_reach ..)); case hs => exact rfl)
    | ((with_reducible apply Keeps.app (keeps_noteHead ..)); case hs => exact rfl)
    | with_reducible apply Keeps.ite
    | intro _
    | split)

theorem keeps_noteSourcesOn (s : State) :
    Keeps [.hg] s (State.noteSourcesOn s) := by
  unfold State.noteSourcesOn
  repeat (first
    | with_reducible exact Keeps.refl _ _
    | with_reducible apply Keeps.foldl
    | ((with_reducible apply Keeps.app (keeps_updHg ..)); case hs => exact rfl)
    | with_reducible apply Keeps.ite
    | intro _)

theorem keeps_inject (s : State) (void : Bool) (ch : Fin 64) :
    Keeps [.ch, .cg] s (State.inject s void ch) := by
  unfold State.inject
  repeat (first
    | with_reducible exact Keeps.refl _ _
    | ((with_reducible apply Keeps.app (keeps_updCg ..)); case hs => exact rfl)
    | ((with_reducible apply Keeps.app (keeps_updCh ..)); case hs => exact rfl))

theorem keeps_startCheck (s : State) (h : Fin 32) :
    Keeps [.ch, .cg, .bell] s (State.startCheck s h) := by
  unfold State.startCheck
  dsimp only
  repeat (first
    | with_reducible exact Keeps.refl _ _
    | with_reducible apply Keeps.foldl
    | ((with_reducible apply Keeps.app (keeps_inject ..)); case hs => exact rfl)
    | with_reducible apply Keeps.ite
    | intro _
    | ((with_reducible apply Keeps.app (keeps_set_bell ..)); case hs => exact rfl))

theorem keeps_guardRecord (s : State) (ch : Fin 64) :
    Keeps [.log] s (State.guardRecord s ch) := by
  unfold State.guardRecord
  dsimp only
  repeat (first
    | with_reducible exact Keeps.refl _ _
    | ((with_reducible apply Keeps.app (keeps_record ..)); case hs => exact rfl)
    | split)

theorem keeps_resumeRange (s : State) (ch : Fin 64) :
    Keeps [.ch, .bell] s (State.resumeRange s ch) := by
  unfold State.resumeRange
  repeat (first
    | with_reducible exact Keeps.refl _ _
    | ((with_reducible apply Keeps.app (keeps_carryRange ..)); case hs => exact rfl)
    | with_reducible apply Keeps.ite
    | intro _)

theorem keeps_takeFinding (s : State) (ch : Fin 64) (f : Finding) (r : CheckFields) :
    Keeps [.ch, .cg, .hg, .bell, .log] s (State.takeFinding s ch f r) := by
  unfold State.takeFinding
  dsimp only
  repeat (first
    | with_reducible exact Keeps.refl _ _
    | ((with_reducible apply Keeps.app (keeps_judgeLoads ..)); case hs => exact rfl)
    | ((with_reducible apply Keeps.app (keeps_updCg ..)); case hs => exact rfl)
    | ((with_reducible apply Keeps.app (keeps_guardRecord ..)); case hs => exact rfl)
    | ((with_reducible apply Keeps.app (keeps_resumeRange ..)); case hs => exact rfl)
    | with_reducible apply Keeps.ite
    | intro _)

theorem keeps_headChecked (s : State) (h : Fin 32) (complete : Bool) (failed : Bool) :
    Keeps [.fresh, .hg, .head, .bell, .tally, .trk] s (State.headChecked s h complete failed) := by
  unfold State.headChecked
  dsimp only
  repeat (first
    | with_reducible exact Keeps.refl _ _
    | ((with_reducible apply Keeps.app (keeps_updHg ..)); case hs => exact rfl)
    | ((with_reducible apply Keeps.app (keeps_requestCheck ..)); case hs => exact rfl)
    | ((with_reducible apply Keeps.app (keeps_noteHead ..)); case hs => exact rfl)
    | ((with_reducible apply Keeps.app (keeps_setGuard ..)); case hs => exact rfl)
    | with_reducible apply Keeps.ite
    | intro _)

theorem keeps_closeCheckSpan (s : State) (h : Fin 32) :
    Keeps [.bell] s (State.closeCheckSpan s h) := by
  unfold State.closeCheckSpan
  repeat (first
    | with_reducible exact Keeps.refl _ _
    | with_reducible apply Keeps.ite
    | intro _
    | ((with_reducible apply Keeps.app (keeps_set_bell ..)); case hs => exact rfl))

theorem keeps_endCheck (s : State) (h : Fin 32) (chans : List (Fin 64)) (results : List CheckMeas) :
    Keeps [.fresh, .ch, .cg, .hg, .head, .bell, .tally, .trk, .log] s (State.endCheck s h chans results) := by
  unfold State.endCheck
  dsimp only
  repeat (first
    | with_reducible exact Keeps.refl _ _
    | with_reducible apply Keeps.foldl
    | ((with_reducible apply Keeps.app (keeps_headChecked ..)); case hs => exact rfl)
    | ((with_reducible apply Keeps.app (keeps_closeCheckSpan ..)); case hs => exact rfl)
    | ((with_reducible apply Keeps.app (keeps_takeFinding ..)); case hs => exact rfl)
    | intro _)

theorem keeps_abandonCheck (s : State) (h : Fin 32) (chans : List (Fin 64)) :
    Keeps [.fresh, .ch, .cg, .hg, .head, .bell, .tally, .trk, .log] s (State.abandonCheck s h chans) := by
  unfold State.abandonCheck
  dsimp only
  repeat (first
    | with_reducible exact Keeps.refl _ _
    | with_reducible apply Keeps.foldl
    | ((with_reducible apply Keeps.app (keeps_headChecked ..)); case hs => exact rfl)
    | ((with_reducible apply Keeps.app (keeps_takeFinding ..)); case hs => exact rfl)
    | ((with_reducible apply Keeps.app (keeps_updCh ..)); case hs => exact rfl)
    | intro _
    | ((with_reducible apply Keeps.app (keeps_set_bell ..)); case hs => exact rfl))

theorem keeps_guardCheckEnd (t : CheckTarget) (results : List CheckMeas) (s : State) :
    Keeps [.now, .fresh, .ch, .cg, .hg, .head, .bell, .tally, .trk, .log] s (guardCheckEnd t results s) := by
  unfold guardCheckEnd
  dsimp only
  repeat (first
    | with_reducible exact Keeps.refl _ _
    | with_reducible apply Keeps.foldl
    | ((with_reducible apply Keeps.app (keeps_updCg ..)); case hs => exact rfl)
    | ((with_reducible apply Keeps.app (keeps_takeFinding ..)); case hs => exact rfl)
    | ((with_reducible apply Keeps.app (keeps_reach ..)); case hs => exact rfl)
    | ((with_reducible apply Keeps.app (keeps_endCheck ..)); case hs => exact rfl)
    | with_reducible apply Keeps.ite
    | intro _
    | split)

theorem keeps_freeChannelCheckDue (ch : Fin 64) (s : State) :
    Keeps [.now, .ch, .cg] s (freeChannelCheckDue ch s) := by
  unfold freeChannelCheckDue
  dsimp only
  repeat (first
    | with_reducible exact Keeps.refl _ _
    | with_reducible apply Keeps.foldl
    | ((with_reducible apply Keeps.app (keeps_updCg ..)); case hs => exact rfl)
    | ((with_reducible apply Keeps.app (keeps_reach ..)); case hs => exact rfl)
    | ((with_reducible apply Keeps.app (keeps_inject ..)); case hs => exact rfl)
    | with_reducible apply Keeps.ite
    | intro _)

theorem keeps_rtdWindow (s : State) (ch : Fin 64) :
    Keeps [.fresh, .cg, .hg, .head, .bell, .tally, .trk, .log] s (State.rtdWindow s ch) := by
  unfold State.rtdWindow
  dsimp only
  repeat (first
    | with_reducible exact Keeps.refl _ _
    | ((with_reducible apply Keeps.app (keeps_causeDropped ..)); case hs => exact rfl)
    | ((with_reducible apply Keeps.app (keeps_causeRaised ..)); case hs => exact rfl)
    | ((with_reducible apply Keeps.app (keeps_judgeLoads ..)); case hs => exact rfl)
    | ((with_reducible apply Keeps.app (keeps_updCg ..)); case hs => exact rfl)
    | ((with_reducible apply Keeps.app (keeps_guardRecord ..)); case hs => exact rfl)
    | with_reducible apply Keeps.ite
    | intro _)

theorem keeps_latchTau (s : State) (ch : Fin 64) :
    Keeps [.cg] s (State.latchTau s ch) := by
  unfold State.latchTau
  dsimp only
  repeat (first
    | with_reducible exact Keeps.refl _ _
    | ((with_reducible apply Keeps.app (keeps_updCg ..)); case hs => exact rfl)
    | with_reducible apply Keeps.ite
    | intro _
    | split)

theorem keeps_guardCycle (s : State) :
    Keeps [.fresh, .cg, .hg, .head, .bell, .tally, .trk, .log] s (State.guardCycle s) := by
  unfold State.guardCycle
  dsimp only
  repeat (first
    | with_reducible exact Keeps.refl _ _
    | with_reducible apply Keeps.foldl
    | ((with_reducible apply Keeps.app (keeps_latchTau ..)); case hs => exact rfl)
    | ((with_reducible apply Keeps.app (keeps_rtdWindow ..)); case hs => exact rfl)
    | intro _)

theorem keeps_liveCauses (s : State) (ch : Fin 64) :
    Keeps [.cg] s (State.liveCauses s ch) := by
  unfold State.liveCauses
  repeat (first
    | with_reducible exact Keeps.refl _ _
    | ((with_reducible apply Keeps.app (keeps_updCg ..)); case hs => exact rfl))

theorem keeps_guardHead (s : State) (h : Fin 32) :
    Keeps [.fresh, .hg, .head, .bell, .tally, .trk] s (State.guardHead s h) := by
  unfold State.guardHead
  dsimp only
  repeat (first
    | with_reducible exact Keeps.refl _ _
    | ((with_reducible apply Keeps.app (keeps_startGuard ..)); case hs => exact rfl)
    | ((with_reducible apply Keeps.app (keeps_updHg ..)); case hs => exact rfl)
    | ((with_reducible apply Keeps.app (keeps_requestCheck ..)); case hs => exact rfl)
    | ((with_reducible apply Keeps.app (keeps_judgeLoad ..)); case hs => exact rfl)
    | with_reducible apply Keeps.ite
    | intro _)

theorem keeps_guardActivate (s : State) :
    Keeps [.fresh, .cg, .hg, .head, .bell, .tally, .trk] s (State.guardActivate s) := by
  unfold State.guardActivate
  dsimp only
  repeat (first
    | with_reducible exact Keeps.refl _ _
    | with_reducible apply Keeps.foldl
    | ((with_reducible apply Keeps.app (keeps_liveCauses ..)); case hs => exact rfl)
    | ((with_reducible apply Keeps.app (keeps_guardHead ..)); case hs => exact rfl)
    | intro _)

theorem keeps_switchSource (s : State) (w : Nat) (on : Bool) :
    Keeps [.term] s (State.switchSource s w on) := by
  unfold State.switchSource
  repeat (first
    | with_reducible exact Keeps.refl _ _
    | ((with_reducible apply Keeps.app (keeps_set_term ..)); case hs => exact rfl))

theorem keeps_switchDischarge (s : State) (w : Nat) (on : Bool) :
    Keeps [.term] s (State.switchDischarge s w on) := by
  unfold State.switchDischarge
  repeat (first
    | with_reducible exact Keeps.refl _ _
    | ((with_reducible apply Keeps.app (keeps_set_term ..)); case hs => exact rfl))

theorem keeps_switchSense (s : State) :
    Keeps [.term] s (State.switchSense s) := by
  unfold State.switchSense
  dsimp only
  repeat (first
    | with_reducible exact Keeps.refl _ _
    | with_reducible apply Keeps.foldl
    | with_reducible apply Keeps.ite
    | intro _
    | ((with_reducible apply Keeps.app (keeps_set_term ..)); case hs => exact rfl))

theorem keeps_unsettle (s : State) (k : Fin 64) :
    Keeps [.ch] s (State.unsettle s k) := by
  unfold State.unsettle
  dsimp only
  repeat (first
    | with_reducible exact Keeps.refl _ _
    | ((with_reducible apply Keeps.app (keeps_updCh ..)); case hs => exact rfl)
    | with_reducible apply Keeps.ite
    | intro _
    | split)

theorem keeps_settleAfter (s : State) (k : Fin 64) :
    Keeps [.ch] s (State.settleAfter s k) := by
  unfold State.settleAfter
  repeat (first
    | with_reducible exact Keeps.refl _ _
    | ((with_reducible apply Keeps.app (keeps_updCh ..)); case hs => exact rfl)
    | split)

theorem keeps_runStart (s : State) (k : Fin 64) :
    Keeps [.term, .src, .ch] s (State.runStart s k) := by
  unfold State.runStart
  dsimp only
  repeat (first
    | with_reducible exact Keeps.refl _ _
    | ((with_reducible apply Keeps.app (keeps_unsettle ..)); case hs => exact rfl)
    | ((with_reducible apply Keeps.app (keeps_switchSource ..)); case hs => exact rfl)
    | ((with_reducible apply Keeps.app (keeps_updSrc ..)); case hs => exact rfl))

theorem keeps_startNow (s : State) (k : Fin 64) :
    Keeps [.term, .src, .ch] s (State.startNow s k) := by
  unfold State.startNow
  repeat (first
    | with_reducible exact Keeps.refl _ _
    | ((with_reducible apply Keeps.app (keeps_runStart ..)); case hs => exact rfl)
    | ((with_reducible apply Keeps.app (keeps_updSrc ..)); case hs => exact rfl)
    | with_reducible apply Keeps.ite
    | intro _)

theorem keeps_offerExc (s : State) (k : Fin 64) (h : Fin 32) (newCurrent : Option Nat) :
    Keeps [.bell] s (State.offerExc s k h newCurrent) := by
  unfold State.offerExc
  dsimp only
  repeat (first
    | with_reducible exact Keeps.refl _ _
    | ((with_reducible apply Keeps.app (keeps_offer ..)); case hs => exact rfl)
    | ((with_reducible apply Keeps.app (keeps_withdraw ..)); case hs => exact rfl)
    | with_reducible apply Keeps.elim
    | intro _)

theorem keeps_issueStart (s : State) (k : Fin 64) :
    Keeps [.term, .src, .ch, .bell] s (State.issueStart s k) := by
  unfold State.issueStart
  repeat (first
    | with_reducible exact Keeps.refl _ _
    | ((with_reducible apply Keeps.app (keeps_runStart ..)); case hs => exact rfl)
    | ((with_reducible apply Keeps.app (keeps_offerExc ..)); case hs => exact rfl)
    | ((with_reducible apply Keeps.app (keeps_updSrc ..)); case hs => exact rfl)
    | with_reducible apply Keeps.ite
    | intro _
    | split)

theorem keeps_applyCurrent (s : State) (k : Fin 64) (i : Nat) :
    Keeps [.src, .ch] s (State.applyCurrent s k i) := by
  unfold State.applyCurrent
  repeat (first
    | with_reducible exact Keeps.refl _ _
    | ((with_reducible apply Keeps.app (keeps_unsettle ..)); case hs => exact rfl)
    | ((with_reducible apply Keeps.app (keeps_updSrc ..)); case hs => exact rfl)
    | with_reducible apply Keeps.ite
    | intro _)

theorem keeps_issueCurrent (s : State) (k : Fin 64) (i : Nat) :
    Keeps [.src, .ch, .bell] s (State.issueCurrent s k i) := by
  unfold State.issueCurrent
  repeat (first
    | with_reducible exact Keeps.refl _ _
    | ((with_reducible apply Keeps.app (keeps_applyCurrent ..)); case hs => exact rfl)
    | ((with_reducible apply Keeps.app (keeps_offerExc ..)); case hs => exact rfl)
    | ((with_reducible apply Keeps.app (keeps_updSrc ..)); case hs => exact rfl)
    | split)

theorem keeps_issueStop (s : State) (k : Fin 64) :
    Keeps [.term, .src, .bell] s (State.issueStop s k) := by
  unfold State.issueStop
  dsimp only
  repeat (first
    | with_reducible exact Keeps.refl _ _
    | ((with_reducible apply Keeps.app (keeps_switchDischarge ..)); case hs => exact rfl)
    | ((with_reducible apply Keeps.app (keeps_recall ..)); case hs => exact rfl)
    | ((with_reducible apply Keeps.app (keeps_switchSense ..)); case hs => exact rfl)
    | ((with_reducible apply Keeps.app (keeps_updSrc ..)); case hs => exact rfl)
    | with_reducible apply Keeps.ite
    | intro _
    | split)

theorem keeps_endStop (s : State) (k : Fin 64) (incomplete : Bool) :
    Keeps [.term, .src, .ch, .bell] s (State.endStop s k incomplete) := by
  unfold State.endStop
  dsimp only
  repeat (first
    | with_reducible exact Keeps.refl _ _
    | ((with_reducible apply Keeps.app (keeps_switchDischarge ..)); case hs => exact rfl)
    | ((with_reducible apply Keeps.app (keeps_issueStart ..)); case hs => exact rfl)
    | ((with_reducible apply Keeps.app (keeps_switchSource ..)); case hs => exact rfl)
    | ((with_reducible apply Keeps.app (keeps_updSrc ..)); case hs => exact rfl)
    | with_reducible apply Keeps.ite
    | intro _)

theorem keeps_excRampComplete (k : Fin 64) (s : State) :
    Keeps [.now, .term, .src, .ch, .hg, .bell] s (excRampComplete k s) := by
  unfold excRampComplete
  dsimp only
  repeat (first
    | with_reducible exact Keeps.refl _ _
    | ((with_reducible apply Keeps.app (keeps_issueCurrent ..)); case hs => exact rfl)
    | ((with_reducible apply Keeps.app (keeps_switchSense ..)); case hs => exact rfl)
    | ((with_reducible apply Keeps.app (keeps_reach ..)); case hs => exact rfl)
    | ((with_reducible apply Keeps.app (keeps_noteSourcesOn ..)); case hs => exact rfl)
    | ((with_reducible apply Keeps.app (keeps_updSrc ..)); case hs => exact rfl)
    | ((with_reducible apply Keeps.app (keeps_settleAfter ..)); case hs => exact rfl)
    | with_reducible apply Keeps.ite
    | intro _
    | split)

theorem keeps_excDischargeComplete (k : Fin 64) (s : State) :
    Keeps [.now, .term, .src, .ch, .bell] s (excDischargeComplete k s) := by
  unfold excDischargeComplete
  dsimp only
  repeat (first
    | with_reducible exact Keeps.refl _ _
    | ((with_reducible apply Keeps.app (keeps_endStop ..)); case hs => exact rfl)
    | ((with_reducible apply Keeps.app (keeps_reach ..)); case hs => exact rfl)
    | with_reducible apply Keeps.ite
    | intro _)

theorem keeps_excDischargeTimeout (k : Fin 64) (s : State) :
    Keeps [.now, .term, .src, .ch, .bell] s (excDischargeTimeout k s) := by
  unfold excDischargeTimeout
  dsimp only
  repeat (first
    | with_reducible exact Keeps.refl _ _
    | ((with_reducible apply Keeps.app (keeps_endStop ..)); case hs => exact rfl)
    | ((with_reducible apply Keeps.app (keeps_reach ..)); case hs => exact rfl)
    | with_reducible apply Keeps.ite
    | intro _)

theorem keeps_complianceSet (k : Fin 64) (s : State) :
    Keeps [.src] s (complianceSet k s) := by
  unfold complianceSet
  repeat (first
    | with_reducible exact Keeps.refl _ _
    | ((with_reducible apply Keeps.app (keeps_updSrc ..)); case hs => exact rfl)
    | with_reducible apply Keeps.ite
    | intro _)

theorem keeps_unsettledSpanEnd (ch : Fin 64) (s : State) :
    Keeps [.now, .ch] s (unsettledSpanEnd ch s) := by
  unfold unsettledSpanEnd
  repeat (first
    | with_reducible exact Keeps.refl _ _
    | ((with_reducible apply Keeps.app (keeps_updCh ..)); case hs => exact rfl)
    | ((with_reducible apply Keeps.app (keeps_reach ..)); case hs => exact rfl)
    | split)

theorem keeps_voidNamed (s : State) (t : Nat) :
    Keeps [.cg] s (State.voidNamed s t) := by
  unfold State.voidNamed
  dsimp only
  repeat (first
    | with_reducible exact Keeps.refl _ _
    | with_reducible apply Keeps.foldl
    | ((with_reducible apply Keeps.app (keeps_updCg ..)); case hs => exact rfl)
    | with_reducible apply Keeps.ite
    | intro _
    | split)

theorem keeps_clampFlagSet (t : Fin 192) (conducting : Bool) (s : State) :
    Keeps [.term, .cg] s (clampFlagSet t conducting s) := by
  unfold clampFlagSet
  dsimp only
  repeat (first
    | with_reducible exact Keeps.refl _ _
    | ((with_reducible apply Keeps.app (keeps_voidNamed ..)); case hs => exact rfl)
    | with_reducible apply Keeps.ite
    | intro _
    | ((with_reducible apply Keeps.app (keeps_set_term ..)); case hs => exact rfl))

theorem keeps_setClamps (s : State) (k : Fin 6) (live : BitVec 32) :
    Keeps [.term] s (State.setClamps s k live) := by
  unfold State.setClamps
  repeat (first
    | with_reducible exact Keeps.refl _ _
    | ((with_reducible apply Keeps.app (keeps_set_term ..)); case hs => exact rfl))

theorem keeps_clfWrite (k : Nat) (value : Nat) (s : State) :
    Keeps [.term] s (clfWrite k value s) := by
  unfold clfWrite
  dsimp only
  repeat (first
    | with_reducible exact Keeps.refl _ _
    | ((with_reducible apply Keeps.app (keeps_set_term ..)); case hs => exact rfl))

theorem keeps_holdWrite (high : Bool) (value : Nat) (s : State) :
    Keeps [.term, .src, .ch, .bell] s (holdWrite high value s) := by
  unfold holdWrite
  dsimp only
  repeat (first
    | with_reducible exact Keeps.refl _ _
    | with_reducible apply Keeps.foldl
    | ((with_reducible apply Keeps.app (keeps_issueStop ..)); case hs => exact rfl)
    | ((with_reducible apply Keeps.app (keeps_issueStart ..)); case hs => exact rfl)
    | with_reducible apply Keeps.ite
    | intro _
    | ((with_reducible apply Keeps.app (keeps_set_term ..)); case hs => exact rfl))

theorem keeps_raiseSourceDown (s : State) :
    Keeps [.fresh, .cg, .hg, .head, .bell, .tally, .trk] s (State.raiseSourceDown s) := by
  unfold State.raiseSourceDown
  repeat (first
    | with_reducible exact Keeps.refl _ _
    | with_reducible apply Keeps.foldl
    | ((with_reducible apply Keeps.app (keeps_guardCauseRaised ..)); case hs => exact rfl)
    | intro _)

theorem keeps_setVexcLow (s : State) (b : Bool) :
    Keeps [.power] s (State.setVexcLow s b) := by
  unfold State.setVexcLow
  repeat (first
    | with_reducible exact Keeps.refl _ _
    | ((with_reducible apply Keeps.app (keeps_set_power ..)); case hs => exact rfl))

theorem keeps_vexcLowSet (s : State) :
    Keeps [.fresh, .power, .cg, .hg, .head, .bell, .tally, .trk] s (vexcLowSet s) := by
  unfold vexcLowSet
  repeat (first
    | with_reducible exact Keeps.refl _ _
    | ((with_reducible apply Keeps.app (keeps_setVexcLow ..)); case hs => exact rfl)
    | with_reducible apply Keeps.whenAlive
    | ((with_reducible apply Keeps.app (keeps_raiseSourceDown ..)); case hs => exact rfl)
    | intro _)

theorem keeps_issuePending (s : State) :
    Keeps [.term, .src, .ch, .bell] s (State.issuePending s) := by
  unfold State.issuePending
  repeat (first
    | with_reducible exact Keeps.refl _ _
    | with_reducible apply Keeps.foldl
    | ((with_reducible apply Keeps.app (keeps_issueStart ..)); case hs => exact rfl)
    | ((with_reducible apply Keeps.app (keeps_updSrc ..)); case hs => exact rfl)
    | with_reducible apply Keeps.ite
    | intro _)

theorem keeps_vexcLowClear (s : State) :
    Keeps [.power, .term, .src, .ch, .bell] s (vexcLowClear s) := by
  unfold vexcLowClear
  repeat (first
    | with_reducible exact Keeps.refl _ _
    | ((with_reducible apply Keeps.app (keeps_setVexcLow ..)); case hs => exact rfl)
    | ((with_reducible apply Keeps.app (keeps_issuePending ..)); case hs => exact rfl)
    | with_reducible apply Keeps.whenAlive
    | with_reducible apply Keeps.ite
    | intro _)

theorem keeps_excReset (s : State) :
    Keeps [.power, .term, .src] s (State.excReset s) := by
  unfold State.excReset
  repeat (first
    | with_reducible exact Keeps.refl _ _
    | ((with_reducible apply Keeps.app (keeps_set_power_term_src ..)); case hs => exact rfl))

theorem keeps_startAll (s : State) :
    Keeps [.term, .src, .ch, .bell] s (State.startAll s) := by
  unfold State.startAll
  repeat (first
    | with_reducible exact Keeps.refl _ _
    | with_reducible apply Keeps.foldl
    | ((with_reducible apply Keeps.app (keeps_issueStart ..)); case hs => exact rfl)
    | with_reducible apply Keeps.ite
    | intro _)

theorem keeps_stopAll (s : State) :
    Keeps [.term, .src, .bell] s (State.stopAll s) := by
  unfold State.stopAll
  repeat (first
    | with_reducible exact Keeps.refl _ _
    | with_reducible apply Keeps.foldl
    | ((with_reducible apply Keeps.app (keeps_issueStop ..)); case hs => exact rfl)
    | intro _)

theorem keeps_moveCurrent (s : State) (k : Fin 64) :
    Keeps [.src, .ch, .bell] s (State.moveCurrent s k) := by
  unfold State.moveCurrent
  repeat (first
    | with_reducible exact Keeps.refl _ _
    | ((with_reducible apply Keeps.app (keeps_issueCurrent ..)); case hs => exact rfl)
    | ((with_reducible apply Keeps.app (keeps_withdraw ..)); case hs => exact rfl)
    | with_reducible apply Keeps.ite
    | intro _
    | split)

theorem keeps_excActivate (s : State) (old : CfgMap) (k : Fin 64) :
    Keeps [.term, .src, .ch, .bell] s (State.excActivate s old k) := by
  unfold State.excActivate
  dsimp only
  repeat (first
    | with_reducible exact Keeps.refl _ _
    | ((with_reducible apply Keeps.app (keeps_issueStop ..)); case hs => exact rfl)
    | ((with_reducible apply Keeps.app (keeps_issueCurrent ..)); case hs => exact rfl)
    | ((with_reducible apply Keeps.app (keeps_issueStart ..)); case hs => exact rfl)
    | ((with_reducible apply Keeps.app (keeps_moveCurrent ..)); case hs => exact rfl)
    | ((with_reducible apply Keeps.app (keeps_withdraw ..)); case hs => exact rfl)
    | ((with_reducible apply Keeps.app (keeps_updSrc ..)); case hs => exact rfl)
    | with_reducible apply Keeps.ite
    | intro _
    | split)

theorem keeps_raiseRange (s : State) (ch : Fin 64) (finer : Bool) :
    Keeps [.ch, .bell] s (State.raiseRange s ch finer) := by
  unfold State.raiseRange
  dsimp only
  repeat (first
    | with_reducible exact Keeps.refl _ _
    | ((with_reducible apply Keeps.app (keeps_offer ..)); case hs => exact rfl)
    | ((with_reducible apply Keeps.app (keeps_carryRange ..)); case hs => exact rfl)
    | ((with_reducible apply Keeps.app (keeps_updCh ..)); case hs => exact rfl)
    | with_reducible apply Keeps.ite
    | intro _
    | split)

theorem keeps_rangeMonitor (s : State) (ch : Fin 64) (m : StageOut) :
    Keeps [.ch, .bell] s (State.rangeMonitor s ch m) := by
  unfold State.rangeMonitor
  dsimp only
  repeat (first
    | with_reducible exact Keeps.refl _ _
    | ((with_reducible apply Keeps.app (keeps_carryRange ..)); case hs => exact rfl)
    | ((with_reducible apply Keeps.app (keeps_raiseRange ..)); case hs => exact rfl)
    | ((with_reducible apply Keeps.app (keeps_updCh ..)); case hs => exact rfl)
    | ((with_reducible apply Keeps.app (keeps_dropRange ..)); case hs => exact rfl)
    | with_reducible apply Keeps.ite
    | intro _)

theorem keeps_channelSample (ch : Fin 64) (x : SampleIn) (s : State) :
    Keeps [.now, .fresh, .ch, .cg, .head, .bell, .tally, .trk] s (channelSample ch x s) := by
  unfold channelSample
  dsimp only
  repeat (first
    | with_reducible exact Keeps.refl _ _
    | with_reducible apply Keeps.foldl
    | ((with_reducible apply Keeps.app (keeps_rangeMonitor ..)); case hs => exact rfl)
    | ((with_reducible apply Keeps.app (keeps_updHead ..)); case hs => exact rfl)
    | ((with_reducible apply Keeps.app (keeps_updCg ..)); case hs => exact rfl)
    | ((with_reducible apply Keeps.app (keeps_draw ..)); case hs => exact rfl)
    | ((with_reducible apply Keeps.app (keeps_updCh ..)); case hs => exact rfl)
    | ((with_reducible apply Keeps.app (keeps_reach ..)); case hs => exact rfl)
    | ((with_reducible apply Keeps.app (keeps_wreSample ..)); case hs => exact rfl)
    | with_reducible apply Keeps.ite
    | intro _)

theorem keeps_overloadForced (ch : Fin 64) (s : State) :
    Keeps [.now, .ch, .cg, .bell] s (overloadForced ch s) := by
  unfold overloadForced
  dsimp only
  repeat (first
    | with_reducible exact Keeps.refl _ _
    | ((with_reducible apply Keeps.app (keeps_changeRange ..)); case hs => exact rfl)
    | ((with_reducible apply Keeps.app (keeps_updCg ..)); case hs => exact rfl)
    | ((with_reducible apply Keeps.app (keeps_updCh ..)); case hs => exact rfl)
    | ((with_reducible apply Keeps.app (keeps_reach ..)); case hs => exact rfl)
    | ((with_reducible apply Keeps.app (keeps_dropRange ..)); case hs => exact rfl)
    | with_reducible apply Keeps.ite
    | intro _)

theorem keeps_rangeFiner (ch : Fin 64) (s : State) :
    Keeps [.now, .ch, .bell] s (rangeFiner ch s) := by
  unfold rangeFiner
  dsimp only
  repeat (first
    | with_reducible exact Keeps.refl _ _
    | ((with_reducible apply Keeps.app (keeps_raiseRange ..)); case hs => exact rfl)
    | ((with_reducible apply Keeps.app (keeps_reach ..)); case hs => exact rfl)
    | with_reducible apply Keeps.ite
    | intro _)

theorem keeps_channelActivate (s : State) (old : CfgMap) (ch : Fin 64) :
    Keeps [.ch, .bell] s (State.channelActivate s old ch) := by
  unfold State.channelActivate
  dsimp only
  repeat (first
    | with_reducible exact Keeps.refl _ _
    | ((with_reducible apply Keeps.app (keeps_withdraw ..)); case hs => exact rfl)
    | ((with_reducible apply Keeps.app (keeps_updCh ..)); case hs => exact rfl)
    | ((with_reducible apply Keeps.app (keeps_dropRange ..)); case hs => exact rfl)
    | with_reducible apply Keeps.ite
    | intro _)

theorem keeps_updEntry (s : State) (i : Fin 128) (f : Entry → Entry) :
    Keeps [.trk] s (State.updEntry s i f) := by
  unfold State.updEntry
  repeat (first
    | with_reducible exact Keeps.refl _ _
    | ((with_reducible apply Keeps.app (keeps_set_trk ..)); case hs => exact rfl))

theorem keeps_updTrack (s : State) (f : TrackCounts → TrackCounts) :
    Keeps [.trk] s (State.updTrack s f) := by
  unfold State.updTrack
  repeat (first
    | with_reducible exact Keeps.refl _ _
    | ((with_reducible apply Keeps.app (keeps_set_trk ..)); case hs => exact rfl))

theorem keeps_noteRoom (s : State) :
    Keeps [.trk] s (State.noteRoom s) := by
  unfold State.noteRoom
  repeat (first
    | with_reducible exact Keeps.refl _ _
    | with_reducible apply Keeps.ite
    | intro _
    | ((with_reducible apply Keeps.app (keeps_set_trk ..)); case hs => exact rfl))

theorem keeps_joinResidue (s : State) (i : Fin 128) :
    Keeps [.trk] s (State.joinResidue s i) := by
  unfold State.joinResidue
  dsimp only
  repeat (first
    | with_reducible exact Keeps.refl _ _
    | with_reducible apply Keeps.ite
    | intro _
    | split
    | ((with_reducible apply Keeps.app (keeps_set_trk ..)); case hs => exact rfl))

theorem keeps_freeEntry (s : State) (i : Fin 128) :
    Keeps [.trk] s (State.freeEntry s i) := by
  unfold State.freeEntry
  repeat (first
    | with_reducible exact Keeps.refl _ _
    | ((with_reducible apply Keeps.app (keeps_updEntry ..)); case hs => exact rfl))

theorem keeps_linkPred (s : State) (e : Fin 128) (p : Fin 128) (d : Rat) (time : Nat) :
    Keeps [.trk] s (State.linkPred s e p d time) := by
  unfold State.linkPred
  dsimp only
  repeat (first
    | with_reducible exact Keeps.refl _ _
    | ((with_reducible apply Keeps.app (keeps_updEntry ..)); case hs => exact rfl)
    | ((with_reducible apply Keeps.app (keeps_set_trk ..)); case hs => exact rfl))

theorem keeps_unlinkPred (s : State) (e : Fin 128) (p : Fin 128) :
    Keeps [.trk] s (State.unlinkPred s e p) := by
  unfold State.unlinkPred
  dsimp only
  repeat (first
    | with_reducible exact Keeps.refl _ _
    | ((with_reducible apply Keeps.app (keeps_updEntry ..)); case hs => exact rfl)
    | with_reducible apply Keeps.ite
    | intro _
    | ((with_reducible apply Keeps.app (keeps_set_trk ..)); case hs => exact rfl))

theorem keeps_matchEntry (n : Nat) (s : State) (e : Fin 128) (excl : List (Fin 128)) :
    Keeps [.fresh, .head, .tally, .trk] s (matchEntry n s e excl) := by
  induction n generalizing s e excl with
  | zero => exact Keeps.refl _ _
  | succ n ih =>
    unfold matchEntry
    dsimp only
    repeat (first
      | with_reducible exact Keeps.refl _ _
      | with_reducible exact ih ..
      | (with_reducible apply Keeps.trans; (rotate_left; with_reducible apply ih))
      | ((with_reducible apply Keeps.app (keeps_linkPred ..)); case hs => exact rfl)
      | ((with_reducible apply Keeps.app (keeps_unlinkPred ..)); case hs => exact rfl)
      | ((with_reducible apply Keeps.app (keeps_updTrack ..)); case hs => exact rfl)
      | ((with_reducible apply Keeps.app (keeps_raiseClaimTie ..)); case hs => exact rfl)
      | split)

theorem keeps_numberAxles (s : State) :
    Keeps [.trk] s (State.numberAxles s) := by
  unfold State.numberAxles
  dsimp only
  repeat (first
    | with_reducible exact Keeps.refl _ _
    | with_reducible apply Keeps.foldl
    | ((with_reducible apply Keeps.app (keeps_updEntry ..)); case hs => exact rfl)
    | with_reducible apply Keeps.ite
    | intro _
    | ((with_reducible apply Keeps.app (keeps_set_trk ..)); case hs => exact rfl))

theorem keeps_takeEntry (s : State) :
    Keeps [.trk] s (State.takeEntry s).1 := by
  unfold State.takeEntry
  repeat (first
    | with_reducible exact Keeps.refl _ _
    | ((with_reducible apply Keeps.app (keeps_freeEntry ..)); case hs => exact rfl)
    | ((with_reducible apply Keeps.app (keeps_updTrack ..)); case hs => exact rfl)
    | ((with_reducible apply Keeps.app (keeps_joinResidue ..)); case hs => exact rfl)
    | split)

theorem keeps_triggerEvent (h : Fin 32) (neg : Bool) (time : Nat) (s : State) :
    Keeps [.fresh, .head, .tally, .trk] s (triggerEvent h neg time s) := by
  unfold triggerEvent
  extract_lets c s0 _ s1
  have h0 : Keeps [.fresh, .head, .tally, .trk] s s0 := (keeps_updHead ..).mono rfl
  split
  · exact h0
  · have h1 := h0.trans ((keeps_set_trk s0 { s0.trk with claims := s0.trk.claims.filter (fun k => k.time == time) }).mono rfl)
    change Keeps _ s s1 at h1
    clear_value s1
    have h2 := h1.trans ((keeps_takeEntry s1).mono rfl)
    split
    · rename_i s2 e
      rw [e] at h2
      exact h2.trans ((keeps_set_trk ..).mono rfl)
    · rename_i s2 i e
      rw [e] at h2
      dsimp only at h2 ⊢
      repeat (first
        | with_reducible exact h2
        | ((with_reducible apply Keeps.app (keeps_noteRoom ..)); case hs => exact rfl)
        | ((with_reducible apply Keeps.app (keeps_toTally ..)); case hs => exact rfl)
        | ((with_reducible apply Keeps.app (keeps_numberAxles ..)); case hs => exact rfl)
        | ((with_reducible apply Keeps.app (keeps_matchEntry ..)); case hs => exact rfl)
        | ((with_reducible apply Keeps.app (keeps_updTrack ..)); case hs => exact rfl)
        | ((with_reducible apply Keeps.app (keeps_updEntry ..)); case hs => exact rfl))

theorem keeps_confirmEntry (s : State) (h : Fin 32) (v : VerdictRec) (i : Fin 128) :
    Keeps [.tally, .trk] s (State.confirmEntry s h v i) := by
  unfold State.confirmEntry
  dsimp only
  repeat (first
    | with_reducible exact Keeps.refl _ _
    | ((with_reducible apply Keeps.app (keeps_freeEntry ..)); case hs => exact rfl)
    | ((with_reducible apply Keeps.app (keeps_updTrack ..)); case hs => exact rfl)
    | ((with_reducible apply Keeps.app (keeps_joinGroup ..)); case hs => exact rfl)
    | ((with_reducible apply Keeps.app (keeps_toTally ..)); case hs => exact rfl)
    | ((with_reducible apply Keeps.app (keeps_updEntry ..)); case hs => exact rfl)
    | split)

theorem keeps_confirmOnly (s : State) (h : Fin 32) (v : VerdictRec) :
    Keeps [.tally, .trk] s (State.confirmOnly s h v) := by
  unfold State.confirmOnly
  dsimp only
  repeat (first
    | with_reducible exact Keeps.refl _ _
    | ((with_reducible apply Keeps.app (keeps_updTrack ..)); case hs => exact rfl)
    | ((with_reducible apply Keeps.app (keeps_joinGroup ..)); case hs => exact rfl)
    | ((with_reducible apply Keeps.app (keeps_toTally ..)); case hs => exact rfl))

theorem keeps_refuteEntry (s : State) (h : Fin 32) (v : VerdictRec) (i : Fin 128) :
    Keeps [.tally, .trk] s (State.refuteEntry s h v i) := by
  unfold State.refuteEntry
  dsimp only
  repeat (first
    | with_reducible exact Keeps.refl _ _
    | ((with_reducible apply Keeps.app (keeps_freeEntry ..)); case hs => exact rfl)
    | ((with_reducible apply Keeps.app (keeps_updTrack ..)); case hs => exact rfl)
    | ((with_reducible apply Keeps.app (keeps_toTally ..)); case hs => exact rfl)
    | ((with_reducible apply Keeps.app (keeps_updEntry ..)); case hs => exact rfl)
    | split)

theorem keeps_takeVerdict (s : State) (h : Fin 32) (v : VerdictRec) :
    Keeps [.head] s (State.takeVerdict s h v) := by
  unfold State.takeVerdict
  repeat (first
    | with_reducible exact Keeps.refl _ _
    | ((with_reducible apply Keeps.app (keeps_updHead ..)); case hs => exact rfl)
    | with_reducible apply Keeps.ite
    | intro _)

theorem keeps_traversalVerdict (h : Fin 32) (v : VerdictRec) (s : State) :
    Keeps [.head, .tally, .trk] s (traversalVerdict h v s) := by
  unfold traversalVerdict
  dsimp only
  repeat (first
    | with_reducible exact Keeps.refl _ _
    | ((with_reducible apply Keeps.app (keeps_confirmOnly ..)); case hs => exact rfl)
    | ((with_reducible apply Keeps.app (keeps_refuteEntry ..)); case hs => exact rfl)
    | ((with_reducible apply Keeps.app (keeps_takeVerdict ..)); case hs => exact rfl)
    | ((with_reducible apply Keeps.app (keeps_confirmEntry ..)); case hs => exact rfl)
    | ((with_reducible apply Keeps.app (keeps_noteRoom ..)); case hs => exact rfl)
    | with_reducible apply Keeps.ite
    | intro _
    | split)

theorem keeps_trackerWindowUpdate (s : State) :
    Keeps [.now, .head, .trk] s (trackerWindowUpdate s) := by
  unfold trackerWindowUpdate
  dsimp only
  repeat (first
    | with_reducible exact Keeps.refl _ _
    | with_reducible apply Keeps.foldl
    | ((with_reducible apply Keeps.app (keeps_updHead ..)); case hs => exact rfl)
    | ((with_reducible apply Keeps.app (keeps_reach ..)); case hs => exact rfl)
    | with_reducible apply Keeps.ite
    | intro _
    | ((with_reducible apply Keeps.app (keeps_set_trk ..)); case hs => exact rfl))

theorem keeps_predictionFailed (i : Fin 128) (s : State) :
    Keeps [.now, .tally, .trk] s (predictionFailed i s) := by
  unfold predictionFailed
  dsimp only
  repeat (first
    | with_reducible exact Keeps.refl _ _
    | ((with_reducible apply Keeps.app (keeps_freeEntry ..)); case hs => exact rfl)
    | ((with_reducible apply Keeps.app (keeps_updTrack ..)); case hs => exact rfl)
    | ((with_reducible apply Keeps.app (keeps_toTally ..)); case hs => exact rfl)
    | ((with_reducible apply Keeps.app (keeps_reach ..)); case hs => exact rfl)
    | ((with_reducible apply Keeps.app (keeps_noteRoom ..)); case hs => exact rfl)
    | ((with_reducible apply Keeps.app (keeps_joinResidue ..)); case hs => exact rfl)
    | split)

theorem keeps_trackerFullClear (s : State) :
    Keeps [.now, .trk] s (trackerFullClear s) := by
  unfold trackerFullClear
  dsimp only
  repeat (first
    | with_reducible exact Keeps.refl _ _
    | ((with_reducible apply Keeps.app (keeps_reach ..)); case hs => exact rfl)
    | with_reducible apply Keeps.ite
    | intro _
    | split
    | ((with_reducible apply Keeps.app (keeps_set_trk ..)); case hs => exact rfl))

theorem keeps_releaseSurplus (k : Nat) (s : State) (n : Fin 48) (h : Option Nat) :
    Keeps [.trk] s (releaseSurplus k s n h) := by
  induction k generalizing s with
  | zero => exact Keeps.refl _ _
  | succ k ih =>
    unfold releaseSurplus
    split
    · split
      · exact Keeps.trans (((keeps_freeEntry ..)).trans (keeps_updTrack ..)) (ih ..)
      · exact Keeps.refl _ _
    · exact Keeps.refl _ _

theorem keeps_trackerActivate (s : State) :
    Keeps [.tally, .trk] s (State.trackerActivate s) := by
  unfold State.trackerActivate
  dsimp only
  repeat (first
    | with_reducible exact Keeps.refl _ _
    | with_reducible apply Keeps.foldl
    | ((with_reducible apply Keeps.app (keeps_updTrack ..)); case hs => exact rfl)
    | ((with_reducible apply Keeps.app (keeps_toTally ..)); case hs => exact rfl)
    | ((with_reducible apply Keeps.app (keeps_noteRoom ..)); case hs => exact rfl)
    | with_reducible apply Keeps.ite
    | intro _
    | ((with_reducible apply Keeps.app (keeps_set_trk ..)); case hs => exact rfl))

theorem keeps_ring (s : State) (o : Offer) :
    Keeps [.bell] s (State.ring s o) := by
  unfold State.ring
  dsimp only
  repeat (first
    | with_reducible exact Keeps.refl _ _
    | ((with_reducible apply Keeps.app (keeps_set_bell ..)); case hs => exact rfl))

theorem keeps_judgeOffers (s : State) :
    Keeps [.bell] s (State.judgeOffers s) := by
  unfold State.judgeOffers
  repeat (first
    | with_reducible exact Keeps.refl _ _
    | with_reducible apply Keeps.foldl
    | ((with_reducible apply Keeps.app (keeps_ring ..)); case hs => exact rfl)
    | with_reducible apply Keeps.ite
    | intro _)

theorem keeps_carry (s : State) (o : Offer) :
    Keeps [.term, .src, .ch, .cg, .head, .bell] s (State.carry s o) := by
  unfold State.carry
  repeat (first
    | with_reducible exact Keeps.refl _ _
    | ((with_reducible apply Keeps.app (keeps_startCheck ..)); case hs => exact rfl)
    | ((with_reducible apply Keeps.app (keeps_updHead ..)); case hs => exact rfl)
    | ((with_reducible apply Keeps.app (keeps_applyCurrent ..)); case hs => exact rfl)
    | ((with_reducible apply Keeps.app (keeps_oneRange ..)); case hs => exact rfl)
    | ((with_reducible apply Keeps.app (keeps_startNow ..)); case hs => exact rfl)
    | split)

theorem keeps_carryAll (s : State) :
    Keeps [.term, .src, .ch, .cg, .head, .bell] s (State.carryAll s) := by
  unfold State.carryAll
  repeat (first
    | with_reducible exact Keeps.refl _ _
    | with_reducible apply Keeps.foldl
    | ((with_reducible apply Keeps.app (keeps_carry ..)); case hs => exact rfl)
    | intro _
    | ((with_reducible apply Keeps.app (keeps_set_bell ..)); case hs => exact rfl))

theorem keeps_requestRebase (s : State) (h : Fin 32) :
    Keeps [.bell] s (State.requestRebase s h) := by
  unfold State.requestRebase
  repeat (first
    | with_reducible exact Keeps.refl _ _
    | ((with_reducible apply Keeps.app (keeps_offer ..)); case hs => exact rfl)
    | with_reducible apply Keeps.ite
    | intro _)

theorem keeps_abandonRebase (s : State) (h : Fin 32) :
    Keeps [.head, .bell] s (State.abandonRebase s h) := by
  unfold State.abandonRebase
  dsimp only
  repeat (first
    | with_reducible exact Keeps.refl _ _
    | ((with_reducible apply Keeps.app (keeps_requestRebase ..)); case hs => exact rfl)
    | ((with_reducible apply Keeps.app (keeps_updHead ..)); case hs => exact rfl)
    | intro _
    | ((with_reducible apply Keeps.app (keeps_set_bell ..)); case hs => exact rfl))

theorem keeps_rebaseRequest (h : Fin 32) (s : State) :
    Keeps [.now, .bell] s (rebaseRequest h s) := by
  unfold rebaseRequest
  dsimp only
  repeat (first
    | with_reducible exact Keeps.refl _ _
    | ((with_reducible apply Keeps.app (keeps_requestRebase ..)); case hs => exact rfl)
    | ((with_reducible apply Keeps.app (keeps_reachFree ..)); case hs => exact rfl)
    | with_reducible apply Keeps.ite
    | intro _)

theorem keeps_rebaseComplete (h : Fin 32) (s : State) :
    Keeps [.now, .head, .bell] s (rebaseComplete h s) := by
  unfold rebaseComplete
  dsimp only
  repeat (first
    | with_reducible exact Keeps.refl _ _
    | ((with_reducible apply Keeps.app (keeps_updHead ..)); case hs => exact rfl)
    | ((with_reducible apply Keeps.app (keeps_reach ..)); case hs => exact rfl)
    | split
    | ((with_reducible apply Keeps.app (keeps_set_bell ..)); case hs => exact rfl))

theorem keeps_freeLost (s : State) (h : Fin 32) :
    Keeps [.fresh, .ch, .cg, .hg, .head, .bell, .tally, .trk, .log] s (State.freeLost s h) := by
  unfold State.freeLost
  dsimp only
  repeat (first
    | with_reducible exact Keeps.refl _ _
    | with_reducible apply Keeps.foldl
    | ((with_reducible apply Keeps.app (keeps_abandonRebase ..)); case hs => exact rfl)
    | ((with_reducible apply Keeps.app (keeps_abandonCheck ..)); case hs => exact rfl)
    | with_reducible apply Keeps.ite
    | intro _
    | split
    | ((with_reducible apply Keeps.app (keeps_set_bell ..)); case hs => exact rfl))

theorem keeps_lookHead (s : State) (h : Fin 32) :
    Keeps [.fresh, .ch, .cg, .hg, .head, .bell, .tally, .trk, .log] s (State.lookHead s h) := by
  unfold State.lookHead
  dsimp only
  repeat (first
    | with_reducible exact Keeps.refl _ _
    | ((with_reducible apply Keeps.app (keeps_freeLost ..)); case hs => exact rfl)
    | with_reducible apply Keeps.ite
    | intro _
    | ((with_reducible apply Keeps.app (keeps_set_bell ..)); case hs => exact rfl))

theorem keeps_bellStep (s : State) :
    Keeps [.now, .fresh, .term, .src, .ch, .cg, .hg, .head, .bell, .tally, .trk, .log] s (bellStep s) := by
  unfold bellStep
  dsimp only
  repeat (first
    | with_reducible exact Keeps.refl _ _
    | with_reducible apply Keeps.foldl
    | ((with_reducible apply Keeps.app (keeps_lookHead ..)); case hs => exact rfl)
    | ((with_reducible apply Keeps.app (keeps_carryAll ..)); case hs => exact rfl)
    | ((with_reducible apply Keeps.app (keeps_judgeOffers ..)); case hs => exact rfl)
    | ((with_reducible apply Keeps.app (keeps_reach ..)); case hs => exact rfl)
    | intro _
    | ((with_reducible apply Keeps.app (keeps_set_bell ..)); case hs => exact rfl))

theorem keeps_bellActivate (s : State) :
    Keeps [.head, .bell] s (State.bellActivate s) := by
  unfold State.bellActivate
  dsimp only
  repeat (first
    | with_reducible exact Keeps.refl _ _
    | with_reducible apply Keeps.foldl
    | ((with_reducible apply Keeps.app (keeps_abandonRebase ..)); case hs => exact rfl)
    | with_reducible apply Keeps.ite
    | intro _
    | ((with_reducible apply Keeps.app (keeps_set_bell ..)); case hs => exact rfl))

theorem keeps_bellBoot (s : State) :
    Keeps [.fresh, .term, .src, .ch, .cg, .hg, .head, .bell, .tally, .trk, .log] s (State.bellBoot s) := by
  unfold State.bellBoot
  repeat (first
    | with_reducible exact Keeps.refl _ _
    | with_reducible apply Keeps.foldl
    | ((with_reducible apply Keeps.app (keeps_lookHead ..)); case hs => exact rfl)
    | ((with_reducible apply Keeps.app (keeps_carryAll ..)); case hs => exact rfl)
    | ((with_reducible apply Keeps.app (keeps_judgeOffers ..)); case hs => exact rfl)
    | intro _)

theorem keeps_wreActivate (old : CfgMap) (s : State) :
    Keeps [.fresh, .head, .tally, .trk] s (State.wreActivate old s) := by
  unfold State.wreActivate
  repeat (first
    | with_reducible exact Keeps.refl _ _
    | with_reducible apply Keeps.foldl
    | ((with_reducible apply Keeps.app (keeps_updHead ..)); case hs => exact rfl)
    | ((with_reducible apply Keeps.app (keeps_breakHead ..)); case hs => exact rfl)
    | intro _)

end Sys2Proof.Machine
end

