-- ==== Sys2Proof/Laws/FrameLogic.lean ====
section
/-! SUPPORT. The frame of every operation on the state, one lemma each: permits, Tally, ledger, engine and twin. -/

namespace Sys2Proof.Machine

theorem keeps_permitsLow (s : State) :
    Keeps [.permits] s (State.permitsLow s) := by
  unfold State.permitsLow
  repeat (first
    | with_reducible exact Keeps.refl _ _
    | ((with_reducible apply Keeps.app (keeps_set_permits ..)); case hs => exact rfl))

theorem keeps_applyRefresh (s : State) (r : Refresh) :
    Keeps [.permits] s (State.applyRefresh s r) := by
  unfold State.applyRefresh
  dsimp only
  repeat (first
    | with_reducible exact Keeps.refl _ _
    | with_reducible apply Keeps.foldl
    | ((with_reducible apply Keeps.app (keeps_updPermit ..)); case hs => exact rfl)
    | with_reducible apply Keeps.ite
    | intro _
    | ((with_reducible apply Keeps.app (keeps_set_permits ..)); case hs => exact rfl))

theorem keeps_permitOutputs (s : State) (assigned : BitVec 16) :
    Keeps [.permits] s (State.permitOutputs s assigned) := by
  unfold State.permitOutputs
  repeat (first
    | with_reducible exact Keeps.refl _ _
    | with_reducible apply Keeps.foldl
    | ((with_reducible apply Keeps.app (keeps_updPermit ..)); case hs => exact rfl)
    | with_reducible apply Keeps.ite
    | intro _)

theorem keeps_holdPermit (s : State) (w : PermitWrite) :
    Keeps [.twin] s (State.holdPermit s w) := by
  unfold State.holdPermit
  repeat (first
    | with_reducible exact Keeps.refl _ _
    | with_reducible apply Keeps.ite
    | intro _
    | ((with_reducible apply Keeps.app (keeps_set_twin ..)); case hs => exact rfl))

theorem keeps_unlockUnassigned (s : State) :
    Keeps [.permits] s (State.unlockUnassigned s) := by
  unfold State.unlockUnassigned
  repeat (first
    | with_reducible exact Keeps.refl _ _
    | with_reducible apply Keeps.foldl
    | ((with_reducible apply Keeps.app (keeps_updPermit ..)); case hs => exact rfl)
    | intro _)

theorem keeps_permitActivate (s : State) :
    Keeps [.permits, .twin] s (State.permitActivate s) := by
  unfold State.permitActivate
  repeat (first
    | with_reducible exact Keeps.refl _ _
    | ((with_reducible apply Keeps.app (keeps_unlockUnassigned ..)); case hs => exact rfl)
    | ((with_reducible apply Keeps.app (keeps_holdPermit ..)); case hs => exact rfl))

theorem keeps_lockOut (s : State) (mask : BitVec 16) (cause : BitVec 4) :
    Keeps [.permits] s (State.lockOut s mask cause) := by
  unfold State.lockOut
  repeat (first
    | with_reducible exact Keeps.refl _ _
    | with_reducible apply Keeps.foldl
    | ((with_reducible apply Keeps.app (keeps_updPermit ..)); case hs => exact rfl)
    | with_reducible apply Keeps.ite
    | intro _)

theorem keeps_lockReadback (s : State) (q : Fin 16) :
    Keeps [.permits] s (State.lockReadback s q) := by
  unfold State.lockReadback
  dsimp only
  repeat (first
    | with_reducible exact Keeps.refl _ _
    | with_reducible apply Keeps.foldl
    | ((with_reducible apply Keeps.app (keeps_updPermit ..)); case hs => exact rfl)
    | with_reducible apply Keeps.ite
    | intro _)

theorem keeps_lockRemove (s : State) :
    Keeps [.permits] s (State.lockRemove s) := by
  unfold State.lockRemove
  dsimp only
  repeat (first
    | with_reducible exact Keeps.refl _ _
    | with_reducible apply Keeps.foldl
    | ((with_reducible apply Keeps.app (keeps_updPermit ..)); case hs => exact rfl)
    | with_reducible apply Keeps.ite
    | intro _)

theorem keeps_permitRecord (s : State) (r : Refresh) (p : Fin 16) :
    Keeps [.permits, .log] s (State.permitRecord s r p) := by
  unfold State.permitRecord
  dsimp only
  repeat (first
    | with_reducible exact Keeps.refl _ _
    | ((with_reducible apply Keeps.app (keeps_updPermit ..)); case hs => exact rfl)
    | ((with_reducible apply Keeps.app (keeps_record ..)); case hs => exact rfl)
    | with_reducible apply Keeps.ite
    | intro _)

theorem keeps_permitRecords (s : State) (r : Refresh) :
    Keeps [.permits, .log] s (State.permitRecords s r) := by
  unfold State.permitRecords
  repeat (first
    | with_reducible exact Keeps.refl _ _
    | with_reducible apply Keeps.foldl
    | ((with_reducible apply Keeps.app (keeps_permitRecord ..)); case hs => exact rfl)
    | intro _)

theorem keeps_permitDueEdge (p : Fin 16) (s : State) :
    Keeps [.now, .permits] s (permitDueEdge p s) := by
  unfold permitDueEdge
  dsimp only
  repeat (first
    | with_reducible exact Keeps.refl _ _
    | ((with_reducible apply Keeps.app (keeps_updPermit ..)); case hs => exact rfl)
    | ((with_reducible apply Keeps.app (keeps_reach ..)); case hs => exact rfl))

theorem keeps_dropElapsed (p : Fin 16) (s : State) :
    Keeps [.now, .permits] s (dropElapsed p s) := by
  unfold dropElapsed
  dsimp only
  repeat (first
    | with_reducible exact Keeps.refl _ _
    | ((with_reducible apply Keeps.app (keeps_updPermit ..)); case hs => exact rfl)
    | ((with_reducible apply Keeps.app (keeps_reach ..)); case hs => exact rfl)
    | with_reducible apply Keeps.ite
    | intro _)

theorem keeps_readbackSample (p : Fin 16) (level : Bool) (s : State) :
    Keeps [.now, .permits] s (readbackSample p level s) := by
  unfold readbackSample
  dsimp only
  repeat (first
    | with_reducible exact Keeps.refl _ _
    | ((with_reducible apply Keeps.app (keeps_updPermit ..)); case hs => exact rfl)
    | ((with_reducible apply Keeps.app (keeps_reach ..)); case hs => exact rfl)
    | with_reducible apply Keeps.ite
    | intro _
    | split
    | ((with_reducible apply Keeps.app (keeps_set_permits ..)); case hs => exact rfl))

theorem keeps_readbackFault (p : Fin 16) (s : State) :
    Keeps [.tally, .permits] s (readbackFault p s) := by
  unfold readbackFault
  dsimp only
  repeat (first
    | with_reducible exact Keeps.refl _ _
    | ((with_reducible apply Keeps.app (keeps_updPermit ..)); case hs => exact rfl)
    | with_reducible apply Keeps.ite
    | intro _
    | ((with_reducible apply Keeps.app (keeps_set_tally_permits ..)); case hs => exact rfl))

theorem keeps_tallyStall (s : State) :
    Keeps [.now, .tally, .permits] s (tallyStall s) := by
  unfold tallyStall
  dsimp only
  repeat (first
    | with_reducible exact Keeps.refl _ _
    | ((with_reducible apply Keeps.app (keeps_reach ..)); case hs => exact rfl)
    | with_reducible apply Keeps.ite
    | intro _
    | ((with_reducible apply Keeps.app (keeps_set_tally_permits ..)); case hs => exact rfl))

theorem keeps_droptestWrite (s : State) (mask : Nat) :
    Keeps [.tally] s (State.droptestWrite s mask) := by
  unfold State.droptestWrite
  repeat (first
    | with_reducible exact Keeps.refl _ _
    | ((with_reducible apply Keeps.app (keeps_set_tally ..)); case hs => exact rfl))

theorem keeps_inhibitWrite (s : State) (v : Nat) :
    Keeps [.permits] s (State.inhibitWrite s v) := by
  unfold State.inhibitWrite
  repeat (first
    | with_reducible exact Keeps.refl _ _
    | ((with_reducible apply Keeps.app (keeps_set_permits ..)); case hs => exact rfl))

theorem keeps_lockoutWrite (s : State) (mask : Nat) :
    Keeps [.tally] s (State.lockoutWrite s mask) := by
  unfold State.lockoutWrite
  repeat (first
    | with_reducible exact Keeps.refl _ _
    | ((with_reducible apply Keeps.app (keeps_set_tally ..)); case hs => exact rfl))

theorem keeps_armWrite (s : State) (o : Origin) (v : Nat) :
    Keeps [.tally] s (State.armWrite s o v) := by
  unfold State.armWrite
  repeat (first
    | with_reducible exact Keeps.refl _ _
    | with_reducible apply Keeps.ite
    | intro _
    | ((with_reducible apply Keeps.app (keeps_set_tally ..)); case hs => exact rfl))

theorem keeps_updAck (s : State) (f : Ack → Ack) :
    Keeps [.permits] s (State.updAck s f) := by
  unfold State.updAck
  repeat (first
    | with_reducible exact Keeps.refl _ _
    | ((with_reducible apply Keeps.app (keeps_set_permits ..)); case hs => exact rfl))

theorem keeps_ackEvent (s : State) (event : Nat) (press : Nat) (o : Option Origin) :
    Keeps [.tally] s (State.ackEvent s event press o) := by
  unfold State.ackEvent
  repeat (first
    | with_reducible exact Keeps.refl _ _
    | ((with_reducible apply Keeps.app (keeps_set_tally ..)); case hs => exact rfl))

theorem keeps_ackPress (s : State) :
    Keeps [.permits] s (ackPress s) := by
  unfold ackPress
  repeat (first
    | with_reducible exact Keeps.refl _ _
    | ((with_reducible apply Keeps.app (keeps_updAck ..)); case hs => exact rfl)
    | split)

theorem keeps_setStuck (s : State) :
    Keeps [.tally, .permits] s (State.setStuck s) := by
  unfold State.setStuck
  repeat (first
    | with_reducible exact Keeps.refl _ _
    | ((with_reducible apply Keeps.app (keeps_ackEvent ..)); case hs => exact rfl)
    | ((with_reducible apply Keeps.app (keeps_updAck ..)); case hs => exact rfl)
    | with_reducible apply Keeps.ite
    | intro _)

theorem keeps_ackRelease (s : State) :
    Keeps [.tally, .permits] s (ackRelease s) := by
  unfold ackRelease
  dsimp only
  repeat (first
    | with_reducible exact Keeps.refl _ _
    | ((with_reducible apply Keeps.app (keeps_ackEvent ..)); case hs => exact rfl)
    | ((with_reducible apply Keeps.app (keeps_setStuck ..)); case hs => exact rfl)
    | ((with_reducible apply Keeps.app (keeps_updAck ..)); case hs => exact rfl)
    | with_reducible apply Keeps.ite
    | intro _
    | ((with_reducible apply Keeps.app (keeps_set_tally ..)); case hs => exact rfl))

theorem keeps_ackEdge (pressed : Bool) (s : State) :
    Keeps [.tally, .permits] s (ackEdge pressed s) := by
  unfold ackEdge
  repeat (first
    | with_reducible exact Keeps.refl _ _
    | ((with_reducible apply Keeps.app (keeps_ackPress ..)); case hs => exact rfl)
    | ((with_reducible apply Keeps.app (keeps_ackRelease ..)); case hs => exact rfl)
    | with_reducible apply Keeps.ite
    | intro _)

theorem keeps_ackStuckSet (s : State) :
    Keeps [.now, .tally, .permits] s (ackStuckSet s) := by
  unfold ackStuckSet
  repeat (first
    | with_reducible exact Keeps.refl _ _
    | ((with_reducible apply Keeps.app (keeps_setStuck ..)); case hs => exact rfl)
    | ((with_reducible apply Keeps.app (keeps_reach ..)); case hs => exact rfl)
    | with_reducible apply Keeps.ite
    | intro _)

theorem keeps_ackHighQualified (s : State) :
    Keeps [.now, .tally, .permits] s (ackHighQualified s) := by
  unfold ackHighQualified
  dsimp only
  repeat (first
    | with_reducible exact Keeps.refl _ _
    | ((with_reducible apply Keeps.app (keeps_ackEvent ..)); case hs => exact rfl)
    | ((with_reducible apply Keeps.app (keeps_reach ..)); case hs => exact rfl)
    | ((with_reducible apply Keeps.app (keeps_updAck ..)); case hs => exact rfl)
    | with_reducible apply Keeps.ite
    | intro _
    | split)

theorem keeps_ackArmExpiry (s : State) :
    Keeps [.now, .tally, .permits] s (ackArmExpiry s) := by
  unfold ackArmExpiry
  repeat (first
    | with_reducible exact Keeps.refl _ _
    | ((with_reducible apply Keeps.app (keeps_ackEvent ..)); case hs => exact rfl)
    | ((with_reducible apply Keeps.app (keeps_reach ..)); case hs => exact rfl)
    | ((with_reducible apply Keeps.app (keeps_updAck ..)); case hs => exact rfl)
    | split)

theorem keeps_takeArm (s : State) (x : ArmIn) :
    Keeps [.tally, .permits] s (State.takeArm s x) := by
  unfold State.takeArm
  repeat (first
    | with_reducible exact Keeps.refl _ _
    | ((with_reducible apply Keeps.app (keeps_ackEvent ..)); case hs => exact rfl)
    | ((with_reducible apply Keeps.app (keeps_updAck ..)); case hs => exact rfl)
    | with_reducible apply Keeps.ite
    | intro _
    | split)

theorem keeps_armLost (s : State) (o : Origin) :
    Keeps [.tally, .permits] s (State.armLost s o) := by
  unfold State.armLost
  dsimp only
  repeat (first
    | with_reducible exact Keeps.refl _ _
    | with_reducible apply Keeps.foldl
    | ((with_reducible apply Keeps.app (keeps_ackEvent ..)); case hs => exact rfl)
    | ((with_reducible apply Keeps.app (keeps_updAck ..)); case hs => exact rfl)
    | with_reducible apply Keeps.ite
    | intro _
    | split
    | ((with_reducible apply Keeps.app (keeps_set_tally ..)); case hs => exact rfl))

theorem keeps_ackRecords (s : State) :
    Keeps [.tally, .log] s (State.ackRecords s) := by
  unfold State.ackRecords
  dsimp only
  repeat (first
    | with_reducible exact Keeps.refl _ _
    | with_reducible apply Keeps.foldl
    | ((with_reducible apply Keeps.app (keeps_record ..)); case hs => exact rfl)
    | intro _
    | ((with_reducible apply Keeps.app (keeps_set_tally ..)); case hs => exact rfl))

theorem keeps_updSectOpt (s : State) (n : Option (Fin 48)) (f : Section → Section) :
    Keeps [.sect] s (State.updSectOpt s n f) := by
  unfold State.updSectOpt
  repeat (first
    | with_reducible exact Keeps.refl _ _
    | ((with_reducible apply Keeps.app (keeps_updSect ..)); case hs => exact rfl)
    | split)

theorem keeps_takeThermal (s : State) (t : Int) :
    Keeps [.fresh, .power, .term, .src, .ch, .cg, .hg, .head, .bell, .sect, .tally, .trk] s (State.takeThermal s t) := by
  unfold State.takeThermal
  dsimp only
  repeat (first
    | with_reducible exact Keeps.refl _ _
    | ((with_reducible apply Keeps.app (keeps_startAll ..)); case hs => exact rfl)
    | ((with_reducible apply Keeps.app (keeps_raiseSourceDown ..)); case hs => exact rfl)
    | ((with_reducible apply Keeps.app (keeps_stopAll ..)); case hs => exact rfl)
    | with_reducible apply Keeps.ite
    | intro _
    | ((with_reducible apply Keeps.app (keeps_set_power ..)); case hs => exact rfl)
    | ((with_reducible apply Keeps.app (keeps_set_power_tally ..)); case hs => exact rfl)
    | ((with_reducible apply Keeps.app (keeps_set_sect_tally ..)); case hs => exact rfl)
    | ((with_reducible apply Keeps.app (keeps_set_tally ..)); case hs => exact rfl))

theorem keeps_takeItem (s : State) (i : TallyItem) :
    Keeps [.sect] s (State.takeItem s i) := by
  unfold State.takeItem
  dsimp only
  repeat (first
    | with_reducible exact Keeps.refl _ _
    | ((with_reducible apply Keeps.app (keeps_updSectOpt ..)); case hs => exact rfl)
    | with_reducible apply Keeps.ite
    | intro _
    | split)

theorem keeps_restoreEvent (s : State) (n : Fin 48) (o : Option Origin) :
    Keeps [.tally] s (State.restoreEvent s n o) := by
  unfold State.restoreEvent
  repeat (first
    | with_reducible exact Keeps.refl _ _
    | ((with_reducible apply Keeps.app (keeps_set_tally ..)); case hs => exact rfl))

theorem keeps_endRequest (s : State) (n : Fin 48) (r : RState) (reason : Nat) (o : Option Origin) :
    Keeps [.sect, .tally] s (State.endRequest s n r reason o) := by
  unfold State.endRequest
  repeat (first
    | with_reducible exact Keeps.refl _ _
    | ((with_reducible apply Keeps.app (keeps_restoreEvent ..)); case hs => exact rfl)
    | ((with_reducible apply Keeps.app (keeps_updSect ..)); case hs => exact rfl))

theorem keeps_takeRestore (s : State) (r : RestoreIn) :
    Keeps [.sect, .tally] s (State.takeRestore s r) := by
  unfold State.takeRestore
  repeat (first
    | with_reducible exact Keeps.refl _ _
    | with_reducible apply Keeps.foldl
    | ((with_reducible apply Keeps.app (keeps_restoreEvent ..)); case hs => exact rfl)
    | ((with_reducible apply Keeps.app (keeps_updSect ..)); case hs => exact rfl)
    | ((with_reducible apply Keeps.app (keeps_endRequest ..)); case hs => exact rfl)
    | with_reducible apply Keeps.ite
    | intro _
    | split)

theorem keeps_takeHeads (s : State) :
    Keeps [.hg, .head, .sect] s (State.takeHeads s) := by
  unfold State.takeHeads
  dsimp only
  repeat (first
    | with_reducible exact Keeps.refl _ _
    | with_reducible apply Keeps.foldl
    | ((with_reducible apply Keeps.app (keeps_updSect ..)); case hs => exact rfl)
    | intro _
    | ((with_reducible apply Keeps.app (keeps_set_hg_head ..)); case hs => exact rfl))

theorem keeps_takeDisturb (s : State) :
    Keeps [.sect, .tally] s (State.takeDisturb s) := by
  unfold State.takeDisturb
  dsimp only
  repeat (first
    | with_reducible exact Keeps.refl _ _
    | with_reducible apply Keeps.foldl
    | ((with_reducible apply Keeps.app (keeps_updSect ..)); case hs => exact rfl)
    | intro _
    | ((with_reducible apply Keeps.app (keeps_set_tally ..)); case hs => exact rfl))

theorem keeps_takePermitWrites (s : State) :
    Keeps [.tally, .permits] s (State.takePermitWrites s) := by
  unfold State.takePermitWrites
  dsimp only
  repeat (first
    | with_reducible exact Keeps.refl _ _
    | with_reducible apply Keeps.foldl
    | ((with_reducible apply Keeps.app (keeps_takeArm ..)); case hs => exact rfl)
    | ((with_reducible apply Keeps.app (keeps_lockOut ..)); case hs => exact rfl)
    | intro _
    | ((with_reducible apply Keeps.app (keeps_set_tally ..)); case hs => exact rfl))

theorem keeps_countAxle (s : State) (x : Crossed) :
    Keeps [.sect] s (State.countAxle s x) := by
  unfold State.countAxle
  repeat (first
    | with_reducible exact Keeps.refl _ _
    | ((with_reducible apply Keeps.app (keeps_updSectOpt ..)); case hs => exact rfl))

theorem keeps_countPhase (s : State) (l : List Crossed) :
    Keeps [.sect, .trk] s (State.countPhase s l) := by
  unfold State.countPhase
  dsimp only
  repeat (first
    | with_reducible exact Keeps.refl _ _
    | with_reducible apply Keeps.foldl
    | ((with_reducible apply Keeps.app (keeps_releaseSurplus ..)); case hs => exact rfl)
    | ((with_reducible apply Keeps.app (keeps_noteRoom ..)); case hs => exact rfl)
    | ((with_reducible apply Keeps.app (keeps_countAxle ..)); case hs => exact rfl)
    | intro _
    | ((with_reducible apply Keeps.app (keeps_set_trk ..)); case hs => exact rfl))

theorem keeps_judgeRestore (s : State) (ack : Bool) (n : Fin 48) :
    Keeps [.sect, .tally, .trk] s (State.judgeRestore s ack n) := by
  unfold State.judgeRestore
  dsimp only
  repeat (first
    | with_reducible exact Keeps.refl _ _
    | ((with_reducible apply Keeps.app (keeps_updSect ..)); case hs => exact rfl)
    | ((with_reducible apply Keeps.app (keeps_endRequest ..)); case hs => exact rfl)
    | ((with_reducible apply Keeps.app (keeps_releaseSurplus ..)); case hs => exact rfl)
    | ((with_reducible apply Keeps.app (keeps_noteRoom ..)); case hs => exact rfl)
    | with_reducible apply Keeps.ite
    | intro _
    | split)

theorem keeps_restorePhase (s : State) :
    Keeps [.sect, .tally, .trk, .permits] s (State.restorePhase s) := by
  unfold State.restorePhase
  dsimp only
  repeat (first
    | with_reducible exact Keeps.refl _ _
    | with_reducible apply Keeps.foldl
    | ((with_reducible apply Keeps.app (keeps_lockRemove ..)); case hs => exact rfl)
    | ((with_reducible apply Keeps.app (keeps_judgeRestore ..)); case hs => exact rfl)
    | with_reducible apply Keeps.ite
    | intro _
    | ((with_reducible apply Keeps.app (keeps_set_tally ..)); case hs => exact rfl))

theorem keeps_evaluateAll (s : State) :
    Keeps [.sect] s (State.evaluateAll s) := by
  unfold State.evaluateAll
  repeat (first
    | with_reducible exact Keeps.refl _ _
    | with_reducible apply Keeps.foldl
    | ((with_reducible apply Keeps.app (keeps_updSect ..)); case hs => exact rfl)
    | with_reducible apply Keeps.ite
    | intro _)

theorem keeps_provLoads (s : State) :
    Keeps [.trk] s (State.provLoads s) := by
  unfold State.provLoads
  repeat (first
    | with_reducible exact Keeps.refl _ _
    | with_reducible apply Keeps.ite
    | intro _
    | ((with_reducible apply Keeps.app (keeps_set_trk ..)); case hs => exact rfl))

theorem keeps_trackRecords (s : State) (l : List TallyItem) :
    Keeps [.log] s (State.trackRecords s l) := by
  unfold State.trackRecords
  dsimp only
  repeat (first
    | with_reducible exact Keeps.refl _ _
    | with_reducible apply Keeps.foldl
    | ((with_reducible apply Keeps.app (keeps_record ..)); case hs => exact rfl)
    | intro _
    | split)

theorem keeps_headRecords (s : State) :
    Keeps [.tally, .log] s (State.headRecords s) := by
  unfold State.headRecords
  dsimp only
  repeat (first
    | with_reducible exact Keeps.refl _ _
    | with_reducible apply Keeps.foldl
    | ((with_reducible apply Keeps.app (keeps_record ..)); case hs => exact rfl)
    | ((with_reducible apply Keeps.app (keeps_noteHead ..)); case hs => exact rfl)
    | intro _
    | ((with_reducible apply Keeps.app (keeps_set_tally ..)); case hs => exact rfl))

theorem keeps_sectionRecords (s : State) (n : Fin 48) :
    Keeps [.log] s (State.sectionRecords s n) := by
  unfold State.sectionRecords
  dsimp only
  repeat (first
    | with_reducible exact Keeps.refl _ _
    | with_reducible apply Keeps.foldl
    | ((with_reducible apply Keeps.app (keeps_record ..)); case hs => exact rfl)
    | with_reducible apply Keeps.ite
    | intro _)

theorem keeps_noteHeadDist (s : State) :
    Keeps [.sect] s (State.noteHeadDist s) := by
  unfold State.noteHeadDist
  repeat (first
    | with_reducible exact Keeps.refl _ _
    | with_reducible apply Keeps.foldl
    | ((with_reducible apply Keeps.app (keeps_updSect ..)); case hs => exact rfl)
    | intro _)

theorem keeps_publish (s : State) :
    Keeps [.tally, .trk, .engine] s (State.publish s) := by
  unfold State.publish
  repeat (first
    | with_reducible exact Keeps.refl _ _
    | ((with_reducible apply Keeps.app (keeps_set_tally_trk_engine ..)); case hs => exact rfl))

theorem keeps_lockPhase (s : State) (trip : Bool) :
    Keeps [.permits] s (State.lockPhase s trip) := by
  unfold State.lockPhase
  dsimp only
  repeat (first
    | with_reducible exact Keeps.refl _ _
    | with_reducible apply Keeps.foldl
    | ((with_reducible apply Keeps.app (keeps_lockReadback ..)); case hs => exact rfl)
    | ((with_reducible apply Keeps.app (keeps_lockOut ..)); case hs => exact rfl)
    | with_reducible apply Keeps.ite
    | intro _)

theorem keeps_refreshPhase (s : State) (trip : Bool) :
    Keeps [.tally, .permits, .twin, .log] s (State.refreshPhase s trip) := by
  unfold State.refreshPhase
  dsimp only
  repeat (first
    | with_reducible exact Keeps.refl _ _
    | ((with_reducible apply Keeps.app (keeps_lockPhase ..)); case hs => exact rfl)
    | ((with_reducible apply Keeps.app (keeps_holdPermit ..)); case hs => exact rfl)
    | ((with_reducible apply Keeps.app (keeps_permitRecords ..)); case hs => exact rfl)
    | ((with_reducible apply Keeps.app (keeps_set_tally ..)); case hs => exact rfl))

theorem keeps_tallyTake (s : State) (temp : Int) :
    Keeps [.fresh, .power, .term, .src, .ch, .cg, .hg, .head, .bell, .sect, .tally, .trk, .permits, .log] s (State.tallyTake s temp) := by
  unfold State.tallyTake
  dsimp only
  repeat (first
    | with_reducible exact Keeps.refl _ _
    | with_reducible apply Keeps.foldl
    | ((with_reducible apply Keeps.app (keeps_takeRestore ..)); case hs => exact rfl)
    | ((with_reducible apply Keeps.app (keeps_takeHeads ..)); case hs => exact rfl)
    | ((with_reducible apply Keeps.app (keeps_takeDisturb ..)); case hs => exact rfl)
    | ((with_reducible apply Keeps.app (keeps_countPhase ..)); case hs => exact rfl)
    | ((with_reducible apply Keeps.app (keeps_takePermitWrites ..)); case hs => exact rfl)
    | ((with_reducible apply Keeps.app (keeps_takeItem ..)); case hs => exact rfl)
    | ((with_reducible apply Keeps.app (keeps_takeThermal ..)); case hs => exact rfl)
    | ((with_reducible apply Keeps.app (keeps_guardCycle ..)); case hs => exact rfl)
    | intro _
    | ((with_reducible apply Keeps.app (keeps_set_sect ..)); case hs => exact rfl)
    | ((with_reducible apply Keeps.app (keeps_set_tally ..)); case hs => exact rfl))

theorem keeps_tallyPublish (s : State) (l : List TallyItem) (trip : Bool) :
    Keeps [.sect, .tally, .trk, .permits, .engine, .twin, .log] s (State.tallyPublish s l trip) := by
  unfold State.tallyPublish
  dsimp only
  repeat (first
    | with_reducible exact Keeps.refl _ _
    | with_reducible apply Keeps.foldl
    | ((with_reducible apply Keeps.app (keeps_noteHeadDist ..)); case hs => exact rfl)
    | ((with_reducible apply Keeps.app (keeps_trackRecords ..)); case hs => exact rfl)
    | ((with_reducible apply Keeps.app (keeps_ackRecords ..)); case hs => exact rfl)
    | ((with_reducible apply Keeps.app (keeps_refreshPhase ..)); case hs => exact rfl)
    | ((with_reducible apply Keeps.app (keeps_publish ..)); case hs => exact rfl)
    | ((with_reducible apply Keeps.app (keeps_headRecords ..)); case hs => exact rfl)
    | ((with_reducible apply Keeps.app (keeps_sectionRecords ..)); case hs => exact rfl)
    | ((with_reducible apply Keeps.app (keeps_provLoads ..)); case hs => exact rfl)
    | intro _
    | ((with_reducible apply Keeps.app (keeps_set_sect ..)); case hs => exact rfl))

theorem keeps_tallyCycle (temp : Int) (s : State) :
    Keeps [.now, .fresh, .power, .term, .src, .ch, .cg, .hg, .head, .bell, .sect, .tally, .trk, .permits, .engine, .twin, .log] s (tallyCycle temp s) := by
  unfold tallyCycle
  extract_lets t s0 _ s1 trip0 s2 s3
  clear_value t
  have h0 : Keeps [.now, .fresh, .power, .term, .src, .ch, .cg, .hg, .head, .bell, .sect, .tally, .trk, .permits, .engine, .twin, .log] s s0 := (keeps_reach ..).mono rfl
  have h1 := h0.trans ((keeps_set_tally s0 { s0.tally with startAt := t }).mono rfl)
  change Keeps _ s s1 at h1
  have h2 := h1.trans ((keeps_tallyTake s1 temp).mono rfl)
  change Keeps _ s s2 at h2
  have h3 := (h2.trans ((keeps_restorePhase s2).mono rfl)).trans ((keeps_evaluateAll _).mono rfl)
  exact h3.trans ((keeps_tallyPublish ..).mono rfl)

theorem keeps_clearDelayExpiry (n : Fin 48) (s : State) :
    Keeps [.now, .sect] s (clearDelayExpiry n s) := by
  unfold clearDelayExpiry
  dsimp only
  repeat (first
    | with_reducible exact Keeps.refl _ _
    | ((with_reducible apply Keeps.app (keeps_updSect ..)); case hs => exact rfl)
    | ((with_reducible apply Keeps.app (keeps_reach ..)); case hs => exact rfl)
    | with_reducible apply Keeps.ite
    | intro _)

theorem keeps_restoreExpiry (n : Fin 48) (s : State) :
    Keeps [.now, .sect, .tally] s (restoreExpiry n s) := by
  unfold restoreExpiry
  repeat (first
    | with_reducible exact Keeps.refl _ _
    | ((with_reducible apply Keeps.app (keeps_endRequest ..)); case hs => exact rfl)
    | ((with_reducible apply Keeps.app (keeps_reach ..)); case hs => exact rfl)
    | with_reducible apply Keeps.ite
    | intro _)

theorem keeps_restoreWrite (s : State) (o : Origin) (n : Fin 48) (v : Nat) :
    Keeps [.tally] s (State.restoreWrite s o n v) := by
  unfold State.restoreWrite
  repeat (first
    | with_reducible exact Keeps.refl _ _
    | with_reducible apply Keeps.ite
    | intro _
    | ((with_reducible apply Keeps.app (keeps_set_tally ..)); case hs => exact rfl))

theorem keeps_disturbWrite (s : State) (n : Fin 48) :
    Keeps [.tally] s (State.disturbWrite s n) := by
  unfold State.disturbWrite
  repeat (first
    | with_reducible exact Keeps.refl _ _
    | ((with_reducible apply Keeps.app (keeps_set_tally ..)); case hs => exact rfl))

theorem keeps_tallyActivate (s : State) :
    Keeps [.sect, .tally] s (State.tallyActivate s) := by
  unfold State.tallyActivate
  dsimp only
  repeat (first
    | with_reducible exact Keeps.refl _ _
    | with_reducible apply Keeps.foldl
    | ((with_reducible apply Keeps.app (keeps_takeRestore ..)); case hs => exact rfl)
    | ((with_reducible apply Keeps.app (keeps_updSect ..)); case hs => exact rfl)
    | ((with_reducible apply Keeps.app (keeps_endRequest ..)); case hs => exact rfl)
    | with_reducible apply Keeps.ite
    | intro _
    | ((with_reducible apply Keeps.app (keeps_set_tally ..)); case hs => exact rfl))

theorem keeps_engineRecord (s : State) (a : EMode) (b : EMode) :
    Keeps [.log] s (State.engineRecord s a b) := by
  unfold State.engineRecord
  repeat (first
    | with_reducible exact Keeps.refl _ _
    | ((with_reducible apply Keeps.app (keeps_record ..)); case hs => exact rfl)
    | with_reducible apply Keeps.ite
    | intro _)

theorem keeps_fadeAgain (s : State) (was : EngineFlags) :
    Keeps [.stream, .emcy, .sent] s (State.fadeAgain s was) := by
  unfold State.fadeAgain
  dsimp only
  repeat (first
    | with_reducible exact Keeps.refl _ _
    | ((with_reducible apply Keeps.app (keeps_emergencyBit ..)); case hs => exact rfl)
    | with_reducible apply Keeps.ite
    | intro _)

theorem keeps_engineTick (s : State) (n : Nat) (cycles : Nat) :
    Keeps [.engine, .stream, .emcy, .cfg, .log, .sent] s (State.engineTick s n cycles) := by
  unfold State.engineTick
  dsimp only
  repeat (first
    | with_reducible exact Keeps.refl _ _
    | ((with_reducible apply Keeps.app (keeps_engineRecord ..)); case hs => exact rfl)
    | ((with_reducible apply Keeps.app (keeps_fadeAgain ..)); case hs => exact rfl)
    | with_reducible apply Keeps.ite
    | intro _
    | ((with_reducible apply Keeps.app (keeps_set_engine_cfg ..)); case hs => exact rfl))

theorem keeps_syncLost (s : State) :
    Keeps [.now, .engine, .stream, .emcy, .log, .sent] s (syncLost s) := by
  unfold syncLost
  dsimp only
  repeat (first
    | with_reducible exact Keeps.refl _ _
    | ((with_reducible apply Keeps.app (keeps_engineRecord ..)); case hs => exact rfl)
    | ((with_reducible apply Keeps.app (keeps_reach ..)); case hs => exact rfl)
    | ((with_reducible apply Keeps.app (keeps_fadeAgain ..)); case hs => exact rfl)
    | split
    | ((with_reducible apply Keeps.app (keeps_set_engine ..)); case hs => exact rfl))

theorem keeps_engineWrite (s : State) (i : Nat) (sub : Nat) (v : Nat) :
    Keeps [.engine] s (State.engineWrite s i sub v) := by
  unfold State.engineWrite
  dsimp only
  repeat (first
    | with_reducible exact Keeps.refl _ _
    | with_reducible apply Keeps.ite
    | intro _
    | ((with_reducible apply Keeps.app (keeps_set_engine ..)); case hs => exact rfl))

theorem keeps_engineActivate (s : State) :
    Keeps [.engine, .log] s (State.engineActivate s) := by
  unfold State.engineActivate
  dsimp only
  repeat (first
    | with_reducible exact Keeps.refl _ _
    | ((with_reducible apply Keeps.app (keeps_engineRecord ..)); case hs => exact rfl)
    | ((with_reducible apply Keeps.app (keeps_set_engine ..)); case hs => exact rfl))

theorem keeps_checkStages (s : State) :
    Keeps [.fresh, .permits, .twin] s (State.checkStages s) := by
  unfold State.checkStages
  repeat (first
    | with_reducible exact Keeps.refl _ _
    | ((with_reducible apply Keeps.app (keeps_stopLatch ..)); case hs => exact rfl)
    | with_reducible apply Keeps.ite
    | intro _)

theorem keeps_applyPermitWrite (s : State) (w : PermitWrite) :
    Keeps [.permits] s (State.applyPermitWrite s w) := by
  unfold State.applyPermitWrite
  repeat (first
    | with_reducible exact Keeps.refl _ _
    | ((with_reducible apply Keeps.app (keeps_applyRefresh ..)); case hs => exact rfl)
    | ((with_reducible apply Keeps.app (keeps_permitOutputs ..)); case hs => exact rfl)
    | split)

theorem keeps_reevePass (s : State) (n : Nat) :
    Keeps [.permits, .twin] s (State.reevePass s n) := by
  unfold State.reevePass
  dsimp only
  repeat (first
    | with_reducible exact Keeps.refl _ _
    | with_reducible apply Keeps.foldl
    | ((with_reducible apply Keeps.app (keeps_applyPermitWrite ..)); case hs => exact rfl)
    | intro _
    | ((with_reducible apply Keeps.app (keeps_set_twin ..)); case hs => exact rfl))

theorem keeps_windowDone (s : State) (n : Nat) :
    Keeps [.twin] s (State.windowDone s n) := by
  unfold State.windowDone
  dsimp only
  repeat (first
    | with_reducible exact Keeps.refl _ _
    | with_reducible apply Keeps.ite
    | intro _
    | ((with_reducible apply Keeps.app (keeps_set_twin ..)); case hs => exact rfl))

theorem keeps_reeveCompare (a : CoreWindow) (b : CoreWindow) (delay0 : BitVec 224) (delay1 : BitVec 224) (s : State) :
    Keeps [.now, .fresh, .permits, .twin] s (reeveCompare a b delay0 delay1 s) := by
  unfold reeveCompare
  dsimp only
  repeat (first
    | with_reducible exact Keeps.refl _ _
    | ((with_reducible apply Keeps.app (keeps_windowDone ..)); case hs => exact rfl)
    | ((with_reducible apply Keeps.app (keeps_stopLatch ..)); case hs => exact rfl)
    | ((with_reducible apply Keeps.app (keeps_reevePass ..)); case hs => exact rfl)
    | ((with_reducible apply Keeps.app (keeps_reach ..)); case hs => exact rfl)
    | with_reducible apply Keeps.elim
    | with_reducible apply Keeps.ite
    | intro _
    | split
    | ((with_reducible apply Keeps.app (keeps_set_twin ..)); case hs => exact rfl))

theorem keeps_delayParityError (second : Bool) (data : BitVec 224) (parity : BitVec 28) (s : State) :
    Keeps [.fresh, .permits, .twin] s (delayParityError second data parity s) := by
  unfold delayParityError
  repeat (first
    | with_reducible exact Keeps.refl _ _
    | ((with_reducible apply Keeps.app (keeps_checkStages ..)); case hs => exact rfl)
    | with_reducible apply Keeps.ite
    | intro _
    | ((with_reducible apply Keeps.app (keeps_set_twin ..)); case hs => exact rfl))

theorem keeps_eccDouble (s : State) (cause : Nat) :
    Keeps [.fresh, .permits, .twin, .recd, .log] s (State.eccDouble s cause) := by
  unfold State.eccDouble
  dsimp only
  repeat (first
    | with_reducible exact Keeps.refl _ _
    | ((with_reducible apply Keeps.app (keeps_stopLatch ..)); case hs => exact rfl)
    | with_reducible apply Keeps.ite
    | intro _
    | ((with_reducible apply Keeps.app (keeps_set_recd ..)); case hs => exact rfl))

theorem keeps_sramWord (s : State) (word : Nat) (x : BitVec 39) :
    Keeps [.twin, .recd, .log] s (State.sramWord s word x) := by
  unfold State.sramWord
  repeat (first
    | with_reducible exact Keeps.refl _ _
    | ((with_reducible apply Keeps.app (keeps_set_twin_recd ..)); case hs => exact rfl))

theorem keeps_sramFault (s : State) (word : Nat) :
    Keeps [.fresh, .permits, .twin, .recd, .log] s (State.sramFault s word) := by
  unfold State.sramFault
  repeat (first
    | with_reducible exact Keeps.refl _ _
    | ((with_reducible apply Keeps.app (keeps_eccDouble ..)); case hs => exact rfl)
    | with_reducible apply Keeps.ite
    | intro _)

theorem keeps_coreRead (s : State) (w : BitVec 32) :
    Keeps [.fresh, .permits, .twin] s (State.coreRead s w) := by
  unfold State.coreRead
  dsimp only
  repeat (first
    | with_reducible exact Keeps.refl _ _
    | ((with_reducible apply Keeps.app (keeps_draw ..)); case hs => exact rfl)
    | ((with_reducible apply Keeps.app (keeps_checkStages ..)); case hs => exact rfl)
    | ((with_reducible apply Keeps.app (keeps_set_twin ..)); case hs => exact rfl))

theorem keeps_sramRead (s : State) (word : Nat) :
    Keeps [.fresh, .permits, .twin, .recd, .log] s (State.sramRead s word) := by
  unfold State.sramRead
  repeat (first
    | with_reducible exact Keeps.refl _ _
    | ((with_reducible apply Keeps.app (keeps_coreRead ..)); case hs => exact rfl)
    | ((with_reducible apply Keeps.app (keeps_sramFault ..)); case hs => exact rfl))

theorem keeps_flashWord (s : State) (p : FlashPlace) (x : BitVec 39) :
    Keeps [.twin, .cfg, .recd, .log] s (State.flashWord s p x) := by
  unfold State.flashWord
  split
  · constructor; intro p hp; cases p <;> first | exact absurd (by decide) hp | rfl | simp [Part.same]
  · constructor; intro p hp; cases p <;> first | exact absurd (by decide) hp | rfl | simp [Part.same]

theorem keeps_flashCorrected (s : State) (p : FlashPlace) :
    Keeps [.twin] s (State.flashCorrected s p) := by
  unfold State.flashCorrected
  repeat (first
    | with_reducible exact Keeps.refl _ _
    | ((with_reducible apply Keeps.app (keeps_set_twin ..)); case hs => exact rfl))

theorem keeps_flashFault (s : State) (p : FlashPlace) :
    Keeps [.fresh, .permits, .twin, .recd, .log] s (State.flashFault s p) := by
  unfold State.flashFault
  repeat (first
    | with_reducible exact Keeps.refl _ _
    | ((with_reducible apply Keeps.app (keeps_eccDouble ..)); case hs => exact rfl)
    | with_reducible apply Keeps.ite
    | intro _)

theorem keeps_scrubNext (s : State) :
    Keeps [.twin] s (State.scrubNext s) := by
  unfold State.scrubNext
  repeat (first
    | with_reducible exact Keeps.refl _ _
    | ((with_reducible apply Keeps.app (keeps_set_twin ..)); case hs => exact rfl))

theorem keeps_scrubRead (r : MemRead) (s : State) :
    Keeps [.fresh, .permits, .twin, .cfg, .recd, .log] s (scrubRead r s) := by
  unfold scrubRead
  dsimp only
  repeat (first
    | with_reducible exact Keeps.refl _ _
    | ((with_reducible apply Keeps.app (keeps_flashFault ..)); case hs => exact rfl)
    | ((with_reducible apply Keeps.app (keeps_coreRead ..)); case hs => exact rfl)
    | ((with_reducible apply Keeps.app (keeps_sramFault ..)); case hs => exact rfl)
    | ((with_reducible apply Keeps.app (keeps_sramRead ..)); case hs => exact rfl)
    | ((with_reducible apply Keeps.app (keeps_flashWord ..)); case hs => exact rfl)
    | ((with_reducible apply Keeps.app (keeps_sramWord ..)); case hs => exact rfl)
    | ((with_reducible apply Keeps.app (keeps_eccDouble ..)); case hs => exact rfl)
    | ((with_reducible apply Keeps.app (keeps_flashCorrected ..)); case hs => exact rfl)
    | ((with_reducible apply Keeps.app (keeps_scrubNext ..)); case hs => exact rfl)
    | with_reducible apply Keeps.ite
    | intro _
    | split
    | ((with_reducible apply Keeps.app (keeps_set_twin ..)); case hs => exact rfl))

theorem keeps_pulseTimeout (s : State) :
    Keeps [.now, .fresh, .permits, .twin] s (pulseTimeout s) := by
  unfold pulseTimeout
  repeat (first
    | with_reducible exact Keeps.refl _ _
    | ((with_reducible apply Keeps.app (keeps_stopLatch ..)); case hs => exact rfl)
    | ((with_reducible apply Keeps.app (keeps_reach ..)); case hs => exact rfl)
    | with_reducible apply Keeps.ite
    | intro _)

theorem keeps_debugRequest (trstnHigh : Bool) (s : State) :
    Keeps [.fresh, .power, .permits, .twin] s (debugRequest trstnHigh s) := by
  unfold debugRequest
  dsimp only
  repeat (first
    | with_reducible exact Keeps.refl _ _
    | ((with_reducible apply Keeps.app (keeps_stopLatch ..)); case hs => exact rfl)
    | ((with_reducible apply Keeps.app (keeps_draw ..)); case hs => exact rfl)
    | ((with_reducible apply Keeps.app (keeps_checkStages ..)); case hs => exact rfl)
    | with_reducible apply Keeps.ite
    | intro _
    | ((with_reducible apply Keeps.app (keeps_set_power_twin ..)); case hs => exact rfl)
    | ((with_reducible apply Keeps.app (keeps_set_twin ..)); case hs => exact rfl))

theorem keeps_stopTestWrite (s : State) :
    Keeps [.twin] s (State.stopTestWrite s) := by
  unfold State.stopTestWrite
  dsimp only
  repeat (first
    | with_reducible exact Keeps.refl _ _
    | with_reducible apply Keeps.ite
    | intro _
    | ((with_reducible apply Keeps.app (keeps_set_twin ..)); case hs => exact rfl))

end Sys2Proof.Machine
end

