-- ==== Sys2Proof/Laws/FrameStores.lean ====
section
/-! SUPPORT. The frame of every operation on the state, one lemma each: configuration, Parish Book, sessions and CANopen. -/

namespace Sys2Proof.Machine

theorem keeps_cfgCmdRefusal (s : State) (v : Nat) :
    Keeps [.cfg] s (State.cfgCmdRefusal s v) := by
  unfold State.cfgCmdRefusal
  dsimp only
  repeat (first
    | with_reducible exact Keeps.refl _ _
    | with_reducible apply Keeps.ite
    | intro _
    | ((with_reducible apply Keeps.app (keeps_set_cfg ..)); case hs => exact rfl))

theorem keeps_beginActivation (s : State) (how : Nat) (epoch : Nat) :
    Keeps [.cfg] s (State.beginActivation s how epoch) := by
  unfold State.beginActivation
  repeat (first
    | with_reducible exact Keeps.refl _ _
    | ((with_reducible apply Keeps.app (keeps_set_cfg ..)); case hs => exact rfl))

theorem keeps_cfgCommand (s : State) (v : Nat) :
    Keeps [.cfg] s (State.cfgCommand s v) := by
  unfold State.cfgCommand
  dsimp only
  repeat (first
    | with_reducible exact Keeps.refl _ _
    | ((with_reducible apply Keeps.app (keeps_beginActivation ..)); case hs => exact rfl)
    | with_reducible apply Keeps.ite
    | intro _
    | split
    | ((with_reducible apply Keeps.app (keeps_set_cfg ..)); case hs => exact rfl))

theorem keeps_cfgCheckDone (s : State) :
    Keeps [.cfg] s (cfgCheckDone s) := by
  unfold cfgCheckDone
  dsimp only
  repeat (first
    | with_reducible exact Keeps.refl _ _
    | with_reducible apply Keeps.ite
    | intro _
    | ((with_reducible apply Keeps.app (keeps_set_cfg ..)); case hs => exact rfl))

theorem keeps_cfgStoreDone (flashOk : Bool) (s : State) :
    Keeps [.cfg] s (cfgStoreDone flashOk s) := by
  unfold cfgStoreDone
  dsimp only
  repeat (first
    | with_reducible exact Keeps.refl _ _
    | with_reducible apply Keeps.ite
    | intro _
    | ((with_reducible apply Keeps.app (keeps_set_cfg ..)); case hs => exact rfl))

theorem keeps_configRecord (s : State) (how : Nat) (epoch : Nat) :
    Keeps [.log] s (State.configRecord s how epoch) := by
  unfold State.configRecord
  repeat (first
    | with_reducible exact Keeps.refl _ _
    | ((with_reducible apply Keeps.app (keeps_record ..)); case hs => exact rfl))

theorem keeps_activateAll (s : State) (old : CfgMap) :
    Keeps [.fresh, .term, .src, .ch, .cg, .hg, .head, .bell, .sect, .tally, .trk, .permits, .engine, .twin, .log] s (State.activateAll s old) := by
  unfold State.activateAll
  dsimp only
  repeat (first
    | with_reducible exact Keeps.refl _ _
    | with_reducible apply Keeps.foldl
    | ((with_reducible apply Keeps.app (keeps_guardActivate ..)); case hs => exact rfl)
    | ((with_reducible apply Keeps.app (keeps_switchSense ..)); case hs => exact rfl)
    | ((with_reducible apply Keeps.app (keeps_permitActivate ..)); case hs => exact rfl)
    | ((with_reducible apply Keeps.app (keeps_channelActivate ..)); case hs => exact rfl)
    | ((with_reducible apply Keeps.app (keeps_wreActivate ..)); case hs => exact rfl)
    | ((with_reducible apply Keeps.app (keeps_engineActivate ..)); case hs => exact rfl)
    | ((with_reducible apply Keeps.app (keeps_tallyActivate ..)); case hs => exact rfl)
    | ((with_reducible apply Keeps.app (keeps_bellActivate ..)); case hs => exact rfl)
    | ((with_reducible apply Keeps.app (keeps_trackerActivate ..)); case hs => exact rfl)
    | ((with_reducible apply Keeps.app (keeps_excActivate ..)); case hs => exact rfl)
    | intro _)

theorem keeps_activationEffect (programOk : Bool) (s : State) :
    Keeps [.now, .fresh, .term, .src, .ch, .cg, .hg, .head, .bell, .sect, .tally, .trk, .permits, .engine, .twin, .cfg, .log] s (activationEffect programOk s) := by
  unfold activationEffect
  dsimp only
  repeat (first
    | with_reducible exact Keeps.refl _ _
    | ((with_reducible apply Keeps.app (keeps_configRecord ..)); case hs => exact rfl)
    | ((with_reducible apply Keeps.app (keeps_reach ..)); case hs => exact rfl)
    | ((with_reducible apply Keeps.app (keeps_activateAll ..)); case hs => exact rfl)
    | with_reducible apply Keeps.ite
    | intro _
    | ((with_reducible apply Keeps.app (keeps_set_cfg ..)); case hs => exact rfl))

theorem keeps_cfgAdoptDone (flashOk : Bool) (s : State) :
    Keeps [.now, .cfg, .log] s (cfgAdoptDone flashOk s) := by
  unfold cfgAdoptDone
  dsimp only
  repeat (first
    | with_reducible exact Keeps.refl _ _
    | ((with_reducible apply Keeps.app (keeps_configRecord ..)); case hs => exact rfl)
    | ((with_reducible apply Keeps.app (keeps_reach ..)); case hs => exact rfl)
    | with_reducible apply Keeps.ite
    | intro _
    | ((with_reducible apply Keeps.app (keeps_set_cfg ..)); case hs => exact rfl))

theorem keeps_imageRefused (s : State) (image : List Byte) :
    Keeps [.cfg] s (State.imageRefused s image) := by
  unfold State.imageRefused
  repeat (first
    | with_reducible exact Keeps.refl _ _
    | ((with_reducible apply Keeps.app (keeps_set_cfg ..)); case hs => exact rfl))

theorem keeps_stageImage (s : State) (image : List Byte) :
    Keeps [.cfg] s (State.stageImage s image) := by
  unfold State.stageImage
  repeat (first
    | with_reducible exact Keeps.refl _ _
    | ((with_reducible apply Keeps.app (keeps_set_cfg ..)); case hs => exact rfl))

theorem keeps_stage (s : State) (i : Nat) (sub : Nat) (v : Nat) :
    Keeps [.cfg] s (State.stage s i sub v) := by
  unfold State.stage
  repeat (first
    | with_reducible exact Keeps.refl _ _
    | ((with_reducible apply Keeps.app (keeps_set_cfg ..)); case hs => exact rfl))

theorem keeps_expectDigest (s : State) (v : Nat) :
    Keeps [.cfg] s (State.expectDigest s v) := by
  unfold State.expectDigest
  repeat (first
    | with_reducible exact Keeps.refl _ _
    | ((with_reducible apply Keeps.app (keeps_set_cfg ..)); case hs => exact rfl))

theorem keeps_epochWrite (s : State) (v : Nat) :
    Keeps [.cfg] s (State.epochWrite s v) := by
  unfold State.epochWrite
  repeat (first
    | with_reducible exact Keeps.refl _ _
    | with_reducible apply Keeps.ite
    | intro _
    | ((with_reducible apply Keeps.app (keeps_set_cfg ..)); case hs => exact rfl))

theorem keeps_epochSync (s : State) (counter : Option Nat) :
    Keeps [.cfg] s (State.epochSync s counter) := by
  unfold State.epochSync
  dsimp only
  repeat (first
    | with_reducible exact Keeps.refl _ _
    | ((with_reducible apply Keeps.app (keeps_beginActivation ..)); case hs => exact rfl)
    | with_reducible apply Keeps.ite
    | intro _
    | split
    | ((with_reducible apply Keeps.app (keeps_set_cfg ..)); case hs => exact rfl))

theorem keeps_updRec (s : State) (f : Recorder → Recorder) :
    Keeps [.recd, .log] s (State.updRec s f) := by
  unfold State.updRec
  repeat (first
    | with_reducible exact Keeps.refl _ _
    | ((with_reducible apply Keeps.app (keeps_set_recd ..)); case hs => exact rfl))

theorem keeps_openBook (s : State) (l : Label) :
    Keeps [.recd, .log] s (State.openBook s l) := by
  unfold State.openBook
  dsimp only
  repeat (first
    | with_reducible exact Keeps.refl _ _
    | ((with_reducible apply Keeps.app (keeps_updRec ..)); case hs => exact rfl)
    | with_reducible apply Keeps.elim
    | with_reducible apply Keeps.ite
    | intro _)

theorem keeps_reopenBook (s : State) (l : Label) :
    Keeps [.recd, .log] s (State.reopenBook s l) := by
  unfold State.reopenBook
  repeat (first
    | with_reducible exact Keeps.refl _ _
    | ((with_reducible apply Keeps.app (keeps_updRec ..)); case hs => exact rfl))

theorem keeps_emmcSleep (s : State) :
    Keeps [.recd, .log] s (State.emmcSleep s) := by
  unfold State.emmcSleep
  repeat (first
    | with_reducible exact Keeps.refl _ _
    | ((with_reducible apply Keeps.app (keeps_updRec ..)); case hs => exact rfl)
    | with_reducible apply Keeps.ite
    | intro _)

theorem keeps_identify (s : State) (card : CardFacts) :
    Keeps [.recd, .log, .emmc] s (State.identify s card) := by
  unfold State.identify
  dsimp only
  repeat (first
    | with_reducible exact Keeps.refl _ _
    | ((with_reducible apply Keeps.app (keeps_openBook ..)); case hs => exact rfl)
    | ((with_reducible apply Keeps.app (keeps_updRec ..)); case hs => exact rfl)
    | ((with_reducible apply Keeps.app (keeps_reopenBook ..)); case hs => exact rfl)
    | with_reducible apply Keeps.ite
    | intro _
    | split
    | ((with_reducible apply Keeps.app (keeps_set_emmc ..)); case hs => exact rfl))

theorem keeps_openCard (s : State) (card : CardFacts) :
    Keeps [.recd, .log, .emmc] s (State.openCard s card) := by
  unfold State.openCard
  repeat (first
    | with_reducible exact Keeps.refl _ _
    | ((with_reducible apply Keeps.app (keeps_emmcSleep ..)); case hs => exact rfl)
    | ((with_reducible apply Keeps.app (keeps_identify ..)); case hs => exact rfl)
    | with_reducible apply Keeps.ite
    | intro _)

theorem keeps_bookOpen (card : CardFacts) (s : State) :
    Keeps [.recd, .log, .emmc] s (bookOpen card s) := by
  unfold bookOpen
  repeat (first
    | with_reducible exact Keeps.refl _ _
    | ((with_reducible apply Keeps.app (keeps_openCard ..)); case hs => exact rfl)
    | with_reducible apply Keeps.ite
    | intro _)

theorem keeps_emmcRetry (card : CardFacts) (s : State) :
    Keeps [.now, .recd, .log, .emmc] s (emmcRetry card s) := by
  unfold emmcRetry
  repeat (first
    | with_reducible exact Keeps.refl _ _
    | ((with_reducible apply Keeps.app (keeps_openCard ..)); case hs => exact rfl)
    | ((with_reducible apply Keeps.app (keeps_reach ..)); case hs => exact rfl)
    | with_reducible apply Keeps.ite
    | intro _)

theorem keeps_emmcResetReopen (card : CardFacts) (s : State) :
    Keeps [.now, .recd, .log, .emmc] s (emmcResetReopen card s) := by
  unfold emmcResetReopen
  dsimp only
  repeat (first
    | with_reducible exact Keeps.refl _ _
    | ((with_reducible apply Keeps.app (keeps_openCard ..)); case hs => exact rfl)
    | ((with_reducible apply Keeps.app (keeps_updRec ..)); case hs => exact rfl)
    | ((with_reducible apply Keeps.app (keeps_reach ..)); case hs => exact rfl)
    | with_reducible apply Keeps.ite
    | intro _)

theorem keeps_sectorFlushDue (s : State) :
    Keeps [.now, .recd, .log] s (sectorFlushDue s) := by
  unfold sectorFlushDue
  dsimp only
  repeat (first
    | with_reducible exact Keeps.refl _ _
    | ((with_reducible apply Keeps.app (keeps_updRec ..)); case hs => exact rfl)
    | ((with_reducible apply Keeps.app (keeps_reach ..)); case hs => exact rfl)
    | with_reducible apply Keeps.ite
    | intro _
    | split)

theorem keeps_sectorStored (s : State) :
    Keeps [.recd, .log, .emmc] s (State.sectorStored s) := by
  unfold State.sectorStored
  dsimp only
  repeat (first
    | with_reducible exact Keeps.refl _ _
    | ((with_reducible apply Keeps.app (keeps_updRec ..)); case hs => exact rfl)
    | with_reducible apply Keeps.ite
    | intro _
    | split
    | ((with_reducible apply Keeps.app (keeps_set_emmc ..)); case hs => exact rfl))

theorem keeps_dumpReady (s : State) :
    Keeps [.recd, .log] s (State.dumpReady s) := by
  unfold State.dumpReady
  repeat (first
    | with_reducible exact Keeps.refl _ _
    | ((with_reducible apply Keeps.app (keeps_updRec ..)); case hs => exact rfl)
    | with_reducible apply Keeps.ite
    | intro _)

theorem keeps_sectorWriteDone (ok : Bool) (s : State) :
    Keeps [.recd, .log, .emmc] s (sectorWriteDone ok s) := by
  unfold sectorWriteDone
  repeat (first
    | with_reducible exact Keeps.refl _ _
    | ((with_reducible apply Keeps.app (keeps_sectorStored ..)); case hs => exact rfl)
    | ((with_reducible apply Keeps.app (keeps_updRec ..)); case hs => exact rfl)
    | ((with_reducible apply Keeps.app (keeps_emmcSleep ..)); case hs => exact rfl)
    | ((with_reducible apply Keeps.app (keeps_dumpReady ..)); case hs => exact rfl)
    | with_reducible apply Keeps.ite
    | intro _)

theorem keeps_sectorBusyTimeout (s : State) :
    Keeps [.recd, .log] s (sectorBusyTimeout s) := by
  unfold sectorBusyTimeout
  repeat (first
    | with_reducible exact Keeps.refl _ _
    | ((with_reducible apply Keeps.app (keeps_updRec ..)); case hs => exact rfl)
    | with_reducible apply Keeps.ite
    | intro _)

theorem keeps_recCmdRefusal (s : State) (v : Nat) :
    Keeps [.recd, .log] s (State.recCmdRefusal s v) := by
  unfold State.recCmdRefusal
  repeat (first
    | with_reducible exact Keeps.refl _ _
    | ((with_reducible apply Keeps.app (keeps_updRec ..)); case hs => exact rfl)
    | with_reducible apply Keeps.ite
    | intro _)

theorem keeps_recCommand (s : State) (o : Origin) (v : Nat) :
    Keeps [.recd, .log, .emmc] s (State.recCommand s o v) := by
  unfold State.recCommand
  dsimp only
  repeat (first
    | with_reducible exact Keeps.refl _ _
    | ((with_reducible apply Keeps.app (keeps_updRec ..)); case hs => exact rfl)
    | with_reducible apply Keeps.ite
    | intro _
    | ((with_reducible apply Keeps.app (keeps_set_emmc ..)); case hs => exact rfl))

theorem keeps_recRestart (s : State) (l : Label) (next : Nat) :
    Keeps [.recd, .log] s (State.recRestart s l next) := by
  unfold State.recRestart
  dsimp only
  repeat (first
    | with_reducible exact Keeps.refl _ _
    | ((with_reducible apply Keeps.app (keeps_updRec ..)); case hs => exact rfl))

theorem keeps_clearDone (s : State) (l : Label) (o : Origin) (erase : Bool) (from_ : Nat) (to_ : Nat) :
    Keeps [.recd, .log, .emmc] s (State.clearDone s l o erase from_ to_) := by
  unfold State.clearDone
  dsimp only
  repeat (first
    | with_reducible exact Keeps.refl _ _
    | ((with_reducible apply Keeps.app (keeps_updRec ..)); case hs => exact rfl)
    | ((with_reducible apply Keeps.app (keeps_recRestart ..)); case hs => exact rfl)
    | with_reducible apply Keeps.ite
    | intro _
    | ((with_reducible apply Keeps.app (keeps_set_emmc ..)); case hs => exact rfl))

theorem keeps_foundDone (s : State) (o : Origin) :
    Keeps [.recd, .log, .emmc] s (State.foundDone s o) := by
  unfold State.foundDone
  dsimp only
  repeat (first
    | with_reducible exact Keeps.refl _ _
    | ((with_reducible apply Keeps.app (keeps_updRec ..)); case hs => exact rfl)
    | ((with_reducible apply Keeps.app (keeps_set_emmc ..)); case hs => exact rfl))

theorem keeps_commandDone (s : State) :
    Keeps [.recd, .log, .emmc] s (State.commandDone s) := by
  unfold State.commandDone
  repeat (first
    | with_reducible exact Keeps.refl _ _
    | ((with_reducible apply Keeps.app (keeps_clearDone ..)); case hs => exact rfl)
    | ((with_reducible apply Keeps.app (keeps_updRec ..)); case hs => exact rfl)
    | ((with_reducible apply Keeps.app (keeps_foundDone ..)); case hs => exact rfl)
    | with_reducible apply Keeps.ite
    | intro _
    | split)

theorem keeps_recorderCmdDone (s : State) :
    Keeps [.recd, .log, .emmc] s (recorderCmdDone s) := by
  unfold recorderCmdDone
  repeat (first
    | with_reducible exact Keeps.refl _ _
    | ((with_reducible apply Keeps.app (keeps_commandDone ..)); case hs => exact rfl)
    | ((with_reducible apply Keeps.app (keeps_emmcSleep ..)); case hs => exact rfl)
    | with_reducible apply Keeps.ite
    | intro _)

theorem keeps_timeRecordDue (s : State) :
    Keeps [.now, .log] s (timeRecordDue s) := by
  unfold timeRecordDue
  dsimp only
  repeat (first
    | with_reducible exact Keeps.refl _ _
    | ((with_reducible apply Keeps.app (keeps_reach ..)); case hs => exact rfl)
    | ((with_reducible apply Keeps.app (keeps_record ..)); case hs => exact rfl))

theorem keeps_lossHoldExpiry (s : State) :
    Keeps [.now, .recd, .log] s (lossHoldExpiry s) := by
  unfold lossHoldExpiry
  repeat (first
    | with_reducible exact Keeps.refl _ _
    | ((with_reducible apply Keeps.app (keeps_updRec ..)); case hs => exact rfl)
    | ((with_reducible apply Keeps.app (keeps_reach ..)); case hs => exact rfl)
    | split)

theorem keeps_correlateWrite (s : State) (o : Origin) (v : Nat) :
    Keeps [.log] s (State.correlateWrite s o v) := by
  unfold State.correlateWrite
  repeat (first
    | with_reducible exact Keeps.refl _ _
    | ((with_reducible apply Keeps.app (keeps_record ..)); case hs => exact rfl))

theorem keeps_updSession (s : State) (k : Fin 4) (f : Session → Session) :
    Keeps [.sessions] s (State.updSession s k f) := by
  unfold State.updSession
  repeat (first
    | with_reducible exact Keeps.refl _ _
    | ((with_reducible apply Keeps.app (keeps_set_net_sessions ..)); case hs => exact rfl))

theorem keeps_putSession (s : State) (k : Fin 4) (x : Option Session) :
    Keeps [.sessions] s (State.putSession s k x) := by
  unfold State.putSession
  repeat (first
    | with_reducible exact Keeps.refl _ _
    | ((with_reducible apply Keeps.app (keeps_set_net_sessions ..)); case hs => exact rfl))

theorem keeps_sessionRecord (s : State) (x : Session) (event : Nat) :
    Keeps [.log] s (State.sessionRecord s x event) := by
  unfold State.sessionRecord
  repeat (first
    | with_reducible exact Keeps.refl _ _
    | ((with_reducible apply Keeps.app (keeps_record ..)); case hs => exact rfl))

theorem keeps_openAt (s : State) (k : Fin 4) (x : Session) :
    Keeps [.sessions, .log] s (State.openAt s k x) := by
  unfold State.openAt
  repeat (first
    | with_reducible exact Keeps.refl _ _
    | ((with_reducible apply Keeps.app (keeps_putSession ..)); case hs => exact rfl)
    | ((with_reducible apply Keeps.app (keeps_sessionRecord ..)); case hs => exact rfl))

theorem keeps_refuseSession (s : State) :
    Keeps [.sessions] s (State.refuseSession s) := by
  unfold State.refuseSession
  repeat (first
    | with_reducible exact Keeps.refl _ _
    | ((with_reducible apply Keeps.app (keeps_set_net_sessionsRefused ..)); case hs => exact rfl))

theorem keeps_dropSession (s : State) (o : Origin) :
    Keeps [.tally, .permits, .held, .xfer] s (State.dropSession s o) := by
  unfold State.dropSession
  dsimp only
  repeat (first
    | with_reducible exact Keeps.refl _ _
    | ((with_reducible apply Keeps.app (keeps_armLost ..)); case hs => exact rfl)
    | ((with_reducible apply Keeps.app (keeps_set_tally_net_held_xfer ..)); case hs => exact rfl))

theorem keeps_endSession (s : State) (k : Fin 4) :
    Keeps [.tally, .permits, .sessions, .held, .xfer, .log] s (State.endSession s k) := by
  unfold State.endSession
  repeat (first
    | with_reducible exact Keeps.refl _ _
    | ((with_reducible apply Keeps.app (keeps_dropSession ..)); case hs => exact rfl)
    | ((with_reducible apply Keeps.app (keeps_putSession ..)); case hs => exact rfl)
    | ((with_reducible apply Keeps.app (keeps_sessionRecord ..)); case hs => exact rfl)
    | split)

theorem keeps_endCanSessions (s : State) (p : CanPort) :
    Keeps [.tally, .permits, .sessions, .held, .xfer, .log] s (State.endCanSessions s p) := by
  unfold State.endCanSessions
  repeat (first
    | with_reducible exact Keeps.refl _ _
    | with_reducible apply Keeps.foldl
    | ((with_reducible apply Keeps.app (keeps_endSession ..)); case hs => exact rfl)
    | with_reducible apply Keeps.ite
    | intro _
    | split)

theorem keeps_reply (s : State) (h : Hdr) (typ : Nat) (session : Nat) (status : Nat) (body : List Byte) :
    Keeps [.stream, .sent] s (State.reply s h typ session status body) := by
  unfold State.reply
  repeat (first
    | with_reducible exact Keeps.refl _ _
    | ((with_reducible apply Keeps.app (keeps_sendDatagram ..)); case hs => exact rfl))

theorem keeps_respond (s : State) (k : Fin 4) (typ : Nat) (ref : Nat) (body : List Byte) :
    Keeps [.sessions, .stream, .sent] s (State.respond s k typ ref body) := by
  unfold State.respond
  dsimp only
  repeat (first
    | with_reducible exact Keeps.refl _ _
    | ((with_reducible apply Keeps.app (keeps_sendDatagram ..)); case hs => exact rfl)
    | ((with_reducible apply Keeps.app (keeps_updSession ..)); case hs => exact rfl)
    | with_reducible apply Keeps.ite
    | intro _
    | split)

theorem keeps_resend (s : State) (k : Fin 4) :
    Keeps [.sessions, .stream, .sent] s (State.resend s k) := by
  unfold State.resend
  repeat (first
    | with_reducible exact Keeps.refl _ _
    | ((with_reducible apply Keeps.app (keeps_respond ..)); case hs => exact rfl)
    | split)

theorem keeps_countSeqError (s : State) (p : PortId) :
    Keeps [.ports, .stream] s (State.countSeqError s p) := by
  unfold State.countSeqError
  repeat (first
    | with_reducible exact Keeps.refl _ _
    | ((with_reducible apply Keeps.app (keeps_updPort ..)); case hs => exact rfl))

theorem Keeps.request {l : List Part} {s t : State} {h : Hdr} {typ : Nat} {f : Fin 4 → State → State}
    (hl : subParts [.sessions, .ports, .stream, .sent] l = true) (hf : ∀ k u, Keeps l u (f k u)) (g : Keeps l s t) :
    Keeps l s (t.request h typ f) := by
  refine g.trans ?_
  unfold State.request
  dsimp only
  have r (u : State) (ref st : Nat) (b : List Byte) : Keeps l u (u.reply h typ ref st b) :=
    ((keeps_reply ..).mono (b := [.sessions, .ports, .stream, .sent]) rfl).mono hl
  have us (u : State) (k : Fin 4) (e : Session → Session) : Keeps l u (u.updSession k e) :=
    ((keeps_updSession ..).mono (b := [.sessions, .ports, .stream, .sent]) rfl).mono hl
  have rs (u : State) (k : Fin 4) : Keeps l u (u.resend k) :=
    ((keeps_resend ..).mono (b := [.sessions, .ports, .stream, .sent]) rfl).mono hl
  have ce (u : State) (p : PortId) : Keeps l u (u.countSeqError p) :=
    ((keeps_countSeqError ..).mono (b := [.sessions, .ports, .stream, .sent]) rfl).mono hl
  split
  · split
    · exact r ..
    · split
      · exact Keeps.refl _ _
      · split
        · split
          · exact (us ..).trans (r ..)
          · exact ((us ..).trans (us ..)).trans (hf ..)
        · split
          · split
            · exact us ..
            · exact (us ..).trans (rs ..)
          · exact ((us ..).trans (ce ..)).trans (r ..)
  · exact Keeps.refl _ _

theorem keeps_openPlain (h : Hdr) (s : State) :
    Keeps [.sessions, .stream, .log, .sent] s (openPlain h s) := by
  unfold openPlain
  dsimp only
  repeat (first
    | with_reducible exact Keeps.refl _ _
    | ((with_reducible apply Keeps.app (keeps_refuseSession ..)); case hs => exact rfl)
    | ((with_reducible apply Keeps.app (keeps_reply ..)); case hs => exact rfl)
    | ((with_reducible apply Keeps.app (keeps_openAt ..)); case hs => exact rfl)
    | ((with_reducible apply Keeps.app (keeps_respond ..)); case hs => exact rfl)
    | with_reducible apply Keeps.ite
    | intro _
    | split
    | ((with_reducible apply Keeps.app (keeps_set_net_nextSession ..)); case hs => exact rfl))

theorem keeps_openTakeover (h : Hdr) (target : Nat) (s : State) :
    Keeps [.tally, .permits, .sessions, .held, .stream, .xfer, .log, .sent] s (openTakeover h target s) := by
  unfold openTakeover
  dsimp only
  repeat (first
    | with_reducible exact Keeps.refl _ _
    | ((with_reducible apply Keeps.app (keeps_resend ..)); case hs => exact rfl)
    | ((with_reducible apply Keeps.app (keeps_endSession ..)); case hs => exact rfl)
    | ((with_reducible apply Keeps.app (keeps_reply ..)); case hs => exact rfl)
    | ((with_reducible apply Keeps.app (keeps_openAt ..)); case hs => exact rfl)
    | with_reducible apply Keeps.ite
    | intro _
    | split)

theorem keeps_closeSession (h : Hdr) (s : State) :
    Keeps [.tally, .permits, .sessions, .held, .ports, .stream, .xfer, .log, .sent] s (closeSession h s) := by
  unfold closeSession
  repeat (first
    | with_reducible exact Keeps.refl _ _
    | ((with_reducible apply Keeps.request); case hl => decide)
    | ((with_reducible apply Keeps.app (keeps_endSession ..)); case hs => exact rfl)
    | ((with_reducible apply Keeps.app (keeps_respond ..)); case hs => exact rfl)
    | intro _)

theorem keeps_nopRequest (h : Hdr) (s : State) :
    Keeps [.sessions, .ports, .stream, .sent] s (nopRequest h s) := by
  unfold nopRequest
  repeat (first
    | with_reducible exact Keeps.refl _ _
    | ((with_reducible apply Keeps.request); case hl => decide)
    | ((with_reducible apply Keeps.app (keeps_respond ..)); case hs => exact rfl)
    | intro _)

theorem keeps_malformed (h : Hdr) (typ : Nat) (m : Malformation) (s : State) :
    Keeps [.stream, .sent] s (malformed h typ m s) := by
  unfold malformed
  repeat (first
    | with_reducible exact Keeps.refl _ _
    | ((with_reducible apply Keeps.app (keeps_reply ..)); case hs => exact rfl)
    | with_reducible apply Keeps.ite
    | intro _
    | split)

theorem keeps_sessionTimeout (k : Fin 4) (s : State) :
    Keeps [.now, .tally, .permits, .sessions, .held, .xfer, .log] s (sessionTimeout k s) := by
  unfold sessionTimeout
  repeat (first
    | with_reducible exact Keeps.refl _ _
    | ((with_reducible apply Keeps.app (keeps_endSession ..)); case hs => exact rfl)
    | ((with_reducible apply Keeps.app (keeps_reach ..)); case hs => exact rfl)
    | split)

theorem keeps_issueChallenge (s : State) (k : Fin 4) :
    Keeps [.fresh, .sessions] s (State.issueChallenge s k) := by
  unfold State.issueChallenge
  repeat (first
    | with_reducible exact Keeps.refl _ _
    | ((with_reducible apply Keeps.app (keeps_draw ..)); case hs => exact rfl)
    | ((with_reducible apply Keeps.app (keeps_updSession ..)); case hs => exact rfl)
    | with_reducible apply Keeps.ite
    | intro _
    | split)

theorem keeps_setLevel (s : State) (k : Fin 4) (l : Level) :
    Keeps [.sessions, .log] s (State.setLevel s k l) := by
  unfold State.setLevel
  repeat (first
    | with_reducible exact Keeps.refl _ _
    | ((with_reducible apply Keeps.app (keeps_sessionRecord ..)); case hs => exact rfl)
    | ((with_reducible apply Keeps.app (keeps_updSession ..)); case hs => exact rfl)
    | with_reducible apply Keeps.ite
    | intro _
    | split)

theorem keeps_authRequest (s : State) (k : Fin 4) (v : Nat) :
    Keeps [.sessions, .log] s (State.authRequest s k v).1 := by
  unfold State.authRequest
  dsimp only
  repeat (first
    | with_reducible exact Keeps.refl _ _
    | ((with_reducible apply Keeps.app (keeps_setLevel ..)); case hs => exact rfl)
    | ((with_reducible apply Keeps.app (keeps_updSession ..)); case hs => exact rfl)
    | with_reducible apply Keeps.ite
    | intro _
    | split)

theorem keeps_authFailed (s : State) (x : Session) :
    Keeps [.ports, .stream, .auth, .log] s (State.authFailed s x) := by
  unfold State.authFailed
  dsimp only
  repeat (first
    | with_reducible exact Keeps.refl _ _
    | ((with_reducible apply Keeps.app (keeps_updPort ..)); case hs => exact rfl)
    | ((with_reducible apply Keeps.app (keeps_sessionRecord ..)); case hs => exact rfl)
    | with_reducible apply Keeps.ite
    | intro _
    | ((with_reducible apply Keeps.app (keeps_set_net_authFailures ..)); case hs => exact rfl))

theorem keeps_authResponse (s : State) (k : Fin 4) (response : List Byte) :
    Keeps [.sessions, .ports, .stream, .auth, .log] s (State.authResponse s k response) := by
  unfold State.authResponse
  dsimp only
  repeat (first
    | with_reducible exact Keeps.refl _ _
    | ((with_reducible apply Keeps.app (keeps_updPort ..)); case hs => exact rfl)
    | ((with_reducible apply Keeps.app (keeps_setLevel ..)); case hs => exact rfl)
    | ((with_reducible apply Keeps.app (keeps_authFailed ..)); case hs => exact rfl)
    | ((with_reducible apply Keeps.app (keeps_updSession ..)); case hs => exact rfl)
    | with_reducible apply Keeps.ite
    | intro _
    | split)

theorem keeps_authChallengeExpiry (k : Fin 4) (s : State) :
    Keeps [.now, .sessions] s (authChallengeExpiry k s) := by
  unfold authChallengeExpiry
  repeat (first
    | with_reducible exact Keeps.refl _ _
    | ((with_reducible apply Keeps.app (keeps_reach ..)); case hs => exact rfl)
    | ((with_reducible apply Keeps.app (keeps_updSession ..)); case hs => exact rfl)
    | split)

theorem keeps_authLockoutEnd (p : PortId) (s : State) :
    Keeps [.now, .ports, .stream] s (authLockoutEnd p s) := by
  unfold authLockoutEnd
  repeat (first
    | with_reducible exact Keeps.refl _ _
    | ((with_reducible apply Keeps.app (keeps_updPort ..)); case hs => exact rfl)
    | ((with_reducible apply Keeps.app (keeps_reach ..)); case hs => exact rfl)
    | split)

theorem keeps_installKey (s : State) (v : Nat) :
    Keeps [.auth] s (State.installKey s v) := by
  unfold State.installKey
  repeat (first
    | with_reducible exact Keeps.refl _ _
    | ((with_reducible apply Keeps.app (keeps_set_net_key_keyId ..)); case hs => exact rfl))

theorem keeps_setNmt (s : State) (p : CanPort) (n : Nmt) :
    Keeps [.can] s (State.setNmt s p n) := by
  unfold State.setNmt
  repeat (first
    | with_reducible exact Keeps.refl _ _
    | ((with_reducible apply Keeps.app (keeps_updCan ..)); case hs => exact rfl))

theorem keeps_nmtStart (p : CanPort) (s : State) :
    Keeps [.can] s (nmtStart p s) := by
  unfold nmtStart
  repeat (first
    | with_reducible exact Keeps.refl _ _
    | ((with_reducible apply Keeps.app (keeps_setNmt ..)); case hs => exact rfl)
    | with_reducible apply Keeps.ite
    | intro _)

theorem keeps_nmtStop (p : CanPort) (s : State) :
    Keeps [.tally, .permits, .sessions, .held, .can, .xfer, .log] s (nmtStop p s) := by
  unfold nmtStop
  repeat (first
    | with_reducible exact Keeps.refl _ _
    | ((with_reducible apply Keeps.app (keeps_endCanSessions ..)); case hs => exact rfl)
    | ((with_reducible apply Keeps.app (keeps_setNmt ..)); case hs => exact rfl))

theorem keeps_bootUp (s : State) (p : CanPort) :
    Keeps [.sent] s (State.bootUp s p) := by
  unfold State.bootUp
  repeat (first
    | with_reducible exact Keeps.refl _ _
    | ((with_reducible apply Keeps.app (keeps_sendCan ..)); case hs => exact rfl)
    | with_reducible apply Keeps.ite
    | intro _)

theorem keeps_busRejoin (s : State) (p : CanPort) :
    Keeps [.stream, .can, .emcy, .sent] s (State.busRejoin s p) := by
  unfold State.busRejoin
  repeat (first
    | with_reducible exact Keeps.refl _ _
    | ((with_reducible apply Keeps.app (keeps_updCan ..)); case hs => exact rfl)
    | ((with_reducible apply Keeps.app (keeps_portEvent ..)); case hs => exact rfl))

theorem keeps_nmtResetCommunication (p : CanPort) (s : State) :
    Keeps [.tally, .permits, .sessions, .held, .stream, .can, .xfer, .emcy, .pdo, .log, .sent] s (nmtResetCommunication p s) := by
  unfold nmtResetCommunication
  dsimp only
  repeat (first
    | with_reducible exact Keeps.refl _ _
    | ((with_reducible apply Keeps.app (keeps_endCanSessions ..)); case hs => exact rfl)
    | ((with_reducible apply Keeps.app (keeps_bootUp ..)); case hs => exact rfl)
    | ((with_reducible apply Keeps.app (keeps_busRejoin ..)); case hs => exact rfl)
    | ((with_reducible apply Keeps.app (keeps_updCan ..)); case hs => exact rfl)
    | with_reducible apply Keeps.ite
    | intro _
    | ((with_reducible apply Keeps.app (keeps_set_net_rpdoAt ..)); case hs => exact rfl))

theorem keeps_sendIdentity (s : State) (p : CanPort) :
    Keeps [.sent] s (State.sendIdentity s p) := by
  unfold State.sendIdentity
  dsimp only
  repeat (first
    | with_reducible exact Keeps.refl _ _
    | ((with_reducible apply Keeps.app (keeps_sendCan ..)); case hs => exact rfl)
    | with_reducible apply Keeps.ite
    | intro _)

theorem keeps_sendHeartbeat (s : State) (p : PortId) :
    Keeps [.stream, .sent] s (State.sendHeartbeat s p) := by
  unfold State.sendHeartbeat
  dsimp only
  repeat (first
    | with_reducible exact Keeps.refl _ _
    | ((with_reducible apply Keeps.app (keeps_sendCan ..)); case hs => exact rfl)
    | ((with_reducible apply Keeps.app (keeps_sendIdentity ..)); case hs => exact rfl)
    | ((with_reducible apply Keeps.app (keeps_sendDatagram ..)); case hs => exact rfl)
    | with_reducible apply Keeps.ite
    | intro _
    | split)

theorem keeps_heartbeatSend (p : PortId) (s : State) :
    Keeps [.now, .ports, .stream, .sent] s (heartbeatSend p s) := by
  unfold heartbeatSend
  dsimp only
  repeat (first
    | with_reducible exact Keeps.refl _ _
    | ((with_reducible apply Keeps.app (keeps_updPort ..)); case hs => exact rfl)
    | ((with_reducible apply Keeps.app (keeps_sendHeartbeat ..)); case hs => exact rfl)
    | ((with_reducible apply Keeps.app (keeps_reach ..)); case hs => exact rfl)
    | with_reducible apply Keeps.ite
    | intro _)

theorem keeps_heartbeatReceived (p : CanPort) (node : Nat) (s : State) :
    Keeps [.can] s (heartbeatReceived p node s) := by
  unfold heartbeatReceived
  repeat (first
    | with_reducible exact Keeps.refl _ _
    | with_reducible apply Keeps.foldl
    | ((with_reducible apply Keeps.app (keeps_updCan ..)); case hs => exact rfl)
    | with_reducible apply Keeps.ite
    | intro _)

theorem keeps_hbConsumerMiss (p : CanPort) (e : Fin 4) (s : State) :
    Keeps [.now, .stream, .can, .emcy, .sent] s (hbConsumerMiss p e s) := by
  unfold hbConsumerMiss
  dsimp only
  repeat (first
    | with_reducible exact Keeps.refl _ _
    | ((with_reducible apply Keeps.app (keeps_updCan ..)); case hs => exact rfl)
    | ((with_reducible apply Keeps.app (keeps_portEvent ..)); case hs => exact rfl)
    | ((with_reducible apply Keeps.app (keeps_reach ..)); case hs => exact rfl)
    | split)

theorem keeps_setBus (s : State) (p : CanPort) (b : CanBus) :
    Keeps [.can] s (State.setBus s p b) := by
  unfold State.setBus
  repeat (first
    | with_reducible exact Keeps.refl _ _
    | ((with_reducible apply Keeps.app (keeps_updCan ..)); case hs => exact rfl))

theorem keeps_canErrorPassive (p : CanPort) (busOff : Bool) (s : State) :
    Keeps [.stream, .can, .emcy, .sent] s (canErrorPassive p busOff s) := by
  unfold canErrorPassive
  dsimp only
  repeat (first
    | with_reducible exact Keeps.refl _ _
    | ((with_reducible apply Keeps.app (keeps_updCan ..)); case hs => exact rfl)
    | ((with_reducible apply Keeps.app (keeps_portEvent ..)); case hs => exact rfl)
    | with_reducible apply Keeps.ite
    | intro _)

theorem keeps_canErrorActive (p : CanPort) (s : State) :
    Keeps [.fresh, .stream, .can, .emcy, .sent] s (canErrorActive p s) := by
  unfold canErrorActive
  repeat (first
    | with_reducible exact Keeps.refl _ _
    | ((with_reducible apply Keeps.app (keeps_setBus ..)); case hs => exact rfl)
    | ((with_reducible apply Keeps.app (keeps_draw ..)); case hs => exact rfl)
    | ((with_reducible apply Keeps.app (keeps_portEvent ..)); case hs => exact rfl)
    | with_reducible apply Keeps.ite
    | intro _)

theorem keeps_busOffRecovery (p : CanPort) (s : State) :
    Keeps [.stream, .can, .emcy, .sent] s (busOffRecovery p s) := by
  unfold busOffRecovery
  dsimp only
  repeat (first
    | with_reducible exact Keeps.refl _ _
    | ((with_reducible apply Keeps.app (keeps_busRejoin ..)); case hs => exact rfl)
    | ((with_reducible apply Keeps.app (keeps_updCan ..)); case hs => exact rfl)
    | with_reducible apply Keeps.ite
    | intro _)

theorem keeps_linkDown (s : State) (p : EthPort) (beaconOnly : Bool) :
    Keeps [.ports, .stream] s (State.linkDown s p beaconOnly) := by
  unfold State.linkDown
  repeat (first
    | with_reducible exact Keeps.refl _ _
    | ((with_reducible apply Keeps.app (keeps_updPort ..)); case hs => exact rfl))

theorem keeps_linkReturns (s : State) (p : EthPort) :
    Keeps [.ports, .stream] s (State.linkReturns s p) := by
  unfold State.linkReturns
  repeat (first
    | with_reducible exact Keeps.refl _ _
    | ((with_reducible apply Keeps.app (keeps_updPort ..)); case hs => exact rfl))

theorem keeps_lostRx (s : State) (p : PortId) :
    Keeps [.ports, .stream, .emcy, .sent] s (State.lostRx s p) := by
  unfold State.lostRx
  repeat (first
    | with_reducible exact Keeps.refl _ _
    | ((with_reducible apply Keeps.app (keeps_updPort ..)); case hs => exact rfl)
    | ((with_reducible apply Keeps.app (keeps_portEvent ..)); case hs => exact rfl))

theorem keeps_lostRxExpiry (p : PortId) (s : State) :
    Keeps [.now, .ports, .stream] s (lostRxExpiry p s) := by
  unfold lostRxExpiry
  repeat (first
    | with_reducible exact Keeps.refl _ _
    | ((with_reducible apply Keeps.app (keeps_updPort ..)); case hs => exact rfl)
    | ((with_reducible apply Keeps.app (keeps_reach ..)); case hs => exact rfl)
    | split)

theorem keeps_sendTpdos (s : State) (l : List (Nat × List Byte)) :
    Keeps [.stream, .pdo, .sent] s (State.sendTpdos s l) := by
  unfold State.sendTpdos
  dsimp only
  repeat (first
    | with_reducible exact Keeps.refl _ _
    | with_reducible apply Keeps.foldl
    | ((with_reducible apply Keeps.app (keeps_sendCan ..)); case hs => exact rfl)
    | ((with_reducible apply Keeps.app (keeps_sendDatagram ..)); case hs => exact rfl)
    | with_reducible apply Keeps.ite
    | intro _
    | ((with_reducible apply Keeps.app (keeps_set_net_tpdoSent ..)); case hs => exact rfl))

theorem keeps_tpdoEventTimer (n : Fin 16) (s : State) :
    Keeps [.now, .stream, .pdo, .sent] s (tpdoEventTimer n s) := by
  unfold tpdoEventTimer
  dsimp only
  repeat (first
    | with_reducible exact Keeps.refl _ _
    | ((with_reducible apply Keeps.app (keeps_reach ..)); case hs => exact rfl)
    | ((with_reducible apply Keeps.app (keeps_sendTpdos ..)); case hs => exact rfl)
    | with_reducible apply Keeps.ite
    | intro _)

theorem keeps_sendSrdo (s : State) (n : Nat) :
    Keeps [.pdo, .sent] s (State.sendSrdo s n) := by
  unfold State.sendSrdo
  dsimp only
  repeat (first
    | with_reducible exact Keeps.refl _ _
    | with_reducible apply Keeps.foldl
    | ((with_reducible apply Keeps.app (keeps_sendFrame ..)); case hs => exact rfl)
    | with_reducible apply Keeps.ite
    | intro _
    | ((with_reducible apply Keeps.app (keeps_set_net_srdoSent ..)); case hs => exact rfl))

theorem keeps_srdoRefresh (n : Fin 8) (s : State) :
    Keeps [.now, .stream, .emcy, .pdo, .sent] s (srdoRefresh n s) := by
  unfold srdoRefresh
  dsimp only
  repeat (first
    | with_reducible exact Keeps.refl _ _
    | ((with_reducible apply Keeps.app (keeps_sendSrdo ..)); case hs => exact rfl)
    | ((with_reducible apply Keeps.app (keeps_emergency ..)); case hs => exact rfl)
    | ((with_reducible apply Keeps.app (keeps_reach ..)); case hs => exact rfl)
    | with_reducible apply Keeps.ite
    | intro _
    | ((with_reducible apply Keeps.app (keeps_set_net_srdoSent ..)); case hs => exact rfl))

theorem keeps_sendChanged (s : State) :
    Keeps [.stream, .pdo, .sent] s (State.sendChanged s) := by
  unfold State.sendChanged
  dsimp only
  repeat (first
    | with_reducible exact Keeps.refl _ _
    | with_reducible apply Keeps.foldl
    | ((with_reducible apply Keeps.app (keeps_sendSrdo ..)); case hs => exact rfl)
    | ((with_reducible apply Keeps.app (keeps_sendTpdos ..)); case hs => exact rfl)
    | with_reducible apply Keeps.ite
    | intro _)

theorem keeps_produceSync (s : State) :
    Keeps [.can, .sent] s (State.produceSync s) := by
  unfold State.produceSync
  dsimp only
  repeat (first
    | with_reducible exact Keeps.refl _ _
    | with_reducible apply Keeps.foldl
    | ((with_reducible apply Keeps.app (keeps_sendCan ..)); case hs => exact rfl)
    | ((with_reducible apply Keeps.app (keeps_updCan ..)); case hs => exact rfl)
    | with_reducible apply Keeps.ite
    | intro _)

theorem keeps_takeRpdo (s : State) (p : PortId) (n : Nat) (data : List Byte) :
    Keeps [.held, .pdo] s (State.takeRpdo s p n data) := by
  unfold State.takeRpdo
  dsimp only
  repeat (first
    | with_reducible exact Keeps.refl _ _
    | with_reducible apply Keeps.ite
    | intro _
    | ((with_reducible apply Keeps.app (keeps_set_net_held_rpdoAt ..)); case hs => exact rfl))

theorem keeps_rpdoReceived (p : CanPort) (n : Fin 8) (data : List Byte) (s : State) :
    Keeps [.held, .pdo] s (rpdoReceived p n data s) := by
  unfold rpdoReceived
  repeat (first
    | with_reducible exact Keeps.refl _ _
    | ((with_reducible apply Keeps.app (keeps_takeRpdo ..)); case hs => exact rfl)
    | with_reducible apply Keeps.ite
    | intro _)

theorem keeps_rpdoTimeout (p : PortId) (n : Fin 8) (s : State) :
    Keeps [.now, .ports, .stream, .emcy, .pdo, .sent] s (rpdoTimeout p n s) := by
  unfold rpdoTimeout
  dsimp only
  repeat (first
    | with_reducible exact Keeps.refl _ _
    | ((with_reducible apply Keeps.app (keeps_lostRx ..)); case hs => exact rfl)
    | ((with_reducible apply Keeps.app (keeps_reach ..)); case hs => exact rfl)
    | with_reducible apply Keeps.ite
    | intro _
    | split
    | ((with_reducible apply Keeps.app (keeps_set_net_rpdoAt ..)); case hs => exact rfl))

theorem keeps_hostPd (s : State) (p : PortId) (seq : Nat) :
    Keeps [.ports, .stream, .emcy, .sent] s (State.hostPd s p seq) := by
  unfold State.hostPd
  dsimp only
  repeat (first
    | with_reducible exact Keeps.refl _ _
    | ((with_reducible apply Keeps.app (keeps_updPort ..)); case hs => exact rfl)
    | ((with_reducible apply Keeps.app (keeps_lostRx ..)); case hs => exact rfl)
    | with_reducible apply Keeps.ite
    | intro _)

theorem keeps_pdHost (p : EthPort) (link : EthLink) (seq : Nat) (blocks : List PdBlock) (s : State) :
    Keeps [.held, .ports, .stream, .emcy, .pdo, .sent] s (pdHost p link seq blocks s) := by
  unfold pdHost
  repeat (first
    | with_reducible exact Keeps.refl _ _
    | with_reducible apply Keeps.foldl
    | ((with_reducible apply Keeps.app (keeps_takeRpdo ..)); case hs => exact rfl)
    | ((with_reducible apply Keeps.app (keeps_hostPd ..)); case hs => exact rfl)
    | with_reducible apply Keeps.ite
    | intro _)

end Sys2Proof.Machine
end

