-- ==== Sys2Proof/Laws/FrameDevice.lean ====
section
/-! SUPPORT. The frame of every operation on the state, one lemma each: fatal handler, power, writes, requests and ticks. -/

namespace Sys2Proof.Machine

theorem keeps_closeRequest (s : State) (k : Fin 4) :
    Keeps [.tally, .permits, .sessions, .held, .stream, .xfer, .log, .sent] s (State.closeRequest s k) := by
  unfold State.closeRequest
  dsimp only
  repeat (first
    | with_reducible exact Keeps.refl _ _
    | ((with_reducible apply Keeps.app (keeps_endSession ..)); case hs => exact rfl)
    | ((with_reducible apply Keeps.app (keeps_respond ..)); case hs => exact rfl)
    | ((with_reducible apply Keeps.app (keeps_updSession ..)); case hs => exact rfl)
    | with_reducible apply Keeps.ite
    | intro _
    | split)

theorem keeps_sdoAnswer (s : State) (p : CanPort) (k : Fin 4) (i : Nat) (sub : Nat) (abort : Nat) (data : List Byte) :
    Keeps [.sent] s (State.sdoAnswer s p k i sub abort data) := by
  unfold State.sdoAnswer
  repeat (first
    | with_reducible exact Keeps.refl _ _
    | ((with_reducible apply Keeps.app (keeps_say ..)); case hs => exact rfl))

theorem keeps_countBusy (s : State) (p : PortId) :
    Keeps [.ports, .stream] s (State.countBusy s p) := by
  unfold State.countBusy
  repeat (first
    | with_reducible exact Keeps.refl _ _
    | ((with_reducible apply Keeps.app (keeps_updPort ..)); case hs => exact rfl))

theorem keeps_answerHeld (s : State) (w : HeldWrite) (abort : Nat) :
    Keeps [.tally, .permits, .sessions, .held, .stream, .xfer, .log, .sent] s (State.answerHeld s w abort) := by
  unfold State.answerHeld
  repeat (first
    | with_reducible exact Keeps.refl _ _
    | ((with_reducible apply Keeps.app (keeps_sdoAnswer ..)); case hs => exact rfl)
    | ((with_reducible apply Keeps.app (keeps_say ..)); case hs => exact rfl)
    | ((with_reducible apply Keeps.app (keeps_closeRequest ..)); case hs => exact rfl)
    | ((with_reducible apply Keeps.app (keeps_updSession ..)); case hs => exact rfl)
    | with_reducible apply Keeps.ite
    | intro _
    | split)

theorem keeps_dropHeld (s : State) (w : HeldWrite) (abort : Nat) :
    Keeps [.tally, .permits, .sessions, .held, .ports, .stream, .xfer, .log, .sent] s (State.dropHeld s w abort) := by
  unfold State.dropHeld
  repeat (first
    | with_reducible exact Keeps.refl _ _
    | ((with_reducible apply Keeps.app (keeps_answerHeld ..)); case hs => exact rfl)
    | ((with_reducible apply Keeps.app (keeps_countBusy ..)); case hs => exact rfl)
    | with_reducible apply Keeps.ite
    | intro _)

theorem keeps_refuseHeld (s : State) :
    Keeps [.tally, .permits, .sessions, .held, .ports, .stream, .xfer, .log, .sent] s (State.refuseHeld s) := by
  unfold State.refuseHeld
  dsimp only
  repeat (first
    | with_reducible exact Keeps.refl _ _
    | with_reducible apply Keeps.foldl
    | ((with_reducible apply Keeps.app (keeps_sdoAnswer ..)); case hs => exact rfl)
    | ((with_reducible apply Keeps.app (keeps_dropHeld ..)); case hs => exact rfl)
    | ((with_reducible apply Keeps.app (keeps_updSession ..)); case hs => exact rfl)
    | with_reducible apply Keeps.ite
    | intro _
    | split
    | ((with_reducible apply Keeps.app (keeps_set_net_held ..)); case hs => exact rfl)
    | ((with_reducible apply Keeps.app (keeps_set_net_xfer ..)); case hs => exact rfl))

theorem keeps_dumpBegin (s : State) (published : List Byte) (queue : List Rec) (fatal : Nat) :
    Keeps [.fresh, .recd, .log] s (State.dumpBegin s published queue fatal) := by
  unfold State.dumpBegin
  dsimp only
  repeat (first
    | with_reducible exact Keeps.refl _ _
    | ((with_reducible apply Keeps.app (keeps_updRec ..)); case hs => exact rfl)
    | ((with_reducible apply Keeps.app (keeps_draw ..)); case hs => exact rfl)
    | ((with_reducible apply Keeps.app (keeps_dumpReady ..)); case hs => exact rfl))

theorem keeps_fatalRecord (s : State) :
    Keeps [.recd, .log] s (State.fatalRecord s) := by
  unfold State.fatalRecord
  dsimp only
  repeat (first
    | with_reducible exact Keeps.refl _ _
    | ((with_reducible apply Keeps.app (keeps_updRec ..)); case hs => exact rfl)
    | with_reducible apply Keeps.ite
    | intro _)

theorem keeps_recHandler (s : State) :
    Keeps [.recd, .log] s (State.recHandler s) := by
  unfold State.recHandler
  dsimp only
  repeat (first
    | with_reducible exact Keeps.refl _ _
    | ((with_reducible apply Keeps.app (keeps_updRec ..)); case hs => exact rfl)
    | with_reducible apply Keeps.ite
    | intro _)

theorem keeps_enterHandler (s : State) :
    Keeps [.fresh, .power, .term, .src, .bell, .tally, .permits, .twin, .sessions, .held, .ports, .stream, .can, .xfer, .emcy, .recd, .log, .sent] s (State.enterHandler s) := by
  unfold State.enterHandler
  dsimp only
  repeat (first
    | with_reducible exact Keeps.refl _ _
    | with_reducible apply Keeps.foldl
    | ((with_reducible apply Keeps.app (keeps_updRec ..)); case hs => exact rfl)
    | ((with_reducible apply Keeps.app (keeps_refuseHeld ..)); case hs => exact rfl)
    | ((with_reducible apply Keeps.app (keeps_emergency ..)); case hs => exact rfl)
    | ((with_reducible apply Keeps.app (keeps_dumpBegin ..)); case hs => exact rfl)
    | ((with_reducible apply Keeps.app (keeps_recHandler ..)); case hs => exact rfl)
    | ((with_reducible apply Keeps.app (keeps_fatalRecord ..)); case hs => exact rfl)
    | ((with_reducible apply Keeps.app (keeps_setNmt ..)); case hs => exact rfl)
    | ((with_reducible apply Keeps.app (keeps_stopAll ..)); case hs => exact rfl)
    | with_reducible apply Keeps.ite
    | intro _
    | ((with_reducible apply Keeps.app (keeps_set_power_twin ..)); case hs => exact rfl)
    | ((with_reducible apply Keeps.app (keeps_set_twin ..)); case hs => exact rfl))

theorem keeps_fatalHandlerEntry (s : State) :
    Keeps [.fresh, .power, .term, .src, .bell, .tally, .permits, .twin, .sessions, .held, .ports, .stream, .can, .xfer, .emcy, .recd, .log, .sent] s (fatalHandlerEntry s) := by
  unfold fatalHandlerEntry
  repeat (first
    | with_reducible exact Keeps.refl _ _
    | ((with_reducible apply Keeps.app (keeps_enterHandler ..)); case hs => exact rfl)
    | with_reducible apply Keeps.ite
    | intro _)

theorem keeps_debugExit (s : State) :
    Keeps [.fresh, .power, .term, .src, .bell, .tally, .permits, .twin, .sessions, .held, .ports, .stream, .can, .xfer, .emcy, .recd, .log, .sent] s (debugExit s) := by
  unfold debugExit
  dsimp only
  repeat (first
    | with_reducible exact Keeps.refl _ _
    | ((with_reducible apply Keeps.app (keeps_enterHandler ..)); case hs => exact rfl)
    | with_reducible apply Keeps.ite
    | intro _
    | ((with_reducible apply Keeps.app (keeps_set_power ..)); case hs => exact rfl)
    | ((with_reducible apply Keeps.app (keeps_set_power_twin ..)); case hs => exact rfl)
    | ((with_reducible apply Keeps.app (keeps_set_twin ..)); case hs => exact rfl))

theorem keeps_updDump (s : State) (f : Dump → Dump) :
    Keeps [.recd, .log] s (State.updDump s f) := by
  unfold State.updDump
  repeat (first
    | with_reducible exact Keeps.refl _ _
    | ((with_reducible apply Keeps.app (keeps_updRec ..)); case hs => exact rfl))

theorem keeps_dumpEnd (s : State) (written : Nat) (truncated : Bool) (headerOk : Bool) :
    Keeps [.recd, .log] s (State.dumpEnd s written truncated headerOk) := by
  unfold State.dumpEnd
  dsimp only
  repeat (first
    | with_reducible exact Keeps.refl _ _
    | ((with_reducible apply Keeps.app (keeps_updDump ..)); case hs => exact rfl)
    | with_reducible apply Keeps.ite
    | intro _)

theorem keeps_dumpWriteDone (headerOk : Bool) (s : State) :
    Keeps [.recd, .log] s (dumpWriteDone headerOk s) := by
  unfold dumpWriteDone
  repeat (first
    | with_reducible exact Keeps.refl _ _
    | ((with_reducible apply Keeps.app (keeps_dumpEnd ..)); case hs => exact rfl)
    | with_reducible apply Keeps.ite
    | intro _)

theorem keeps_dumpTimeout (headerOk : Bool) (s : State) :
    Keeps [.fresh, .recd, .log] s (dumpTimeout headerOk s) := by
  unfold dumpTimeout
  repeat (first
    | with_reducible exact Keeps.refl _ _
    | ((with_reducible apply Keeps.app (keeps_dumpEnd ..)); case hs => exact rfl)
    | ((with_reducible apply Keeps.app (keeps_draw ..)); case hs => exact rfl)
    | with_reducible apply Keeps.ite
    | intro _)

theorem keeps_updPower (s : State) (f : Power → Power) :
    Keeps [.power] s (State.updPower s f) := by
  unfold State.updPower
  repeat (first
    | with_reducible exact Keeps.refl _ _
    | ((with_reducible apply Keeps.app (keeps_set_power ..)); case hs => exact rfl))

theorem keeps_addLatch (s : State) (b : BitVec 6) :
    Keeps [.power] s (State.addLatch s b) := by
  unfold State.addLatch
  repeat (first
    | with_reducible exact Keeps.refl _ _
    | ((with_reducible apply Keeps.app (keeps_updPower ..)); case hs => exact rfl))

theorem keeps_tornSector (s : State) :
    Keeps [.recd, .log, .emmc] s (State.tornSector s) := by
  unfold State.tornSector
  repeat (first
    | with_reducible exact Keeps.refl _ _
    | ((with_reducible apply Keeps.app (keeps_sectorStored ..)); case hs => exact rfl)
    | with_reducible apply Keeps.ite
    | intro _)

theorem keeps_volatileLost (s : State) (phase : Phase) :
    Keeps [.fresh, .power, .term, .src, .ch, .cg, .hg, .head, .bell, .sect, .tally, .trk, .permits, .engine, .twin, .sessions, .held,
      .ports, .stream, .can, .xfer, .tickInst, .auth, .emcy, .pdo, .cfg, .recd, .emmc, .log] s (State.volatileLost s phase) := by
  constructor; intro p hp; cases p <;> first | exact absurd (by decide) hp | rfl

theorem keeps_enterReset (s : State) :
    Keeps [.fresh, .power, .term, .src, .ch, .cg, .hg, .head, .bell, .sect, .tally, .trk, .permits, .engine, .twin, .sessions, .held, .ports, .stream, .can, .xfer, .tickInst, .auth, .emcy, .pdo, .cfg, .recd, .log, .emmc] s (State.enterReset s) := by
  unfold State.enterReset
  dsimp only
  repeat (first
    | with_reducible exact Keeps.refl _ _
    | ((with_reducible apply Keeps.app (keeps_volatileLost ..)); case hs => exact rfl)
    | ((with_reducible apply Keeps.app (keeps_excReset ..)); case hs => exact rfl)
    | with_reducible apply Keeps.ite
    | intro _
    | ((with_reducible apply Keeps.app (keeps_set_term ..)); case hs => exact rfl)
    | ((with_reducible apply Keeps.app (keeps_set_twin ..)); case hs => exact rfl))

theorem keeps_resetnLow (s : State) :
    Keeps [.fresh, .power, .term, .src, .ch, .cg, .hg, .head, .bell, .sect, .tally, .trk, .permits, .engine, .twin, .sessions, .held, .ports, .stream, .can, .xfer, .tickInst, .auth, .emcy, .pdo, .cfg, .recd, .log, .emmc] s (resetnLow s) := by
  unfold resetnLow
  dsimp only
  repeat (first
    | with_reducible exact Keeps.refl _ _
    | ((with_reducible apply Keeps.app (keeps_enterReset ..)); case hs => exact rfl)
    | ((with_reducible apply Keeps.app (keeps_addLatch ..)); case hs => exact rfl)
    | ((with_reducible apply Keeps.app (keeps_updPower ..)); case hs => exact rfl)
    | with_reducible apply Keeps.ite
    | intro _)

theorem keeps_latchLost (s : State) :
    Keeps [.fresh, .power, .term, .src, .ch, .cg, .hg, .head, .bell, .sect, .tally, .trk, .permits, .engine, .twin, .sessions, .held, .ports, .stream, .can, .xfer, .tickInst, .auth, .emcy, .pdo, .cfg, .recd, .log, .emmc] s (State.latchLost s) := by
  unfold State.latchLost
  dsimp only
  repeat (first
    | with_reducible exact Keeps.refl _ _
    | ((with_reducible apply Keeps.app (keeps_volatileLost ..)); case hs => exact rfl)
    | ((with_reducible apply Keeps.app (keeps_updPower ..)); case hs => exact rfl)
    | ((with_reducible apply Keeps.app (keeps_set_twin ..)); case hs => exact rfl))

theorem keeps_switchesOpen (s : State) :
    Keeps [.term] s (State.switchesOpen s) := by
  unfold State.switchesOpen
  repeat (first
    | with_reducible exact Keeps.refl _ _
    | ((with_reducible apply Keeps.app (keeps_set_term ..)); case hs => exact rfl))

theorem keeps_brownout (r : RailDrop) (s : State) :
    Keeps [.fresh, .power, .term, .src, .ch, .cg, .hg, .head, .bell, .sect, .tally, .trk, .permits, .engine, .twin, .sessions, .held, .ports, .stream, .can, .xfer, .tickInst, .auth, .emcy, .pdo, .cfg, .recd, .log, .emmc] s (brownout r s) := by
  unfold brownout
  dsimp only
  repeat (first
    | with_reducible exact Keeps.refl _ _
    | ((with_reducible apply Keeps.app (keeps_enterReset ..)); case hs => exact rfl)
    | ((with_reducible apply Keeps.app (keeps_switchesOpen ..)); case hs => exact rfl)
    | ((with_reducible apply Keeps.app (keeps_addLatch ..)); case hs => exact rfl)
    | ((with_reducible apply Keeps.app (keeps_latchLost ..)); case hs => exact rfl)
    | ((with_reducible apply Keeps.app (keeps_updPower ..)); case hs => exact rfl)
    | with_reducible apply Keeps.ite
    | intro _)

theorem keeps_bootResources (s : State) :
    Keeps [.ch, .head, .sect, .trk, .permits, .engine] s (State.bootResources s) := by
  unfold State.bootResources
  dsimp only
  repeat (first
    | with_reducible exact Keeps.refl _ _
    | ((with_reducible apply Keeps.app (keeps_permitOutputs ..)); case hs => exact rfl)
    | ((with_reducible apply Keeps.app (keeps_noteRoom ..)); case hs => exact rfl)
    | ((with_reducible apply Keeps.app (keeps_set_ch_head_sect_permits_engine ..)); case hs => exact rfl))

theorem keeps_phyReset (s : State) :
    Keeps [.sent] s (State.phyReset s) := by
  unfold State.phyReset
  repeat (first
    | with_reducible exact Keeps.refl _ _
    | with_reducible apply Keeps.foldl
    | ((with_reducible apply Keeps.app (keeps_say ..)); case hs => exact rfl)
    | intro _)

theorem keeps_bootPorts (s : State) :
    Keeps [.ports, .stream, .can, .sent] s (State.bootPorts s) := by
  unfold State.bootPorts
  dsimp only
  repeat (first
    | with_reducible exact Keeps.refl _ _
    | with_reducible apply Keeps.foldl
    | ((with_reducible apply Keeps.app (keeps_bootUp ..)); case hs => exact rfl)
    | ((with_reducible apply Keeps.app (keeps_setNmt ..)); case hs => exact rfl)
    | with_reducible apply Keeps.ite
    | intro _
    | ((with_reducible apply Keeps.app (keeps_set_net_ports ..)); case hs => exact rfl))

theorem keeps_boot (s : State) :
    Keeps [.now, .fresh, .power, .term, .src, .ch, .cg, .hg, .head, .bell, .sect, .tally, .trk, .permits, .engine, .twin, .ports, .stream, .can, .cfg, .recd, .log, .sent] s (State.boot s) := by
  unfold State.boot
  dsimp only
  repeat (first
    | with_reducible exact Keeps.refl _ _
    | ((with_reducible apply Keeps.app (keeps_updRec ..)); case hs => exact rfl)
    | ((with_reducible apply Keeps.app (keeps_guardActivate ..)); case hs => exact rfl)
    | ((with_reducible apply Keeps.app (keeps_draw ..)); case hs => exact rfl)
    | ((with_reducible apply Keeps.app (keeps_phyReset ..)); case hs => exact rfl)
    | ((with_reducible apply Keeps.app (keeps_bootPorts ..)); case hs => exact rfl)
    | ((with_reducible apply Keeps.app (keeps_startAll ..)); case hs => exact rfl)
    | ((with_reducible apply Keeps.app (keeps_reach ..)); case hs => exact rfl)
    | ((with_reducible apply Keeps.app (keeps_bellBoot ..)); case hs => exact rfl)
    | ((with_reducible apply Keeps.app (keeps_bootResources ..)); case hs => exact rfl)
    | ((with_reducible apply Keeps.app (keeps_set_bell_tally_trk_permits_engine_recd ..)); case hs => exact rfl)
    | ((with_reducible apply Keeps.app (keeps_set_power_cfg ..)); case hs => exact rfl)
    | ((with_reducible apply Keeps.app (keeps_set_power_term_twin ..)); case hs => exact rfl))

theorem keeps_boot_command (s : State) :
    Keeps [.now, .fresh, .power, .term, .src, .ch, .cg, .hg, .head, .bell, .sect, .tally, .trk, .permits, .engine, .twin, .ports, .stream, .can, .cfg, .recd, .log, .sent] s (boot s) := by
  unfold boot
  repeat (first
    | with_reducible exact Keeps.refl _ _
    | ((with_reducible apply Keeps.app (keeps_boot ..)); case hs => exact rfl)
    | ((with_reducible apply Keeps.app (keeps_updPower ..)); case hs => exact rfl)
    | with_reducible apply Keeps.ite
    | intro _)

theorem keeps_bootPllLockTimeout (s : State) :
    Keeps [.now, .power] s (bootPllLockTimeout s) := by
  unfold bootPllLockTimeout
  repeat (first
    | with_reducible exact Keeps.refl _ _
    | ((with_reducible apply Keeps.app (keeps_addLatch ..)); case hs => exact rfl)
    | ((with_reducible apply Keeps.app (keeps_reach ..)); case hs => exact rfl)
    | ((with_reducible apply Keeps.app (keeps_updPower ..)); case hs => exact rfl)
    | with_reducible apply Keeps.ite
    | intro _)

theorem keeps_beginBoot (s : State) (pllLocks : Bool) :
    Keeps [.now, .fresh, .power, .term, .src, .ch, .cg, .hg, .head, .bell, .sect, .tally, .trk, .permits, .engine, .twin, .ports, .stream, .can, .cfg, .recd, .log, .sent] s (State.beginBoot s pllLocks) := by
  unfold State.beginBoot
  repeat (first
    | with_reducible exact Keeps.refl _ _
    | ((with_reducible apply Keeps.app (keeps_boot ..)); case hs => exact rfl)
    | ((with_reducible apply Keeps.app (keeps_boot_command ..)); case hs => exact rfl)
    | ((with_reducible apply Keeps.app (keeps_addLatch ..)); case hs => exact rfl)
    | ((with_reducible apply Keeps.app (keeps_bootPllLockTimeout ..)); case hs => exact rfl)
    | with_reducible apply Keeps.ite
    | intro _)

theorem keeps_supplyRelease (pllLocks : Bool) (s : State) :
    Keeps [.now, .fresh, .power, .term, .src, .ch, .cg, .hg, .head, .bell, .sect, .tally, .trk, .permits, .engine, .twin, .ports, .stream, .can, .cfg, .recd, .log, .sent] s (supplyRelease pllLocks s) := by
  unfold supplyRelease
  dsimp only
  repeat (first
    | with_reducible exact Keeps.refl _ _
    | ((with_reducible apply Keeps.app (keeps_beginBoot ..)); case hs => exact rfl)
    | ((with_reducible apply Keeps.app (keeps_updPower ..)); case hs => exact rfl)
    | with_reducible apply Keeps.ite
    | intro _
    | split)

theorem keeps_clockFault (s : State) :
    Keeps [.fresh, .power, .term, .src, .permits, .twin] s (State.clockFault s) := by
  unfold State.clockFault
  dsimp only
  repeat (first
    | with_reducible exact Keeps.refl _ _
    | ((with_reducible apply Keeps.app (keeps_addLatch ..)); case hs => exact rfl)
    | ((with_reducible apply Keeps.app (keeps_stopLatch ..)); case hs => exact rfl)
    | ((with_reducible apply Keeps.app (keeps_excReset ..)); case hs => exact rfl)
    | ((with_reducible apply Keeps.app (keeps_set_power ..)); case hs => exact rfl))

theorem keeps_clockFault_command (s : State) :
    Keeps [.fresh, .power, .term, .src, .permits, .twin] s (clockFault s) := by
  unfold clockFault
  repeat (first
    | with_reducible exact Keeps.refl _ _
    | ((with_reducible apply Keeps.app (keeps_clockFault ..)); case hs => exact rfl)
    | with_reducible apply Keeps.ite
    | intro _
    | split)

theorem keeps_enterHibernate (s : State) (trigger : Nat) (o : Option Origin) :
    Keeps [.power, .term, .src, .bell, .permits, .recd, .log] s (State.enterHibernate s trigger o) := by
  unfold State.enterHibernate
  dsimp only
  repeat (first
    | with_reducible exact Keeps.refl _ _
    | ((with_reducible apply Keeps.app (keeps_updRec ..)); case hs => exact rfl)
    | ((with_reducible apply Keeps.app (keeps_permitsLow ..)); case hs => exact rfl)
    | ((with_reducible apply Keeps.app (keeps_emmcSleep ..)); case hs => exact rfl)
    | ((with_reducible apply Keeps.app (keeps_updPower ..)); case hs => exact rfl)
    | ((with_reducible apply Keeps.app (keeps_record ..)); case hs => exact rfl)
    | ((with_reducible apply Keeps.app (keeps_stopAll ..)); case hs => exact rfl)
    | with_reducible apply Keeps.ite
    | intro _)

theorem keeps_endEntry (s : State) :
    Keeps [.now, .fresh, .power, .term, .src, .ch, .cg, .hg, .head, .bell, .sect, .tally, .trk, .permits, .engine, .twin, .sessions, .held, .ports, .stream, .can, .xfer, .tickInst, .auth, .emcy, .pdo, .cfg, .recd, .log, .emmc] s (State.endEntry s) := by
  unfold State.endEntry
  dsimp only
  repeat (first
    | with_reducible exact Keeps.refl _ _
    | ((with_reducible apply Keeps.app (keeps_volatileLost ..)); case hs => exact rfl)
    | ((with_reducible apply Keeps.app (keeps_reach ..)); case hs => exact rfl)
    | ((with_reducible apply Keeps.app (keeps_updPower ..)); case hs => exact rfl))

theorem keeps_wakeUp (s : State) (pllLocks : Bool) :
    Keeps [.now, .fresh, .power, .term, .src, .ch, .cg, .hg, .head, .bell, .sect, .tally, .trk, .permits, .engine, .twin, .ports, .stream, .can, .cfg, .recd, .log, .sent] s (State.wakeUp s pllLocks) := by
  unfold State.wakeUp
  dsimp only
  repeat (first
    | with_reducible exact Keeps.refl _ _
    | ((with_reducible apply Keeps.app (keeps_beginBoot ..)); case hs => exact rfl)
    | ((with_reducible apply Keeps.app (keeps_addLatch ..)); case hs => exact rfl)
    | ((with_reducible apply Keeps.app (keeps_reach ..)); case hs => exact rfl)
    | ((with_reducible apply Keeps.app (keeps_updPower ..)); case hs => exact rfl))

theorem keeps_latchWake (s : State) (pllLocks : Bool) :
    Keeps [.power] s (State.latchWake s pllLocks) := by
  unfold State.latchWake
  repeat (first
    | with_reducible exact Keeps.refl _ _
    | ((with_reducible apply Keeps.app (keeps_updPower ..)); case hs => exact rfl))

theorem keeps_settleEntry (s : State) :
    Keeps [.now, .fresh, .power, .term, .src, .ch, .cg, .hg, .head, .bell, .sect, .tally, .trk, .permits, .engine, .twin, .sessions, .held, .ports, .stream, .can, .xfer, .tickInst, .auth, .emcy, .pdo, .cfg, .recd, .log, .emmc, .sent] s (State.settleEntry s) := by
  unfold State.settleEntry
  dsimp only
  repeat (first
    | with_reducible exact Keeps.refl _ _
    | ((with_reducible apply Keeps.app (keeps_endEntry ..)); case hs => exact rfl)
    | ((with_reducible apply Keeps.app (keeps_wakeUp ..)); case hs => exact rfl)
    | with_reducible apply Keeps.ite
    | intro _)

theorem keeps_wake (pllLocks : Bool) (s : State) :
    Keeps [.now, .fresh, .power, .term, .src, .ch, .cg, .hg, .head, .bell, .sect, .tally, .trk, .permits, .engine, .twin, .sessions, .held, .ports, .stream, .can, .xfer, .tickInst, .auth, .emcy, .pdo, .cfg, .recd, .log, .emmc, .sent] s (wake pllLocks s) := by
  unfold wake
  dsimp only
  repeat (first
    | with_reducible exact Keeps.refl _ _
    | ((with_reducible apply Keeps.app (keeps_settleEntry ..)); case hs => exact rfl)
    | ((with_reducible apply Keeps.app (keeps_wakeUp ..)); case hs => exact rfl)
    | ((with_reducible apply Keeps.app (keeps_latchWake ..)); case hs => exact rfl)
    | with_reducible apply Keeps.ite
    | intro _)

theorem keeps_stbynRise (waknLow : Bool) (pllLocks : Bool) (s : State) :
    Keeps [.now, .fresh, .power, .term, .src, .ch, .cg, .hg, .head, .bell, .sect, .tally, .trk, .permits, .engine, .twin, .sessions, .held, .ports, .stream, .can, .xfer, .tickInst, .auth, .emcy, .pdo, .cfg, .recd, .log, .emmc, .sent] s (stbynRise waknLow pllLocks s) := by
  unfold stbynRise
  dsimp only
  repeat (first
    | with_reducible exact Keeps.refl _ _
    | ((with_reducible apply Keeps.app (keeps_settleEntry ..)); case hs => exact rfl)
    | ((with_reducible apply Keeps.app (keeps_wakeUp ..)); case hs => exact rfl)
    | ((with_reducible apply Keeps.app (keeps_updPower ..)); case hs => exact rfl)
    | ((with_reducible apply Keeps.app (keeps_latchWake ..)); case hs => exact rfl)
    | with_reducible apply Keeps.ite
    | intro _)

theorem keeps_stbynLow (s : State) :
    Keeps [.power, .term, .src, .bell, .permits, .recd, .log] s (stbynLow s) := by
  unfold stbynLow
  repeat (first
    | with_reducible exact Keeps.refl _ _
    | ((with_reducible apply Keeps.app (keeps_enterHibernate ..)); case hs => exact rfl)
    | ((with_reducible apply Keeps.app (keeps_updPower ..)); case hs => exact rfl)
    | with_reducible apply Keeps.guarded
    | intro _)

theorem keeps_stbyStuckSet (s : State) :
    Keeps [.power] s (stbyStuckSet s) := by
  unfold stbyStuckSet
  repeat (first
    | with_reducible exact Keeps.refl _ _
    | ((with_reducible apply Keeps.app (keeps_updPower ..)); case hs => exact rfl))

theorem keeps_stbyStuckClear (s : State) :
    Keeps [.power] s (stbyStuckClear s) := by
  unfold stbyStuckClear
  repeat (first
    | with_reducible exact Keeps.refl _ _
    | ((with_reducible apply Keeps.app (keeps_updPower ..)); case hs => exact rfl))

theorem keeps_hibernateSupplyLoss (s : State) :
    Keeps [.fresh, .power, .term, .src, .ch, .cg, .hg, .head, .bell, .sect, .tally, .trk, .permits, .engine, .twin, .sessions, .held, .ports, .stream, .can, .xfer, .tickInst, .auth, .emcy, .pdo, .cfg, .recd, .log, .emmc] s (hibernateSupplyLoss s) := by
  unfold hibernateSupplyLoss
  repeat (first
    | with_reducible exact Keeps.refl _ _
    | ((with_reducible apply Keeps.app (keeps_latchLost ..)); case hs => exact rfl)
    | ((with_reducible apply Keeps.app (keeps_updPower ..)); case hs => exact rfl)
    | with_reducible apply Keeps.ite
    | intro _)

theorem keeps_tapLoad (s : State) (i : TapInstr) :
    Keeps [.power] s (State.tapLoad s i) := by
  unfold State.tapLoad
  repeat (first
    | with_reducible exact Keeps.refl _ _
    | ((with_reducible apply Keeps.app (keeps_updPower ..)); case hs => exact rfl))

theorem keeps_tapUpdate (s : State) (cells : BitVec 71) :
    Keeps [.power] s (State.tapUpdate s cells) := by
  unfold State.tapUpdate
  repeat (first
    | with_reducible exact Keeps.refl _ _
    | ((with_reducible apply Keeps.app (keeps_updPower ..)); case hs => exact rfl)
    | split)

theorem keeps_supplyVoltage (vsup : BitVec 16) (vio : BitVec 16) (vexc : BitVec 16) (s : State) :
    Keeps [.power] s (supplyVoltage vsup vio vexc s) := by
  unfold supplyVoltage
  repeat (first
    | with_reducible exact Keeps.refl _ _
    | ((with_reducible apply Keeps.app (keeps_updPower ..)); case hs => exact rfl))

theorem keeps_windowRead (s : State) :
    Keeps [.log] s (State.windowRead s) := by
  unfold State.windowRead
  split
  · exact Keeps.refl _ _
  · constructor; intro p hp; cases p <;> first | exact absurd (by decide) hp | rfl | simp [Part.same, State.updRec]

theorem keeps_readObject (s : State) (k : Fin 4) (i : Nat) (sub : Nat) :
    Keeps [.fresh, .sessions, .log] s (State.readObject s k i sub).1 := by
  unfold State.readObject
  dsimp only
  repeat (first
    | with_reducible exact Keeps.refl _ _
    | ((with_reducible apply Keeps.app (keeps_windowRead ..)); case hs => exact rfl)
    | ((with_reducible apply Keeps.app (keeps_issueChallenge ..)); case hs => exact rfl)
    | with_reducible apply Keeps.ite
    | intro _
    | split)

theorem keeps_receiptRefusal (s : State) (i : Nat) (sub : Nat) (data : List Byte) (abort : Nat) :
    Keeps [.cfg] s (State.receiptRefusal s i sub data abort) := by
  unfold State.receiptRefusal
  repeat (first
    | with_reducible exact Keeps.refl _ _
    | ((with_reducible apply Keeps.app (keeps_imageRefused ..)); case hs => exact rfl)
    | with_reducible apply Keeps.ite
    | intro _)

theorem keeps_judgeRefusal (s : State) (i : Nat) (sub : Nat) (v : Nat) (abort : Nat) :
    Keeps [.cfg, .recd, .log] s (State.judgeRefusal s i sub v abort) := by
  unfold State.judgeRefusal
  repeat (first
    | with_reducible exact Keeps.refl _ _
    | ((with_reducible apply Keeps.app (keeps_cfgCmdRefusal ..)); case hs => exact rfl)
    | ((with_reducible apply Keeps.app (keeps_recCmdRefusal ..)); case hs => exact rfl)
    | with_reducible apply Keeps.ite
    | intro _)

theorem keeps_clearHistory (s : State) :
    Keeps [.emcy] s (State.clearHistory s) := by
  unfold State.clearHistory
  repeat (first
    | with_reducible exact Keeps.refl _ _
    | ((with_reducible apply Keeps.app (keeps_set_net_emcy ..)); case hs => exact rfl))

theorem keeps_permitWrite (s : State) (o : Origin) (sub : Nat) (v : Nat) :
    Keeps [.tally, .permits] s (State.permitWrite s o sub v) := by
  unfold State.permitWrite
  repeat (first
    | with_reducible exact Keeps.refl _ _
    | ((with_reducible apply Keeps.app (keeps_lockoutWrite ..)); case hs => exact rfl)
    | ((with_reducible apply Keeps.app (keeps_inhibitWrite ..)); case hs => exact rfl)
    | ((with_reducible apply Keeps.app (keeps_droptestWrite ..)); case hs => exact rfl)
    | ((with_reducible apply Keeps.app (keeps_armWrite ..)); case hs => exact rfl)
    | with_reducible apply Keeps.ite
    | intro _)

theorem keeps_terminalWrite (s : State) (sub : Nat) (v : Nat) :
    Keeps [.term, .src, .ch, .bell] s (State.terminalWrite s sub v) := by
  unfold State.terminalWrite
  repeat (first
    | with_reducible exact Keeps.refl _ _
    | ((with_reducible apply Keeps.app (keeps_clfWrite ..)); case hs => exact rfl)
    | ((with_reducible apply Keeps.app (keeps_holdWrite ..)); case hs => exact rfl)
    | with_reducible apply Keeps.ite
    | intro _)

theorem keeps_cfgWrite (s : State) (sub : Nat) (v : Nat) (data : List Byte) :
    Keeps [.cfg] s (State.cfgWrite s sub v data) := by
  unfold State.cfgWrite
  repeat (first
    | with_reducible exact Keeps.refl _ _
    | ((with_reducible apply Keeps.app (keeps_stageImage ..)); case hs => exact rfl)
    | ((with_reducible apply Keeps.app (keeps_cfgCommand ..)); case hs => exact rfl)
    | ((with_reducible apply Keeps.app (keeps_expectDigest ..)); case hs => exact rfl)
    | ((with_reducible apply Keeps.app (keeps_epochWrite ..)); case hs => exact rfl)
    | with_reducible apply Keeps.ite
    | intro _)

theorem keeps_sectionWrite (s : State) (o : Origin) (n : Fin 48) (sub : Nat) (v : Nat) :
    Keeps [.tally] s (State.sectionWrite s o n sub v) := by
  unfold State.sectionWrite
  repeat (first
    | with_reducible exact Keeps.refl _ _
    | ((with_reducible apply Keeps.app (keeps_restoreWrite ..)); case hs => exact rfl)
    | ((with_reducible apply Keeps.app (keeps_disturbWrite ..)); case hs => exact rfl)
    | with_reducible apply Keeps.ite
    | intro _)

theorem keeps_liveWrite (s : State) (o : Origin) (i : Nat) (sub : Nat) (v : Nat) (data : List Byte) :
    Keeps [.power, .term, .src, .ch, .head, .bell, .tally, .permits, .engine, .twin, .auth, .emcy, .cfg, .recd, .log, .emmc] s (State.liveWrite s o i sub v data) := by
  unfold State.liveWrite
  repeat (first
    | with_reducible exact Keeps.refl _ _
    | ((with_reducible apply Keeps.app (keeps_permitWrite ..)); case hs => exact rfl)
    | ((with_reducible apply Keeps.app (keeps_checkNow ..)); case hs => exact rfl)
    | ((with_reducible apply Keeps.app (keeps_terminalWrite ..)); case hs => exact rfl)
    | ((with_reducible apply Keeps.app (keeps_correlateWrite ..)); case hs => exact rfl)
    | ((with_reducible apply Keeps.app (keeps_engineWrite ..)); case hs => exact rfl)
    | ((with_reducible apply Keeps.app (keeps_enterHibernate ..)); case hs => exact rfl)
    | ((with_reducible apply Keeps.app (keeps_clearHistory ..)); case hs => exact rfl)
    | ((with_reducible apply Keeps.app (keeps_cfgWrite ..)); case hs => exact rfl)
    | ((with_reducible apply Keeps.app (keeps_captureArm ..)); case hs => exact rfl)
    | ((with_reducible apply Keeps.app (keeps_recCommand ..)); case hs => exact rfl)
    | ((with_reducible apply Keeps.app (keeps_stopTestWrite ..)); case hs => exact rfl)
    | ((with_reducible apply Keeps.app (keeps_sectionWrite ..)); case hs => exact rfl)
    | ((with_reducible apply Keeps.app (keeps_installKey ..)); case hs => exact rfl)
    | with_reducible apply Keeps.elim
    | with_reducible apply Keeps.ite
    | intro _)

theorem keeps_applyWrite (s : State) (o : Origin) (i : Nat) (sub : Nat) (data : List Byte) :
    Keeps [.power, .term, .src, .ch, .head, .bell, .tally, .permits, .engine, .twin, .auth, .emcy, .cfg, .recd, .log, .emmc] s (State.applyWrite s o i sub data) := by
  unfold State.applyWrite
  repeat (first
    | with_reducible exact Keeps.refl _ _
    | ((with_reducible apply Keeps.app (keeps_liveWrite ..)); case hs => exact rfl)
    | ((with_reducible apply Keeps.app (keeps_stage ..)); case hs => exact rfl)
    | with_reducible apply Keeps.ite
    | intro _
    | split)

theorem keeps_sessionWrite (s : State) (k : Fin 4) (i : Nat) (sub : Nat) (data : List Byte) :
    Keeps [.sessions, .ports, .stream, .auth, .log] s (State.sessionWrite s k i sub data).1 := by
  unfold State.sessionWrite
  dsimp only
  repeat (first
    | with_reducible exact Keeps.refl _ _
    | ((with_reducible apply Keeps.app (keeps_authRequest ..)); case hs => exact rfl)
    | ((with_reducible apply Keeps.app (keeps_authResponse ..)); case hs => exact rfl)
    | ((with_reducible apply Keeps.app (keeps_updSession ..)); case hs => exact rfl)
    | with_reducible apply Keeps.ite
    | intro _
    | split)

theorem keeps_refuseWrite (s : State) (w : HeldWrite) (abort : Nat) :
    Keeps [.tally, .permits, .sessions, .held, .ports, .stream, .xfer, .cfg, .recd, .log, .sent] s (State.refuseWrite s w abort) := by
  unfold State.refuseWrite
  repeat (first
    | with_reducible exact Keeps.refl _ _
    | ((with_reducible apply Keeps.app (keeps_judgeRefusal ..)); case hs => exact rfl)
    | ((with_reducible apply Keeps.app (keeps_dropHeld ..)); case hs => exact rfl))

theorem keeps_refuseBusy (s : State) (w : HeldWrite) :
    Keeps [.tally, .permits, .sessions, .held, .ports, .stream, .xfer, .cfg, .recd, .log, .sent] s (State.refuseBusy s w) := by
  unfold State.refuseBusy
  repeat (first
    | with_reducible exact Keeps.refl _ _
    | ((with_reducible apply Keeps.app (keeps_countBusy ..)); case hs => exact rfl)
    | ((with_reducible apply Keeps.app (keeps_refuseWrite ..)); case hs => exact rfl)
    | with_reducible apply Keeps.ite
    | intro _)

theorem keeps_grantWrite (s : State) (w : HeldWrite) :
    Keeps [.power, .term, .src, .ch, .head, .bell, .tally, .permits, .engine, .twin, .sessions, .held, .ports, .stream, .xfer, .auth, .emcy, .cfg, .recd, .log, .emmc, .sent] s (State.grantWrite s w) := by
  unfold State.grantWrite
  dsimp only
  repeat (first
    | with_reducible exact Keeps.refl _ _
    | ((with_reducible apply Keeps.app (keeps_answerHeld ..)); case hs => exact rfl)
    | ((with_reducible apply Keeps.app (keeps_applyWrite ..)); case hs => exact rfl)
    | ((with_reducible apply Keeps.app (keeps_refuseWrite ..)); case hs => exact rfl)
    | with_reducible apply Keeps.ite
    | intro _)

theorem keeps_judgePart (s : State) (ws : List (HeldWrite × Nat)) :
    Keeps [.power, .term, .src, .ch, .head, .bell, .tally, .permits, .engine, .twin, .sessions, .held, .ports, .stream, .xfer, .auth, .emcy, .cfg, .recd, .log, .emmc, .sent] s (State.judgePart s ws) := by
  unfold State.judgePart
  dsimp only
  repeat (first
    | with_reducible exact Keeps.refl _ _
    | with_reducible apply Keeps.foldl
    | ((with_reducible apply Keeps.app (keeps_refuseBusy ..)); case hs => exact rfl)
    | ((with_reducible apply Keeps.app (keeps_refuseWrite ..)); case hs => exact rfl)
    | ((with_reducible apply Keeps.app (keeps_grantWrite ..)); case hs => exact rfl)
    | with_reducible apply Keeps.ite
    | intro _)

theorem keeps_judgeObject (s : State) (i : Nat) (sub : Nat) :
    Keeps [.power, .term, .src, .ch, .head, .bell, .tally, .permits, .engine, .twin, .sessions, .held, .ports, .stream, .xfer, .auth, .emcy, .cfg, .recd, .log, .emmc, .sent] s (State.judgeObject s i sub) := by
  unfold State.judgeObject
  dsimp only
  repeat (first
    | with_reducible exact Keeps.refl _ _
    | ((with_reducible apply Keeps.app (keeps_judgePart ..)); case hs => exact rfl)
    | ((with_reducible apply Keeps.app (keeps_set_net_held ..)); case hs => exact rfl))

theorem keeps_answer (s : State) (o : Origin) (i : Nat) (sub : Nat) (abort : Nat) :
    Keeps [.sent] s (State.answer s o i sub abort) := by
  unfold State.answer
  repeat (first
    | with_reducible exact Keeps.refl _ _
    | ((with_reducible apply Keeps.app (keeps_say ..)); case hs => exact rfl))

theorem keeps_touch (s : State) (k : Fin 4) :
    Keeps [.sessions] s (State.touch s k) := by
  unfold State.touch
  repeat (first
    | with_reducible exact Keeps.refl _ _
    | ((with_reducible apply Keeps.app (keeps_updSession ..)); case hs => exact rfl))

theorem keeps_takeWrite (s : State) (k : Fin 4) (x : Session) (i : Nat) (sub : Nat) (data : List Byte) :
    Keeps [.tally, .permits, .sessions, .held, .ports, .stream, .xfer, .auth, .cfg, .log, .sent] s (State.takeWrite s k x i sub data).1 := by
  unfold State.takeWrite
  dsimp only
  repeat (first
    | with_reducible exact Keeps.refl _ _
    | ((with_reducible apply Keeps.app (keeps_endSession ..)); case hs => exact rfl)
    | ((with_reducible apply Keeps.app (keeps_sessionWrite ..)); case hs => exact rfl)
    | ((with_reducible apply Keeps.app (keeps_answer ..)); case hs => exact rfl)
    | ((with_reducible apply Keeps.app (keeps_receiptRefusal ..)); case hs => exact rfl)
    | with_reducible apply Keeps.ite
    | intro _
    | split
    | ((with_reducible apply Keeps.app (keeps_set_net_held ..)); case hs => exact rfl))

theorem keeps_rowReceive (s : State) (o : Origin) (i : Nat) (sub : Nat) (data : List Byte) :
    Keeps [.tally, .permits, .sessions, .held, .ports, .stream, .xfer, .auth, .cfg, .log, .sent] s (State.rowReceive s o i sub data).1 := by
  unfold State.rowReceive
  repeat (first
    | with_reducible exact Keeps.refl _ _
    | ((with_reducible apply Keeps.app (keeps_takeWrite ..)); case hs => exact rfl)
    | ((with_reducible apply Keeps.app (keeps_say ..)); case hs => exact rfl)
    | ((with_reducible apply Keeps.app (keeps_touch ..)); case hs => exact rfl)
    | with_reducible apply Keeps.ite
    | intro _
    | split)

theorem keeps_rowWrite (s : State) (o : Origin) (i : Nat) (sub : Nat) (data : List Byte) :
    Keeps [.power, .term, .src, .ch, .head, .bell, .tally, .permits, .engine, .twin, .sessions, .held, .ports, .stream, .xfer, .auth, .emcy, .cfg, .recd, .log, .emmc, .sent] s (State.rowWrite s o i sub data) := by
  unfold State.rowWrite
  dsimp only
  repeat (first
    | with_reducible exact Keeps.refl _ _
    | ((with_reducible apply Keeps.app (keeps_rowReceive ..)); case hs => exact rfl)
    | ((with_reducible apply Keeps.app (keeps_judgeObject ..)); case hs => exact rfl)
    | with_reducible apply Keeps.ite
    | intro _)

theorem keeps_rowRead (s : State) (o : Origin) (i : Nat) (sub : Nat) :
    Keeps [.fresh, .sessions, .log, .sent] s (State.rowRead s o i sub) := by
  unfold State.rowRead
  dsimp only
  repeat (first
    | with_reducible exact Keeps.refl _ _
    | ((with_reducible apply Keeps.app (keeps_readObject ..)); case hs => exact rfl)
    | ((with_reducible apply Keeps.app (keeps_say ..)); case hs => exact rfl)
    | ((with_reducible apply Keeps.app (keeps_touch ..)); case hs => exact rfl)
    | ((with_reducible apply Keeps.app (keeps_answer ..)); case hs => exact rfl)
    | with_reducible apply Keeps.ite
    | intro _
    | split)

theorem keeps_imageRead (s : State) (k : Fin 4) (it : ReadItem) (data : List Byte) :
    Keeps [.sessions] s (State.imageRead s k it data).1 := by
  unfold State.imageRead
  repeat (first
    | with_reducible exact Keeps.refl _ _
    | ((with_reducible apply Keeps.app (keeps_updSession ..)); case hs => exact rfl)
    | with_reducible apply Keeps.ite
    | intro _
    | split)

theorem keeps_readItem (s : State) (k : Fin 4) (it : ReadItem) (room : Nat) :
    Keeps [.fresh, .sessions, .log] s (State.readItem s k it room).1 := by
  unfold State.readItem
  dsimp only
  repeat (first
    | with_reducible exact Keeps.refl _ _
    | ((with_reducible apply Keeps.app (keeps_imageRead ..)); case hs => exact rfl)
    | ((with_reducible apply Keeps.app (keeps_readObject ..)); case hs => exact rfl)
    | with_reducible apply Keeps.ite
    | intro _
    | split)

theorem keeps_readAll (s : State) (k : Fin 4) (l : List ReadItem) (out : List Byte) :
    Keeps [.fresh, .sessions, .log] s (State.readAll s k l out).1 := by
  induction l generalizing s out with
  | nil => exact Keeps.refl _ _
  | cons it rest ih =>
    unfold State.readAll
    exact ((keeps_readItem ..).mono rfl).trans (ih ..)

theorem keeps_readRequest (h : Hdr) (items : List ReadItem) (s : State) :
    Keeps [.fresh, .sessions, .ports, .stream, .log, .sent] s (readRequest h items s) := by
  unfold readRequest
  dsimp only
  repeat (first
    | with_reducible exact Keeps.refl _ _
    | ((with_reducible apply Keeps.request); case hl => decide)
    | ((with_reducible apply Keeps.app (keeps_readAll ..)); case hs => exact rfl)
    | ((with_reducible apply Keeps.app (keeps_respond ..)); case hs => exact rfl)
    | intro _)

theorem keeps_receive (s : State) (k : Fin 4) (pos : Nat) (i : Nat) (sub : Nat) (data : List Byte) :
    Keeps [.sessions, .held, .ports, .stream, .auth, .cfg, .log] s (State.receive s k pos i sub data).1 := by
  unfold State.receive
  dsimp only
  repeat (first
    | with_reducible exact Keeps.refl _ _
    | ((with_reducible apply Keeps.app (keeps_sessionWrite ..)); case hs => exact rfl)
    | ((with_reducible apply Keeps.app (keeps_receiptRefusal ..)); case hs => exact rfl)
    | with_reducible apply Keeps.ite
    | intro _
    | split
    | ((with_reducible apply Keeps.app (keeps_set_net_held ..)); case hs => exact rfl))

theorem keeps_setBuffer (s : State) (k : Fin 4) (pos : Nat) (it : WriteItem) (data : List Byte) :
    Keeps [.sessions] s (State.setBuffer s k pos it data) := by
  unfold State.setBuffer
  repeat (first
    | with_reducible exact Keeps.refl _ _
    | ((with_reducible apply Keeps.app (keeps_updSession ..)); case hs => exact rfl)
    | with_reducible apply Keeps.ite
    | intro _)

theorem keeps_emptyBuffer (s : State) (k : Fin 4) :
    Keeps [.sessions] s (State.emptyBuffer s k) := by
  unfold State.emptyBuffer
  repeat (first
    | with_reducible exact Keeps.refl _ _
    | ((with_reducible apply Keeps.app (keeps_updSession ..)); case hs => exact rfl))

theorem keeps_writeItem (s : State) (k : Fin 4) (pos : Nat) (it : WriteItem) :
    Keeps [.sessions, .held, .ports, .stream, .auth, .cfg, .log] s (State.writeItem s k pos it).1 := by
  unfold State.writeItem
  repeat (first
    | with_reducible exact Keeps.refl _ _
    | ((with_reducible apply Keeps.app (keeps_emptyBuffer ..)); case hs => exact rfl)
    | ((with_reducible apply Keeps.app (keeps_receive ..)); case hs => exact rfl)
    | ((with_reducible apply Keeps.app (keeps_setBuffer ..)); case hs => exact rfl)
    | with_reducible apply Keeps.ite
    | intro _
    | split)

theorem keeps_writeAll (s : State) (k : Fin 4) (pos : Nat) (ended : Bool) (l : List WriteItem) :
    Keeps [.sessions, .held, .ports, .stream, .auth, .cfg, .log] s (State.writeAll s k pos ended l).1 := by
  induction l generalizing s pos ended with
  | nil => exact Keeps.refl _ _
  | cons it rest ih =>
    unfold State.writeAll
    dsimp only
    refine Keeps.trans ?_ (ih ..)
    split
    · exact Keeps.refl _ _
    · exact (keeps_writeItem ..).mono rfl

theorem keeps_writeRequest (h : Hdr) (items : List WriteItem) (s : State) :
    Keeps [.tally, .permits, .sessions, .held, .ports, .stream, .xfer, .auth, .cfg, .log, .sent] s (writeRequest h items s) := by
  unfold writeRequest
  dsimp only
  repeat (first
    | with_reducible exact Keeps.refl _ _
    | ((with_reducible apply Keeps.app (keeps_writeAll ..)); case hs => exact rfl)
    | ((with_reducible apply Keeps.request); case hl => decide)
    | ((with_reducible apply Keeps.app (keeps_closeRequest ..)); case hs => exact rfl)
    | ((with_reducible apply Keeps.app (keeps_updSession ..)); case hs => exact rfl)
    | intro _)

theorem keeps_putXfer (s : State) (k : Fin 4) (x : Option SdoXfer) :
    Keeps [.xfer] s (State.putXfer s k x) := by
  unfold State.putXfer
  repeat (first
    | with_reducible exact Keeps.refl _ _
    | ((with_reducible apply Keeps.app (keeps_set_net_xfer ..)); case hs => exact rfl))

theorem keeps_abortXfer (s : State) (p : CanPort) (k : Fin 4) (i : Nat) (sub : Nat) (abort : Nat) :
    Keeps [.xfer, .sent] s (State.abortXfer s p k i sub abort) := by
  unfold State.abortXfer
  repeat (first
    | with_reducible exact Keeps.refl _ _
    | ((with_reducible apply Keeps.app (keeps_sdoAnswer ..)); case hs => exact rfl)
    | ((with_reducible apply Keeps.app (keeps_putXfer ..)); case hs => exact rfl))

theorem keeps_sdoWrite (s : State) (p : CanPort) (k : Fin 4) (j : Fin 4) (i : Nat) (sub : Nat) (data : List Byte) :
    Keeps [.tally, .permits, .sessions, .held, .ports, .stream, .xfer, .auth, .cfg, .log, .sent] s (State.sdoWrite s p k j i sub data) := by
  unfold State.sdoWrite
  dsimp only
  repeat (first
    | with_reducible exact Keeps.refl _ _
    | ((with_reducible apply Keeps.app (keeps_sdoAnswer ..)); case hs => exact rfl)
    | ((with_reducible apply Keeps.app (keeps_endSession ..)); case hs => exact rfl)
    | ((with_reducible apply Keeps.app (keeps_receive ..)); case hs => exact rfl)
    | with_reducible apply Keeps.ite
    | intro _
    | split)

theorem keeps_sdoRead (s : State) (p : CanPort) (k : Fin 4) (j : Fin 4) (i : Nat) (sub : Nat) :
    Keeps [.fresh, .sessions, .xfer, .log, .sent] s (State.sdoRead s p k j i sub) := by
  unfold State.sdoRead
  dsimp only
  repeat (first
    | with_reducible exact Keeps.refl _ _
    | ((with_reducible apply Keeps.app (keeps_sdoAnswer ..)); case hs => exact rfl)
    | ((with_reducible apply Keeps.app (keeps_putXfer ..)); case hs => exact rfl)
    | ((with_reducible apply Keeps.app (keeps_readObject ..)); case hs => exact rfl)
    | ((with_reducible apply Keeps.app (keeps_abortXfer ..)); case hs => exact rfl)
    | with_reducible apply Keeps.ite
    | intro _)

theorem keeps_sdoReadSegment (s : State) (p : CanPort) (k : Fin 4) (t : SdoXfer) (toggle : Bool) :
    Keeps [.xfer, .sent] s (State.sdoReadSegment s p k t toggle) := by
  unfold State.sdoReadSegment
  dsimp only
  repeat (first
    | with_reducible exact Keeps.refl _ _
    | ((with_reducible apply Keeps.app (keeps_sdoAnswer ..)); case hs => exact rfl)
    | ((with_reducible apply Keeps.app (keeps_putXfer ..)); case hs => exact rfl)
    | ((with_reducible apply Keeps.app (keeps_abortXfer ..)); case hs => exact rfl)
    | with_reducible apply Keeps.ite
    | intro _)

theorem keeps_sdoWriteSegment (s : State) (p : CanPort) (k : Fin 4) (j : Fin 4) (t : SdoXfer) (toggle : Bool) (data : List Byte) (last : Bool) :
    Keeps [.tally, .permits, .sessions, .held, .ports, .stream, .xfer, .auth, .cfg, .log, .sent] s (State.sdoWriteSegment s p k j t toggle data last) := by
  unfold State.sdoWriteSegment
  dsimp only
  repeat (first
    | with_reducible exact Keeps.refl _ _
    | ((with_reducible apply Keeps.app (keeps_sdoAnswer ..)); case hs => exact rfl)
    | ((with_reducible apply Keeps.app (keeps_putXfer ..)); case hs => exact rfl)
    | ((with_reducible apply Keeps.app (keeps_sdoWrite ..)); case hs => exact rfl)
    | ((with_reducible apply Keeps.app (keeps_abortXfer ..)); case hs => exact rfl)
    | with_reducible apply Keeps.ite
    | intro _)

theorem keeps_sdoServe (s : State) (p : CanPort) (k : Fin 4) (j : Fin 4) (r : SdoReq) :
    Keeps [.fresh, .tally, .permits, .sessions, .held, .ports, .stream, .xfer, .auth, .cfg, .log, .sent] s (State.sdoServe s p k j r) := by
  unfold State.sdoServe
  repeat (first
    | with_reducible exact Keeps.refl _ _
    | ((with_reducible apply Keeps.app (keeps_sdoAnswer ..)); case hs => exact rfl)
    | ((with_reducible apply Keeps.app (keeps_sdoRead ..)); case hs => exact rfl)
    | ((with_reducible apply Keeps.app (keeps_putXfer ..)); case hs => exact rfl)
    | ((with_reducible apply Keeps.app (keeps_sdoWriteSegment ..)); case hs => exact rfl)
    | ((with_reducible apply Keeps.app (keeps_sdoWrite ..)); case hs => exact rfl)
    | ((with_reducible apply Keeps.app (keeps_abortXfer ..)); case hs => exact rfl)
    | ((with_reducible apply Keeps.app (keeps_sdoReadSegment ..)); case hs => exact rfl)
    | with_reducible apply Keeps.ite
    | intro _
    | split)

theorem keeps_openChannel (s : State) (p : CanPort) (k : Fin 4) (j : Fin 4) :
    Keeps [.sessions, .log] s (State.openChannel s p k j) := by
  unfold State.openChannel
  repeat (first
    | with_reducible exact Keeps.refl _ _
    | ((with_reducible apply Keeps.app (keeps_openAt ..)); case hs => exact rfl))

theorem keeps_sdoRequest (p : CanPort) (k : Fin 4) (r : SdoReq) (s : State) :
    Keeps [.fresh, .tally, .permits, .sessions, .held, .ports, .stream, .xfer, .auth, .cfg, .log, .sent] s (sdoRequest p k r s) := by
  unfold sdoRequest
  dsimp only
  repeat (first
    | with_reducible exact Keeps.refl _ _
    | ((with_reducible apply Keeps.app (keeps_sdoAnswer ..)); case hs => exact rfl)
    | ((with_reducible apply Keeps.app (keeps_openChannel ..)); case hs => exact rfl)
    | ((with_reducible apply Keeps.app (keeps_refuseSession ..)); case hs => exact rfl)
    | ((with_reducible apply Keeps.app (keeps_sdoServe ..)); case hs => exact rfl)
    | ((with_reducible apply Keeps.app (keeps_touch ..)); case hs => exact rfl)
    | with_reducible apply Keeps.ite
    | intro _
    | split)

theorem keeps_sdoSegmentTimeout (k : Fin 4) (s : State) :
    Keeps [.now, .xfer, .sent] s (sdoSegmentTimeout k s) := by
  unfold sdoSegmentTimeout
  repeat (first
    | with_reducible exact Keeps.refl _ _
    | ((with_reducible apply Keeps.app (keeps_abortXfer ..)); case hs => exact rfl)
    | ((with_reducible apply Keeps.app (keeps_reach ..)); case hs => exact rfl)
    | split)

theorem keeps_takeDatagram (s : State) (bs : List Byte) :
    Keeps [.fresh, .tally, .permits, .sessions, .held, .ports, .stream, .xfer, .auth, .cfg, .log, .sent] s (State.takeDatagram s bs) := by
  unfold State.takeDatagram
  dsimp only
  repeat (first
    | with_reducible exact Keeps.refl _ _
    | ((with_reducible apply Keeps.app (keeps_openPlain ..)); case hs => exact rfl)
    | ((with_reducible apply Keeps.app (keeps_writeRequest ..)); case hs => exact rfl)
    | ((with_reducible apply Keeps.app (keeps_malformed ..)); case hs => exact rfl)
    | ((with_reducible apply Keeps.app (keeps_readRequest ..)); case hs => exact rfl)
    | ((with_reducible apply Keeps.app (keeps_openTakeover ..)); case hs => exact rfl)
    | ((with_reducible apply Keeps.app (keeps_closeSession ..)); case hs => exact rfl)
    | ((with_reducible apply Keeps.app (keeps_nopRequest ..)); case hs => exact rfl)
    | with_reducible apply Keeps.ite
    | intro _
    | split)

theorem keeps_spiCrcError (s : State) :
    Keeps [.ports, .stream] s (State.spiCrcError s) := by
  unfold State.spiCrcError
  repeat (first
    | with_reducible exact Keeps.refl _ _
    | ((with_reducible apply Keeps.app (keeps_updPort ..)); case hs => exact rfl))

theorem keeps_spiFrame (bytes : List Byte) (s : State) :
    Keeps [.fresh, .tally, .permits, .sessions, .held, .ports, .stream, .xfer, .auth, .cfg, .log, .sent] s (spiFrame bytes s) := by
  unfold spiFrame
  dsimp only
  repeat (first
    | with_reducible exact Keeps.refl _ _
    | ((with_reducible apply Keeps.app (keeps_takeDatagram ..)); case hs => exact rfl)
    | ((with_reducible apply Keeps.app (keeps_spiCrcError ..)); case hs => exact rfl)
    | with_reducible apply Keeps.ite
    | intro _)

theorem keeps_spiDelivered (s : State) :
    Keeps [.sessions, .stream, .sent] s (spiDelivered s) := by
  unfold spiDelivered
  dsimp only
  repeat (first
    | with_reducible exact Keeps.refl _ _
    | with_reducible apply Keeps.foldl
    | ((with_reducible apply Keeps.app (keeps_say ..)); case hs => exact rfl)
    | ((with_reducible apply Keeps.app (keeps_updSession ..)); case hs => exact rfl)
    | with_reducible apply Keeps.ite
    | intro _
    | split
    | ((with_reducible apply Keeps.app (keeps_set_net_spiQueue ..)); case hs => exact rfl))

theorem keeps_judgeAll (s : State) :
    Keeps [.power, .term, .src, .ch, .head, .bell, .tally, .permits, .engine, .twin, .sessions, .held, .ports, .stream, .xfer, .auth, .emcy, .cfg, .recd, .log, .emmc, .sent] s (State.judgeAll s) := by
  unfold State.judgeAll
  dsimp only
  repeat (first
    | with_reducible exact Keeps.refl _ _
    | ((with_reducible apply Keeps.app (keeps_judgePart ..)); case hs => exact rfl)
    | ((with_reducible apply Keeps.app (keeps_set_net_held ..)); case hs => exact rfl))

theorem keeps_tickInstant (s : State) (timer : Bool) :
    Keeps [.now, .engine, .tickInst] s (State.tickInstant s timer) := by
  unfold State.tickInstant
  dsimp only
  repeat (first
    | with_reducible exact Keeps.refl _ _
    | ((with_reducible apply Keeps.app (keeps_reach ..)); case hs => exact rfl)
    | with_reducible apply Keeps.ite
    | intro _
    | ((with_reducible apply Keeps.app (keeps_set_engine_net_pdSeq_tickOpen ..)); case hs => exact rfl))

theorem keeps_writeJudgement (s : State) :
    Keeps [.now, .power, .term, .src, .ch, .head, .bell, .tally, .permits, .engine, .twin, .sessions, .held, .ports, .stream, .xfer, .tickInst, .auth, .emcy, .cfg, .recd, .log, .emmc, .sent] s (writeJudgement s) := by
  unfold writeJudgement
  repeat (first
    | with_reducible exact Keeps.refl _ _
    | ((with_reducible apply Keeps.app (keeps_tickInstant ..)); case hs => exact rfl)
    | ((with_reducible apply Keeps.app (keeps_judgeAll ..)); case hs => exact rfl))

theorem keeps_takeSync (s : State) (src : TickSource) :
    Keeps [.engine, .ports, .stream, .emcy, .cfg, .sent] s (State.takeSync s src) := by
  unfold State.takeSync
  dsimp only
  repeat (first
    | with_reducible exact Keeps.refl _ _
    | ((with_reducible apply Keeps.app (keeps_hostPd ..)); case hs => exact rfl)
    | ((with_reducible apply Keeps.app (keeps_epochSync ..)); case hs => exact rfl)
    | with_reducible apply Keeps.ite
    | intro _
    | split
    | ((with_reducible apply Keeps.app (keeps_set_engine ..)); case hs => exact rfl))

theorem keeps_openInstant (s : State) (src : TickSource) :
    Keeps [.now, .engine, .tickInst] s (State.openInstant s src) := by
  unfold State.openInstant
  dsimp only
  repeat (first
    | with_reducible exact Keeps.refl _ _
    | ((with_reducible apply Keeps.app (keeps_tickInstant ..)); case hs => exact rfl)
    | with_reducible apply Keeps.ite
    | intro _
    | ((with_reducible apply Keeps.app (keeps_set_net_tickOpen ..)); case hs => exact rfl))

theorem keeps_sendAtTick (s : State) :
    Keeps [.stream, .can, .pdo, .sent] s (State.sendAtTick s) := by
  unfold State.sendAtTick
  dsimp only
  repeat (first
    | with_reducible exact Keeps.refl _ _
    | ((with_reducible apply Keeps.app (keeps_produceSync ..)); case hs => exact rfl)
    | ((with_reducible apply Keeps.app (keeps_sendTpdos ..)); case hs => exact rfl)
    | with_reducible apply Keeps.ite
    | intro _)

theorem keeps_runTick (s : State) (src : TickSource) (cycles : Nat) :
    Keeps [.now, .engine, .ports, .stream, .can, .tickInst, .emcy, .pdo, .cfg, .log, .sent] s (State.runTick s src cycles) := by
  unfold State.runTick
  dsimp only
  repeat (first
    | with_reducible exact Keeps.refl _ _
    | ((with_reducible apply Keeps.app (keeps_engineTick ..)); case hs => exact rfl)
    | ((with_reducible apply Keeps.app (keeps_takeSync ..)); case hs => exact rfl)
    | ((with_reducible apply Keeps.app (keeps_openInstant ..)); case hs => exact rfl)
    | ((with_reducible apply Keeps.app (keeps_sendAtTick ..)); case hs => exact rfl)
    | with_reducible apply Keeps.ite
    | intro _
    | ((with_reducible apply Keeps.app (keeps_set_engine ..)); case hs => exact rfl))

theorem keeps_tick (src : TickSource) (cycles : Nat) (s : State) :
    Keeps [.now, .engine, .ports, .stream, .can, .tickInst, .emcy, .pdo, .cfg, .log, .sent] s (tick src cycles s) := by
  unfold tick
  repeat (first
    | with_reducible exact Keeps.refl _ _
    | ((with_reducible apply Keeps.app (keeps_runTick ..)); case hs => exact rfl)
    | ((with_reducible apply Keeps.app (keeps_takeSync ..)); case hs => exact rfl)
    | with_reducible apply Keeps.ite
    | intro _)

theorem keeps_tickOverrun (src : TickSource) (_cycles : Nat) (s : State) :
    Keeps [.now, .engine, .ports, .stream, .can, .tickInst, .emcy, .pdo, .cfg, .sent] s (tickOverrun src _cycles s) := by
  unfold tickOverrun
  dsimp only
  repeat (first
    | with_reducible exact Keeps.refl _ _
    | ((with_reducible apply Keeps.app (keeps_takeSync ..)); case hs => exact rfl)
    | ((with_reducible apply Keeps.app (keeps_openInstant ..)); case hs => exact rfl)
    | ((with_reducible apply Keeps.app (keeps_sendAtTick ..)); case hs => exact rfl)
    | with_reducible apply Keeps.ite
    | intro _
    | ((with_reducible apply Keeps.app (keeps_set_engine ..)); case hs => exact rfl))

theorem keeps_warmupEnd (src : TickSource) (cycles : Nat) (s : State) :
    Keeps [.now, .engine, .ports, .stream, .can, .tickInst, .emcy, .pdo, .cfg, .log, .sent] s (warmupEnd src cycles s) := by
  unfold warmupEnd
  repeat (first
    | with_reducible exact Keeps.refl _ _
    | ((with_reducible apply Keeps.app (keeps_tick ..)); case hs => exact rfl)
    | with_reducible apply Keeps.ite
    | intro _)

end Sys2Proof.Machine
end

