-- ==== Sys2Proof/Laws/FrameExec.lean ====
section
/-! SUPPORT. The frame of every command: `touches` holds of its meaning, one lemma per constructor. -/

namespace Sys2Proof.Machine

/-- The frame of a meaning from the frame of its effect. -/
theorem frame_run {l : List Part} {s t : State} {f : State → State} (hl : subParts reports l = true)
    (hf : ∀ u, Keeps l u (f u)) (h : run s f = .next t) : Keeps l s t := by
  unfold run at h
  cases h
  have hb : Keeps l s s.begin := ((keeps_begin s).mono (b := reports) rfl).mono hl
  exact (hb.trans (hf _)).trans ((keeps_finish _).mono hl)

theorem frame_begin {l : List Part} {s t : State} {f : State → State} (hl : subParts reports l = true)
    (hf : Keeps l s.begin (f s.begin)) (h : run s f = .next t) : Keeps l s t := by
  unfold run at h
  cases h
  have hb : Keeps l s s.begin := ((keeps_begin s).mono (b := reports) rfl).mono hl
  exact (hb.trans hf).trans ((keeps_finish _).mono hl)

/-- A row that is no write judged with others. -/
theorem frame_quiet {c : Instr} {s t : State} (hc : rowObject c = none) (h : Keeps (touches c ++ reports) s t) :
    Keeps (touchesIn c s ++ reports) s t := by
  have : contested c s = false := by unfold contested; rw [hc]
  unfold touchesIn
  rw [this]
  simpa using h

theorem Keeps.foldl_mem {α : Type} {l : List Part} {f : State → α → State} (xs : List α)
    (hf : ∀ acc x, x ∈ xs → Keeps l acc (f acc x)) (s : State) : Keeps l s (xs.foldl f s) := by
  induction xs generalizing s with
  | nil => exact .refl _ _
  | cons x xs ih =>
    exact (hf s x (List.mem_cons_self ..)).trans (ih (fun acc y hy => hf acc y (List.mem_cons_of_mem _ hy)) _)

/-- What the writes to an object may change, from their receipt to their effect. -/
structure RowKeeps (l : List Part) (i sub : Nat) : Prop where
  plain : isSessionObject i sub = false
  receipt : ∀ (u : State) (data : List Byte) (a : Nat), Keeps l u (u.receiptRefusal i sub data a)
  judge : ∀ (u : State) (v a : Nat), Keeps l u (u.judgeRefusal i sub v a)
  effect : ∀ (u : State) (o : Origin) (data : List Byte), Keeps l u (u.applyWrite o i sub data)

theorem RowKeeps.mono {a b : List Part} {i sub : Nat} (h : RowKeeps a i sub) (hs : subParts a b = true) :
    RowKeeps b i sub :=
  ⟨h.plain, fun u d x => (h.receipt u d x).mono hs, fun u v x => (h.judge u v x).mono hs,
    fun u o d => (h.effect u o d).mono hs⟩

theorem keeps_applyWrite_live {l : List Part} (u : State) (o : Origin) (i sub : Nat) (data : List Byte)
    (h : (objInfo i sub).all (fun x => !(x.inCfg && x.cls == .staged)) = true)
    (hl : Keeps l u (u.liveWrite o i sub (ofLe data) data)) : Keeps l u (u.applyWrite o i sub data) := by
  unfold State.applyWrite
  split
  · exact Keeps.refl _ _
  · rename_i x hx
    rw [hx] at h
    have hc : (x.inCfg && x.cls == .staged) = false := by
      cases hx' : (x.inCfg && x.cls == .staged) <;> simp_all
    rw [if_neg (by rw [hc]; decide)]
    exact hl

/-- A write held alone for its object is judged alone. -/
theorem judgeObject_alone (s : State) (w : HeldWrite) (h : s.net.held.any (heldFor w.index w.sub) = false) :
    State.judgeObject { s with net := { s.net with held := s.net.held ++ [w] } } w.index w.sub = s.judgePart [(w, 0)] := by
  have hn : ∀ x ∈ s.net.held, heldFor w.index w.sub x = false := by simpa using h
  have hw : heldFor w.index w.sub w = true := by simp [heldFor]
  have hm : (s.net.held ++ [w]).filter (heldFor w.index w.sub) = [w] := by
    rw [List.filter_append, List.filter_eq_nil_iff.mpr (fun x hx => by simp [hn x hx])]
    simp [hw]
  have hr : (s.net.held ++ [w]).filter (fun x => !heldFor w.index w.sub x) = s.net.held := by
    rw [List.filter_append, List.filter_eq_self.mpr (fun x hx => by simp [hn x hx])]
    simp [hw]
  unfold State.judgeObject
  simp only [hm, hr]
  rfl

theorem judgePart_one (s : State) (w : HeldWrite) :
    s.judgePart [(w, 0)] = if heldAbort s w ≠ 0 then s.refuseWrite w (heldAbort s w) else s.grantWrite w := by
  have hb : ∀ l : List (HeldWrite × Nat), (List.filter (fun w => heldAbort s w.1 == 0) [(w, 0)]).any
      (fun x => beats s.cfg.active x (w, 0)) = false := by
    intro _
    by_cases h : heldAbort s w = 0 <;> simp [h, beats]
  simp only [State.judgePart, List.foldl_cons, List.foldl_nil]
  rw [hb []]
  rfl

theorem keeps_judgePart_one {l : List Part} (s : State) (w : HeldWrite) (hw : w.row = true)
    (k : RowKeeps l w.index w.sub) (hl : subParts [.sent] l = true) : Keeps l s (s.judgePart [(w, 0)]) := by
  have an (u : State) (a : Nat) : Keeps l u (u.answerHeld w a) := by
    unfold State.answerHeld
    rw [if_pos hw]
    exact (keeps_say ..).mono hl
  have hp : w.isPd = false := by unfold HeldWrite.isPd; rw [hw]; rfl
  have rf (u : State) (a : Nat) : Keeps l u (u.refuseWrite w a) := by
    unfold State.refuseWrite State.dropHeld
    rw [hp]
    exact (k.judge ..).trans (an ..)
  rw [judgePart_one]
  refine Keeps.ite (fun _ => rf ..) (fun _ => ?_)
  unfold State.grantWrite
  refine Keeps.ite (fun _ => ?_) (fun _ => Keeps.refl _ _)
  exact Keeps.ite (fun _ => rf ..) (fun _ => (an ..).trans (k.effect ..))

theorem keeps_judgeObject_of {l : List Part} (s : State) (i sub : Nat) (k : RowKeeps l i sub)
    (hl : subParts (rivals ++ reports) l = true) : Keeps l s (s.judgeObject i sub) := by
  have hd (u : State) (w : HeldWrite) (a : Nat) : Keeps l u (u.dropHeld w a) :=
    ((keeps_dropHeld ..).mono (b := rivals ++ reports) rfl).mono hl
  have ha (u : State) (w : HeldWrite) (a : Nat) : Keeps l u (u.answerHeld w a) :=
    ((keeps_answerHeld ..).mono (b := rivals ++ reports) rfl).mono hl
  have hc (u : State) (p : PortId) : Keeps l u (u.countBusy p) :=
    ((keeps_countBusy ..).mono (b := rivals ++ reports) rfl).mono hl
  unfold State.judgeObject
  dsimp only
  refine Keeps.trans (((keeps_set_net_held s (s.net.held.filter (fun w => !heldFor i sub w))).mono
    (b := rivals ++ reports) rfl).mono hl) ?_
  unfold State.judgePart
  dsimp only
  refine Keeps.foldl_mem _ (fun acc x hx => ?_) _
  have hm := (List.mem_filter.mp (List.fst_mem_of_mem_zipIdx hx)).2
  obtain ⟨h1, h2⟩ : x.1.index = i ∧ x.1.sub = sub := by simpa [heldFor] using hm
  have rf (u : State) (a : Nat) : Keeps l u (u.refuseWrite x.1 a) := by
    unfold State.refuseWrite
    rw [h1, h2]
    exact (k.judge ..).trans (hd ..)
  refine Keeps.ite (fun _ => rf ..) (fun _ => Keeps.ite (fun _ => ?_) (fun _ => ?_))
  · unfold State.refuseBusy
    exact Keeps.trans (Keeps.ite (fun _ => Keeps.refl _ _) (fun _ => hc ..)) (rf ..)
  · unfold State.grantWrite
    refine Keeps.ite (fun _ => ?_) (fun _ => Keeps.refl _ _)
    refine Keeps.ite (fun _ => rf ..) (fun _ => ?_)
    rw [h1, h2]
    exact (ha ..).trans (k.effect ..)

/-- What the receipt of a row leaves: nothing held, or its write held after the others. -/
theorem rowReceive_cases {l : List Part} (s : State) (o : Origin) (i sub : Nat) (data : List Byte) (k : RowKeeps l i sub)
    (hl : subParts [.sessions, .sent] l = true) :
    ((s.rowReceive o i sub data).2 = false ∧ Keeps l s (s.rowReceive o i sub data).1) ∨
    ∃ (j : Fin 4) (w : HeldWrite), w.row = true ∧ w.index = i ∧ w.sub = sub ∧
      s.rowReceive o i sub data =
        ({ s.touch j with net := { (s.touch j).net with held := (s.touch j).net.held ++ [w] } }, true) := by
  have an (u : State) (p : Origin) (a : Nat) : Keeps l u (u.answer p i sub a) :=
    ((keeps_answer ..).mono (b := [.sessions, .sent]) rfl).mono hl
  have tch (u : State) (k : Fin 4) : Keeps l u (u.touch k) :=
    ((keeps_touch ..).mono (b := [.sessions, .sent]) rfl).mono hl
  unfold State.rowReceive
  split
  · split
    · exact .inl ⟨rfl, Keeps.refl _ _⟩
    · rename_i j _
      split
      · exact .inl ⟨rfl, Keeps.refl _ _⟩
      · rename_i x _
        split
        · exact .inl ⟨rfl, (tch s j).trans (((keeps_say ..).mono (b := [.sessions, .sent]) rfl).mono hl)⟩
        · unfold State.takeWrite
          dsimp only
          split
          · exact .inl ⟨rfl, (tch s j).trans ((k.receipt ..).trans (an ..))⟩
          · rw [if_neg (show ¬ isSessionObject i sub = true by rw [k.plain]; decide)]
            exact .inr ⟨j, _, rfl, rfl, rfl, rfl⟩
  · exact .inl ⟨rfl, Keeps.refl _ _⟩

/-- A write row alone at its object changes what its object does. -/
theorem keeps_rowWrite_alone {l : List Part} (s : State) (o : Origin) (i sub : Nat) (data : List Byte)
    (h : s.net.held.any (heldFor i sub) = false) (k : RowKeeps l i sub)
    (hl : subParts [.sessions, .sent] l = true) : Keeps l s (s.rowWrite o i sub data) := by
  have hs : subParts [.sent] l = true := by
    unfold subParts at hl ⊢
    simp only [List.all_cons, List.all_nil, Bool.and_true, Bool.and_eq_true] at hl ⊢
    exact hl.2
  unfold State.rowWrite
  rcases rowReceive_cases s o i sub data k hl with ⟨hr, hk⟩ | ⟨j, w, hw, rfl, rfl, hr⟩
  · dsimp only
    rw [hr]
    exact hk
  · dsimp only
    rw [hr]
    refine Keeps.trans (((keeps_touch s j).mono (b := [.sessions, .sent]) rfl).mono hl) ?_
    exact judgeObject_alone (s.touch j) w h ▸ keeps_judgePart_one _ _ hw k hs

/-- A write row changes what its object does, and what the answers to its rivals may change. -/
theorem keeps_rowWrite_rivals {l : List Part} (s : State) (o : Origin) (i sub : Nat) (data : List Byte)
    (k : RowKeeps l i sub) (hl : subParts (rivals ++ reports) l = true) (hs : subParts [.sessions, .sent] l = true) :
    Keeps l s (s.rowWrite o i sub data) := by
  unfold State.rowWrite
  rcases rowReceive_cases s o i sub data k hs with ⟨hr, hk⟩ | ⟨j, w, hw, rfl, rfl, hr⟩
  · dsimp only
    rw [hr]
    exact hk
  · dsimp only
    rw [hr]
    refine Keeps.trans (((keeps_touch s j).mono (b := [.sessions, .sent]) rfl).mono hs) ?_
    refine Keeps.trans (((keeps_set_net_held (s.touch j) ((s.touch j).net.held ++ [w])).mono
      (b := rivals ++ reports) rfl).mono hl) ?_
    exact keeps_judgeObject_of _ _ _ k hl

/-- The frame of a row that is one whole write, from that of its object. -/
theorem frame_row {c : Instr} {i sub : Nat} (s : State) (o : Origin) (data : List Byte)
    (hc : rowObject c = some (i, sub)) (k : RowKeeps (touches c ++ reports) i sub)
    (ht : subParts [.sessions, .sent] (touches c ++ reports) = true) :
    Keeps (touchesIn c s ++ reports) s (s.rowWrite o i sub data) := by
  have e : contested c s = s.net.held.any (heldFor i sub) := by unfold contested; rw [hc]
  unfold touchesIn
  cases h : contested c s with
  | false =>
    simp only [Bool.false_eq_true, ↓reduceIte, List.append_nil]
    exact keeps_rowWrite_alone s o i sub data (e ▸ h) k ht
  | true =>
    simp only [↓reduceIte]
    have m : ∀ p ∈ touches c ++ reports, p ∈ touches c ++ rivals ++ reports := fun p hp => by
      simp only [List.mem_append] at hp ⊢
      exact hp.elim (fun x => .inl (.inl x)) .inr
    have m' : ∀ p ∈ rivals ++ reports, p ∈ touches c ++ rivals ++ reports := fun p hp => by
      simp only [List.mem_append] at hp ⊢
      exact hp.elim (fun x => .inl (.inr x)) .inr
    have sub_of {a b : List Part} (h : ∀ p ∈ a, p ∈ b) : subParts a b = true := by
      unfold subParts
      exact List.all_eq_true.mpr (fun p hp => decide_eq_true (h p hp))
    exact keeps_rowWrite_rivals s o i sub data (k.mono (sub_of m)) (sub_of m') (sub_of (fun p hp => m p (subParts_mem ht hp)))

theorem reports_touchesIn (c : Instr) (s : State) : subParts reports (touchesIn c s ++ reports) = true := by
  unfold subParts
  exact List.all_eq_true.mpr (fun p hp => decide_eq_true (List.mem_append_right _ hp))

/-- The same, of the whole command. -/
theorem frame_write {c : Instr} {i sub : Nat} {s s' : State} {o : Origin} {data : List Byte}
    (h : run s (fun s => s.rowWrite o i sub data) = .next s')
    (hc : rowObject c = some (i, sub)) (k : RowKeeps (touches c ++ reports) i sub)
    (ht : subParts [.sessions, .sent] (touches c ++ reports) = true) :
    Keeps (touchesIn c s ++ reports) s s' :=
  frame_begin (f := fun s => s.rowWrite o i sub data) (reports_touchesIn c s)
    (show Keeps (touchesIn c s.begin ++ reports) _ _ from frame_row s.begin o data hc k ht) h

theorem keeps_receiptRefusal_other (u : State) (i sub : Nat) (data : List Byte) (a : Nat) (h : i ≠ 0x2900) :
    u.receiptRefusal i sub data a = u := by
  unfold State.receiptRefusal
  exact if_neg (fun e => h e.1)

theorem keeps_judgeRefusal_other (u : State) (i sub v a : Nat) (h : i ≠ 0x2900) (h' : i ≠ 0x2800) :
    u.judgeRefusal i sub v a = u := by
  unfold State.judgeRefusal
  split
  · rw [if_neg (fun e => h e.1), if_neg (fun e => h' e.1)]
  · rfl

theorem keeps_judgeRefusal_cfg (u : State) (sub v a : Nat) : Keeps [.cfg] u (u.judgeRefusal 0x2900 sub v a) := by
  unfold State.judgeRefusal
  refine Keeps.ite (fun _ => Keeps.ite (fun _ => keeps_cfgCmdRefusal ..) (fun _ => ?_)) (fun _ => Keeps.refl _ _)
  rw [if_neg (fun e => absurd e.1 (by decide))]
  exact Keeps.refl _ _

theorem keeps_judgeRefusal_book (u : State) (sub v a : Nat) :
    Keeps [.recd, .log] u (u.judgeRefusal 0x2800 sub v a) := by
  unfold State.judgeRefusal
  refine Keeps.ite (fun _ => ?_) (fun _ => Keeps.refl _ _)
  rw [if_neg (fun e => absurd e.1 (by decide))]
  exact Keeps.ite (fun _ => keeps_recCmdRefusal ..) (fun _ => Keeps.refl _ _)

theorem keeps_judgeRefusal_correlate (u : State) (v a : Nat) : u.judgeRefusal 0x2800 0x0A v a = u := by
  unfold State.judgeRefusal
  split
  · rw [if_neg (fun e => absurd e.1 (by decide)), if_neg (fun e => absurd e.2 (by decide))]
  · rfl

theorem liveWrite_cfgCommand (u : State) (p : Origin) (v : Nat) (data : List Byte) :
    u.liveWrite p 0x2900 0x07 v data = u.cfgCommand v := rfl

theorem liveWrite_recCommand (u : State) (p : Origin) (v : Nat) (data : List Byte) :
    u.liveWrite p 0x2800 0x0B v data = u.recCommand p v := rfl

theorem liveWrite_capture (u : State) (p : Origin) (h : Fin 32) (sub v : Nat) (data : List Byte) :
    u.liveWrite p (0x2100 + h.val) sub v data = captureArm h v u := by
  unfold State.liveWrite within finOf?
  have := h.isLt
  rw [if_neg (by omega), if_neg (by omega), if_pos (by simp; omega), dif_pos (by omega)]
  simp

theorem liveWrite_section (u : State) (p : Origin) (n : Fin 48) (sub v : Nat) (data : List Byte) :
    u.liveWrite p (0x2200 + n.val) sub v data = u.sectionWrite p n sub v := by
  unfold State.liveWrite within finOf?
  have := n.isLt
  rw [if_neg (by omega), if_neg (by omega), if_neg (by simp; omega), if_pos (by simp; omega), dif_pos (by omega)]
  simp

theorem liveWrite_clf (u : State) (p : Origin) (k : Fin 6) (v : Nat) (data : List Byte) :
    u.liveWrite p 0x2700 (0x81 + k.val) v data = clfWrite k.val v u := by
  have := k.isLt
  show u.terminalWrite (0x81 + k.val) v = clfWrite k.val v u
  unfold State.terminalWrite within
  rw [if_pos (by simp; omega)]
  simp

/-- An object that is no session object, no staged one and outside the stores. -/
theorem RowKeeps.live {l : List Part} {i sub : Nat} (h1 : i ≠ 0x2900) (h2 : i ≠ 0x2800)
    (hs : isSessionObject i sub = false)
    (hx : (objInfo i sub).all (fun x => !(x.inCfg && x.cls == .staged)) = true)
    (ha : ∀ (u : State) (p : Origin) (data : List Byte), Keeps l u (u.liveWrite p i sub (ofLe data) data)) :
    RowKeeps l i sub :=
  ⟨hs, fun u d a => by rw [keeps_receiptRefusal_other u i sub d a h1]; exact Keeps.refl _ _,
    fun u v a => by rw [keeps_judgeRefusal_other u i sub v a h1 h2]; exact Keeps.refl _ _,
    fun u p d => keeps_applyWrite_live u p i sub d hx (ha u p d)⟩

/-- An object of the stores: their refusals leave something too (R440, R441, R477). -/
theorem RowKeeps.store {l : List Part} {i sub : Nat} (hs : isSessionObject i sub = false)
    (hx : (objInfo i sub).all (fun x => !(x.inCfg && x.cls == .staged)) = true)
    (hr : ∀ (u : State) (data : List Byte) (a : Nat), Keeps l u (u.receiptRefusal i sub data a))
    (hj : ∀ (u : State) (v a : Nat), Keeps l u (u.judgeRefusal i sub v a))
    (ha : ∀ (u : State) (p : Origin) (data : List Byte), Keeps l u (u.liveWrite p i sub (ofLe data) data)) :
    RowKeeps l i sub :=
  ⟨hs, hr, hj, fun u p d => keeps_applyWrite_live u p i sub d hx (ha u p d)⟩

/-- A write of a SESSION object completes at its receipt (R378). -/
theorem keeps_rowWrite_session {l : List Part} (s : State) (o : Origin) (i sub : Nat) (data : List Byte)
    (hl : subParts [.sessions, .sent] l = true) (h1 : i ≠ 0x2900) (hs : isSessionObject i sub = true)
    (hw : ∀ (u : State) (k : Fin 4), Keeps l u (u.sessionWrite k i sub data).1)
    (he : isSessionEnd i sub = true → ∀ (u : State) (k : Fin 4), Keeps l u (u.endSession k)) :
    Keeps l s (s.rowWrite o i sub data) := by
  have an (u : State) (p : Origin) (a : Nat) : Keeps l u (u.answer p i sub a) :=
    ((keeps_answer ..).mono (b := [.sessions, .sent]) rfl).mono hl
  have tk (u : State) (k : Fin 4) (x : Session) :
      Keeps l u (u.takeWrite k x i sub data).1 ∧ (u.takeWrite k x i sub data).2 = false := by
    unfold State.takeWrite
    dsimp only
    split
    · rw [keeps_receiptRefusal_other _ _ _ _ _ h1]
      exact ⟨an .., rfl⟩
    · exact ⟨Keeps.ite (fun h => ((hw ..).trans (an ..)).trans (he h ..)) (fun _ => (hw ..).trans (an ..)), rfl⟩
  have hr : Keeps l s (s.rowReceive o i sub data).1 ∧ (s.rowReceive o i sub data).2 = false := by
    unfold State.rowReceive
    split
    · split
      · exact ⟨Keeps.refl _ _, rfl⟩
      · split
        · exact ⟨Keeps.refl _ _, rfl⟩
        · split
          · exact ⟨Keeps.trans (((keeps_touch ..).mono (b := [.sessions, .sent]) rfl).mono hl)
              (((keeps_say ..).mono (b := [.sessions, .sent]) rfl).mono hl), rfl⟩
          · exact ⟨Keeps.trans (((keeps_touch ..).mono (b := [.sessions, .sent]) rfl).mono hl) (tk ..).1, (tk ..).2⟩
    · exact ⟨Keeps.refl _ _, rfl⟩
  unfold State.rowWrite
  rw [if_neg (by rw [hr.2]; decide)]
  exact hr.1

theorem frame_resetnLow  (s s' : State)
    (hex : exec .resetnLow s = .next s') :
    Keeps (touchesIn .resetnLow s ++ reports) s s' := by
  refine frame_quiet rfl (frame_run (f := fun s => resetnLow s.settleEntry) rfl (fun s => ?_) hex)
  show Keeps _ s (resetnLow s.settleEntry)
  repeat (first
    | with_reducible exact Keeps.refl _ _
    | ((with_reducible apply Keeps.app (keeps_settleEntry ..)); case hs => exact rfl)
    | ((with_reducible apply Keeps.app (keeps_resetnLow ..)); case hs => exact rfl)
    | intro _)

theorem frame_brownout (r : RailDrop) (s s' : State)
    (hex : exec (.brownout r) s = .next s') :
    Keeps (touchesIn (.brownout r) s ++ reports) s s' := by
  refine frame_quiet rfl (frame_run (f := fun s => brownout r s.settleEntry) rfl (fun s => ?_) hex)
  show Keeps _ s (brownout r s.settleEntry)
  repeat (first
    | with_reducible exact Keeps.refl _ _
    | ((with_reducible apply Keeps.app (keeps_settleEntry ..)); case hs => exact rfl)
    | ((with_reducible apply Keeps.app (keeps_brownout ..)); case hs => exact rfl)
    | intro _)

theorem frame_supplyRelease (pllLocks : Bool) (s s' : State)
    (hex : exec (.supplyRelease pllLocks) s = .next s') :
    Keeps (touchesIn (.supplyRelease pllLocks) s ++ reports) s s' := by
  refine frame_quiet rfl (frame_run (f := fun s => supplyRelease pllLocks s.settleEntry) rfl (fun s => ?_) hex)
  show Keeps _ s (supplyRelease pllLocks s.settleEntry)
  repeat (first
    | with_reducible exact Keeps.refl _ _
    | ((with_reducible apply Keeps.app (keeps_supplyRelease ..)); case hs => exact rfl)
    | ((with_reducible apply Keeps.app (keeps_settleEntry ..)); case hs => exact rfl)
    | intro _)

theorem frame_boot  (s s' : State)
    (hex : exec .boot s = .next s') :
    Keeps (touchesIn .boot s ++ reports) s s' := by
  refine frame_quiet rfl (frame_run (f := fun s => boot s.settleEntry) rfl (fun s => ?_) hex)
  show Keeps _ s (boot s.settleEntry)
  repeat (first
    | with_reducible exact Keeps.refl _ _
    | ((with_reducible apply Keeps.app (keeps_boot_command ..)); case hs => exact rfl)
    | ((with_reducible apply Keeps.app (keeps_settleEntry ..)); case hs => exact rfl)
    | intro _)

theorem frame_bootPllLockTimeout  (s s' : State)
    (hex : exec .bootPllLockTimeout s = .next s') :
    Keeps (touchesIn .bootPllLockTimeout s ++ reports) s s' := by
  refine frame_quiet rfl (frame_run (f := bootPllLockTimeout) rfl (fun s => ?_) hex)
  show Keeps _ s (bootPllLockTimeout s)
  repeat (first
    | with_reducible exact Keeps.refl _ _
    | ((with_reducible apply Keeps.app (keeps_bootPllLockTimeout ..)); case hs => exact rfl)
    | intro _)

theorem frame_vexcLowSet  (s s' : State)
    (hex : exec .vexcLowSet s = .next s') :
    Keeps (touchesIn .vexcLowSet s ++ reports) s s' := by
  refine frame_quiet rfl (frame_run (f := vexcLowSet) rfl (fun s => ?_) hex)
  show Keeps _ s (vexcLowSet s)
  repeat (first
    | with_reducible exact Keeps.refl _ _
    | ((with_reducible apply Keeps.app (keeps_vexcLowSet ..)); case hs => exact rfl)
    | intro _)

theorem frame_vexcLowClear  (s s' : State)
    (hex : exec .vexcLowClear s = .next s') :
    Keeps (touchesIn .vexcLowClear s ++ reports) s s' := by
  refine frame_quiet rfl (frame_run (f := vexcLowClear) rfl (fun s => ?_) hex)
  show Keeps _ s (vexcLowClear s)
  repeat (first
    | with_reducible exact Keeps.refl _ _
    | ((with_reducible apply Keeps.app (keeps_vexcLowClear ..)); case hs => exact rfl)
    | intro _)

theorem frame_clkinMissing  (s s' : State)
    (hex : exec .clkinMissing s = .next s') :
    Keeps (touchesIn .clkinMissing s ++ reports) s s' := by
  refine frame_quiet rfl (frame_run (f := clockFault) rfl (fun s => ?_) hex)
  show Keeps _ s (clockFault s)
  repeat (first
    | with_reducible exact Keeps.refl _ _
    | ((with_reducible apply Keeps.app (keeps_clockFault_command ..)); case hs => exact rfl)
    | intro _)

theorem frame_clockFreqError  (s s' : State)
    (hex : exec .clockFreqError s = .next s') :
    Keeps (touchesIn .clockFreqError s ++ reports) s s' := by
  refine frame_quiet rfl (frame_run (f := clockFault) rfl (fun s => ?_) hex)
  show Keeps _ s (clockFault s)
  repeat (first
    | with_reducible exact Keeps.refl _ _
    | ((with_reducible apply Keeps.app (keeps_clockFault_command ..)); case hs => exact rfl)
    | intro _)

theorem frame_pllLockLoss  (s s' : State)
    (hex : exec .pllLockLoss s = .next s') :
    Keeps (touchesIn .pllLockLoss s ++ reports) s s' := by
  refine frame_quiet rfl (frame_run (f := clockFault) rfl (fun s => ?_) hex)
  show Keeps _ s (clockFault s)
  repeat (first
    | with_reducible exact Keeps.refl _ _
    | ((with_reducible apply Keeps.app (keeps_clockFault_command ..)); case hs => exact rfl)
    | intro _)

theorem frame_hibernateCommand (o : Origin) (v : Nat) (s s' : State)
    (hex : exec (.hibernateCommand o v) s = .next s') :
    Keeps (touchesIn (.hibernateCommand o v) s ++ reports) s s' := by
  exact frame_write hex rfl (.live (by decide) (by decide) (by decide) (by decide)
    (fun u p d => (keeps_enterHibernate ..).mono rfl)) rfl

theorem frame_stbynLowQualified  (s s' : State)
    (hex : exec .stbynLowQualified s = .next s') :
    Keeps (touchesIn .stbynLowQualified s ++ reports) s s' := by
  refine frame_quiet rfl (frame_run (f := stbynLow) rfl (fun s => ?_) hex)
  show Keeps _ s (stbynLow s)
  repeat (first
    | with_reducible exact Keeps.refl _ _
    | ((with_reducible apply Keeps.app (keeps_stbynLow ..)); case hs => exact rfl)
    | intro _)

theorem frame_stbyStuckSet  (s s' : State)
    (hex : exec .stbyStuckSet s = .next s') :
    Keeps (touchesIn .stbyStuckSet s ++ reports) s s' := by
  refine frame_quiet rfl (frame_run (f := stbyStuckSet) rfl (fun s => ?_) hex)
  show Keeps _ s (stbyStuckSet s)
  repeat (first
    | with_reducible exact Keeps.refl _ _
    | ((with_reducible apply Keeps.app (keeps_stbyStuckSet ..)); case hs => exact rfl)
    | intro _)

theorem frame_stbyStuckClear  (s s' : State)
    (hex : exec .stbyStuckClear s = .next s') :
    Keeps (touchesIn .stbyStuckClear s ++ reports) s s' := by
  refine frame_quiet rfl (frame_run (f := fun s => s.guarded s.serving stbyStuckClear) rfl (fun s => ?_) hex)
  show Keeps _ s (s.guarded s.serving stbyStuckClear)
  repeat (first
    | with_reducible exact Keeps.refl _ _
    | ((with_reducible apply Keeps.app (keeps_stbyStuckClear ..)); case hs => exact rfl)
    | with_reducible apply Keeps.guarded
    | intro _)

theorem frame_wake (pllLocks : Bool) (s s' : State)
    (hex : exec (.wake pllLocks) s = .next s') :
    Keeps (touchesIn (.wake pllLocks) s ++ reports) s s' := by
  refine frame_quiet rfl (frame_run (f := wake pllLocks) rfl (fun s => ?_) hex)
  show Keeps _ s ((wake pllLocks) s)
  repeat (first
    | with_reducible exact Keeps.refl _ _
    | ((with_reducible apply Keeps.app (keeps_wake ..)); case hs => exact rfl)
    | intro _)

theorem frame_stbynRiseWake (waknLow : Bool) (pllLocks : Bool) (s s' : State)
    (hex : exec (.stbynRiseWake waknLow pllLocks) s = .next s') :
    Keeps (touchesIn (.stbynRiseWake waknLow pllLocks) s ++ reports) s s' := by
  refine frame_quiet rfl (frame_run (f := stbynRise waknLow pllLocks) rfl (fun s => ?_) hex)
  show Keeps _ s ((stbynRise waknLow pllLocks) s)
  repeat (first
    | with_reducible exact Keeps.refl _ _
    | ((with_reducible apply Keeps.app (keeps_stbynRise ..)); case hs => exact rfl)
    | intro _)

theorem frame_hibernateSupplyLoss  (s s' : State)
    (hex : exec .hibernateSupplyLoss s = .next s') :
    Keeps (touchesIn .hibernateSupplyLoss s ++ reports) s s' := by
  refine frame_quiet rfl (frame_run (f := fun s => hibernateSupplyLoss s.settleEntry) rfl (fun s => ?_) hex)
  show Keeps _ s (hibernateSupplyLoss s.settleEntry)
  repeat (first
    | with_reducible exact Keeps.refl _ _
    | ((with_reducible apply Keeps.app (keeps_settleEntry ..)); case hs => exact rfl)
    | ((with_reducible apply Keeps.app (keeps_hibernateSupplyLoss ..)); case hs => exact rfl)
    | intro _)

theorem frame_clampFlagSet (t : Fin 192) (conducting : Bool) (s s' : State)
    (hex : exec (.clampFlagSet t conducting) s = .next s') :
    Keeps (touchesIn (.clampFlagSet t conducting) s ++ reports) s s' := by
  refine frame_quiet rfl (frame_run (f := fun s => s.guarded s.serving (clampFlagSet t conducting)) rfl (fun s => ?_) hex)
  show Keeps _ s (s.guarded s.serving (clampFlagSet t conducting))
  repeat (first
    | with_reducible exact Keeps.refl _ _
    | ((with_reducible apply Keeps.app (keeps_clampFlagSet ..)); case hs => exact rfl)
    | with_reducible apply Keeps.guarded
    | intro _)

theorem frame_clfClearWrite (o : Origin) (k : Fin 6) (v : Nat) (live : BitVec 32) (s s' : State)
    (hex : exec (.clfClearWrite o k v live) s = .next s') :
    Keeps (touchesIn (.clfClearWrite o k v live) s ++ reports) s s' := by
  have hg : Keeps (touchesIn (.clfClearWrite o k v live) s ++ reports) s.begin
      (s.begin.guarded s.begin.serving (fun s => s.setClamps k live)) :=
    Keeps.mono (a := [.term]) (by unfold touchesIn subParts; simp [touches])
      (Keeps.guarded (fun u => (keeps_setClamps ..).mono rfl) (Keeps.refl _ _))
  have he : touchesIn (.clfClearWrite o k v live) (s.begin.guarded s.begin.serving (fun s => s.setClamps k live)) = touchesIn (.clfClearWrite o k v live) s := by
    unfold State.guarded
    split <;> rfl
  refine frame_begin (f := fun s => (s.guarded s.serving (fun s => s.setClamps k live)).rowWrite o 0x2700
    (0x81 + k.val) (leBytes 4 v)) (reports_touchesIn _ s) (hg.trans ?_) hex
  rw [← he]
  refine frame_row _ _ _ rfl (.live (by omega) (by omega)
    ((show ∀ i : Fin 6, isSessionObject 0x2700 (0x81 + i.val) = false by decide) k)
    ((show ∀ i : Fin 6, (objInfo 0x2700 (0x81 + i.val)).all (fun x => !(x.inCfg && x.cls == .staged)) = true by decide) k)
    (fun u p d => ?_)) rfl
  rw [liveWrite_clf]
  exact (keeps_clfWrite ..).mono rfl

theorem frame_excHoldWrite (o : Origin) (high : Bool) (v : Nat) (s s' : State)
    (hex : exec (.excHoldWrite o high v) s = .next s') :
    Keeps (touchesIn (.excHoldWrite o high v) s ++ reports) s s' := by
  cases high <;> exact frame_write hex rfl (.live (by decide) (by decide) (by decide) (by decide)
    (fun u p d => (keeps_holdWrite ..).mono rfl)) rfl

theorem frame_excStart (src : Fin 64) (s s' : State)
    (hex : exec (.excStart src) s = .next s') :
    Keeps (touchesIn (.excStart src) s ++ reports) s s' := by
  refine frame_quiet rfl (frame_run (f := fun s => s.whenAlive (fun s => s.issueStart src)) rfl (fun s => ?_) hex)
  show Keeps _ s (s.whenAlive (fun s => s.issueStart src))
  repeat (first
    | with_reducible exact Keeps.refl _ _
    | ((with_reducible apply Keeps.app (keeps_issueStart ..)); case hs => exact rfl)
    | with_reducible apply Keeps.whenAlive
    | intro _)

theorem frame_excRampComplete (src : Fin 64) (s s' : State)
    (hex : exec (.excRampComplete src) s = .next s') :
    Keeps (touchesIn (.excRampComplete src) s ++ reports) s s' := by
  refine frame_quiet rfl (frame_run (f := fun s => s.whenAlive (excRampComplete src)) rfl (fun s => ?_) hex)
  show Keeps _ s (s.whenAlive (excRampComplete src))
  repeat (first
    | with_reducible exact Keeps.refl _ _
    | ((with_reducible apply Keeps.app (keeps_excRampComplete ..)); case hs => exact rfl)
    | with_reducible apply Keeps.whenAlive
    | intro _)

theorem frame_excStop (src : Fin 64) (s s' : State)
    (hex : exec (.excStop src) s = .next s') :
    Keeps (touchesIn (.excStop src) s ++ reports) s s' := by
  refine frame_quiet rfl (frame_run (f := fun s => s.whenAlive (fun s => s.issueStop src)) rfl (fun s => ?_) hex)
  show Keeps _ s (s.whenAlive (fun s => s.issueStop src))
  repeat (first
    | with_reducible exact Keeps.refl _ _
    | ((with_reducible apply Keeps.app (keeps_issueStop ..)); case hs => exact rfl)
    | with_reducible apply Keeps.whenAlive
    | intro _)

theorem frame_excDischargeComplete (src : Fin 64) (s s' : State)
    (hex : exec (.excDischargeComplete src) s = .next s') :
    Keeps (touchesIn (.excDischargeComplete src) s ++ reports) s s' := by
  refine frame_quiet rfl (frame_run (f := fun s => s.guarded s.serving (excDischargeComplete src)) rfl (fun s => ?_) hex)
  show Keeps _ s (s.guarded s.serving (excDischargeComplete src))
  repeat (first
    | with_reducible exact Keeps.refl _ _
    | ((with_reducible apply Keeps.app (keeps_excDischargeComplete ..)); case hs => exact rfl)
    | with_reducible apply Keeps.guarded
    | intro _)

theorem frame_excDischargeTimeout (src : Fin 64) (s s' : State)
    (hex : exec (.excDischargeTimeout src) s = .next s') :
    Keeps (touchesIn (.excDischargeTimeout src) s ++ reports) s s' := by
  refine frame_quiet rfl (frame_run (f := fun s => s.guarded s.serving (excDischargeTimeout src)) rfl (fun s => ?_) hex)
  show Keeps _ s (s.guarded s.serving (excDischargeTimeout src))
  repeat (first
    | with_reducible exact Keeps.refl _ _
    | ((with_reducible apply Keeps.app (keeps_excDischargeTimeout ..)); case hs => exact rfl)
    | with_reducible apply Keeps.guarded
    | intro _)

theorem frame_complianceSet (src : Fin 64) (s s' : State)
    (hex : exec (.complianceSet src) s = .next s') :
    Keeps (touchesIn (.complianceSet src) s ++ reports) s s' := by
  refine frame_quiet rfl (frame_run (f := fun s => s.whenAlive (complianceSet src)) rfl (fun s => ?_) hex)
  show Keeps _ s (s.whenAlive (complianceSet src))
  repeat (first
    | with_reducible exact Keeps.refl _ _
    | ((with_reducible apply Keeps.app (keeps_complianceSet ..)); case hs => exact rfl)
    | with_reducible apply Keeps.whenAlive
    | intro _)

theorem frame_complianceClear (src : Fin 64) (s s' : State)
    (hex : exec (.complianceClear src) s = .next s') :
    Keeps (touchesIn (.complianceClear src) s ++ reports) s s' := by
  refine frame_quiet rfl (frame_run (f := fun s => s.whenAlive (fun s => s.updSrc src (fun x => { x with compliance := false }))) rfl (fun s => ?_) hex)
  show Keeps _ s (s.whenAlive (fun s => s.updSrc src (fun x => { x with compliance := false })))
  repeat (first
    | with_reducible exact Keeps.refl _ _
    | ((with_reducible apply Keeps.app (keeps_updSrc ..)); case hs => exact rfl)
    | with_reducible apply Keeps.whenAlive
    | intro _)

theorem frame_unsettledSpanEnd (ch : Fin 64) (s s' : State)
    (hex : exec (.unsettledSpanEnd ch) s = .next s') :
    Keeps (touchesIn (.unsettledSpanEnd ch) s ++ reports) s s' := by
  refine frame_quiet rfl (frame_run (f := fun s => s.whenAlive (unsettledSpanEnd ch)) rfl (fun s => ?_) hex)
  show Keeps _ s (s.whenAlive (unsettledSpanEnd ch))
  repeat (first
    | with_reducible exact Keeps.refl _ _
    | ((with_reducible apply Keeps.app (keeps_unsettledSpanEnd ..)); case hs => exact rfl)
    | with_reducible apply Keeps.whenAlive
    | intro _)

theorem frame_channelOutputSample (ch : Fin 64) (m : SampleIn) (s s' : State)
    (hex : exec (.channelOutputSample ch m) s = .next s') :
    Keeps (touchesIn (.channelOutputSample ch m) s ++ reports) s s' := by
  refine frame_quiet rfl (frame_run (f := fun s => s.whenAlive (channelSample ch m)) rfl (fun s => ?_) hex)
  show Keeps _ s (s.whenAlive (channelSample ch m))
  repeat (first
    | with_reducible exact Keeps.refl _ _
    | ((with_reducible apply Keeps.app (keeps_channelSample ..)); case hs => exact rfl)
    | with_reducible apply Keeps.whenAlive
    | intro _)

theorem frame_slotClose (h : Fin 32) (slot : Fin 2) (s s' : State)
    (hex : exec (.slotClose h slot) s = .next s') :
    Keeps (touchesIn (.slotClose h slot) s ++ reports) s s' := by
  refine frame_quiet rfl (frame_run (f := fun s => s.whenAlive (slotClose h slot)) rfl (fun s => ?_) hex)
  show Keeps _ s (s.whenAlive (slotClose h slot))
  repeat (first
    | with_reducible exact Keeps.refl _ _
    | ((with_reducible apply Keeps.app (keeps_slotClose ..)); case hs => exact rfl)
    | with_reducible apply Keeps.whenAlive
    | intro _)

theorem frame_fitLost (h : Fin 32) (s s' : State)
    (hex : exec (.fitLost h) s = .next s') :
    Keeps (touchesIn (.fitLost h) s ++ reports) s s' := by
  refine frame_quiet rfl (frame_run (f := fun s => s.whenAlive (fitLost h)) rfl (fun s => ?_) hex)
  show Keeps _ s (s.whenAlive (fitLost h))
  repeat (first
    | with_reducible exact Keeps.refl _ _
    | ((with_reducible apply Keeps.app (keeps_fitLost ..)); case hs => exact rfl)
    | with_reducible apply Keeps.whenAlive
    | intro _)

theorem frame_overspeed (h : Fin 32) (slot : Fin 2) (s s' : State)
    (hex : exec (.overspeed h slot) s = .next s') :
    Keeps (touchesIn (.overspeed h slot) s ++ reports) s s' := by
  refine frame_quiet rfl (frame_run (f := fun s => s.whenAlive (overspeed h slot)) rfl (fun s => ?_) hex)
  show Keeps _ s (s.whenAlive (overspeed h slot))
  repeat (first
    | with_reducible exact Keeps.refl _ _
    | ((with_reducible apply Keeps.app (keeps_overspeed ..)); case hs => exact rfl)
    | with_reducible apply Keeps.whenAlive
    | intro _)

theorem frame_wreCauseClear (h : Fin 32) (s s' : State)
    (hex : exec (.wreCauseClear h) s = .next s') :
    Keeps (touchesIn (.wreCauseClear h) s ++ reports) s s' := by
  refine frame_quiet rfl (frame_run (f := fun s => s.whenAlive (wreCauseClear h)) rfl (fun s => ?_) hex)
  show Keeps _ s (s.whenAlive (wreCauseClear h))
  repeat (first
    | with_reducible exact Keeps.refl _ _
    | ((with_reducible apply Keeps.app (keeps_wreCauseClear ..)); case hs => exact rfl)
    | with_reducible apply Keeps.whenAlive
    | intro _)

theorem frame_triggerEvent (h : Fin 32) (neg : Bool) (time : Nat) (s s' : State)
    (hex : exec (.triggerEvent h neg time) s = .next s') :
    Keeps (touchesIn (.triggerEvent h neg time) s ++ reports) s s' := by
  refine frame_quiet rfl (frame_run (f := fun s => s.whenAlive (triggerEvent h neg time)) rfl (fun s => ?_) hex)
  show Keeps _ s (s.whenAlive (triggerEvent h neg time))
  repeat (first
    | with_reducible exact Keeps.refl _ _
    | ((with_reducible apply Keeps.app (keeps_triggerEvent ..)); case hs => exact rfl)
    | with_reducible apply Keeps.whenAlive
    | intro _)

theorem frame_traversalVerdict (h : Fin 32) (v : VerdictRec) (s s' : State)
    (hex : exec (.traversalVerdict h v) s = .next s') :
    Keeps (touchesIn (.traversalVerdict h v) s ++ reports) s s' := by
  refine frame_quiet rfl (frame_run (f := fun s => s.whenAlive (traversalVerdict h v)) rfl (fun s => ?_) hex)
  show Keeps _ s (s.whenAlive (traversalVerdict h v))
  repeat (first
    | with_reducible exact Keeps.refl _ _
    | ((with_reducible apply Keeps.app (keeps_traversalVerdict ..)); case hs => exact rfl)
    | with_reducible apply Keeps.whenAlive
    | intro _)

theorem frame_groupGapTimeout (h : Fin 32) (s s' : State)
    (hex : exec (.groupGapTimeout h) s = .next s') :
    Keeps (touchesIn (.groupGapTimeout h) s ++ reports) s s' := by
  refine frame_quiet rfl (frame_run (f := fun s => s.whenAlive (groupTimeout h)) rfl (fun s => ?_) hex)
  show Keeps _ s (s.whenAlive (groupTimeout h))
  repeat (first
    | with_reducible exact Keeps.refl _ _
    | ((with_reducible apply Keeps.app (keeps_groupTimeout ..)); case hs => exact rfl)
    | with_reducible apply Keeps.whenAlive
    | intro _)

theorem frame_trackerWindowUpdate  (s s' : State)
    (hex : exec .trackerWindowUpdate s = .next s') :
    Keeps (touchesIn .trackerWindowUpdate s ++ reports) s s' := by
  refine frame_quiet rfl (frame_run (f := fun s => s.whenAlive trackerWindowUpdate) rfl (fun s => ?_) hex)
  show Keeps _ s (s.whenAlive trackerWindowUpdate)
  repeat (first
    | with_reducible exact Keeps.refl _ _
    | ((with_reducible apply Keeps.app (keeps_trackerWindowUpdate ..)); case hs => exact rfl)
    | with_reducible apply Keeps.whenAlive
    | intro _)

theorem frame_predictionFailed (e : Fin 128) (s s' : State)
    (hex : exec (.predictionFailed e) s = .next s') :
    Keeps (touchesIn (.predictionFailed e) s ++ reports) s s' := by
  refine frame_quiet rfl (frame_run (f := fun s => s.whenAlive (predictionFailed e)) rfl (fun s => ?_) hex)
  show Keeps _ s (s.whenAlive (predictionFailed e))
  repeat (first
    | with_reducible exact Keeps.refl _ _
    | ((with_reducible apply Keeps.app (keeps_predictionFailed ..)); case hs => exact rfl)
    | with_reducible apply Keeps.whenAlive
    | intro _)

theorem frame_trackerFullClear  (s s' : State)
    (hex : exec .trackerFullClear s = .next s') :
    Keeps (touchesIn .trackerFullClear s ++ reports) s s' := by
  refine frame_quiet rfl (frame_run (f := fun s => s.whenAlive trackerFullClear) rfl (fun s => ?_) hex)
  show Keeps _ s (s.whenAlive trackerFullClear)
  repeat (first
    | with_reducible exact Keeps.refl _ _
    | ((with_reducible apply Keeps.app (keeps_trackerFullClear ..)); case hs => exact rfl)
    | with_reducible apply Keeps.whenAlive
    | intro _)

theorem frame_bellringerStep  (s s' : State)
    (hex : exec .bellringerStep s = .next s') :
    Keeps (touchesIn .bellringerStep s ++ reports) s s' := by
  refine frame_quiet rfl (frame_run (f := fun s => s.whenAlive bellStep) rfl (fun s => ?_) hex)
  show Keeps _ s (s.whenAlive bellStep)
  repeat (first
    | with_reducible exact Keeps.refl _ _
    | with_reducible apply Keeps.whenAlive
    | ((with_reducible apply Keeps.app (keeps_bellStep ..)); case hs => exact rfl)
    | intro _)

theorem frame_overloadForcedChange (ch : Fin 64) (s s' : State)
    (hex : exec (.overloadForcedChange ch) s = .next s') :
    Keeps (touchesIn (.overloadForcedChange ch) s ++ reports) s s' := by
  refine frame_quiet rfl (frame_run (f := fun s => s.whenAlive (overloadForced ch)) rfl (fun s => ?_) hex)
  show Keeps _ s (s.whenAlive (overloadForced ch))
  repeat (first
    | with_reducible exact Keeps.refl _ _
    | ((with_reducible apply Keeps.app (keeps_overloadForced ..)); case hs => exact rfl)
    | with_reducible apply Keeps.whenAlive
    | intro _)

theorem frame_rangeFinerRequest (ch : Fin 64) (s s' : State)
    (hex : exec (.rangeFinerRequest ch) s = .next s') :
    Keeps (touchesIn (.rangeFinerRequest ch) s ++ reports) s s' := by
  refine frame_quiet rfl (frame_run (f := fun s => s.whenAlive (rangeFiner ch)) rfl (fun s => ?_) hex)
  show Keeps _ s (s.whenAlive (rangeFiner ch))
  repeat (first
    | with_reducible exact Keeps.refl _ _
    | ((with_reducible apply Keeps.app (keeps_rangeFiner ..)); case hs => exact rfl)
    | with_reducible apply Keeps.whenAlive
    | intro _)

theorem frame_guardCauseRaised (ch : Fin 64) (k : GuardCause) (s s' : State)
    (hex : exec (.guardCauseRaised ch k) s = .next s') :
    Keeps (touchesIn (.guardCauseRaised ch k) s ++ reports) s s' := by
  refine frame_quiet rfl (frame_run (f := fun s => s.whenAlive (guardCauseRaised ch k)) rfl (fun s => ?_) hex)
  show Keeps _ s (s.whenAlive (guardCauseRaised ch k))
  repeat (first
    | with_reducible exact Keeps.refl _ _
    | ((with_reducible apply Keeps.app (keeps_guardCauseRaised ..)); case hs => exact rfl)
    | with_reducible apply Keeps.whenAlive
    | intro _)

theorem frame_guardCauseDropped (ch : Fin 64) (k : GuardCause) (s s' : State)
    (hex : exec (.guardCauseDropped ch k) s = .next s') :
    Keeps (touchesIn (.guardCauseDropped ch k) s ++ reports) s s' := by
  refine frame_quiet rfl (frame_run (f := fun s => s.whenAlive (guardCauseDropped ch k)) rfl (fun s => ?_) hex)
  show Keeps _ s (s.whenAlive (guardCauseDropped ch k))
  repeat (first
    | with_reducible exact Keeps.refl _ _
    | ((with_reducible apply Keeps.app (keeps_guardCauseDropped ..)); case hs => exact rfl)
    | with_reducible apply Keeps.whenAlive
    | intro _)

theorem frame_checkRequestDue (h : Fin 32) (s s' : State)
    (hex : exec (.checkRequestDue h) s = .next s') :
    Keeps (touchesIn (.checkRequestDue h) s ++ reports) s s' := by
  refine frame_quiet rfl (frame_run (f := fun s => s.whenAlive (checkRequestDue h)) rfl (fun s => ?_) hex)
  show Keeps _ s (s.whenAlive (checkRequestDue h))
  repeat (first
    | with_reducible exact Keeps.refl _ _
    | ((with_reducible apply Keeps.app (keeps_checkRequestDue ..)); case hs => exact rfl)
    | with_reducible apply Keeps.whenAlive
    | intro _)

theorem frame_freeChannelCheckDue (ch : Fin 64) (s s' : State)
    (hex : exec (.freeChannelCheckDue ch) s = .next s') :
    Keeps (touchesIn (.freeChannelCheckDue ch) s ++ reports) s s' := by
  refine frame_quiet rfl (frame_run (f := fun s => s.whenAlive (freeChannelCheckDue ch)) rfl (fun s => ?_) hex)
  show Keeps _ s (s.whenAlive (freeChannelCheckDue ch))
  repeat (first
    | with_reducible exact Keeps.refl _ _
    | ((with_reducible apply Keeps.app (keeps_freeChannelCheckDue ..)); case hs => exact rfl)
    | with_reducible apply Keeps.whenAlive
    | intro _)

theorem frame_checkNow (o : Origin) (mask : Nat) (s s' : State)
    (hex : exec (.checkNow o mask) s = .next s') :
    Keeps (touchesIn (.checkNow o mask) s ++ reports) s s' := by
  exact frame_write hex rfl (.live (by decide) (by decide) (by decide) (by decide)
    (fun u p d => (keeps_checkNow ..).mono rfl)) rfl

theorem frame_guardCheckEnd (t : CheckTarget) (results : List CheckMeas) (s s' : State)
    (hex : exec (.guardCheckEnd t results) s = .next s') :
    Keeps (touchesIn (.guardCheckEnd t results) s ++ reports) s s' := by
  refine frame_quiet rfl (frame_run (f := fun s => s.whenAlive (guardCheckEnd t results)) rfl (fun s => ?_) hex)
  show Keeps _ s (s.whenAlive (guardCheckEnd t results))
  repeat (first
    | with_reducible exact Keeps.refl _ _
    | ((with_reducible apply Keeps.app (keeps_guardCheckEnd ..)); case hs => exact rfl)
    | with_reducible apply Keeps.whenAlive
    | intro _)

theorem frame_testStarvedSet (h : Fin 32) (s s' : State)
    (hex : exec (.testStarvedSet h) s = .next s') :
    Keeps (touchesIn (.testStarvedSet h) s ++ reports) s s' := by
  refine frame_quiet rfl (frame_run (f := fun s => s.whenAlive (testStarvedSet h)) rfl (fun s => ?_) hex)
  show Keeps _ s (s.whenAlive (testStarvedSet h))
  repeat (first
    | with_reducible exact Keeps.refl _ _
    | ((with_reducible apply Keeps.app (keeps_testStarvedSet ..)); case hs => exact rfl)
    | with_reducible apply Keeps.whenAlive
    | intro _)

theorem frame_rebaseRequest (h : Fin 32) (s s' : State)
    (hex : exec (.rebaseRequest h) s = .next s') :
    Keeps (touchesIn (.rebaseRequest h) s ++ reports) s s' := by
  refine frame_quiet rfl (frame_run (f := fun s => s.whenAlive (rebaseRequest h)) rfl (fun s => ?_) hex)
  show Keeps _ s (s.whenAlive (rebaseRequest h))
  repeat (first
    | with_reducible exact Keeps.refl _ _
    | ((with_reducible apply Keeps.app (keeps_rebaseRequest ..)); case hs => exact rfl)
    | with_reducible apply Keeps.whenAlive
    | intro _)

theorem frame_rebaseComplete (h : Fin 32) (s s' : State)
    (hex : exec (.rebaseComplete h) s = .next s') :
    Keeps (touchesIn (.rebaseComplete h) s ++ reports) s s' := by
  refine frame_quiet rfl (frame_run (f := fun s => s.whenAlive (rebaseComplete h)) rfl (fun s => ?_) hex)
  show Keeps _ s (s.whenAlive (rebaseComplete h))
  repeat (first
    | with_reducible exact Keeps.refl _ _
    | ((with_reducible apply Keeps.app (keeps_rebaseComplete ..)); case hs => exact rfl)
    | with_reducible apply Keeps.whenAlive
    | intro _)

theorem frame_captureCmdArm (o : Origin) (h : Fin 32) (v : Nat) (s s' : State)
    (hex : exec (.captureCmdArm o h v) s = .next s') :
    Keeps (touchesIn (.captureCmdArm o h v) s ++ reports) s s' := by
  have := h.isLt
  refine frame_write hex rfl (.live (by omega) (by omega)
    ((show ∀ i : Fin 32, isSessionObject (0x2100 + i.val) 0x13 = false by decide) h)
    ((show ∀ i : Fin 32, (objInfo (0x2100 + i.val) 0x13).all (fun x => !(x.inCfg && x.cls == .staged)) = true by decide) h)
    (fun u p d => ?_)) rfl
  rw [liveWrite_capture]
  exact (keeps_captureArm ..).mono rfl

theorem frame_tallyCycle (dieTemp : Int) (s s' : State)
    (hex : exec (.tallyCycle dieTemp) s = .next s') :
    Keeps (touchesIn (.tallyCycle dieTemp) s ++ reports) s s' := by
  refine frame_quiet rfl (frame_run (f := fun s => s.whenAlive (fun s => (tallyCycle dieTemp s).sendChanged)) rfl (fun s => ?_) hex)
  show Keeps _ s (s.whenAlive (fun s => (tallyCycle dieTemp s).sendChanged))
  repeat (first
    | with_reducible exact Keeps.refl _ _
    | ((with_reducible apply Keeps.app (keeps_sendChanged ..)); case hs => exact rfl)
    | ((with_reducible apply Keeps.app (keeps_tallyCycle ..)); case hs => exact rfl)
    | with_reducible apply Keeps.whenAlive
    | intro _)

theorem frame_clearDelayExpiry (n : Fin 48) (s s' : State)
    (hex : exec (.clearDelayExpiry n) s = .next s') :
    Keeps (touchesIn (.clearDelayExpiry n) s ++ reports) s s' := by
  refine frame_quiet rfl (frame_run (f := fun s => s.whenAlive (clearDelayExpiry n)) rfl (fun s => ?_) hex)
  show Keeps _ s (s.whenAlive (clearDelayExpiry n))
  repeat (first
    | with_reducible exact Keeps.refl _ _
    | ((with_reducible apply Keeps.app (keeps_clearDelayExpiry ..)); case hs => exact rfl)
    | with_reducible apply Keeps.whenAlive
    | intro _)

theorem frame_restoreRequest (o : Origin) (n : Fin 48) (v : Nat) (s s' : State)
    (hex : exec (.restoreRequest o n v) s = .next s') :
    Keeps (touchesIn (.restoreRequest o n v) s ++ reports) s s' := by
  have := n.isLt
  refine frame_write hex rfl (.live (by omega) (by omega)
    ((show ∀ i : Fin 48, isSessionObject (0x2200 + i.val) 0x0B = false by decide) n)
    ((show ∀ i : Fin 48, (objInfo (0x2200 + i.val) 0x0B).all (fun x => !(x.inCfg && x.cls == .staged)) = true by decide) n)
    (fun u p d => ?_)) rfl
  rw [liveWrite_section]
  exact (keeps_sectionWrite ..).mono rfl

theorem frame_restoreWithdraw (o : Origin) (n : Fin 48) (v : Nat) (s s' : State)
    (hex : exec (.restoreWithdraw o n v) s = .next s') :
    Keeps (touchesIn (.restoreWithdraw o n v) s ++ reports) s s' := by
  have := n.isLt
  refine frame_write hex rfl (.live (by omega) (by omega)
    ((show ∀ i : Fin 48, isSessionObject (0x2200 + i.val) 0x0B = false by decide) n)
    ((show ∀ i : Fin 48, (objInfo (0x2200 + i.val) 0x0B).all (fun x => !(x.inCfg && x.cls == .staged)) = true by decide) n)
    (fun u p d => ?_)) rfl
  rw [liveWrite_section]
  exact (keeps_sectionWrite ..).mono rfl

theorem frame_restoreExpiry (n : Fin 48) (s s' : State)
    (hex : exec (.restoreExpiry n) s = .next s') :
    Keeps (touchesIn (.restoreExpiry n) s ++ reports) s s' := by
  refine frame_quiet rfl (frame_run (f := fun s => s.whenAlive (restoreExpiry n)) rfl (fun s => ?_) hex)
  show Keeps _ s (s.whenAlive (restoreExpiry n))
  repeat (first
    | with_reducible exact Keeps.refl _ _
    | ((with_reducible apply Keeps.app (keeps_restoreExpiry ..)); case hs => exact rfl)
    | with_reducible apply Keeps.whenAlive
    | intro _)

theorem frame_disturbCmd (o : Origin) (n : Fin 48) (v : Nat) (s s' : State)
    (hex : exec (.disturbCmd o n v) s = .next s') :
    Keeps (touchesIn (.disturbCmd o n v) s ++ reports) s s' := by
  have := n.isLt
  refine frame_write hex rfl (.live (by omega) (by omega)
    ((show ∀ i : Fin 48, isSessionObject (0x2200 + i.val) 0x0D = false by decide) n)
    ((show ∀ i : Fin 48, (objInfo (0x2200 + i.val) 0x0D).all (fun x => !(x.inCfg && x.cls == .staged)) = true by decide) n)
    (fun u p d => ?_)) rfl
  rw [liveWrite_section]
  exact (keeps_sectionWrite ..).mono rfl

theorem frame_dropElapsed (p : Fin 16) (s s' : State)
    (hex : exec (.dropElapsed p) s = .next s') :
    Keeps (touchesIn (.dropElapsed p) s ++ reports) s s' := by
  refine frame_quiet rfl (frame_run (f := fun s => s.guarded s.serving (dropElapsed p)) rfl (fun s => ?_) hex)
  show Keeps _ s (s.guarded s.serving (dropElapsed p))
  repeat (first
    | with_reducible exact Keeps.refl _ _
    | ((with_reducible apply Keeps.app (keeps_dropElapsed ..)); case hs => exact rfl)
    | with_reducible apply Keeps.guarded
    | intro _)

theorem frame_droptestCmd (o : Origin) (mask : Nat) (s s' : State)
    (hex : exec (.droptestCmd o mask) s = .next s') :
    Keeps (touchesIn (.droptestCmd o mask) s ++ reports) s s' := by
  exact frame_write hex rfl (.live (by decide) (by decide) (by decide) (by decide)
    (fun u p d => (keeps_droptestWrite ..).mono rfl)) rfl

theorem frame_readbackFault (p : Fin 16) (s s' : State)
    (hex : exec (.readbackFault p) s = .next s') :
    Keeps (touchesIn (.readbackFault p) s ++ reports) s s' := by
  refine frame_quiet rfl (frame_run (f := fun s => s.guarded s.serving (readbackFault p)) rfl (fun s => ?_) hex)
  show Keeps _ s (s.guarded s.serving (readbackFault p))
  repeat (first
    | with_reducible exact Keeps.refl _ _
    | with_reducible apply Keeps.guarded
    | ((with_reducible apply Keeps.app (keeps_readbackFault ..)); case hs => exact rfl)
    | intro _)

theorem frame_tallyStall  (s s' : State)
    (hex : exec .tallyStall s = .next s') :
    Keeps (touchesIn .tallyStall s ++ reports) s s' := by
  refine frame_quiet rfl (frame_run (f := fun s => s.whenAlive tallyStall) rfl (fun s => ?_) hex)
  show Keeps _ s (s.whenAlive tallyStall)
  repeat (first
    | with_reducible exact Keeps.refl _ _
    | ((with_reducible apply Keeps.app (keeps_tallyStall ..)); case hs => exact rfl)
    | with_reducible apply Keeps.whenAlive
    | intro _)

theorem frame_inhibitWrite (o : Origin) (v : Nat) (s s' : State)
    (hex : exec (.inhibitWrite o v) s = .next s') :
    Keeps (touchesIn (.inhibitWrite o v) s ++ reports) s s' := by
  exact frame_write hex rfl (.live (by decide) (by decide) (by decide) (by decide)
    (fun u p d => (keeps_inhibitWrite ..).mono rfl)) rfl

theorem frame_lockoutCmd (o : Origin) (mask : Nat) (s s' : State)
    (hex : exec (.lockoutCmd o mask) s = .next s') :
    Keeps (touchesIn (.lockoutCmd o mask) s ++ reports) s s' := by
  exact frame_write hex rfl (.live (by decide) (by decide) (by decide) (by decide)
    (fun u p d => (keeps_lockoutWrite ..).mono rfl)) rfl

theorem frame_ackDebouncedEdge (pressed : Bool) (s s' : State)
    (hex : exec (.ackDebouncedEdge pressed) s = .next s') :
    Keeps (touchesIn (.ackDebouncedEdge pressed) s ++ reports) s s' := by
  refine frame_quiet rfl (frame_run (f := fun s => s.whenAlive (ackEdge pressed)) rfl (fun s => ?_) hex)
  show Keeps _ s (s.whenAlive (ackEdge pressed))
  repeat (first
    | with_reducible exact Keeps.refl _ _
    | ((with_reducible apply Keeps.app (keeps_ackEdge ..)); case hs => exact rfl)
    | with_reducible apply Keeps.whenAlive
    | intro _)

theorem frame_ackStuckSet  (s s' : State)
    (hex : exec .ackStuckSet s = .next s') :
    Keeps (touchesIn .ackStuckSet s ++ reports) s s' := by
  refine frame_quiet rfl (frame_run (f := fun s => s.whenAlive ackStuckSet) rfl (fun s => ?_) hex)
  show Keeps _ s (s.whenAlive ackStuckSet)
  repeat (first
    | with_reducible exact Keeps.refl _ _
    | ((with_reducible apply Keeps.app (keeps_ackStuckSet ..)); case hs => exact rfl)
    | with_reducible apply Keeps.whenAlive
    | intro _)

theorem frame_ackHighQualified  (s s' : State)
    (hex : exec .ackHighQualified s = .next s') :
    Keeps (touchesIn .ackHighQualified s ++ reports) s s' := by
  refine frame_quiet rfl (frame_run (f := fun s => s.whenAlive ackHighQualified) rfl (fun s => ?_) hex)
  show Keeps _ s (s.whenAlive ackHighQualified)
  repeat (first
    | with_reducible exact Keeps.refl _ _
    | ((with_reducible apply Keeps.app (keeps_ackHighQualified ..)); case hs => exact rfl)
    | with_reducible apply Keeps.whenAlive
    | intro _)

theorem frame_ackArm (o : Origin) (v : Nat) (s s' : State)
    (hex : exec (.ackArm o v) s = .next s') :
    Keeps (touchesIn (.ackArm o v) s ++ reports) s s' := by
  exact frame_write hex rfl (.live (by decide) (by decide) (by decide) (by decide)
    (fun u p d => (keeps_armWrite ..).mono rfl)) rfl

theorem frame_ackArmWithdraw (o : Origin) (v : Nat) (s s' : State)
    (hex : exec (.ackArmWithdraw o v) s = .next s') :
    Keeps (touchesIn (.ackArmWithdraw o v) s ++ reports) s s' := by
  exact frame_write hex rfl (.live (by decide) (by decide) (by decide) (by decide)
    (fun u p d => (keeps_armWrite ..).mono rfl)) rfl

theorem frame_ackArmExpiry  (s s' : State)
    (hex : exec .ackArmExpiry s = .next s') :
    Keeps (touchesIn .ackArmExpiry s ++ reports) s s' := by
  refine frame_quiet rfl (frame_run (f := fun s => s.whenAlive ackArmExpiry) rfl (fun s => ?_) hex)
  show Keeps _ s (s.whenAlive ackArmExpiry)
  repeat (first
    | with_reducible exact Keeps.refl _ _
    | ((with_reducible apply Keeps.app (keeps_ackArmExpiry ..)); case hs => exact rfl)
    | with_reducible apply Keeps.whenAlive
    | intro _)

theorem frame_tick (src : TickSource) (cycles : Nat) (s s' : State)
    (hex : exec (.tick src cycles) s = .next s') :
    Keeps (touchesIn (.tick src cycles) s ++ reports) s s' := by
  refine frame_quiet rfl (frame_run (f := fun s => s.whenAlive (tick src cycles)) rfl (fun s => ?_) hex)
  show Keeps _ s (s.whenAlive (tick src cycles))
  repeat (first
    | with_reducible exact Keeps.refl _ _
    | ((with_reducible apply Keeps.app (keeps_tick ..)); case hs => exact rfl)
    | with_reducible apply Keeps.whenAlive
    | intro _)

theorem frame_tickOverrun (src : TickSource) (cycles : Nat) (s s' : State)
    (hex : exec (.tickOverrun src cycles) s = .next s') :
    Keeps (touchesIn (.tickOverrun src cycles) s ++ reports) s s' := by
  refine frame_quiet rfl (frame_run (f := fun s => s.whenAlive (tickOverrun src cycles)) rfl (fun s => ?_) hex)
  show Keeps _ s (s.whenAlive (tickOverrun src cycles))
  repeat (first
    | with_reducible exact Keeps.refl _ _
    | ((with_reducible apply Keeps.app (keeps_tickOverrun ..)); case hs => exact rfl)
    | with_reducible apply Keeps.whenAlive
    | intro _)

theorem frame_syncLost  (s s' : State)
    (hex : exec .syncLost s = .next s') :
    Keeps (touchesIn .syncLost s ++ reports) s s' := by
  refine frame_quiet rfl (frame_run (f := fun s => s.whenAlive syncLost) rfl (fun s => ?_) hex)
  show Keeps _ s (s.whenAlive syncLost)
  repeat (first
    | with_reducible exact Keeps.refl _ _
    | ((with_reducible apply Keeps.app (keeps_syncLost ..)); case hs => exact rfl)
    | with_reducible apply Keeps.whenAlive
    | intro _)

theorem frame_warmupEnd (src : TickSource) (cycles : Nat) (s s' : State)
    (hex : exec (.warmupEnd src cycles) s = .next s') :
    Keeps (touchesIn (.warmupEnd src cycles) s ++ reports) s s' := by
  refine frame_quiet rfl (frame_run (f := fun s => s.whenAlive (warmupEnd src cycles)) rfl (fun s => ?_) hex)
  show Keeps _ s (s.whenAlive (warmupEnd src cycles))
  repeat (first
    | with_reducible exact Keeps.refl _ _
    | ((with_reducible apply Keeps.app (keeps_warmupEnd ..)); case hs => exact rfl)
    | with_reducible apply Keeps.whenAlive
    | intro _)

theorem frame_modeCmdFollow (o : Origin) (s s' : State)
    (hex : exec (.modeCmdFollow o) s = .next s') :
    Keeps (touchesIn (.modeCmdFollow o) s ++ reports) s s' := by
  exact frame_write hex rfl (.live (by decide) (by decide) (by decide) (by decide)
    (fun u p d => (keeps_engineWrite ..).mono rfl)) rfl

theorem frame_modeCmdHold (o : Origin) (s s' : State)
    (hex : exec (.modeCmdHold o) s = .next s') :
    Keeps (touchesIn (.modeCmdHold o) s ++ reports) s s' := by
  exact frame_write hex rfl (.live (by decide) (by decide) (by decide) (by decide)
    (fun u p d => (keeps_engineWrite ..).mono rfl)) rfl

theorem frame_modeCmdOff (o : Origin) (s s' : State)
    (hex : exec (.modeCmdOff o) s = .next s') :
    Keeps (touchesIn (.modeCmdOff o) s ++ reports) s s' := by
  exact frame_write hex rfl (.live (by decide) (by decide) (by decide) (by decide)
    (fun u p d => (keeps_engineWrite ..).mono rfl)) rfl

theorem frame_modeCmdFade (o : Origin) (s s' : State)
    (hex : exec (.modeCmdFade o) s = .next s') :
    Keeps (touchesIn (.modeCmdFade o) s ++ reports) s s' := by
  exact frame_write hex rfl (.live (by decide) (by decide) (by decide) (by decide)
    (fun u p d => (keeps_engineWrite ..).mono rfl)) rfl

theorem frame_lawEnableWrite (o : Origin) (v : Nat) (s s' : State)
    (hex : exec (.lawEnableWrite o v) s = .next s') :
    Keeps (touchesIn (.lawEnableWrite o v) s ++ reports) s s' := by
  exact frame_write hex rfl (.live (by decide) (by decide) (by decide) (by decide)
    (fun u p d => (keeps_engineWrite ..).mono rfl)) rfl

theorem frame_lawReset (o : Origin) (mask : Nat) (s s' : State)
    (hex : exec (.lawReset o mask) s = .next s') :
    Keeps (touchesIn (.lawReset o mask) s ++ reports) s s' := by
  exact frame_write hex rfl (.live (by decide) (by decide) (by decide) (by decide)
    (fun u p d => (keeps_engineWrite ..).mono rfl)) rfl

theorem frame_reeveCompare (a : CoreWindow) (b : CoreWindow) (delay0 : BitVec 224) (delay1 : BitVec 224) (s s' : State)
    (hex : exec (.reeveCompare a b delay0 delay1) s = .next s') :
    Keeps (touchesIn (.reeveCompare a b delay0 delay1) s ++ reports) s s' := by
  refine frame_quiet rfl (frame_run (f := fun s => s.guarded (s.alive || s.stopCycle) (fun s => reeveCompare a b delay0 delay1 s.checkStages)) rfl (fun s => ?_) hex)
  show Keeps _ s (s.guarded (s.alive || s.stopCycle) (fun s => reeveCompare a b delay0 delay1 s.checkStages))
  repeat (first
    | with_reducible exact Keeps.refl _ _
    | ((with_reducible apply Keeps.app (keeps_checkStages ..)); case hs => exact rfl)
    | ((with_reducible apply Keeps.app (keeps_reeveCompare ..)); case hs => exact rfl)
    | with_reducible apply Keeps.guarded
    | intro _)

theorem frame_delayParityError (second : Bool) (data : BitVec 224) (parity : BitVec 28) (s s' : State)
    (hex : exec (.delayParityError second data parity) s = .next s') :
    Keeps (touchesIn (.delayParityError second data parity) s ++ reports) s s' := by
  refine frame_quiet rfl (frame_run (f := fun s => s.guarded (s.serving || s.stopCycle) (delayParityError second data parity)) rfl (fun s => ?_) hex)
  show Keeps _ s (s.guarded (s.serving || s.stopCycle) (delayParityError second data parity))
  repeat (first
    | with_reducible exact Keeps.refl _ _
    | ((with_reducible apply Keeps.app (keeps_delayParityError ..)); case hs => exact rfl)
    | with_reducible apply Keeps.guarded
    | intro _)

theorem frame_scrubRead (r : MemRead) (s s' : State)
    (hex : exec (.scrubRead r) s = .next s') :
    Keeps (touchesIn (.scrubRead r) s ++ reports) s s' := by
  refine frame_quiet rfl (frame_run (f := fun s => s.guarded (s.serving || s.stopCycle) (scrubRead r)) rfl (fun s => ?_) hex)
  show Keeps _ s (s.guarded (s.serving || s.stopCycle) (scrubRead r))
  repeat (first
    | with_reducible exact Keeps.refl _ _
    | with_reducible apply Keeps.guarded
    | ((with_reducible apply Keeps.app (keeps_scrubRead ..)); case hs => exact rfl)
    | intro _)

theorem frame_pulseTimeout  (s s' : State)
    (hex : exec .pulseTimeout s = .next s') :
    Keeps (touchesIn .pulseTimeout s ++ reports) s s' := by
  refine frame_quiet rfl (frame_run (f := fun s => s.guarded (s.serving || s.stopCycle) pulseTimeout) rfl (fun s => ?_) hex)
  show Keeps _ s (s.guarded (s.serving || s.stopCycle) pulseTimeout)
  repeat (first
    | with_reducible exact Keeps.refl _ _
    | ((with_reducible apply Keeps.app (keeps_pulseTimeout ..)); case hs => exact rfl)
    | with_reducible apply Keeps.guarded
    | intro _)

theorem frame_stopTestCmd (o : Origin) (v : Nat) (s s' : State)
    (hex : exec (.stopTestCmd o v) s = .next s') :
    Keeps (touchesIn (.stopTestCmd o v) s ++ reports) s s' := by
  exact frame_write hex rfl (.live (by decide) (by decide) (by decide) (by decide)
    (fun u p d => (keeps_stopTestWrite ..).mono rfl)) rfl

theorem frame_debugRequest (trstnHigh : Bool) (s s' : State)
    (hex : exec (.debugRequest trstnHigh) s = .next s') :
    Keeps (touchesIn (.debugRequest trstnHigh) s ++ reports) s s' := by
  refine frame_quiet rfl (frame_run (f := fun s => s.guarded s.serving (debugRequest trstnHigh)) rfl (fun s => ?_) hex)
  show Keeps _ s (s.guarded s.serving (debugRequest trstnHigh))
  repeat (first
    | with_reducible exact Keeps.refl _ _
    | with_reducible apply Keeps.guarded
    | ((with_reducible apply Keeps.app (keeps_debugRequest ..)); case hs => exact rfl)
    | intro _)

theorem frame_debugExit  (s s' : State)
    (hex : exec .debugExit s = .next s') :
    Keeps (touchesIn .debugExit s ++ reports) s s' := by
  refine frame_quiet rfl (frame_run (f := debugExit) rfl (fun s => ?_) hex)
  show Keeps _ s (debugExit s)
  repeat (first
    | with_reducible exact Keeps.refl _ _
    | ((with_reducible apply Keeps.app (keeps_debugExit ..)); case hs => exact rfl)
    | intro _)

theorem frame_fatalHandlerEntry  (s s' : State)
    (hex : exec .fatalHandlerEntry s = .next s') :
    Keeps (touchesIn .fatalHandlerEntry s ++ reports) s s' := by
  refine frame_quiet rfl (frame_run (f := fun s => s.whenAlive fatalHandlerEntry) rfl (fun s => ?_) hex)
  show Keeps _ s (s.whenAlive fatalHandlerEntry)
  repeat (first
    | with_reducible exact Keeps.refl _ _
    | ((with_reducible apply Keeps.app (keeps_fatalHandlerEntry ..)); case hs => exact rfl)
    | with_reducible apply Keeps.whenAlive
    | intro _)

theorem frame_dumpWriteDone (headerOk : Bool) (s s' : State)
    (hex : exec (.dumpWriteDone headerOk) s = .next s') :
    Keeps (touchesIn (.dumpWriteDone headerOk) s ++ reports) s s' := by
  refine frame_quiet rfl (frame_run (f := fun s => s.guarded s.serving (dumpWriteDone headerOk)) rfl (fun s => ?_) hex)
  show Keeps _ s (s.guarded s.serving (dumpWriteDone headerOk))
  repeat (first
    | with_reducible exact Keeps.refl _ _
    | ((with_reducible apply Keeps.app (keeps_dumpWriteDone ..)); case hs => exact rfl)
    | with_reducible apply Keeps.guarded
    | intro _)

theorem frame_dumpTimeout (headerOk : Bool) (s s' : State)
    (hex : exec (.dumpTimeout headerOk) s = .next s') :
    Keeps (touchesIn (.dumpTimeout headerOk) s ++ reports) s s' := by
  refine frame_quiet rfl (frame_run (f := fun s => s.guarded s.serving (dumpTimeout headerOk)) rfl (fun s => ?_) hex)
  show Keeps _ s (s.guarded s.serving (dumpTimeout headerOk))
  repeat (first
    | with_reducible exact Keeps.refl _ _
    | ((with_reducible apply Keeps.app (keeps_dumpTimeout ..)); case hs => exact rfl)
    | with_reducible apply Keeps.guarded
    | intro _)

theorem frame_sdoRequest (p : CanPort) (k : Fin 4) (r : SdoReq) (s s' : State)
    (hex : exec (.sdoRequest p k r) s = .next s') :
    Keeps (touchesIn (.sdoRequest p k r) s ++ reports) s s' := by
  refine frame_quiet rfl (frame_run (f := fun s => s.guarded (sdoServed s p k) (sdoRequest p k r)) rfl (fun s => ?_) hex)
  show Keeps _ s (s.guarded (sdoServed s p k) (sdoRequest p k r))
  repeat (first
    | with_reducible exact Keeps.refl _ _
    | ((with_reducible apply Keeps.app (keeps_sdoRequest ..)); case hs => exact rfl)
    | with_reducible apply Keeps.guarded
    | intro _)

theorem frame_sdoSegmentTimeout (k : Fin 4) (s s' : State)
    (hex : exec (.sdoSegmentTimeout k) s = .next s') :
    Keeps (touchesIn (.sdoSegmentTimeout k) s ++ reports) s s' := by
  refine frame_quiet rfl (frame_run (f := fun s => s.guarded s.serving (sdoSegmentTimeout k)) rfl (fun s => ?_) hex)
  show Keeps _ s (s.guarded s.serving (sdoSegmentTimeout k))
  repeat (first
    | with_reducible exact Keeps.refl _ _
    | ((with_reducible apply Keeps.app (keeps_sdoSegmentTimeout ..)); case hs => exact rfl)
    | with_reducible apply Keeps.guarded
    | intro _)

theorem frame_writeJudgement  (s s' : State)
    (hex : exec .writeJudgement s = .next s') :
    Keeps (touchesIn .writeJudgement s ++ reports) s s' := by
  refine frame_quiet rfl (frame_run (f := fun s => s.whenAlive writeJudgement) rfl (fun s => ?_) hex)
  show Keeps _ s (s.whenAlive writeJudgement)
  repeat (first
    | with_reducible exact Keeps.refl _ _
    | ((with_reducible apply Keeps.app (keeps_writeJudgement ..)); case hs => exact rfl)
    | with_reducible apply Keeps.whenAlive
    | intro _)

theorem frame_genericWrite (o : Origin) (i : Nat) (sub : Nat) (data : List Byte) (s s' : State)
    (hex : exec (.genericWrite o i sub data) s = .next s') :
    Keeps (touchesIn (.genericWrite o i sub data) s ++ reports) s s' := by
  refine frame_quiet rfl (frame_run (f := fun s => (s.rowReceive o i sub data).1) rfl (fun s => ?_) hex)
  show Keeps _ s ((s.rowReceive o i sub data).1)
  exact (keeps_rowReceive ..).mono rfl

theorem frame_nmtStart (p : CanPort) (s s' : State)
    (hex : exec (.nmtStart p) s = .next s') :
    Keeps (touchesIn (.nmtStart p) s ++ reports) s s' := by
  refine frame_quiet rfl (frame_run (f := fun s => s.guarded (canTakes s p) (nmtStart p)) rfl (fun s => ?_) hex)
  show Keeps _ s (s.guarded (canTakes s p) (nmtStart p))
  repeat (first
    | with_reducible exact Keeps.refl _ _
    | ((with_reducible apply Keeps.app (keeps_nmtStart ..)); case hs => exact rfl)
    | with_reducible apply Keeps.guarded
    | intro _)

theorem frame_nmtStop (p : CanPort) (s s' : State)
    (hex : exec (.nmtStop p) s = .next s') :
    Keeps (touchesIn (.nmtStop p) s ++ reports) s s' := by
  refine frame_quiet rfl (frame_run (f := fun s => s.guarded (canTakes s p) (nmtStop p)) rfl (fun s => ?_) hex)
  show Keeps _ s (s.guarded (canTakes s p) (nmtStop p))
  repeat (first
    | with_reducible exact Keeps.refl _ _
    | with_reducible apply Keeps.guarded
    | ((with_reducible apply Keeps.app (keeps_nmtStop ..)); case hs => exact rfl)
    | intro _)

theorem frame_nmtEnterPreoperational (p : CanPort) (s s' : State)
    (hex : exec (.nmtEnterPreoperational p) s = .next s') :
    Keeps (touchesIn (.nmtEnterPreoperational p) s ++ reports) s s' := by
  refine frame_quiet rfl (frame_run (f := fun s => s.guarded (canTakes s p) (fun s => s.setNmt p .preop)) rfl (fun s => ?_) hex)
  show Keeps _ s (s.guarded (canTakes s p) (fun s => s.setNmt p .preop))
  repeat (first
    | with_reducible exact Keeps.refl _ _
    | ((with_reducible apply Keeps.app (keeps_setNmt ..)); case hs => exact rfl)
    | with_reducible apply Keeps.guarded
    | intro _)

theorem frame_nmtResetCommunication (p : CanPort) (s s' : State)
    (hex : exec (.nmtResetCommunication p) s = .next s') :
    Keeps (touchesIn (.nmtResetCommunication p) s ++ reports) s s' := by
  refine frame_quiet rfl (frame_run (f := fun s => s.guarded (s.serving && canEnabled s.cfg.active p) (nmtResetCommunication p)) rfl (fun s => ?_) hex)
  show Keeps _ s (s.guarded (s.serving && canEnabled s.cfg.active p) (nmtResetCommunication p))
  repeat (first
    | with_reducible exact Keeps.refl _ _
    | ((with_reducible apply Keeps.app (keeps_nmtResetCommunication ..)); case hs => exact rfl)
    | with_reducible apply Keeps.guarded
    | intro _)

theorem frame_rpdoReceived (p : CanPort) (n : Fin 8) (data : List Byte) (s s' : State)
    (hex : exec (.rpdoReceived p n data) s = .next s') :
    Keeps (touchesIn (.rpdoReceived p n data) s ++ reports) s s' := by
  refine frame_quiet rfl (frame_run (f := fun s => s.guarded (s.alive && canTakes s p) (rpdoReceived p n data)) rfl (fun s => ?_) hex)
  show Keeps _ s (s.guarded (s.alive && canTakes s p) (rpdoReceived p n data))
  repeat (first
    | with_reducible exact Keeps.refl _ _
    | ((with_reducible apply Keeps.app (keeps_rpdoReceived ..)); case hs => exact rfl)
    | with_reducible apply Keeps.guarded
    | intro _)

theorem frame_rpdoTimeout (p : PortId) (n : Fin 8) (s s' : State)
    (hex : exec (.rpdoTimeout p n) s = .next s') :
    Keeps (touchesIn (.rpdoTimeout p n) s ++ reports) s s' := by
  refine frame_quiet rfl (frame_run (f := fun s => s.whenAlive (rpdoTimeout p n)) rfl (fun s => ?_) hex)
  show Keeps _ s (s.whenAlive (rpdoTimeout p n))
  repeat (first
    | with_reducible exact Keeps.refl _ _
    | ((with_reducible apply Keeps.app (keeps_rpdoTimeout ..)); case hs => exact rfl)
    | with_reducible apply Keeps.whenAlive
    | intro _)

theorem frame_tpdoEventTimer (n : Fin 16) (s s' : State)
    (hex : exec (.tpdoEventTimer n) s = .next s') :
    Keeps (touchesIn (.tpdoEventTimer n) s ++ reports) s s' := by
  refine frame_quiet rfl (frame_run (f := fun s => s.whenAlive (tpdoEventTimer n)) rfl (fun s => ?_) hex)
  show Keeps _ s (s.whenAlive (tpdoEventTimer n))
  repeat (first
    | with_reducible exact Keeps.refl _ _
    | with_reducible apply Keeps.whenAlive
    | ((with_reducible apply Keeps.app (keeps_tpdoEventTimer ..)); case hs => exact rfl)
    | intro _)

theorem frame_srdoRefresh (n : Fin 8) (s s' : State)
    (hex : exec (.srdoRefresh n) s = .next s') :
    Keeps (touchesIn (.srdoRefresh n) s ++ reports) s s' := by
  refine frame_quiet rfl (frame_run (f := fun s => s.whenAlive (srdoRefresh n)) rfl (fun s => ?_) hex)
  show Keeps _ s (s.whenAlive (srdoRefresh n))
  repeat (first
    | with_reducible exact Keeps.refl _ _
    | ((with_reducible apply Keeps.app (keeps_srdoRefresh ..)); case hs => exact rfl)
    | with_reducible apply Keeps.whenAlive
    | intro _)

theorem frame_heartbeatSend (p : PortId) (s s' : State)
    (hex : exec (.heartbeatSend p) s = .next s') :
    Keeps (touchesIn (.heartbeatSend p) s ++ reports) s s' := by
  refine frame_quiet rfl (frame_run (f := fun s => s.guarded s.serving (heartbeatSend p)) rfl (fun s => ?_) hex)
  show Keeps _ s (s.guarded s.serving (heartbeatSend p))
  repeat (first
    | with_reducible exact Keeps.refl _ _
    | ((with_reducible apply Keeps.app (keeps_heartbeatSend ..)); case hs => exact rfl)
    | with_reducible apply Keeps.guarded
    | intro _)

theorem frame_hbConsumerMiss (p : CanPort) (e : Fin 4) (s s' : State)
    (hex : exec (.hbConsumerMiss p e) s = .next s') :
    Keeps (touchesIn (.hbConsumerMiss p e) s ++ reports) s s' := by
  refine frame_quiet rfl (frame_run (f := fun s => s.guarded s.serving (hbConsumerMiss p e)) rfl (fun s => ?_) hex)
  show Keeps _ s (s.guarded s.serving (hbConsumerMiss p e))
  repeat (first
    | with_reducible exact Keeps.refl _ _
    | with_reducible apply Keeps.guarded
    | ((with_reducible apply Keeps.app (keeps_hbConsumerMiss ..)); case hs => exact rfl)
    | intro _)

theorem frame_canErrorPassive (p : CanPort) (busOff : Bool) (s s' : State)
    (hex : exec (.canErrorPassive p busOff) s = .next s') :
    Keeps (touchesIn (.canErrorPassive p busOff) s ++ reports) s s' := by
  refine frame_quiet rfl (frame_run (f := fun s => s.guarded (canTakes s p) (canErrorPassive p busOff)) rfl (fun s => ?_) hex)
  show Keeps _ s (s.guarded (canTakes s p) (canErrorPassive p busOff))
  repeat (first
    | with_reducible exact Keeps.refl _ _
    | ((with_reducible apply Keeps.app (keeps_canErrorPassive ..)); case hs => exact rfl)
    | with_reducible apply Keeps.guarded
    | intro _)

theorem frame_busOffRecovery (p : CanPort) (s s' : State)
    (hex : exec (.busOffRecovery p) s = .next s') :
    Keeps (touchesIn (.busOffRecovery p) s ++ reports) s s' := by
  refine frame_quiet rfl (frame_run (f := fun s => s.guarded (s.serving && canEnabled s.cfg.active p) (busOffRecovery p)) rfl (fun s => ?_) hex)
  show Keeps _ s (s.guarded (s.serving && canEnabled s.cfg.active p) (busOffRecovery p))
  repeat (first
    | with_reducible exact Keeps.refl _ _
    | ((with_reducible apply Keeps.app (keeps_busOffRecovery ..)); case hs => exact rfl)
    | with_reducible apply Keeps.guarded
    | intro _)

theorem frame_openPlain (h : Hdr) (s s' : State)
    (hex : exec (.openPlain h) s = .next s') :
    Keeps (touchesIn (.openPlain h) s ++ reports) s s' := by
  refine frame_quiet rfl (frame_run (f := fun s => openPlain h s) rfl (fun s => ?_) hex)
  show Keeps _ s (openPlain h s)
  repeat (first
    | with_reducible exact Keeps.refl _ _
    | ((with_reducible apply Keeps.app (keeps_openPlain ..)); case hs => exact rfl)
    | intro _)

theorem frame_openTakeover (h : Hdr) (target : Nat) (s s' : State)
    (hex : exec (.openTakeover h target) s = .next s') :
    Keeps (touchesIn (.openTakeover h target) s ++ reports) s s' := by
  refine frame_quiet rfl (frame_run (f := fun s => openTakeover h target s) rfl (fun s => ?_) hex)
  show Keeps _ s (openTakeover h target s)
  repeat (first
    | with_reducible exact Keeps.refl _ _
    | ((with_reducible apply Keeps.app (keeps_openTakeover ..)); case hs => exact rfl)
    | intro _)

theorem frame_closeSession (h : Hdr) (s s' : State)
    (hex : exec (.closeSession h) s = .next s') :
    Keeps (touchesIn (.closeSession h) s ++ reports) s s' := by
  refine frame_quiet rfl (frame_run (f := fun s => closeSession h s) rfl (fun s => ?_) hex)
  show Keeps _ s (closeSession h s)
  repeat (first
    | with_reducible exact Keeps.refl _ _
    | ((with_reducible apply Keeps.app (keeps_closeSession ..)); case hs => exact rfl)
    | intro _)

theorem frame_readItems (h : Hdr) (items : List ReadItem) (s s' : State)
    (hex : exec (.readItems h items) s = .next s') :
    Keeps (touchesIn (.readItems h items) s ++ reports) s s' := by
  refine frame_quiet rfl (frame_run (f := fun s => readRequest h items s) rfl (fun s => ?_) hex)
  show Keeps _ s (readRequest h items s)
  repeat (first
    | with_reducible exact Keeps.refl _ _
    | ((with_reducible apply Keeps.app (keeps_readRequest ..)); case hs => exact rfl)
    | intro _)

theorem frame_writeItems (h : Hdr) (items : List WriteItem) (s s' : State)
    (hex : exec (.writeItems h items) s = .next s') :
    Keeps (touchesIn (.writeItems h items) s ++ reports) s s' := by
  refine frame_quiet rfl (frame_run (f := fun s => writeRequest h items s) rfl (fun s => ?_) hex)
  show Keeps _ s (writeRequest h items s)
  repeat (first
    | with_reducible exact Keeps.refl _ _
    | ((with_reducible apply Keeps.app (keeps_writeRequest ..)); case hs => exact rfl)
    | intro _)

theorem frame_nopRequest (h : Hdr) (s s' : State)
    (hex : exec (.nopRequest h) s = .next s') :
    Keeps (touchesIn (.nopRequest h) s ++ reports) s s' := by
  refine frame_quiet rfl (frame_run (f := fun s => nopRequest h s) rfl (fun s => ?_) hex)
  show Keeps _ s (nopRequest h s)
  repeat (first
    | with_reducible exact Keeps.refl _ _
    | ((with_reducible apply Keeps.app (keeps_nopRequest ..)); case hs => exact rfl)
    | intro _)

theorem frame_pdHost (p : EthPort) (link : EthLink) (seq : Nat) (blocks : List PdBlock) (s s' : State)
    (hex : exec (.pdHost p link seq blocks) s = .next s') :
    Keeps (touchesIn (.pdHost p link seq blocks) s ++ reports) s s' := by
  refine frame_quiet rfl (frame_run (f := fun s => s.whenAlive (pdHost p link seq blocks)) rfl (fun s => ?_) hex)
  show Keeps _ s (s.whenAlive (pdHost p link seq blocks))
  repeat (first
    | with_reducible exact Keeps.refl _ _
    | ((with_reducible apply Keeps.app (keeps_pdHost ..)); case hs => exact rfl)
    | with_reducible apply Keeps.whenAlive
    | intro _)

theorem frame_spiFrameReceived (bytes : List Byte) (s s' : State)
    (hex : exec (.spiFrameReceived bytes) s = .next s') :
    Keeps (touchesIn (.spiFrameReceived bytes) s ++ reports) s s' := by
  refine frame_quiet rfl (frame_run (f := fun s => s.guarded s.serving (spiFrame bytes)) rfl (fun s => ?_) hex)
  show Keeps _ s (s.guarded s.serving (spiFrame bytes))
  repeat (first
    | with_reducible exact Keeps.refl _ _
    | ((with_reducible apply Keeps.app (keeps_spiFrame ..)); case hs => exact rfl)
    | with_reducible apply Keeps.guarded
    | intro _)

theorem frame_spiFrameCrcError  (s s' : State)
    (hex : exec .spiFrameCrcError s = .next s') :
    Keeps (touchesIn .spiFrameCrcError s ++ reports) s s' := by
  refine frame_quiet rfl (frame_run (f := fun s => s.guarded s.serving State.spiCrcError) rfl (fun s => ?_) hex)
  show Keeps _ s (s.guarded s.serving State.spiCrcError)
  repeat (first
    | with_reducible exact Keeps.refl _ _
    | ((with_reducible apply Keeps.app (keeps_spiCrcError ..)); case hs => exact rfl)
    | with_reducible apply Keeps.guarded
    | intro _)

theorem frame_spiFrameDelivered  (s s' : State)
    (hex : exec .spiFrameDelivered s = .next s') :
    Keeps (touchesIn .spiFrameDelivered s ++ reports) s s' := by
  refine frame_quiet rfl (frame_run (f := fun s => s.guarded s.serving spiDelivered) rfl (fun s => ?_) hex)
  show Keeps _ s (s.guarded s.serving spiDelivered)
  repeat (first
    | with_reducible exact Keeps.refl _ _
    | ((with_reducible apply Keeps.app (keeps_spiDelivered ..)); case hs => exact rfl)
    | with_reducible apply Keeps.guarded
    | intro _)

theorem frame_sessionTimeout (k : Fin 4) (s s' : State)
    (hex : exec (.sessionTimeout k) s = .next s') :
    Keeps (touchesIn (.sessionTimeout k) s ++ reports) s s' := by
  refine frame_quiet rfl (frame_run (f := fun s => s.guarded s.serving (sessionTimeout k)) rfl (fun s => ?_) hex)
  show Keeps _ s (s.guarded s.serving (sessionTimeout k))
  repeat (first
    | with_reducible exact Keeps.refl _ _
    | ((with_reducible apply Keeps.app (keeps_sessionTimeout ..)); case hs => exact rfl)
    | with_reducible apply Keeps.guarded
    | intro _)

theorem frame_sessionEnd (o : Origin) (v : Nat) (s s' : State)
    (hex : exec (.sessionEnd o v) s = .next s') :
    Keeps (touchesIn (.sessionEnd o v) s ++ reports) s s' := by
  refine frame_quiet rfl (frame_run (f := fun s => s.rowWrite o 0x2B00 0x11 (leBytes 1 v)) rfl (fun s => ?_) hex)
  show Keeps _ s (s.rowWrite o 0x2B00 0x11 (leBytes 1 v))
  exact keeps_rowWrite_session _ _ _ _ _ rfl (by decide) (by decide) (fun u k => Keeps.refl _ _)
    (fun _ u k => (keeps_endSession ..).mono rfl)

theorem frame_authRequest (o : Origin) (level : Nat) (s s' : State)
    (hex : exec (.authRequest o level) s = .next s') :
    Keeps (touchesIn (.authRequest o level) s ++ reports) s s' := by
  refine frame_quiet rfl (frame_run (f := fun s => s.rowWrite o 0x2B00 0x0D (leBytes 1 level)) rfl (fun s => ?_) hex)
  show Keeps _ s (s.rowWrite o 0x2B00 0x0D (leBytes 1 level))
  exact keeps_rowWrite_session _ _ _ _ _ rfl (by decide) (by decide)
    (fun u k => (keeps_authRequest ..).mono rfl) (fun h => absurd h (by decide))

theorem frame_authChallenge (o : Origin) (s s' : State)
    (hex : exec (.authChallenge o) s = .next s') :
    Keeps (touchesIn (.authChallenge o) s ++ reports) s s' := by
  refine frame_quiet rfl (frame_run (f := fun s => s.rowRead o 0x2B00 0x0E) rfl (fun s => ?_) hex)
  show Keeps _ s (s.rowRead o 0x2B00 0x0E)
  exact (keeps_rowRead ..).mono rfl

theorem frame_authResponse (o : Origin) (response : List Byte) (s s' : State)
    (hex : exec (.authResponse o response) s = .next s') :
    Keeps (touchesIn (.authResponse o response) s ++ reports) s s' := by
  refine frame_quiet rfl (frame_run (f := fun s => s.rowWrite o 0x2B00 0x0F response) rfl (fun s => ?_) hex)
  show Keeps _ s (s.rowWrite o 0x2B00 0x0F response)
  exact keeps_rowWrite_session _ _ _ _ _ rfl (by decide) (by decide)
    (fun u k => (keeps_authResponse ..).mono rfl) (fun h => absurd h (by decide))

theorem frame_authChallengeExpiry (k : Fin 4) (s s' : State)
    (hex : exec (.authChallengeExpiry k) s = .next s') :
    Keeps (touchesIn (.authChallengeExpiry k) s ++ reports) s s' := by
  refine frame_quiet rfl (frame_run (f := fun s => s.guarded s.serving (authChallengeExpiry k)) rfl (fun s => ?_) hex)
  show Keeps _ s (s.guarded s.serving (authChallengeExpiry k))
  repeat (first
    | with_reducible exact Keeps.refl _ _
    | with_reducible apply Keeps.guarded
    | ((with_reducible apply Keeps.app (keeps_authChallengeExpiry ..)); case hs => exact rfl)
    | intro _)

theorem frame_authLockoutEnd (p : PortId) (s s' : State)
    (hex : exec (.authLockoutEnd p) s = .next s') :
    Keeps (touchesIn (.authLockoutEnd p) s ++ reports) s s' := by
  refine frame_quiet rfl (frame_run (f := fun s => s.guarded s.serving (authLockoutEnd p)) rfl (fun s => ?_) hex)
  show Keeps _ s (s.guarded s.serving (authLockoutEnd p))
  repeat (first
    | with_reducible exact Keeps.refl _ _
    | ((with_reducible apply Keeps.app (keeps_authLockoutEnd ..)); case hs => exact rfl)
    | with_reducible apply Keeps.guarded
    | intro _)

theorem frame_deviceKey (o : Origin) (key : List Byte) (s s' : State)
    (hex : exec (.deviceKey o key) s = .next s') :
    Keeps (touchesIn (.deviceKey o key) s ++ reports) s s' := by
  exact frame_write hex rfl (.live (by decide) (by decide) (by decide) (by decide)
    (fun u p d => (keeps_installKey ..).mono rfl)) rfl

theorem frame_errorHistoryClear (o : Origin) (v : Nat) (s s' : State)
    (hex : exec (.errorHistoryClear o v) s = .next s') :
    Keeps (touchesIn (.errorHistoryClear o v) s ++ reports) s s' := by
  exact frame_write hex rfl (.live (by decide) (by decide) (by decide) (by decide)
    (fun u p d => (keeps_clearHistory ..).mono rfl)) rfl

theorem frame_cfgCheck (o : Origin) (s s' : State)
    (hex : exec (.cfgCheck o) s = .next s') :
    Keeps (touchesIn (.cfgCheck o) s ++ reports) s s' := by
  exact frame_write hex rfl (.store (by decide) (by decide) (fun u d a => (keeps_receiptRefusal ..).mono rfl)
    (fun u v a => (keeps_judgeRefusal_cfg ..).mono rfl)
    (fun u p d => by rw [liveWrite_cfgCommand]; exact (keeps_cfgCommand ..).mono rfl)) rfl

theorem frame_cfgCheckDone  (s s' : State)
    (hex : exec .cfgCheckDone s = .next s') :
    Keeps (touchesIn .cfgCheckDone s ++ reports) s s' := by
  refine frame_quiet rfl (frame_run (f := fun s => s.whenAlive cfgCheckDone) rfl (fun s => ?_) hex)
  show Keeps _ s (s.whenAlive cfgCheckDone)
  repeat (first
    | with_reducible exact Keeps.refl _ _
    | ((with_reducible apply Keeps.app (keeps_cfgCheckDone ..)); case hs => exact rfl)
    | with_reducible apply Keeps.whenAlive
    | intro _)

theorem frame_cfgDiscard (o : Origin) (s s' : State)
    (hex : exec (.cfgDiscard o) s = .next s') :
    Keeps (touchesIn (.cfgDiscard o) s ++ reports) s s' := by
  exact frame_write hex rfl (.store (by decide) (by decide) (fun u d a => (keeps_receiptRefusal ..).mono rfl)
    (fun u v a => (keeps_judgeRefusal_cfg ..).mono rfl)
    (fun u p d => by rw [liveWrite_cfgCommand]; exact (keeps_cfgCommand ..).mono rfl)) rfl

theorem frame_cfgStore (o : Origin) (s s' : State)
    (hex : exec (.cfgStore o) s = .next s') :
    Keeps (touchesIn (.cfgStore o) s ++ reports) s s' := by
  exact frame_write hex rfl (.store (by decide) (by decide) (fun u d a => (keeps_receiptRefusal ..).mono rfl)
    (fun u v a => (keeps_judgeRefusal_cfg ..).mono rfl)
    (fun u p d => by rw [liveWrite_cfgCommand]; exact (keeps_cfgCommand ..).mono rfl)) rfl

theorem frame_cfgStoreDone (flashOk : Bool) (s s' : State)
    (hex : exec (.cfgStoreDone flashOk) s = .next s') :
    Keeps (touchesIn (.cfgStoreDone flashOk) s ++ reports) s s' := by
  refine frame_quiet rfl (frame_run (f := fun s => s.whenAlive (cfgStoreDone flashOk)) rfl (fun s => ?_) hex)
  show Keeps _ s (s.whenAlive (cfgStoreDone flashOk))
  repeat (first
    | with_reducible exact Keeps.refl _ _
    | ((with_reducible apply Keeps.app (keeps_cfgStoreDone ..)); case hs => exact rfl)
    | with_reducible apply Keeps.whenAlive
    | intro _)

theorem frame_cfgActivate (o : Origin) (s s' : State)
    (hex : exec (.cfgActivate o) s = .next s') :
    Keeps (touchesIn (.cfgActivate o) s ++ reports) s s' := by
  exact frame_write hex rfl (.store (by decide) (by decide) (fun u d a => (keeps_receiptRefusal ..).mono rfl)
    (fun u v a => (keeps_judgeRefusal_cfg ..).mono rfl)
    (fun u p d => by rw [liveWrite_cfgCommand]; exact (keeps_cfgCommand ..).mono rfl)) rfl

theorem frame_activationEffect (programOk : Bool) (s s' : State)
    (hex : exec (.activationEffect programOk) s = .next s') :
    Keeps (touchesIn (.activationEffect programOk) s ++ reports) s s' := by
  refine frame_quiet rfl (frame_run (f := fun s => s.whenAlive (activationEffect programOk)) rfl (fun s => ?_) hex)
  show Keeps _ s (s.whenAlive (activationEffect programOk))
  repeat (first
    | with_reducible exact Keeps.refl _ _
    | ((with_reducible apply Keeps.app (keeps_activationEffect ..)); case hs => exact rfl)
    | with_reducible apply Keeps.whenAlive
    | intro _)

theorem frame_cfgAdopt (o : Origin) (s s' : State)
    (hex : exec (.cfgAdopt o) s = .next s') :
    Keeps (touchesIn (.cfgAdopt o) s ++ reports) s s' := by
  exact frame_write hex rfl (.store (by decide) (by decide) (fun u d a => (keeps_receiptRefusal ..).mono rfl)
    (fun u v a => (keeps_judgeRefusal_cfg ..).mono rfl)
    (fun u p d => by rw [liveWrite_cfgCommand]; exact (keeps_cfgCommand ..).mono rfl)) rfl

theorem frame_cfgAdoptDone (flashOk : Bool) (s s' : State)
    (hex : exec (.cfgAdoptDone flashOk) s = .next s') :
    Keeps (touchesIn (.cfgAdoptDone flashOk) s ++ reports) s s' := by
  refine frame_quiet rfl (frame_run (f := fun s => s.whenAlive (cfgAdoptDone flashOk)) rfl (fun s => ?_) hex)
  show Keeps _ s (s.whenAlive (cfgAdoptDone flashOk))
  repeat (first
    | with_reducible exact Keeps.refl _ _
    | ((with_reducible apply Keeps.app (keeps_cfgAdoptDone ..)); case hs => exact rfl)
    | with_reducible apply Keeps.whenAlive
    | intro _)

theorem frame_cfgLoadShadow (o : Origin) (s s' : State)
    (hex : exec (.cfgLoadShadow o) s = .next s') :
    Keeps (touchesIn (.cfgLoadShadow o) s ++ reports) s s' := by
  exact frame_write hex rfl (.store (by decide) (by decide) (fun u d a => (keeps_receiptRefusal ..).mono rfl)
    (fun u v a => (keeps_judgeRefusal_cfg ..).mono rfl)
    (fun u p d => by rw [liveWrite_cfgCommand]; exact (keeps_cfgCommand ..).mono rfl)) rfl

theorem frame_cfgImageWrite (o : Origin) (image : List Byte) (s s' : State)
    (hex : exec (.cfgImageWrite o image) s = .next s') :
    Keeps (touchesIn (.cfgImageWrite o image) s ++ reports) s s' := by
  exact frame_write hex rfl (.store (by decide) (by decide) (fun u d a => (keeps_receiptRefusal ..).mono rfl)
    (fun u v a => (keeps_judgeRefusal_cfg ..).mono rfl)
    (fun u p d => (keeps_stageImage ..).mono rfl)) rfl

theorem frame_expectedDigestWrite (o : Origin) (v : Nat) (s s' : State)
    (hex : exec (.expectedDigestWrite o v) s = .next s') :
    Keeps (touchesIn (.expectedDigestWrite o v) s ++ reports) s s' := by
  exact frame_write hex rfl (.store (by decide) (by decide) (fun u d a => (keeps_receiptRefusal ..).mono rfl)
    (fun u v a => (keeps_judgeRefusal_cfg ..).mono rfl)
    (fun u p d => (keeps_expectDigest ..).mono rfl)) rfl

theorem frame_epochArm (o : Origin) (v : Nat) (s s' : State)
    (hex : exec (.epochArm o v) s = .next s') :
    Keeps (touchesIn (.epochArm o v) s ++ reports) s s' := by
  exact frame_write hex rfl (.store (by decide) (by decide) (fun u d a => (keeps_receiptRefusal ..).mono rfl)
    (fun u v a => (keeps_judgeRefusal_cfg ..).mono rfl)
    (fun u p d => (keeps_epochWrite ..).mono rfl)) rfl

theorem frame_epochDisarm (o : Origin) (v : Nat) (s s' : State)
    (hex : exec (.epochDisarm o v) s = .next s') :
    Keeps (touchesIn (.epochDisarm o v) s ++ reports) s s' := by
  exact frame_write hex rfl (.store (by decide) (by decide) (fun u d a => (keeps_receiptRefusal ..).mono rfl)
    (fun u v a => (keeps_judgeRefusal_cfg ..).mono rfl)
    (fun u p d => (keeps_epochWrite ..).mono rfl)) rfl

theorem frame_bookOpen (card : CardFacts) (s s' : State)
    (hex : exec (.bookOpen card) s = .next s') :
    Keeps (touchesIn (.bookOpen card) s ++ reports) s s' := by
  refine frame_quiet rfl (frame_run (f := fun s => s.whenAlive (bookOpen card)) rfl (fun s => ?_) hex)
  show Keeps _ s (s.whenAlive (bookOpen card))
  repeat (first
    | with_reducible exact Keeps.refl _ _
    | ((with_reducible apply Keeps.app (keeps_bookOpen ..)); case hs => exact rfl)
    | with_reducible apply Keeps.whenAlive
    | intro _)

theorem frame_emmcRetry (card : CardFacts) (s s' : State)
    (hex : exec (.emmcRetry card) s = .next s') :
    Keeps (touchesIn (.emmcRetry card) s ++ reports) s s' := by
  refine frame_quiet rfl (frame_run (f := fun s => s.whenAlive (emmcRetry card)) rfl (fun s => ?_) hex)
  show Keeps _ s (s.whenAlive (emmcRetry card))
  repeat (first
    | with_reducible exact Keeps.refl _ _
    | with_reducible apply Keeps.whenAlive
    | ((with_reducible apply Keeps.app (keeps_emmcRetry ..)); case hs => exact rfl)
    | intro _)

theorem frame_sectorFlushDue  (s s' : State)
    (hex : exec .sectorFlushDue s = .next s') :
    Keeps (touchesIn .sectorFlushDue s ++ reports) s s' := by
  refine frame_quiet rfl (frame_run (f := fun s => s.guarded s.serving sectorFlushDue) rfl (fun s => ?_) hex)
  show Keeps _ s (s.guarded s.serving sectorFlushDue)
  repeat (first
    | with_reducible exact Keeps.refl _ _
    | ((with_reducible apply Keeps.app (keeps_sectorFlushDue ..)); case hs => exact rfl)
    | with_reducible apply Keeps.guarded
    | intro _)

theorem frame_sectorWriteDone (ok : Bool) (s s' : State)
    (hex : exec (.sectorWriteDone ok) s = .next s') :
    Keeps (touchesIn (.sectorWriteDone ok) s ++ reports) s s' := by
  refine frame_quiet rfl (frame_run (f := fun s => s.guarded s.serving (sectorWriteDone ok)) rfl (fun s => ?_) hex)
  show Keeps _ s (s.guarded s.serving (sectorWriteDone ok))
  repeat (first
    | with_reducible exact Keeps.refl _ _
    | ((with_reducible apply Keeps.app (keeps_sectorWriteDone ..)); case hs => exact rfl)
    | with_reducible apply Keeps.guarded
    | intro _)

theorem frame_timeRecordDue  (s s' : State)
    (hex : exec .timeRecordDue s = .next s') :
    Keeps (touchesIn .timeRecordDue s ++ reports) s s' := by
  refine frame_quiet rfl (frame_run (f := fun s => s.whenAlive timeRecordDue) rfl (fun s => ?_) hex)
  show Keeps _ s (s.whenAlive timeRecordDue)
  repeat (first
    | with_reducible exact Keeps.refl _ _
    | ((with_reducible apply Keeps.app (keeps_timeRecordDue ..)); case hs => exact rfl)
    | with_reducible apply Keeps.whenAlive
    | intro _)

theorem frame_emmcResetReopen (card : CardFacts) (s s' : State)
    (hex : exec (.emmcResetReopen card) s = .next s') :
    Keeps (touchesIn (.emmcResetReopen card) s ++ reports) s s' := by
  refine frame_quiet rfl (frame_run (f := fun s => s.whenAlive (emmcResetReopen card)) rfl (fun s => ?_) hex)
  show Keeps _ s (s.whenAlive (emmcResetReopen card))
  repeat (first
    | with_reducible exact Keeps.refl _ _
    | ((with_reducible apply Keeps.app (keeps_emmcResetReopen ..)); case hs => exact rfl)
    | with_reducible apply Keeps.whenAlive
    | intro _)

theorem frame_recClear (o : Origin) (s s' : State)
    (hex : exec (.recClear o) s = .next s') :
    Keeps (touchesIn (.recClear o) s ++ reports) s s' := by
  exact frame_write hex rfl (.store (by decide) (by decide) (fun u d a => Keeps.refl _ _)
    (fun u v a => (keeps_judgeRefusal_book ..).mono rfl)
    (fun u p d => by rw [liveWrite_recCommand]; exact (keeps_recCommand ..).mono rfl)) rfl

theorem frame_recFound (o : Origin) (s s' : State)
    (hex : exec (.recFound o) s = .next s') :
    Keeps (touchesIn (.recFound o) s ++ reports) s s' := by
  exact frame_write hex rfl (.store (by decide) (by decide) (fun u d a => Keeps.refl _ _)
    (fun u v a => (keeps_judgeRefusal_book ..).mono rfl)
    (fun u p d => by rw [liveWrite_recCommand]; exact (keeps_recCommand ..).mono rfl)) rfl

theorem frame_recorderCmdDone  (s s' : State)
    (hex : exec .recorderCmdDone s = .next s') :
    Keeps (touchesIn .recorderCmdDone s ++ reports) s s' := by
  refine frame_quiet rfl (frame_run (f := fun s => s.whenAlive recorderCmdDone) rfl (fun s => ?_) hex)
  show Keeps _ s (s.whenAlive recorderCmdDone)
  repeat (first
    | with_reducible exact Keeps.refl _ _
    | ((with_reducible apply Keeps.app (keeps_recorderCmdDone ..)); case hs => exact rfl)
    | with_reducible apply Keeps.whenAlive
    | intro _)

theorem frame_correlate (o : Origin) (v : Nat) (s s' : State)
    (hex : exec (.correlate o v) s = .next s') :
    Keeps (touchesIn (.correlate o v) s ++ reports) s s' := by
  exact frame_write hex rfl (.store (by decide) (by decide) (fun u d a => Keeps.refl _ _)
    (fun u v a => by rw [keeps_judgeRefusal_correlate]; exact Keeps.refl _ _)
    (fun u p d => (keeps_correlateWrite ..).mono rfl)) rfl

theorem frame_readWindow (o : Origin) (s s' : State)
    (hex : exec (.readWindow o) s = .next s') :
    Keeps (touchesIn (.readWindow o) s ++ reports) s s' := by
  refine frame_quiet rfl (frame_run (f := fun s => s.rowRead o 0x2800 0x09) rfl (fun s => ?_) hex)
  show Keeps _ s (s.rowRead o 0x2800 0x09)
  exact (keeps_rowRead ..).mono rfl

theorem frame_dumpWindow (o : Origin) (s s' : State)
    (hex : exec (.dumpWindow o) s = .next s') :
    Keeps (touchesIn (.dumpWindow o) s ++ reports) s s' := by
  refine frame_quiet rfl (frame_run (f := fun s => s.rowRead o 0x2800 0x0F) rfl (fun s => ?_) hex)
  show Keeps _ s (s.rowRead o 0x2800 0x0F)
  exact (keeps_rowRead ..).mono rfl

theorem frame_permitDueEdge (p : Fin 16) (s s' : State)
    (hex : exec (.permitDueEdge p) s = .next s') :
    Keeps (touchesIn (.permitDueEdge p) s ++ reports) s s' := by
  refine frame_quiet rfl (frame_run (f := fun s => s.guarded s.serving (permitDueEdge p)) rfl (fun s => ?_) hex)
  show Keeps _ s (s.guarded s.serving (permitDueEdge p))
  repeat (first
    | with_reducible exact Keeps.refl _ _
    | with_reducible apply Keeps.guarded
    | ((with_reducible apply Keeps.app (keeps_permitDueEdge ..)); case hs => exact rfl)
    | intro _)

theorem frame_readbackSample (p : Fin 16) (level : Bool) (s s' : State)
    (hex : exec (.readbackSample p level) s = .next s') :
    Keeps (touchesIn (.readbackSample p level) s ++ reports) s s' := by
  refine frame_quiet rfl (frame_run (f := fun s => s.guarded s.serving (readbackSample p level)) rfl (fun s => ?_) hex)
  show Keeps _ s (s.guarded s.serving (readbackSample p level))
  repeat (first
    | with_reducible exact Keeps.refl _ _
    | ((with_reducible apply Keeps.app (keeps_readbackSample ..)); case hs => exact rfl)
    | with_reducible apply Keeps.guarded
    | intro _)

theorem frame_canErrorActive (p : CanPort) (s s' : State)
    (hex : exec (.canErrorActive p) s = .next s') :
    Keeps (touchesIn (.canErrorActive p) s ++ reports) s s' := by
  refine frame_quiet rfl (frame_run (f := fun s => s.guarded (canTakes s p) (canErrorActive p)) rfl (fun s => ?_) hex)
  show Keeps _ s (s.guarded (canTakes s p) (canErrorActive p))
  repeat (first
    | with_reducible exact Keeps.refl _ _
    | ((with_reducible apply Keeps.app (keeps_canErrorActive ..)); case hs => exact rfl)
    | with_reducible apply Keeps.guarded
    | intro _)

theorem frame_heartbeatReceived (p : CanPort) (node : Nat) (s s' : State)
    (hex : exec (.heartbeatReceived p node) s = .next s') :
    Keeps (touchesIn (.heartbeatReceived p node) s ++ reports) s s' := by
  refine frame_quiet rfl (frame_run (f := fun s => s.guarded (canTakes s p) (heartbeatReceived p node)) rfl (fun s => ?_) hex)
  show Keeps _ s (s.guarded (canTakes s p) (heartbeatReceived p node))
  repeat (first
    | with_reducible exact Keeps.refl _ _
    | ((with_reducible apply Keeps.app (keeps_heartbeatReceived ..)); case hs => exact rfl)
    | with_reducible apply Keeps.guarded
    | intro _)

theorem frame_ethLinkDown (p : EthPort) (beaconOnly : Bool) (s s' : State)
    (hex : exec (.ethLinkDown p beaconOnly) s = .next s') :
    Keeps (touchesIn (.ethLinkDown p beaconOnly) s ++ reports) s s' := by
  refine frame_quiet rfl (frame_run (f := fun s => s.guarded s.serving (fun s => s.linkDown p beaconOnly)) rfl (fun s => ?_) hex)
  show Keeps _ s (s.guarded s.serving (fun s => s.linkDown p beaconOnly))
  repeat (first
    | with_reducible exact Keeps.refl _ _
    | ((with_reducible apply Keeps.app (keeps_linkDown ..)); case hs => exact rfl)
    | with_reducible apply Keeps.guarded
    | intro _)

theorem frame_ethLinkUp (p : EthPort) (s s' : State)
    (hex : exec (.ethLinkUp p) s = .next s') :
    Keeps (touchesIn (.ethLinkUp p) s ++ reports) s s' := by
  refine frame_quiet rfl (frame_run (f := fun s => s.guarded s.serving (fun s => s.linkReturns p)) rfl (fun s => ?_) hex)
  show Keeps _ s (s.guarded s.serving (fun s => s.linkReturns p))
  repeat (first
    | with_reducible exact Keeps.refl _ _
    | ((with_reducible apply Keeps.app (keeps_linkReturns ..)); case hs => exact rfl)
    | with_reducible apply Keeps.guarded
    | intro _)

theorem frame_extestEntry  (s s' : State)
    (hex : exec .extestEntry s = .next s') :
    Keeps (touchesIn .extestEntry s ++ reports) s s' := by
  refine frame_quiet rfl (frame_run (f := fun s => s.guarded (tapWorks s) (fun s => s.tapLoad .extest)) rfl (fun s => ?_) hex)
  show Keeps _ s (s.guarded (tapWorks s) (fun s => s.tapLoad .extest))
  repeat (first
    | with_reducible exact Keeps.refl _ _
    | ((with_reducible apply Keeps.app (keeps_tapLoad ..)); case hs => exact rfl)
    | with_reducible apply Keeps.guarded
    | intro _)

theorem frame_extestExit  (s s' : State)
    (hex : exec .extestExit s = .next s') :
    Keeps (touchesIn .extestExit s ++ reports) s s' := by
  refine frame_quiet rfl (frame_run (f := fun s => s.guarded (tapWorks s) (fun s => s.tapLoad .idcode)) rfl (fun s => ?_) hex)
  show Keeps _ s (s.guarded (tapWorks s) (fun s => s.tapLoad .idcode))
  repeat (first
    | with_reducible exact Keeps.refl _ _
    | ((with_reducible apply Keeps.app (keeps_tapLoad ..)); case hs => exact rfl)
    | with_reducible apply Keeps.guarded
    | intro _)

theorem frame_malformedDatagram (h : Hdr) (typ : Nat) (m : Malformation) (s s' : State)
    (hex : exec (.malformedDatagram h typ m) s = .next s') :
    Keeps (touchesIn (.malformedDatagram h typ m) s ++ reports) s s' := by
  refine frame_quiet rfl (frame_run (f := fun s => malformed h typ m s) rfl (fun s => ?_) hex)
  show Keeps _ s (malformed h typ m s)
  repeat (first
    | with_reducible exact Keeps.refl _ _
    | ((with_reducible apply Keeps.app (keeps_malformed ..)); case hs => exact rfl)
    | intro _)

theorem frame_lostRxExpiry (p : PortId) (s s' : State)
    (hex : exec (.lostRxExpiry p) s = .next s') :
    Keeps (touchesIn (.lostRxExpiry p) s ++ reports) s s' := by
  refine frame_quiet rfl (frame_run (f := fun s => s.guarded s.serving (lostRxExpiry p)) rfl (fun s => ?_) hex)
  show Keeps _ s (s.guarded s.serving (lostRxExpiry p))
  repeat (first
    | with_reducible exact Keeps.refl _ _
    | ((with_reducible apply Keeps.app (keeps_lostRxExpiry ..)); case hs => exact rfl)
    | with_reducible apply Keeps.guarded
    | intro _)

theorem frame_lossHoldExpiry  (s s' : State)
    (hex : exec .lossHoldExpiry s = .next s') :
    Keeps (touchesIn .lossHoldExpiry s ++ reports) s s' := by
  refine frame_quiet rfl (frame_run (f := fun s => s.guarded s.serving lossHoldExpiry) rfl (fun s => ?_) hex)
  show Keeps _ s (s.guarded s.serving lossHoldExpiry)
  repeat (first
    | with_reducible exact Keeps.refl _ _
    | ((with_reducible apply Keeps.app (keeps_lossHoldExpiry ..)); case hs => exact rfl)
    | with_reducible apply Keeps.guarded
    | intro _)

theorem frame_sectorBusyTimeout  (s s' : State)
    (hex : exec .sectorBusyTimeout s = .next s') :
    Keeps (touchesIn .sectorBusyTimeout s ++ reports) s s' := by
  refine frame_quiet rfl (frame_run (f := fun s => s.guarded s.serving sectorBusyTimeout) rfl (fun s => ?_) hex)
  show Keeps _ s (s.guarded s.serving sectorBusyTimeout)
  repeat (first
    | with_reducible exact Keeps.refl _ _
    | ((with_reducible apply Keeps.app (keeps_sectorBusyTimeout ..)); case hs => exact rfl)
    | with_reducible apply Keeps.guarded
    | intro _)

theorem frame_supplyVoltageUpdate (vsup : BitVec 16) (vio : BitVec 16) (vexc : BitVec 16) (s s' : State)
    (hex : exec (.supplyVoltageUpdate vsup vio vexc) s = .next s') :
    Keeps (touchesIn (.supplyVoltageUpdate vsup vio vexc) s ++ reports) s s' := by
  refine frame_quiet rfl (frame_run (f := fun s => s.whenAlive (supplyVoltage vsup vio vexc)) rfl (fun s => ?_) hex)
  show Keeps _ s (s.whenAlive (supplyVoltage vsup vio vexc))
  repeat (first
    | with_reducible exact Keeps.refl _ _
    | ((with_reducible apply Keeps.app (keeps_supplyVoltage ..)); case hs => exact rfl)
    | with_reducible apply Keeps.whenAlive
    | intro _)

end Sys2Proof.Machine
end

