-- ==== Sys2Proof/Laws/Memory.lean ====
section
/-! SUPPORT. The eMMC area keeps its canonical form, and reads give what was written. -/

namespace Sys2Proof.Machine

theorem memWfFrom_mono {lo lo' : Nat} {m : List Host.Cell} (h : lo' ≤ lo) (w : memWfFrom lo m = true) :
    memWfFrom lo' m = true := by
  cases m with
  | nil => rfl
  | cons c rest =>
    simp only [memWfFrom, Bool.and_eq_true, decide_eq_true_eq] at w ⊢
    exact ⟨⟨Nat.le_trans h w.1.1, w.1.2⟩, w.2⟩

/-- All cells lie below an address. -/
def memUnder (hi : Nat) (m : List Host.Cell) : Prop := ∀ c ∈ m, c.1 < hi

theorem memWfFrom_append {lo hi : Nat} {a b : List Host.Cell} (ha : memWfFrom lo a = true) (hu : memUnder hi a)
    (hl : lo ≤ hi) (hb : memWfFrom hi b = true) : memWfFrom lo (a ++ b) = true := by
  induction a generalizing lo with
  | nil => exact memWfFrom_mono hl hb
  | cons c rest ih =>
    simp only [List.cons_append, memWfFrom, Bool.and_eq_true, decide_eq_true_eq] at ha ⊢
    have hc : c.1 < hi := hu c (List.mem_cons_self ..)
    exact ⟨ha.1, ih ha.2 (fun d hd => hu d (List.mem_cons_of_mem _ hd)) hc⟩

theorem memBelow_wf {lo : Nat} {m : List Host.Cell} (x : Nat) (w : memWfFrom lo m = true) :
    memWfFrom lo (memBelow m x) = true := by
  induction m generalizing lo with
  | nil => rfl
  | cons c rest ih =>
    unfold memBelow
    simp only [memWfFrom, Bool.and_eq_true] at w
    split
    · simp only [memWfFrom, Bool.and_eq_true]
      exact ⟨w.1, ih w.2⟩
    · rfl

theorem memBelow_under (m : List Host.Cell) (x : Nat) : memUnder x (memBelow m x) := by
  induction m with
  | nil => intro c hc; cases hc
  | cons d rest ih =>
    unfold memBelow
    split
    · rename_i h
      intro c hc
      cases hc with
      | head => exact h
      | tail _ hc => exact ih c hc
    · intro c hc; cases hc

theorem memFrom_wf {lo : Nat} {m : List Host.Cell} (x : Nat) (w : memWfFrom lo m = true) :
    memWfFrom (Nat.max lo x) (memFrom m x) = true := by
  induction m generalizing lo with
  | nil => rfl
  | cons c rest ih =>
    simp only [memWfFrom, Bool.and_eq_true, decide_eq_true_eq] at w
    unfold memFrom
    split
    · rename_i h
      refine memWfFrom_mono ?_ (ih w.2)
      simp only [Nat.max_def]
      split <;> split <;> omega
    · rename_i h
      simp only [memWfFrom, Bool.and_eq_true, decide_eq_true_eq]
      refine ⟨⟨?_, w.1.2⟩, w.2⟩
      simp only [Nat.max_def]
      split <;> omega

theorem memCells_wf (base : Nat) (bs : List Byte) : memWfFrom base (memCells base bs) = true := by
  induction bs generalizing base with
  | nil => rfl
  | cons b bs ih =>
    unfold memCells
    split
    · exact memWfFrom_mono (Nat.le_succ _) (ih _)
    · rename_i h
      simp only [memWfFrom, Bool.and_eq_true, decide_eq_true_eq, bne, Bool.not_eq_true']
      exact ⟨⟨Nat.le_refl _, by simpa using h⟩, ih _⟩

theorem memCells_under (base : Nat) (bs : List Byte) : memUnder (base + bs.length) (memCells base bs) := by
  induction bs generalizing base with
  | nil => intro c hc; cases hc
  | cons b bs ih =>
    have step : memUnder (base + (b :: bs).length) (memCells (base + 1) bs) := by
      intro c hc
      have := ih (base + 1) c hc
      simp only [List.length_cons]
      omega
    unfold memCells
    split
    · exact step
    · intro c hc
      cases hc with
      | head => simp only [List.length_cons]; omega
      | tail _ hc => exact step c hc

theorem memUnder_mono {a b : Nat} {m : List Host.Cell} (h : a ≤ b) (u : memUnder a m) : memUnder b m :=
  fun c hc => Nat.lt_of_lt_of_le (u c hc) h

theorem memUnder_append {hi : Nat} {a b : List Host.Cell} (ha : memUnder hi a) (hb : memUnder hi b) :
    memUnder hi (a ++ b) := fun c hc => (List.mem_append.mp hc).elim (ha c) (hb c)

/-- A store keeps the canonical form. -/
theorem memWrite_wf {m : List Host.Cell} (base : Nat) (bs : List Byte) (w : Memory.wf m = true) :
    Memory.wf (memWrite m base bs) = true := by
  have low : memWfFrom 0 (memBelow m base ++ memCells base bs) = true :=
    memWfFrom_append (memBelow_wf base w) (memBelow_under m base) (Nat.zero_le _) (memCells_wf base bs)
  refine memWfFrom_append low ?_ (Nat.zero_le (base + bs.length)) ?_
  · exact memUnder_append (memUnder_mono (Nat.le_add_right _ _) (memBelow_under m base)) (memCells_under base bs)
  · exact memWfFrom_mono (Nat.le_max_right ..) (memFrom_wf (base + bs.length) w)

/-- An erasure keeps the canonical form. -/
theorem memErase_wf {m : List Host.Cell} (lo hi : Nat) (w : Memory.wf m = true) :
    Memory.wf (memErase m lo hi) = true := by
  refine memWfFrom_append (memBelow_wf lo w) (memBelow_under m lo) (Nat.zero_le _) ?_
  refine memWfFrom_mono ?_ (memFrom_wf (if lo ≤ hi then hi else lo) w)
  simp only [Nat.max_def]
  split <;> split <;> omega

-- reads
/-- Nothing is listed at an address that the cells do not name. -/
theorem memGet_absent {m : List Host.Cell} {x : Nat} (h : ∀ c ∈ m, c.1 ≠ x) : memGet m x = memEmpty := by
  induction m with
  | nil => rfl
  | cons c rest ih =>
    unfold memGet
    rw [if_neg (by simpa using h c (List.mem_cons_self ..))]
    exact ih (fun d hd => h d (List.mem_cons_of_mem _ hd))

theorem memGet_append_left {a b : List Host.Cell} {x : Nat} (h : ∀ c ∈ b, c.1 ≠ x) :
    memGet (a ++ b) x = memGet a x := by
  induction a with
  | nil => exact memGet_absent h
  | cons c rest ih =>
    simp only [List.cons_append, memGet]
    rw [ih]

theorem memGet_append_right {a b : List Host.Cell} {x : Nat} (h : ∀ c ∈ a, c.1 ≠ x) :
    memGet (a ++ b) x = memGet b x := by
  induction a with
  | nil => rfl
  | cons c rest ih =>
    simp only [List.cons_append, memGet]
    rw [if_neg (by simpa using h c (List.mem_cons_self ..))]
    exact ih (fun d hd => h d (List.mem_cons_of_mem _ hd))

/-- All cells lie at an address or above it. -/
def memOver (lo : Nat) (m : List Host.Cell) : Prop := ∀ c ∈ m, lo ≤ c.1

theorem memWfFrom_over {lo : Nat} {m : List Host.Cell} (w : memWfFrom lo m = true) : memOver lo m := by
  induction m generalizing lo with
  | nil => intro c hc; cases hc
  | cons d rest ih =>
    simp only [memWfFrom, Bool.and_eq_true, decide_eq_true_eq] at w
    intro c hc
    cases hc with
    | head => exact w.1.1
    | tail _ hc =>
      have : d.1 + 1 ≤ c.1 := ih w.2 c hc
      omega

theorem memGet_below {lo x y : Nat} {m : List Host.Cell} (w : memWfFrom lo m = true) (h : y < x) :
    memGet (memBelow m x) y = memGet m y := by
  induction m generalizing lo with
  | nil => rfl
  | cons c rest ih =>
    simp only [memWfFrom, Bool.and_eq_true, decide_eq_true_eq] at w
    unfold memBelow
    split
    · simp only [memGet]
      rw [ih w.2]
    · rename_i hc
      refine (memGet_absent (m := (c.1, c.2) :: rest) (fun d hd => ?_)).symm
      cases hd with
      | head => show c.1 ≠ y; omega
      | tail _ hd =>
        have : c.1 + 1 ≤ d.1 := memWfFrom_over w.2 d hd
        omega

theorem memGet_from {x y : Nat} {m : List Host.Cell} (h : x ≤ y) : memGet (memFrom m x) y = memGet m y := by
  induction m with
  | nil => rfl
  | cons c rest ih =>
    unfold memFrom
    split
    · rename_i hc
      rw [ih]
      simp only [memGet]
      rw [if_neg (by simp; omega)]
    · rfl

theorem memFrom_over {lo : Nat} {m : List Host.Cell} (x : Nat) (w : memWfFrom lo m = true) :
    memOver x (memFrom m x) :=
  fun c hc => Nat.le_trans (Nat.le_max_right lo x) (memWfFrom_over (memFrom_wf x w) c hc)

theorem memCells_over (base : Nat) (bs : List Byte) : memOver base (memCells base bs) :=
  memWfFrom_over (memCells_wf base bs)

theorem memGet_cells (base : Nat) (bs : List Byte) (i : Nat) (h : i < bs.length) :
    memGet (memCells base bs) (base + i) = bs[i] := by
  induction bs generalizing base i with
  | nil => exact absurd h (Nat.not_lt_zero _)
  | cons b bs ih =>
    have above : ∀ c ∈ memCells (base + 1) bs, c.1 ≠ base := by
      intro c hc
      have : base + 1 ≤ c.1 := memCells_over (base + 1) bs c hc
      omega
    cases i with
    | zero =>
      unfold memCells
      split
      · rename_i hb
        rw [memGet_absent (x := base + 0) above]
        simpa using (eq_of_beq hb).symm
      · simp [memGet]
    | succ i =>
      have hi : i < bs.length := by simpa using h
      have next : memGet (memCells (base + 1) bs) (base + (i + 1)) = bs[i] := by
        rw [show base + (i + 1) = base + 1 + i by omega]
        exact ih (base + 1) i hi
      unfold memCells
      split
      · simpa using next
      · simp only [memGet]
        rw [if_neg (by simp)]
        simpa using next

/-- Read after write: inside the block its bytes. -/
theorem memGet_memWrite_inside {m : List Host.Cell} (base : Nat) (bs : List Byte) (i : Nat) (h : i < bs.length)
    (w : Memory.wf m = true) : memGet (memWrite m base bs) (base + i) = bs[i] := by
  unfold memWrite
  rw [memGet_append_left, memGet_append_right, memGet_cells base bs i h]
  · intro c hc
    have := memBelow_under m base c hc
    omega
  · intro c hc
    have := memFrom_over (base + bs.length) w c hc
    omega

/-- Read after write: every other place is as before. -/
theorem memGet_memWrite_outside {m : List Host.Cell} (base : Nat) (bs : List Byte) (x : Nat)
    (h : x < base ∨ base + bs.length ≤ x) (w : Memory.wf m = true) :
    memGet (memWrite m base bs) x = memGet m x := by
  unfold memWrite
  cases h with
  | inl h =>
    rw [List.append_assoc, memGet_append_left, memGet_below w h]
    intro c hc
    rcases List.mem_append.mp hc with hc | hc
    · have := memCells_over base bs c hc
      omega
    · have := memFrom_over (base + bs.length) w c hc
      omega
  | inr h =>
    rw [memGet_append_right, memGet_from h]
    intro c hc
    rcases List.mem_append.mp hc with hc | hc
    · have := memBelow_under m base c hc
      omega
    · have := memCells_under base bs c hc
      omega

/-- An erased place reads as empty. -/
theorem memGet_memErase_inside {m : List Host.Cell} (lo hi x : Nat) (h1 : lo ≤ x) (h2 : x < hi)
    (w : Memory.wf m = true) : memGet (memErase m lo hi) x = memEmpty := by
  unfold memErase
  rw [if_pos (by omega)]
  refine memGet_absent (fun c hc => ?_)
  rcases List.mem_append.mp hc with hc | hc
  · have := memBelow_under m lo c hc
    omega
  · have := memFrom_over hi w c hc
    omega

/-- Every other place is as before the erasure. -/
theorem memGet_memErase_outside {m : List Host.Cell} (lo hi x : Nat) (h : x < lo ∨ hi ≤ x) (hl : lo ≤ hi)
    (w : Memory.wf m = true) : memGet (memErase m lo hi) x = memGet m x := by
  unfold memErase
  rw [if_pos hl]
  cases h with
  | inl h =>
    rw [memGet_append_left, memGet_below w h]
    intro c hc
    have := memFrom_over hi w c hc
    omega
  | inr h =>
    rw [memGet_append_right, memGet_from h]
    intro c hc
    have := memBelow_under m lo c hc
    omega

end Sys2Proof.Machine
end

