-- ==== Sys2Proof/Laws/Pipeline.lean ====
section
/-! SUPPORT. The signal path of a channel: what its stages give from a signal of zeros, as after a clearing of the
filters (R123), and where a value that the modulator holds comes from (R109). -/

namespace Sys2Proof.Machine

theorem meanR_zero (l : List Nat) : meanR (l.map (fun _ => (0 : Rat))) = 0 := by
  have h : (l.map (fun _ => (0 : Rat))).sum = 0 := by
    induction l with
    | nil => rfl
    | cons a l ih => rw [List.map_cons, List.sum_cons, ih, Rat.zero_add]
  rw [meanR, h]
  split
  · rfl
  · rw [Rat.div_def, Rat.zero_mul]

/-- The moving mean of zeros is zero. -/
theorem movingMean_zero (k : Nat) (x : Wave) (h : ∀ n, x n = 0) (n : Nat) : movingMean k x n = 0 := by
  simp only [movingMean, h]
  exact meanR_zero _

/-- Stage 5 makes zeros of zeros. -/
theorem stage1Decimator_zero (x : Wave) (h : ∀ n, x n = 0) (j : Nat) : stage1Decimator x j = 0 :=
  movingMean_zero 5 _ (movingMean_zero 5 _ (movingMean_zero 5 x h)) _

/-- Before the instant at which the filters were cleared, the modulator gives zeros (R123). -/
theorem modulatorOut_cleared (s : State) (ch : Fin 64) (out : Nat) (m : SampleIn) (h : out < (s.ch.get ch).clearedAt)
    (k : Nat) : modulatorOut s ch out m k = 0 :=
  if_pos (Nat.lt_of_le_of_lt (Nat.sub_le _ _) h)

/-- What the range monitor reads then. -/
theorem monitorReading_cleared (s : State) (ch : Fin 64) (out : Nat) (m : SampleIn)
    (h : out < (s.ch.get ch).clearedAt) (j : Nat) : monitorReading s ch out m j = 0 := by
  have : stage1Decimator (modulatorOut s ch out m) j = 0 :=
    stage1Decimator_zero _ (modulatorOut_cleared s ch out m h) j
  simp [monitorReading, this, absR]

/-- No sample of then is CLIPPED (R113), and no overload is seen (R114). -/
theorem clippedAt_cleared (s : State) (ch : Fin 64) (out : Nat) (m : SampleIn) (h : out < (s.ch.get ch).clearedAt) :
    clippedAt s ch out m = false := by
  simp only [clippedAt, monitorReading_cleared s ch out m h, List.any_eq_false]
  intro _ _
  decide +kernel

theorem overloadAt_cleared (s : State) (ch : Fin 64) (out : Nat) (m : SampleIn) (h : out < (s.ch.get ch).clearedAt) :
    overloadAt s ch out m = false := by
  simp only [overloadAt, monitorReading_cleared s ch out m h]
  decide +kernel

end Sys2Proof.Machine
end

