-- ==== Sys2Proof/Laws/StopLatch.lean ====
section
/-! SUPPORT. What every operation leaves true of a stopped device: its permits stay high-impedance (R277,
R348). One lemma per operation that touches the permits or the twin; every other one by its frame. -/

namespace Sys2Proof.Machine

/-- `StopSafe` goes over from one state to another. -/
structure Stays (s t : State) : Prop where
  imp : StopSafe s → StopSafe t
theorem Stays.refl (s : State) : Stays s s := ⟨id⟩
theorem Stays.trans {s t u : State} (h : Stays s t) (g : Stays t u) : Stays s u := ⟨fun x => g.imp (h.imp x)⟩
theorem Stays.app {s t u : State} (h : Stays t u) (g : Stays s t) : Stays s u := g.trans h
theorem Stays.foldl {α : Type} {s t : State} {f : State → α → State} (hf : ∀ acc x, Stays acc (f acc x)) (g : Stays s t) (xs : List α) : Stays s (xs.foldl f t) := by
  induction xs generalizing t with
  | nil => exact g
  | cons x xs ih => exact ih (g.trans (hf t x))
theorem Stays.ite {s a b : State} {c : Prop} [Decidable c] (ha : c → Stays s a) (hb : ¬ c → Stays s b) : Stays s (if c then a else b) := by
  by_cases h : c
  · rw [if_pos h]; exact ha h
  · rw [if_neg h]; exact hb h
theorem Stays.elim {α : Type} {s t : State} {o : Option α} {f : α → State} (g : Stays s t) (hf : ∀ x, Stays s (f x)) : Stays s (o.elim t f) := by
  cases o with
  | none => exact g
  | some x => exact hf x
theorem Stays.whenAlive {s t : State} {f : State → State} (hf : ∀ u, Stays u (f u)) (g : Stays s t) : Stays s (t.whenAlive f) := Stays.ite (fun _ => g.trans (hf t)) (fun _ => g)
theorem Stays.guarded {s t : State} {b : Bool} {f : State → State} (hf : ∀ u, Stays u (f u)) (g : Stays s t) : Stays s (t.guarded b f) := Stays.ite (fun _ => g.trans (hf t)) (fun _ => g)
theorem Stays.of_keeps {l : List Part} {s t : State} (h : Keeps l s t) (h1 : Part.permits ∉ l) (h2 : Part.twin ∉ l) : Stays s t := by
  have a := h.same _ h1
  have b := h.same _ h2
  simp only [Part.same] at a b
  constructor; unfold StopSafe
  rw [a, b]; exact id
theorem Stays.set {s t u : State} (h1 : u.twin.stopLatch = t.twin.stopLatch) (h2 : u.permits.po = t.permits.po) (g : Stays s t) : Stays s u := by
  constructor; intro hs
  have := g.imp hs
  unfold StopSafe at *
  rw [h1, h2]; exact this
theorem Stays.updPermit {s t : State} {p : Fin 16} {f : Permit → Permit} (g : Stays s t)
   (hf : ∀ x : Permit, x.st = .highz → x.out = .highz → (f x).st = .highz ∧ (f x).out = .highz) : Stays s (t.updPermit p f) := by
  constructor; intro hs hl q
  have hh := g.imp hs hl
  by_cases e : q = p
  · subst e
    have : ((t.updPermit q f).permits.po.get q) = f (t.permits.po.get q) := by simp
    rw [this]; exact hf _ (hh q).1 (hh q).2
  · have : ((t.updPermit p f).permits.po.get q) = (t.permits.po.get q) := by simp [Tab.get_upd_other _ _ _ _ e]
    rw [this]; exact hh q
theorem highz_all (u : State) (p : Fin 16) : (u.permitsHighz.permits.po.get p) = permitHighz (u.permits.po.get p) := by
  show (Vector.map permitHighz u.permits.po)[p.val] = _
  simp [Tab.get]; rfl
theorem stay_set_permits (s : State) (x0 : Permits) (h_permits : x0.po = s.permits.po) : Stays s { s with permits := x0 } :=
  Stays.set (t := s) rfl h_permits (Stays.refl s)
theorem stay_set_twin (s : State) (x0 : Twin) (h_twin : x0.stopLatch = s.twin.stopLatch) : Stays s { s with twin := x0 } :=
  Stays.set (t := s) h_twin rfl (Stays.refl s)
theorem stay_set_tally_permits (s : State) (x0 : Tally) (x1 : Permits) (h_permits : x1.po = s.permits.po) : Stays s { s with tally := x0, permits := x1 } :=
  Stays.set (t := s) rfl h_permits (Stays.refl s)
theorem stay_set_twin_recd (s : State) (x0 : Twin) (x1 : Recorder) (h_twin : x0.stopLatch = s.twin.stopLatch) : Stays s { s with twin := x0, recd := x1 } :=
  Stays.set (t := s) h_twin rfl (Stays.refl s)
theorem stay_set_power_twin (s : State) (x0 : Power) (x1 : Twin) (h_twin : x1.stopLatch = s.twin.stopLatch) : Stays s { s with power := x0, twin := x1 } :=
  Stays.set (t := s) h_twin rfl (Stays.refl s)
theorem stay_set_ch_head_sect_permits_engine (s : State) (x0 : Tab 64 Channel) (x1 : Tab 32 Head) (x2 : Tab 48 Section) (x3 : Permits) (x4 : Engine) (h_permits : x3.po = s.permits.po) : Stays s { s with ch := x0, head := x1, sect := x2, permits := x3, engine := x4 } :=
  Stays.set (t := s) rfl h_permits (Stays.refl s)
theorem stay_set_power_term_twin (s : State) (x0 : Power) (x1 : Terminals) (x2 : Twin) (h_twin : x2.stopLatch = s.twin.stopLatch) : Stays s { s with power := x0, term := x1, twin := x2 } :=
  Stays.set (t := s) h_twin rfl (Stays.refl s)
theorem stay_set_bell_tally_trk_permits_engine_recd (s : State) (x0 : Bell) (x1 : Tally) (x2 : Tracker) (x3 : Permits) (x4 : Engine) (x5 : Recorder) (h_permits : x3.po = s.permits.po) : Stays s { s with bell := x0, tally := x1, trk := x2, permits := x3, engine := x4, recd := x5 } :=
  Stays.set (t := s) rfl h_permits (Stays.refl s)

theorem stay_permitsHighz (s : State) : Stays s s.permitsHighz := by
  constructor; intro _ _ p
  rw [highz_all]; exact ⟨rfl, rfl⟩

theorem stay_stopLatch (s : State) (c : Nat) (g : Option (BitVec 32 × BitVec 32)) : Stays s (s.stopLatch c g) := by
  unfold State.stopLatch
  dsimp only
  split
  · exact stay_set_twin s _ rfl
  · constructor; intro _ _ p
    rw [highz_all]; exact ⟨rfl, rfl⟩

theorem stay_permitsLow (s : State) : Stays s s.permitsLow := by
  constructor; intro hs hl p
  obtain ⟨h1, h2⟩ := hs hl p
  have : (s.permitsLow.permits.po.get p) = permitStalled s.now (s.permits.po.get p) := by
    show (Vector.map (permitStalled s.now) s.permits.po)[p.val] = _
    simp [Tab.get]; rfl
  rw [this]
  unfold permitStalled
  rw [h1]
  exact ⟨h1, h2⟩

theorem permitTakes_highz (now : Nat) (e : Bool) (r : Refresh) (p : Fin 16) (x : Permit) (h1 : x.st = .highz)
    (h2 : x.out = .highz) : (permitTakes now e r p x).st = .highz ∧ (permitTakes now e r p x).out = .highz := by
  unfold permitTakes permitRefresh permitForceLow
  split <;> simp [h1, h2]

theorem stay_applyRefresh (s : State) (r : Refresh) : Stays s (s.applyRefresh r) := by
  unfold State.applyRefresh
  extract_lets u
  have h : Stays s u := Stays.foldl (fun acc p => Stays.ite
    (fun _ => Stays.updPermit (Stays.refl acc) (fun x h1 h2 => permitTakes_highz _ _ r p x h1 h2))
    (fun _ => Stays.refl acc)) (Stays.refl s) _
  clear_value u
  exact h.trans (stay_set_permits u _ rfl)

theorem stay_permitOutputs (s : State) (m : BitVec 16) : Stays s (s.permitOutputs m) := by
  unfold State.permitOutputs
  split
  · exact Stays.refl _
  · rename_i h
    constructor; intro _ hl
    exfalso; apply h; rw [← hl]
    have : ∀ (xs : List (Fin 16)) (u : State), (xs.foldl (fun acc p => acc.updPermit p (permitActivated (m.getLsbD p.val) acc.now)) u).twin = u.twin := by
      intro xs; induction xs with
      | nil => intro u; rfl
      | cons x xs ih => intro u; exact (ih _).trans rfl
    rw [this]

theorem stay_holdPermit (s : State) (w : PermitWrite) :
    Stays s (State.holdPermit s w) := by
  unfold State.holdPermit
  repeat (first
    | with_reducible exact Stays.refl _
    | with_reducible apply Stays.ite
    | intro _
    | ((with_reducible apply Stays.app (stay_set_twin (h_twin := ?htwin) ..)); (case htwin => rfl)))

theorem stay_unlockUnassigned (s : State) : Stays s s.unlockUnassigned := by
  unfold State.unlockUnassigned
  refine Stays.foldl (fun acc p => Stays.updPermit (Stays.refl acc) (fun x h1 h2 => ?_)) (Stays.refl s) _
  unfold permitUnlocked
  split <;> exact ⟨h1, h2⟩

theorem stay_permitActivate (s : State) :
    Stays s (State.permitActivate s) := by
  unfold State.permitActivate
  repeat (first
    | with_reducible exact Stays.refl _
    | with_reducible apply Stays.app (stay_holdPermit ..)
    | with_reducible apply Stays.app (stay_unlockUnassigned ..)
    | intro _)

theorem stay_lockOut (s : State) (mask : BitVec 16) (cause : BitVec 4) :
    Stays s (State.lockOut s mask cause) := by
  unfold State.lockOut
  repeat (first
    | with_reducible exact Stays.refl _
    | with_reducible apply Stays.foldl
    | ((with_reducible apply Stays.updPermit); (case hf => intro x h1 h2; first | exact ⟨h1, h2⟩ | (unfold permitRefresh permitForceLow; simp [h1, h2]; done) | (simp [h1, h2]; done) | (unfold permitRefresh permitForceLow; simp only [h1]; split <;> exact ⟨h1, h2⟩)| (simp [permitEdge, h1, h2]; done)))
    | with_reducible apply Stays.ite
    | intro _)

theorem stay_lockReadback (s : State) (q : Fin 16) :
    Stays s (State.lockReadback s q) := by
  unfold State.lockReadback
  dsimp only
  repeat (first
    | with_reducible exact Stays.refl _
    | with_reducible apply Stays.foldl
    | ((with_reducible apply Stays.updPermit); (case hf => intro x h1 h2; first | exact ⟨h1, h2⟩ | (unfold permitRefresh permitForceLow; simp [h1, h2]; done) | (simp [h1, h2]; done) | (unfold permitRefresh permitForceLow; simp only [h1]; split <;> exact ⟨h1, h2⟩)| (simp [permitEdge, h1, h2]; done)))
    | with_reducible apply Stays.ite
    | intro _)

theorem stay_lockRemove (s : State) :
    Stays s (State.lockRemove s) := by
  unfold State.lockRemove
  dsimp only
  repeat (first
    | with_reducible exact Stays.refl _
    | with_reducible apply Stays.foldl
    | ((with_reducible apply Stays.updPermit); (case hf => intro x h1 h2; first | exact ⟨h1, h2⟩ | (unfold permitRefresh permitForceLow; simp [h1, h2]; done) | (simp [h1, h2]; done) | (unfold permitRefresh permitForceLow; simp only [h1]; split <;> exact ⟨h1, h2⟩)| (simp [permitEdge, h1, h2]; done)))
    | with_reducible apply Stays.ite
    | intro _)

theorem stay_permitRecord (s : State) (r : Refresh) (p : Fin 16) :
    Stays s (State.permitRecord s r p) := by
  unfold State.permitRecord
  dsimp only
  repeat (first
    | with_reducible exact Stays.refl _
    | ((with_reducible apply Stays.app (Stays.of_keeps (keeps_record ..) ?h1 ?h2)); (case h1 => decide); (case h2 => decide))
    | ((with_reducible apply Stays.updPermit); (case hf => intro x h1 h2; first | exact ⟨h1, h2⟩ | (unfold permitRefresh permitForceLow; simp [h1, h2]; done) | (simp [h1, h2]; done) | (unfold permitRefresh permitForceLow; simp only [h1]; split <;> exact ⟨h1, h2⟩)| (simp [permitEdge, h1, h2]; done)))
    | with_reducible apply Stays.ite
    | intro _)

theorem stay_permitRecords (s : State) (r : Refresh) :
    Stays s (State.permitRecords s r) := by
  unfold State.permitRecords
  repeat (first
    | with_reducible exact Stays.refl _
    | with_reducible apply Stays.foldl
    | with_reducible apply Stays.app (stay_permitRecord ..)
    | intro _)

theorem stay_permitDueEdge (p : Fin 16) (s : State) :
    Stays s (permitDueEdge p s) := by
  unfold permitDueEdge
  dsimp only
  repeat (first
    | with_reducible exact Stays.refl _
    | ((with_reducible apply Stays.app (Stays.of_keeps (keeps_reach ..) ?h1 ?h2)); (case h1 => decide); (case h2 => decide))
    | ((with_reducible apply Stays.updPermit); (case hf => intro x h1 h2; first | exact ⟨h1, h2⟩ | (unfold permitRefresh permitForceLow; simp [h1, h2]; done) | (simp [h1, h2]; done) | (unfold permitRefresh permitForceLow; simp only [h1]; split <;> exact ⟨h1, h2⟩)| (simp [permitEdge, h1, h2]; done)))
    | intro _)

theorem stay_dropElapsed (p : Fin 16) (s : State) : Stays s (dropElapsed p s) := by
  constructor
  intro hs hl
  have ht : (dropElapsed p s).twin = s.twin := (keeps_dropElapsed p s).same .twin (by decide)
  have hp : (s.permits.po.get p).st = .highz := (hs (by rw [← ht]; exact hl) p).1
  have he : dropElapsed p s = s := by
    unfold dropElapsed
    exact if_neg (by rw [hp]; exact Bool.false_ne_true)
  rw [he]
  exact hs (by rw [← ht]; exact hl)

theorem stay_readbackSample (p : Fin 16) (level : Bool) (s : State) :
    Stays s (readbackSample p level s) := by
  unfold readbackSample
  dsimp only
  repeat (first
    | with_reducible exact Stays.refl _
    | ((with_reducible apply Stays.app (Stays.of_keeps (keeps_reach ..) ?h1 ?h2)); (case h1 => decide); (case h2 => decide))
    | ((with_reducible apply Stays.updPermit); (case hf => intro x h1 h2; first | exact ⟨h1, h2⟩ | (unfold permitRefresh permitForceLow; simp [h1, h2]; done) | (simp [h1, h2]; done) | (unfold permitRefresh permitForceLow; simp only [h1]; split <;> exact ⟨h1, h2⟩)| (simp [permitEdge, h1, h2]; done)))
    | with_reducible apply Stays.ite
    | intro _
    | split
    | ((with_reducible apply Stays.app (stay_set_permits (h_permits := ?hpermits) ..)); (case hpermits => rfl)))

theorem stay_readbackFault (p : Fin 16) (s : State) :
    Stays s (readbackFault p s) := by
  unfold readbackFault
  dsimp only
  repeat (first
    | with_reducible exact Stays.refl _
    | ((with_reducible apply Stays.updPermit); (case hf => intro x h1 h2; first | exact ⟨h1, h2⟩ | (unfold permitRefresh permitForceLow; simp [h1, h2]; done) | (simp [h1, h2]; done) | (unfold permitRefresh permitForceLow; simp only [h1]; split <;> exact ⟨h1, h2⟩)| (simp [permitEdge, h1, h2]; done)))
    | with_reducible apply Stays.ite
    | intro _
    | ((with_reducible apply Stays.app (stay_set_tally_permits (h_permits := ?hpermits) ..)); (case hpermits => rfl)))

theorem stay_tallyStall (s : State) : Stays s (tallyStall s) := by
  unfold tallyStall
  split
  · exact Stays.refl _
  · rename_i h
    extract_lets t
    have ht : t.twin = s.twin := State.reach_twin ..
    clear_value t
    constructor; intro _ hl
    have h' : s.twin.stopLatch = true := by rw [← ht]; exact hl
    exact absurd (by rw [h']; rfl) h

theorem stay_inhibitWrite (s : State) (v : Nat) :
    Stays s (State.inhibitWrite s v) := by
  unfold State.inhibitWrite
  repeat (first
    | with_reducible exact Stays.refl _
    | intro _
    | ((with_reducible apply Stays.app (stay_set_permits (h_permits := ?hpermits) ..)); (case hpermits => rfl)))

theorem stay_updAck (s : State) (f : Ack → Ack) :
    Stays s (State.updAck s f) := by
  unfold State.updAck
  repeat (first
    | with_reducible exact Stays.refl _
    | intro _
    | ((with_reducible apply Stays.app (stay_set_permits (h_permits := ?hpermits) ..)); (case hpermits => rfl)))

theorem stay_ackPress (s : State) :
    Stays s (ackPress s) := by
  unfold ackPress
  repeat (first
    | with_reducible exact Stays.refl _
    | with_reducible apply Stays.app (stay_updAck ..)
    | intro _
    | split)

theorem stay_setStuck (s : State) :
    Stays s (State.setStuck s) := by
  unfold State.setStuck
  repeat (first
    | with_reducible exact Stays.refl _
    | with_reducible apply Stays.app (stay_updAck ..)
    | ((with_reducible apply Stays.app (Stays.of_keeps (keeps_ackEvent ..) ?h1 ?h2)); (case h1 => decide); (case h2 => decide))
    | with_reducible apply Stays.ite
    | intro _)

theorem stay_ackRelease (s : State) :
    Stays s (ackRelease s) := by
  unfold ackRelease
  dsimp only
  repeat (first
    | with_reducible exact Stays.refl _
    | with_reducible apply Stays.app (stay_setStuck ..)
    | with_reducible apply Stays.app (stay_updAck ..)
    | ((with_reducible apply Stays.app (Stays.of_keeps (keeps_ackEvent ..) ?h1 ?h2)); (case h1 => decide); (case h2 => decide))
    | with_reducible apply Stays.ite
    | intro _
    | ((with_reducible apply Stays.app (Stays.of_keeps (keeps_set_tally ..) ?h1 ?h2)); (case h1 => decide); (case h2 => decide)))

theorem stay_ackEdge (pressed : Bool) (s : State) :
    Stays s (ackEdge pressed s) := by
  unfold ackEdge
  repeat (first
    | with_reducible exact Stays.refl _
    | with_reducible apply Stays.app (stay_ackRelease ..)
    | with_reducible apply Stays.app (stay_ackPress ..)
    | with_reducible apply Stays.ite
    | intro _)

theorem stay_ackStuckSet (s : State) :
    Stays s (ackStuckSet s) := by
  unfold ackStuckSet
  repeat (first
    | with_reducible exact Stays.refl _
    | with_reducible apply Stays.app (stay_setStuck ..)
    | ((with_reducible apply Stays.app (Stays.of_keeps (keeps_reach ..) ?h1 ?h2)); (case h1 => decide); (case h2 => decide))
    | with_reducible apply Stays.ite
    | intro _)

theorem stay_ackHighQualified (s : State) :
    Stays s (ackHighQualified s) := by
  unfold ackHighQualified
  dsimp only
  repeat (first
    | with_reducible exact Stays.refl _
    | with_reducible apply Stays.app (stay_updAck ..)
    | ((with_reducible apply Stays.app (Stays.of_keeps (keeps_reach ..) ?h1 ?h2)); (case h1 => decide); (case h2 => decide))
    | ((with_reducible apply Stays.app (Stays.of_keeps (keeps_ackEvent ..) ?h1 ?h2)); (case h1 => decide); (case h2 => decide))
    | with_reducible apply Stays.ite
    | intro _
    | split)

theorem stay_ackArmExpiry (s : State) :
    Stays s (ackArmExpiry s) := by
  unfold ackArmExpiry
  repeat (first
    | with_reducible exact Stays.refl _
    | with_reducible apply Stays.app (stay_updAck ..)
    | ((with_reducible apply Stays.app (Stays.of_keeps (keeps_reach ..) ?h1 ?h2)); (case h1 => decide); (case h2 => decide))
    | ((with_reducible apply Stays.app (Stays.of_keeps (keeps_ackEvent ..) ?h1 ?h2)); (case h1 => decide); (case h2 => decide))
    | intro _
    | split)

theorem stay_takeArm (s : State) (x : ArmIn) :
    Stays s (State.takeArm s x) := by
  unfold State.takeArm
  repeat (first
    | with_reducible exact Stays.refl _
    | with_reducible apply Stays.app (stay_updAck ..)
    | ((with_reducible apply Stays.app (Stays.of_keeps (keeps_ackEvent ..) ?h1 ?h2)); (case h1 => decide); (case h2 => decide))
    | with_reducible apply Stays.ite
    | intro _
    | split)

theorem stay_armLost (s : State) (o : Origin) :
    Stays s (State.armLost s o) := by
  unfold State.armLost
  dsimp only
  repeat (first
    | with_reducible exact Stays.refl _
    | with_reducible apply Stays.foldl
    | with_reducible apply Stays.app (stay_updAck ..)
    | ((with_reducible apply Stays.app (Stays.of_keeps (keeps_ackEvent ..) ?h1 ?h2)); (case h1 => decide); (case h2 => decide))
    | with_reducible apply Stays.ite
    | intro _
    | split
    | ((with_reducible apply Stays.app (Stays.of_keeps (keeps_set_tally ..) ?h1 ?h2)); (case h1 => decide); (case h2 => decide)))

theorem stay_takePermitWrites (s : State) :
    Stays s (State.takePermitWrites s) := by
  unfold State.takePermitWrites
  dsimp only
  repeat (first
    | with_reducible exact Stays.refl _
    | with_reducible apply Stays.foldl
    | with_reducible apply Stays.app (stay_takeArm ..)
    | with_reducible apply Stays.app (stay_lockOut ..)
    | intro _
    | ((with_reducible apply Stays.app (Stays.of_keeps (keeps_set_tally ..) ?h1 ?h2)); (case h1 => decide); (case h2 => decide)))

theorem stay_restorePhase (s : State) :
    Stays s (State.restorePhase s) := by
  unfold State.restorePhase
  dsimp only
  repeat (first
    | with_reducible exact Stays.refl _
    | with_reducible apply Stays.foldl
    | with_reducible apply Stays.app (stay_lockRemove ..)
    | ((with_reducible apply Stays.app (Stays.of_keeps (keeps_judgeRestore ..) ?h1 ?h2)); (case h1 => decide); (case h2 => decide))
    | with_reducible apply Stays.ite
    | intro _
    | ((with_reducible apply Stays.app (Stays.of_keeps (keeps_set_tally ..) ?h1 ?h2)); (case h1 => decide); (case h2 => decide)))

theorem stay_lockPhase (s : State) (trip : Bool) :
    Stays s (State.lockPhase s trip) := by
  unfold State.lockPhase
  dsimp only
  repeat (first
    | with_reducible exact Stays.refl _
    | with_reducible apply Stays.foldl
    | with_reducible apply Stays.app (stay_lockReadback ..)
    | with_reducible apply Stays.app (stay_lockOut ..)
    | with_reducible apply Stays.ite
    | intro _)

theorem stay_refreshPhase (s : State) (trip : Bool) :
    Stays s (State.refreshPhase s trip) := by
  unfold State.refreshPhase
  dsimp only
  repeat (first
    | with_reducible exact Stays.refl _
    | with_reducible apply Stays.app (stay_lockPhase ..)
    | with_reducible apply Stays.app (stay_permitRecords ..)
    | with_reducible apply Stays.app (stay_holdPermit ..)
    | intro _
    | ((with_reducible apply Stays.app (Stays.of_keeps (keeps_set_tally ..) ?h1 ?h2)); (case h1 => decide); (case h2 => decide)))

theorem stay_tallyTake (s : State) (temp : Int) :
    Stays s (State.tallyTake s temp) := by
  unfold State.tallyTake
  dsimp only
  repeat (first
    | with_reducible exact Stays.refl _
    | with_reducible apply Stays.foldl
    | ((with_reducible apply Stays.app (Stays.of_keeps (keeps_takeItem ..) ?h1 ?h2)); (case h1 => decide); (case h2 => decide))
    | ((with_reducible apply Stays.app (Stays.of_keeps (keeps_takeHeads ..) ?h1 ?h2)); (case h1 => decide); (case h2 => decide))
    | ((with_reducible apply Stays.app (Stays.of_keeps (keeps_takeRestore ..) ?h1 ?h2)); (case h1 => decide); (case h2 => decide))
    | ((with_reducible apply Stays.app (Stays.of_keeps (keeps_takeDisturb ..) ?h1 ?h2)); (case h1 => decide); (case h2 => decide))
    | ((with_reducible apply Stays.app (Stays.of_keeps (keeps_takeThermal ..) ?h1 ?h2)); (case h1 => decide); (case h2 => decide))
    | ((with_reducible apply Stays.app (Stays.of_keeps (keeps_guardCycle ..) ?h1 ?h2)); (case h1 => decide); (case h2 => decide))
    | ((with_reducible apply Stays.app (Stays.of_keeps (keeps_countPhase ..) ?h1 ?h2)); (case h1 => decide); (case h2 => decide))
    | with_reducible apply Stays.app (stay_takePermitWrites ..)
    | intro _
    | ((with_reducible apply Stays.app (Stays.of_keeps (keeps_set_sect ..) ?h1 ?h2)); (case h1 => decide); (case h2 => decide))
    | ((with_reducible apply Stays.app (Stays.of_keeps (keeps_set_tally ..) ?h1 ?h2)); (case h1 => decide); (case h2 => decide)))

theorem stay_tallyPublish (s : State) (l : List TallyItem) (trip : Bool) :
    Stays s (State.tallyPublish s l trip) := by
  unfold State.tallyPublish
  dsimp only
  repeat (first
    | with_reducible exact Stays.refl _
    | with_reducible apply Stays.foldl
    | ((with_reducible apply Stays.app (Stays.of_keeps (keeps_sectionRecords ..) ?h1 ?h2)); (case h1 => decide); (case h2 => decide))
    | ((with_reducible apply Stays.app (Stays.of_keeps (keeps_publish ..) ?h1 ?h2)); (case h1 => decide); (case h2 => decide))
    | with_reducible apply Stays.app (stay_refreshPhase ..)
    | ((with_reducible apply Stays.app (Stays.of_keeps (keeps_provLoads ..) ?h1 ?h2)); (case h1 => decide); (case h2 => decide))
    | ((with_reducible apply Stays.app (Stays.of_keeps (keeps_noteHeadDist ..) ?h1 ?h2)); (case h1 => decide); (case h2 => decide))
    | ((with_reducible apply Stays.app (Stays.of_keeps (keeps_headRecords ..) ?h1 ?h2)); (case h1 => decide); (case h2 => decide))
    | ((with_reducible apply Stays.app (Stays.of_keeps (keeps_trackRecords ..) ?h1 ?h2)); (case h1 => decide); (case h2 => decide))
    | ((with_reducible apply Stays.app (Stays.of_keeps (keeps_ackRecords ..) ?h1 ?h2)); (case h1 => decide); (case h2 => decide))
    | intro _
    | ((with_reducible apply Stays.app (Stays.of_keeps (keeps_set_sect ..) ?h1 ?h2)); (case h1 => decide); (case h2 => decide)))

theorem stay_tallyCycle (temp : Int) (s : State) : Stays s (tallyCycle temp s) := by
  unfold tallyCycle
  extract_lets t s0 _ s1 trip0 s2 s3
  clear_value t
  have h0 : Stays s s0 := Stays.of_keeps (keeps_reach ..) (by decide) (by decide)
  have h1 : Stays s s1 := h0.trans (Stays.of_keeps (keeps_set_tally s0 { s0.tally with startAt := t }) (by decide) (by decide))
  have h2 : Stays s s2 := h1.trans (stay_tallyTake s1 temp)
  have h3 : Stays s s3 := (h2.trans (stay_restorePhase s2)).trans (Stays.of_keeps (keeps_evaluateAll _) (by decide) (by decide))
  exact h3.trans (stay_tallyPublish ..)

theorem stay_checkStages (s : State) :
    Stays s (State.checkStages s) := by
  unfold State.checkStages
  repeat (first
    | with_reducible exact Stays.refl _
    | with_reducible apply Stays.app (stay_stopLatch ..)
    | with_reducible apply Stays.ite
    | intro _)

theorem stay_applyPermitWrite (s : State) (w : PermitWrite) :
    Stays s (State.applyPermitWrite s w) := by
  unfold State.applyPermitWrite
  repeat (first
    | with_reducible exact Stays.refl _
    | with_reducible apply Stays.app (stay_applyRefresh ..)
    | with_reducible apply Stays.app (stay_permitOutputs ..)
    | intro _
    | split)

theorem stay_reevePass (s : State) (n : Nat) : Stays s (s.reevePass n) := by
  unfold State.reevePass
  extract_lets u
  have h : Stays s u := Stays.foldl (fun acc x => stay_applyPermitWrite ..) (Stays.refl s) _
  clear_value u
  exact h.trans (stay_set_twin u _ rfl)

theorem stay_windowDone (s : State) (n : Nat) :
    Stays s (State.windowDone s n) := by
  unfold State.windowDone
  dsimp only
  repeat (first
    | with_reducible exact Stays.refl _
    | with_reducible apply Stays.ite
    | intro _
    | ((with_reducible apply Stays.app (stay_set_twin (h_twin := ?htwin) ..)); (case htwin => rfl)))

theorem stay_reeveCompare (a : CoreWindow) (b : CoreWindow) (delay0 : BitVec 224) (delay1 : BitVec 224) (s : State) :
    Stays s (reeveCompare a b delay0 delay1 s) := by
  unfold reeveCompare
  dsimp only
  repeat (first
    | with_reducible exact Stays.refl _
    | with_reducible apply Stays.app (stay_reevePass ..)
    | with_reducible apply Stays.app (stay_windowDone ..)
    | with_reducible apply Stays.app (stay_stopLatch ..)
    | ((with_reducible apply Stays.app (Stays.of_keeps (keeps_reach ..) ?h1 ?h2)); (case h1 => decide); (case h2 => decide))
    | with_reducible apply Stays.elim
    | with_reducible apply Stays.ite
    | intro _
    | split
    | ((with_reducible apply Stays.app (stay_set_twin (h_twin := ?htwin) ..)); (case htwin => rfl)))

theorem stay_delayParityError (second : Bool) (data : BitVec 224) (parity : BitVec 28) (s : State) :
    Stays s (delayParityError second data parity s) := by
  unfold delayParityError
  have h : Stays s { s with twin :=
      if second then { s.twin with delay1 := ⟨data, parity⟩ } else { s.twin with delay0 := ⟨data, parity⟩ } } :=
    stay_set_twin s _ (by cases second <;> rfl)
  exact h.trans (stay_checkStages _)

theorem stay_eccDouble (s : State) (cause : Nat) :
    Stays s (State.eccDouble s cause) := by
  unfold State.eccDouble
  dsimp only
  repeat (first
    | with_reducible exact Stays.refl _
    | with_reducible apply Stays.app (stay_stopLatch ..)
    | with_reducible apply Stays.ite
    | intro _
    | ((with_reducible apply Stays.app (Stays.of_keeps (keeps_set_recd ..) ?h1 ?h2)); (case h1 => decide); (case h2 => decide)))

theorem stay_sramWord (s : State) (word : Nat) (x : BitVec 39) : Stays s (s.sramWord word x) :=
  Stays.set (t := s) rfl rfl (Stays.refl s)

theorem stay_sramFault (s : State) (word : Nat) :
    Stays s (State.sramFault s word) := by
  unfold State.sramFault
  repeat (first
    | with_reducible exact Stays.refl _
    | with_reducible apply Stays.app (stay_eccDouble ..)
    | with_reducible apply Stays.ite
    | intro _)

theorem stay_coreRead (s : State) (w : BitVec 32) : Stays s (s.coreRead w) :=
  Stays.set (t := s.checkStages) rfl rfl (stay_checkStages s)

theorem stay_sramRead (s : State) (word : Nat) :
    Stays s (State.sramRead s word) := by
  unfold State.sramRead
  repeat (first
    | with_reducible exact Stays.refl _
    | with_reducible apply Stays.app (stay_coreRead ..)
    | with_reducible apply Stays.app (stay_sramFault ..)
    | intro _)

theorem stay_flashWord (s : State) (p : FlashPlace) (x : BitVec 39) : Stays s (s.flashWord p x) := by
  cases p <;> exact Stays.set (t := s) rfl rfl (Stays.refl s)

theorem stay_flashCorrected (s : State) (p : FlashPlace) : Stays s (s.flashCorrected p) :=
  Stays.set (t := s) rfl rfl (Stays.refl s)

theorem stay_flashFault (s : State) (p : FlashPlace) :
    Stays s (State.flashFault s p) := by
  unfold State.flashFault
  repeat (first
    | with_reducible exact Stays.refl _
    | with_reducible apply Stays.app (stay_eccDouble ..)
    | with_reducible apply Stays.ite
    | intro _)

theorem scrubNext_stopLatch (t : Twin) : (scrubNext t).stopLatch = t.stopLatch := by
  unfold scrubNext
  split <;> rfl

theorem stay_scrubNext (s : State) : Stays s s.scrubNext := stay_set_twin s _ (scrubNext_stopLatch _)

theorem stay_scrubRead (r : MemRead) (s : State) : Stays s (scrubRead r s) := by
  unfold scrubRead
  cases r with
  | clean => exact (stay_sramFault ..).trans (stay_scrubNext _)
  | coreAccess reads => cases reads with
    | true => exact stay_sramRead ..
    | false => exact Stays.refl _
  | single => exact stay_set_twin s _ ((scrubNext_stopLatch _).trans rfl)
  | singleThenStore mask data => exact stay_set_twin s _ ((scrubNext_stopLatch _).trans rfl)
  | double x => exact ((stay_sramWord s _ x).trans (stay_eccDouble _ 2)).trans (stay_scrubNext _)
  | coreClean a => exact stay_sramRead ..
  | coreSingle a => exact Stays.trans (stay_set_twin s (sramCorrected s.twin a.toNat) rfl) (stay_coreRead ..)
  | coreDouble a x => exact ((stay_sramWord s _ x).trans (stay_coreRead ..)).trans (stay_eccDouble ..)
  | flashClean p => exact (stay_coreRead ..).trans (stay_flashFault ..)
  | flashSingle p => exact (stay_flashCorrected s p).trans (stay_coreRead ..)
  | flashDouble p x => exact ((stay_flashWord s p x).trans (stay_coreRead ..)).trans (stay_eccDouble ..)

theorem stay_pulseTimeout (s : State) :
    Stays s (pulseTimeout s) := by
  unfold pulseTimeout
  repeat (first
    | with_reducible exact Stays.refl _
    | with_reducible apply Stays.app (stay_stopLatch ..)
    | ((with_reducible apply Stays.app (Stays.of_keeps (keeps_reach ..) ?h1 ?h2)); (case h1 => decide); (case h2 => decide))
    | with_reducible apply Stays.ite
    | intro _)

theorem stay_debugRequest (trstnHigh : Bool) (s : State) :
    Stays s (debugRequest trstnHigh s) := by
  unfold debugRequest
  dsimp only
  repeat (first
    | with_reducible exact Stays.refl _
    | ((with_reducible apply Stays.app (Stays.of_keeps (keeps_draw ..) ?h1 ?h2)); (case h1 => decide); (case h2 => decide))
    | with_reducible apply Stays.app (stay_checkStages ..)
    | with_reducible apply Stays.app (stay_stopLatch ..)
    | with_reducible apply Stays.ite
    | intro _
    | ((with_reducible apply Stays.app (stay_set_power_twin (h_twin := ?htwin) ..)); (case htwin => rfl))
    | ((with_reducible apply Stays.app (stay_set_twin (h_twin := ?htwin) ..)); (case htwin => rfl)))

theorem stay_stopTestWrite (s : State) :
    Stays s (State.stopTestWrite s) := by
  unfold State.stopTestWrite
  dsimp only
  repeat (first
    | with_reducible exact Stays.refl _
    | with_reducible apply Stays.ite
    | intro _
    | ((with_reducible apply Stays.app (stay_set_twin (h_twin := ?htwin) ..)); (case htwin => rfl)))

theorem stay_activateAll (s : State) (old : CfgMap) :
    Stays s (State.activateAll s old) := by
  unfold State.activateAll
  dsimp only
  repeat (first
    | with_reducible exact Stays.refl _
    | with_reducible apply Stays.foldl
    | ((with_reducible apply Stays.app (Stays.of_keeps (keeps_wreActivate ..) ?h1 ?h2)); (case h1 => decide); (case h2 => decide))
    | ((with_reducible apply Stays.app (Stays.of_keeps (keeps_trackerActivate ..) ?h1 ?h2)); (case h1 => decide); (case h2 => decide))
    | ((with_reducible apply Stays.app (Stays.of_keeps (keeps_excActivate ..) ?h1 ?h2)); (case h1 => decide); (case h2 => decide))
    | ((with_reducible apply Stays.app (Stays.of_keeps (keeps_channelActivate ..) ?h1 ?h2)); (case h1 => decide); (case h2 => decide))
    | with_reducible apply Stays.app (stay_permitActivate ..)
    | ((with_reducible apply Stays.app (Stays.of_keeps (keeps_bellActivate ..) ?h1 ?h2)); (case h1 => decide); (case h2 => decide))
    | ((with_reducible apply Stays.app (Stays.of_keeps (keeps_guardActivate ..) ?h1 ?h2)); (case h1 => decide); (case h2 => decide))
    | ((with_reducible apply Stays.app (Stays.of_keeps (keeps_tallyActivate ..) ?h1 ?h2)); (case h1 => decide); (case h2 => decide))
    | ((with_reducible apply Stays.app (Stays.of_keeps (keeps_engineActivate ..) ?h1 ?h2)); (case h1 => decide); (case h2 => decide))
    | ((with_reducible apply Stays.app (Stays.of_keeps (keeps_switchSense ..) ?h1 ?h2)); (case h1 => decide); (case h2 => decide))
    | intro _)

theorem stay_activationEffect (programOk : Bool) (s : State) :
    Stays s (activationEffect programOk s) := by
  unfold activationEffect
  dsimp only
  repeat (first
    | with_reducible exact Stays.refl _
    | with_reducible apply Stays.app (stay_activateAll ..)
    | ((with_reducible apply Stays.app (Stays.of_keeps (keeps_configRecord ..) ?h1 ?h2)); (case h1 => decide); (case h2 => decide))
    | ((with_reducible apply Stays.app (Stays.of_keeps (keeps_reach ..) ?h1 ?h2)); (case h1 => decide); (case h2 => decide))
    | with_reducible apply Stays.ite
    | intro _
    | ((with_reducible apply Stays.app (Stays.of_keeps (keeps_set_cfg ..) ?h1 ?h2)); (case h1 => decide); (case h2 => decide)))

theorem stay_dropSession (s : State) (o : Origin) :
    Stays s (State.dropSession s o) := by
  unfold State.dropSession
  dsimp only
  repeat (first
    | with_reducible exact Stays.refl _
    | with_reducible apply Stays.app (stay_armLost ..)
    | intro _
    | ((with_reducible apply Stays.app (Stays.of_keeps (keeps_set_tally_net_held_xfer ..) ?h1 ?h2)); (case h1 => decide); (case h2 => decide)))

theorem stay_endSession (s : State) (k : Fin 4) :
    Stays s (State.endSession s k) := by
  unfold State.endSession
  repeat (first
    | with_reducible exact Stays.refl _
    | with_reducible apply Stays.app (stay_dropSession ..)
    | ((with_reducible apply Stays.app (Stays.of_keeps (keeps_putSession ..) ?h1 ?h2)); (case h1 => decide); (case h2 => decide))
    | ((with_reducible apply Stays.app (Stays.of_keeps (keeps_sessionRecord ..) ?h1 ?h2)); (case h1 => decide); (case h2 => decide))
    | intro _
    | split)

theorem stay_endCanSessions (s : State) (p : CanPort) :
    Stays s (State.endCanSessions s p) := by
  unfold State.endCanSessions
  repeat (first
    | with_reducible exact Stays.refl _
    | with_reducible apply Stays.foldl
    | with_reducible apply Stays.app (stay_endSession ..)
    | with_reducible apply Stays.ite
    | intro _
    | split)

theorem stay_openTakeover (h : Hdr) (target : Nat) (s : State) :
    Stays s (openTakeover h target s) := by
  unfold openTakeover
  dsimp only
  repeat (first
    | with_reducible exact Stays.refl _
    | ((with_reducible apply Stays.app (Stays.of_keeps (keeps_openAt ..) ?h1 ?h2)); (case h1 => decide); (case h2 => decide))
    | ((with_reducible apply Stays.app (Stays.of_keeps (keeps_resend ..) ?h1 ?h2)); (case h1 => decide); (case h2 => decide))
    | ((with_reducible apply Stays.app (Stays.of_keeps (keeps_reply ..) ?h1 ?h2)); (case h1 => decide); (case h2 => decide))
    | with_reducible apply Stays.app (stay_endSession ..)
    | with_reducible apply Stays.ite
    | intro _
    | split)

theorem Stays.request {s : State} {h : Hdr} {typ : Nat} {f : Fin 4 → State → State}
    (hf : ∀ k u, Stays u (f k u)) : Stays s (s.request h typ f) := by
  unfold State.request
  dsimp only
  have r (u : State) (ref st : Nat) (b : List Byte) : Stays u (u.reply h typ ref st b) :=
    Stays.of_keeps (keeps_reply ..) (by decide) (by decide)
  have us (u : State) (k : Fin 4) (e : Session → Session) : Stays u (u.updSession k e) :=
    Stays.of_keeps (keeps_updSession ..) (by decide) (by decide)
  have rs (u : State) (k : Fin 4) : Stays u (u.resend k) := Stays.of_keeps (keeps_resend ..) (by decide) (by decide)
  have ce (u : State) (p : PortId) : Stays u (u.countSeqError p) :=
    Stays.of_keeps (keeps_countSeqError ..) (by decide) (by decide)
  split
  · split
    · exact r ..
    · split
      · exact Stays.refl _
      · split
        · split
          · exact (us ..).trans (r ..)
          · exact ((us ..).trans (us ..)).trans (hf ..)
        · split
          · split
            · exact us ..
            · exact (us ..).trans (rs ..)
          · exact ((us ..).trans (ce ..)).trans (r ..)
  · exact Stays.refl _

theorem stay_closeSession (h : Hdr) (s : State) : Stays s (closeSession h s) :=
  Stays.request (fun _ _ => (Stays.of_keeps (keeps_respond ..) (by decide) (by decide)).trans (stay_endSession ..))

theorem stay_sessionTimeout (k : Fin 4) (s : State) :
    Stays s (sessionTimeout k s) := by
  unfold sessionTimeout
  repeat (first
    | with_reducible exact Stays.refl _
    | ((with_reducible apply Stays.app (Stays.of_keeps (keeps_reach ..) ?h1 ?h2)); (case h1 => decide); (case h2 => decide))
    | with_reducible apply Stays.app (stay_endSession ..)
    | intro _
    | split)

theorem stay_nmtStop (p : CanPort) (s : State) :
    Stays s (nmtStop p s) := by
  unfold nmtStop
  repeat (first
    | with_reducible exact Stays.refl _
    | with_reducible apply Stays.app (stay_endCanSessions ..)
    | ((with_reducible apply Stays.app (Stays.of_keeps (keeps_setNmt ..) ?h1 ?h2)); (case h1 => decide); (case h2 => decide))
    | intro _)

theorem stay_nmtResetCommunication (p : CanPort) (s : State) :
    Stays s (nmtResetCommunication p s) := by
  unfold nmtResetCommunication
  dsimp only
  repeat (first
    | with_reducible exact Stays.refl _
    | with_reducible apply Stays.app (stay_endCanSessions ..)
    | ((with_reducible apply Stays.app (Stays.of_keeps (keeps_updCan ..) ?h1 ?h2)); (case h1 => decide); (case h2 => decide))
    | ((with_reducible apply Stays.app (Stays.of_keeps (keeps_busRejoin ..) ?h1 ?h2)); (case h1 => decide); (case h2 => decide))
    | ((with_reducible apply Stays.app (Stays.of_keeps (keeps_bootUp ..) ?h1 ?h2)); (case h1 => decide); (case h2 => decide))
    | with_reducible apply Stays.ite
    | intro _
    | ((with_reducible apply Stays.app (Stays.of_keeps (keeps_set_net_rpdoAt ..) ?h1 ?h2)); (case h1 => decide); (case h2 => decide)))

theorem stay_closeRequest (s : State) (k : Fin 4) :
    Stays s (State.closeRequest s k) := by
  unfold State.closeRequest
  dsimp only
  repeat (first
    | with_reducible exact Stays.refl _
    | ((with_reducible apply Stays.app (Stays.of_keeps (keeps_respond ..) ?h1 ?h2)); (case h1 => decide); (case h2 => decide))
    | ((with_reducible apply Stays.app (Stays.of_keeps (keeps_updSession ..) ?h1 ?h2)); (case h1 => decide); (case h2 => decide))
    | with_reducible apply Stays.app (stay_endSession ..)
    | with_reducible apply Stays.ite
    | intro _
    | split)

theorem stay_answerHeld (s : State) (w : HeldWrite) (abort : Nat) :
    Stays s (State.answerHeld s w abort) := by
  unfold State.answerHeld
  repeat (first
    | with_reducible exact Stays.refl _
    | ((with_reducible apply Stays.app (Stays.of_keeps (keeps_sdoAnswer ..) ?h1 ?h2)); (case h1 => decide); (case h2 => decide))
    | with_reducible apply Stays.app (stay_closeRequest ..)
    | ((with_reducible apply Stays.app (Stays.of_keeps (keeps_updSession ..) ?h1 ?h2)); (case h1 => decide); (case h2 => decide))
    | ((with_reducible apply Stays.app (Stays.of_keeps (keeps_say ..) ?h1 ?h2)); (case h1 => decide); (case h2 => decide))
    | with_reducible apply Stays.ite
    | intro _
    | split)

theorem stay_dropHeld (s : State) (w : HeldWrite) (abort : Nat) :
    Stays s (State.dropHeld s w abort) := by
  unfold State.dropHeld
  repeat (first
    | with_reducible exact Stays.refl _
    | ((with_reducible apply Stays.app (Stays.of_keeps (keeps_countBusy ..) ?h1 ?h2)); (case h1 => decide); (case h2 => decide))
    | with_reducible apply Stays.app (stay_answerHeld ..)
    | with_reducible apply Stays.ite
    | intro _)

theorem stay_refuseHeld (s : State) :
    Stays s (State.refuseHeld s) := by
  unfold State.refuseHeld
  dsimp only
  repeat (first
    | with_reducible exact Stays.refl _
    | with_reducible apply Stays.foldl
    | ((with_reducible apply Stays.app (Stays.of_keeps (keeps_sdoAnswer ..) ?h1 ?h2)); (case h1 => decide); (case h2 => decide))
    | ((with_reducible apply Stays.app (Stays.of_keeps (keeps_updSession ..) ?h1 ?h2)); (case h1 => decide); (case h2 => decide))
    | with_reducible apply Stays.app (stay_dropHeld ..)
    | with_reducible apply Stays.ite
    | intro _
    | split
    | ((with_reducible apply Stays.app (Stays.of_keeps (keeps_set_net_held ..) ?h1 ?h2)); (case h1 => decide); (case h2 => decide))
    | ((with_reducible apply Stays.app (Stays.of_keeps (keeps_set_net_xfer ..) ?h1 ?h2)); (case h1 => decide); (case h2 => decide)))

theorem stay_enterHandler (s : State) :
    Stays s (State.enterHandler s) := by
  unfold State.enterHandler
  dsimp only
  repeat (first
    | with_reducible exact Stays.refl _
    | with_reducible apply Stays.foldl
    | ((with_reducible apply Stays.app (Stays.of_keeps (keeps_fatalRecord ..) ?h1 ?h2)); (case h1 => decide); (case h2 => decide))
    | ((with_reducible apply Stays.app (Stays.of_keeps (keeps_recHandler ..) ?h1 ?h2)); (case h1 => decide); (case h2 => decide))
    | ((with_reducible apply Stays.app (Stays.of_keeps (keeps_stopAll ..) ?h1 ?h2)); (case h1 => decide); (case h2 => decide))
    | ((with_reducible apply Stays.app (Stays.of_keeps (keeps_updRec ..) ?h1 ?h2)); (case h1 => decide); (case h2 => decide))
    | ((with_reducible apply Stays.app (Stays.of_keeps (keeps_setNmt ..) ?h1 ?h2)); (case h1 => decide); (case h2 => decide))
    | with_reducible apply Stays.app (stay_refuseHeld ..)
    | ((with_reducible apply Stays.app (Stays.of_keeps (keeps_emergency ..) ?h1 ?h2)); (case h1 => decide); (case h2 => decide))
    | ((with_reducible apply Stays.app (Stays.of_keeps (keeps_dumpBegin ..) ?h1 ?h2)); (case h1 => decide); (case h2 => decide))
    | with_reducible apply Stays.ite
    | intro _
    | ((with_reducible apply Stays.app (stay_set_power_twin (h_twin := ?htwin) ..)); (case htwin => rfl))
    | ((with_reducible apply Stays.app (stay_set_twin (h_twin := ?htwin) ..)); (case htwin => rfl)))

theorem stay_fatalHandlerEntry (s : State) :
    Stays s (fatalHandlerEntry s) := by
  unfold fatalHandlerEntry
  repeat (first
    | with_reducible exact Stays.refl _
    | with_reducible apply Stays.app (stay_enterHandler ..)
    | with_reducible apply Stays.ite
    | intro _)

theorem stay_debugExit (s : State) :
    Stays s (debugExit s) := by
  unfold debugExit
  dsimp only
  repeat (first
    | with_reducible exact Stays.refl _
    | with_reducible apply Stays.app (stay_enterHandler ..)
    | with_reducible apply Stays.ite
    | intro _
    | ((with_reducible apply Stays.app (Stays.of_keeps (keeps_set_power ..) ?h1 ?h2)); (case h1 => decide); (case h2 => decide))
    | ((with_reducible apply Stays.app (stay_set_power_twin (h_twin := ?htwin) ..)); (case htwin => rfl))
    | ((with_reducible apply Stays.app (stay_set_twin (h_twin := ?htwin) ..)); (case htwin => rfl)))

theorem stay_volatileLost (s : State) (ph : Phase) : Stays s (s.volatileLost ph) := by
  constructor; intro _ h; cases h

theorem stay_enterReset (s : State) :
    Stays s (State.enterReset s) := by
  unfold State.enterReset
  dsimp only
  repeat (first
    | with_reducible exact Stays.refl _
    | with_reducible apply Stays.app (stay_volatileLost ..)
    | ((with_reducible apply Stays.app (Stays.of_keeps (keeps_excReset ..) ?h1 ?h2)); (case h1 => decide); (case h2 => decide))
    | with_reducible apply Stays.ite
    | intro _
    | ((with_reducible apply Stays.app (Stays.of_keeps (keeps_set_term ..) ?h1 ?h2)); (case h1 => decide); (case h2 => decide))
    | ((with_reducible apply Stays.app (stay_set_twin (h_twin := ?htwin) ..)); (case htwin => rfl)))

theorem stay_resetnLow (s : State) :
    Stays s (resetnLow s) := by
  unfold resetnLow
  dsimp only
  repeat (first
    | with_reducible exact Stays.refl _
    | with_reducible apply Stays.app (stay_enterReset ..)
    | ((with_reducible apply Stays.app (Stays.of_keeps (keeps_addLatch ..) ?h1 ?h2)); (case h1 => decide); (case h2 => decide))
    | ((with_reducible apply Stays.app (Stays.of_keeps (keeps_updPower ..) ?h1 ?h2)); (case h1 => decide); (case h2 => decide))
    | with_reducible apply Stays.ite
    | intro _)

theorem stay_latchLost (s : State) :
    Stays s (State.latchLost s) := by
  unfold State.latchLost
  dsimp only
  repeat (first
    | with_reducible exact Stays.refl _
    | with_reducible apply Stays.app (stay_volatileLost ..)
    | ((with_reducible apply Stays.app (Stays.of_keeps (keeps_updPower ..) ?h1 ?h2)); (case h1 => decide); (case h2 => decide))
    | intro _
    | ((with_reducible apply Stays.app (stay_set_twin (h_twin := ?htwin) ..)); (case htwin => rfl)))

theorem stay_brownout (r : RailDrop) (s : State) :
    Stays s (brownout r s) := by
  unfold brownout
  dsimp only
  repeat (first
    | with_reducible exact Stays.refl _
    | with_reducible apply Stays.app (stay_enterReset ..)
    | ((with_reducible apply Stays.app (Stays.of_keeps (keeps_addLatch ..) ?h1 ?h2)); (case h1 => decide); (case h2 => decide))
    | ((with_reducible apply Stays.app (Stays.of_keeps (keeps_switchesOpen ..) ?h1 ?h2)); (case h1 => decide); (case h2 => decide))
    | ((with_reducible apply Stays.app (Stays.of_keeps (keeps_updPower ..) ?h1 ?h2)); (case h1 => decide); (case h2 => decide))
    | with_reducible apply Stays.app (stay_latchLost ..)
    | with_reducible apply Stays.ite
    | intro _)

theorem stay_bootResources (s : State) :
    Stays s (State.bootResources s) := by
  unfold State.bootResources
  dsimp only
  repeat (first
    | with_reducible exact Stays.refl _
    | ((with_reducible apply Stays.app (Stays.of_keeps (keeps_noteRoom ..) ?h1 ?h2)); (case h1 => decide); (case h2 => decide))
    | with_reducible apply Stays.app (stay_permitOutputs ..)
    | intro _
    | ((with_reducible apply Stays.app (stay_set_ch_head_sect_permits_engine (h_permits := ?hpermits) ..)); (case hpermits => rfl)))

theorem stay_boot (s : State) :
    Stays s (State.boot s) := by
  unfold State.boot
  dsimp only
  repeat (first
    | with_reducible exact Stays.refl _
    | ((with_reducible apply Stays.app (Stays.of_keeps (keeps_startAll ..) ?h1 ?h2)); (case h1 => decide); (case h2 => decide))
    | ((with_reducible apply Stays.app (Stays.of_keeps (keeps_draw ..) ?h1 ?h2)); (case h1 => decide); (case h2 => decide))
    | ((with_reducible apply Stays.app (Stays.of_keeps (keeps_bellBoot ..) ?h1 ?h2)); (case h1 => decide); (case h2 => decide))
    | ((with_reducible apply Stays.app (Stays.of_keeps (keeps_guardActivate ..) ?h1 ?h2)); (case h1 => decide); (case h2 => decide))
    | ((with_reducible apply Stays.app (Stays.of_keeps (keeps_updRec ..) ?h1 ?h2)); (case h1 => decide); (case h2 => decide))
    | ((with_reducible apply Stays.app (Stays.of_keeps (keeps_phyReset ..) ?h1 ?h2)); (case h1 => decide); (case h2 => decide))
    | with_reducible apply Stays.app (stay_bootResources ..)
    | ((with_reducible apply Stays.app (Stays.of_keeps (keeps_reach ..) ?h1 ?h2)); (case h1 => decide); (case h2 => decide))
    | ((with_reducible apply Stays.app (Stays.of_keeps (keeps_bootPorts ..) ?h1 ?h2)); (case h1 => decide); (case h2 => decide))
    | intro _
    | ((with_reducible apply Stays.app (stay_set_bell_tally_trk_permits_engine_recd (h_permits := ?hpermits) ..)); (case hpermits => rfl))
    | ((with_reducible apply Stays.app (Stays.of_keeps (keeps_set_power_cfg ..) ?h1 ?h2)); (case h1 => decide); (case h2 => decide))
    | ((with_reducible apply Stays.app (stay_set_power_term_twin (h_twin := ?htwin) ..)); (case htwin => rfl)))

theorem stay_boot_command (s : State) :
    Stays s (boot s) := by
  unfold boot
  repeat (first
    | with_reducible exact Stays.refl _
    | with_reducible apply Stays.app (stay_boot ..)
    | ((with_reducible apply Stays.app (Stays.of_keeps (keeps_updPower ..) ?h1 ?h2)); (case h1 => decide); (case h2 => decide))
    | with_reducible apply Stays.ite
    | intro _)

theorem stay_beginBoot (s : State) (pllLocks : Bool) :
    Stays s (State.beginBoot s pllLocks) := by
  unfold State.beginBoot
  repeat (first
    | with_reducible exact Stays.refl _
    | ((with_reducible apply Stays.app (Stays.of_keeps (keeps_addLatch ..) ?h1 ?h2)); (case h1 => decide); (case h2 => decide))
    | with_reducible apply Stays.app (stay_boot_command ..)
    | with_reducible apply Stays.app (stay_boot ..)
    | ((with_reducible apply Stays.app (Stays.of_keeps (keeps_bootPllLockTimeout ..) ?h1 ?h2)); (case h1 => decide); (case h2 => decide))
    | with_reducible apply Stays.ite
    | intro _)

theorem stay_supplyRelease (pllLocks : Bool) (s : State) :
    Stays s (supplyRelease pllLocks s) := by
  unfold supplyRelease
  dsimp only
  repeat (first
    | with_reducible exact Stays.refl _
    | ((with_reducible apply Stays.app (Stays.of_keeps (keeps_updPower ..) ?h1 ?h2)); (case h1 => decide); (case h2 => decide))
    | with_reducible apply Stays.app (stay_beginBoot ..)
    | with_reducible apply Stays.ite
    | intro _
    | split)

theorem stay_clockFault (s : State) :
    Stays s (State.clockFault s) := by
  unfold State.clockFault
  dsimp only
  repeat (first
    | with_reducible exact Stays.refl _
    | ((with_reducible apply Stays.app (Stays.of_keeps (keeps_addLatch ..) ?h1 ?h2)); (case h1 => decide); (case h2 => decide))
    | with_reducible apply Stays.app (stay_stopLatch ..)
    | ((with_reducible apply Stays.app (Stays.of_keeps (keeps_excReset ..) ?h1 ?h2)); (case h1 => decide); (case h2 => decide))
    | intro _
    | ((with_reducible apply Stays.app (Stays.of_keeps (keeps_set_power ..) ?h1 ?h2)); (case h1 => decide); (case h2 => decide)))

theorem stay_clockFault_command (s : State) :
    Stays s (clockFault s) := by
  unfold clockFault
  repeat (first
    | with_reducible exact Stays.refl _
    | with_reducible apply Stays.app (stay_clockFault ..)
    | with_reducible apply Stays.ite
    | intro _
    | split)

theorem stay_enterHibernate (s : State) (trigger : Nat) (o : Option Origin) :
    Stays s (State.enterHibernate s trigger o) := by
  unfold State.enterHibernate
  dsimp only
  repeat (first
    | with_reducible exact Stays.refl _
    | ((with_reducible apply Stays.app (Stays.of_keeps (keeps_stopAll ..) ?h1 ?h2)); (case h1 => decide); (case h2 => decide))
    | ((with_reducible apply Stays.app (Stays.of_keeps (keeps_record ..) ?h1 ?h2)); (case h1 => decide); (case h2 => decide))
    | ((with_reducible apply Stays.app (Stays.of_keeps (keeps_updRec ..) ?h1 ?h2)); (case h1 => decide); (case h2 => decide))
    | ((with_reducible apply Stays.app (Stays.of_keeps (keeps_updPower ..) ?h1 ?h2)); (case h1 => decide); (case h2 => decide))
    | ((with_reducible apply Stays.app (Stays.of_keeps (keeps_emmcSleep ..) ?h1 ?h2)); (case h1 => decide); (case h2 => decide))
    | with_reducible apply Stays.app (stay_permitsLow ..)
    | with_reducible apply Stays.ite
    | intro _)

theorem stay_endEntry (s : State) :
    Stays s (State.endEntry s) := by
  unfold State.endEntry
  dsimp only
  repeat (first
    | with_reducible exact Stays.refl _
    | with_reducible apply Stays.app (stay_volatileLost ..)
    | ((with_reducible apply Stays.app (Stays.of_keeps (keeps_updPower ..) ?h1 ?h2)); (case h1 => decide); (case h2 => decide))
    | ((with_reducible apply Stays.app (Stays.of_keeps (keeps_reach ..) ?h1 ?h2)); (case h1 => decide); (case h2 => decide))
    | intro _)

theorem stay_wakeUp (s : State) (pllLocks : Bool) :
    Stays s (State.wakeUp s pllLocks) := by
  unfold State.wakeUp
  dsimp only
  repeat (first
    | with_reducible exact Stays.refl _
    | ((with_reducible apply Stays.app (Stays.of_keeps (keeps_addLatch ..) ?h1 ?h2)); (case h1 => decide); (case h2 => decide))
    | ((with_reducible apply Stays.app (Stays.of_keeps (keeps_updPower ..) ?h1 ?h2)); (case h1 => decide); (case h2 => decide))
    | ((with_reducible apply Stays.app (Stays.of_keeps (keeps_reach ..) ?h1 ?h2)); (case h1 => decide); (case h2 => decide))
    | with_reducible apply Stays.app (stay_beginBoot ..)
    | intro _)

theorem stay_settleEntry (s : State) :
    Stays s (State.settleEntry s) := by
  unfold State.settleEntry
  dsimp only
  repeat (first
    | with_reducible exact Stays.refl _
    | with_reducible apply Stays.app (stay_endEntry ..)
    | with_reducible apply Stays.app (stay_wakeUp ..)
    | with_reducible apply Stays.ite
    | intro _)

theorem stay_wake (pllLocks : Bool) (s : State) :
    Stays s (wake pllLocks s) := by
  unfold wake
  dsimp only
  repeat (first
    | with_reducible exact Stays.refl _
    | with_reducible apply Stays.app (stay_settleEntry ..)
    | with_reducible apply Stays.app (stay_wakeUp ..)
    | ((with_reducible apply Stays.app (Stays.of_keeps (keeps_latchWake ..) ?h1 ?h2)); (case h1 => decide); (case h2 => decide))
    | with_reducible apply Stays.ite
    | intro _)

theorem stay_stbynRise (waknLow : Bool) (pllLocks : Bool) (s : State) :
    Stays s (stbynRise waknLow pllLocks s) := by
  unfold stbynRise
  dsimp only
  repeat (first
    | with_reducible exact Stays.refl _
    | ((with_reducible apply Stays.app (Stays.of_keeps (keeps_updPower ..) ?h1 ?h2)); (case h1 => decide); (case h2 => decide))
    | with_reducible apply Stays.app (stay_settleEntry ..)
    | with_reducible apply Stays.app (stay_wakeUp ..)
    | ((with_reducible apply Stays.app (Stays.of_keeps (keeps_latchWake ..) ?h1 ?h2)); (case h1 => decide); (case h2 => decide))
    | with_reducible apply Stays.ite
    | intro _)

theorem stay_stbynLow (s : State) :
    Stays s (stbynLow s) := by
  unfold stbynLow
  repeat (first
    | with_reducible exact Stays.refl _
    | with_reducible apply Stays.guarded
    | with_reducible apply Stays.app (stay_enterHibernate ..)
    | ((with_reducible apply Stays.app (Stays.of_keeps (keeps_updPower ..) ?h1 ?h2)); (case h1 => decide); (case h2 => decide))
    | intro _)

theorem stay_hibernateSupplyLoss (s : State) :
    Stays s (hibernateSupplyLoss s) := by
  unfold hibernateSupplyLoss
  repeat (first
    | with_reducible exact Stays.refl _
    | ((with_reducible apply Stays.app (Stays.of_keeps (keeps_updPower ..) ?h1 ?h2)); (case h1 => decide); (case h2 => decide))
    | with_reducible apply Stays.app (stay_latchLost ..)
    | with_reducible apply Stays.ite
    | intro _)

theorem stay_permitWrite (s : State) (o : Origin) (sub : Nat) (v : Nat) :
    Stays s (State.permitWrite s o sub v) := by
  unfold State.permitWrite
  repeat (first
    | with_reducible exact Stays.refl _
    | ((with_reducible apply Stays.app (Stays.of_keeps (keeps_armWrite ..) ?h1 ?h2)); (case h1 => decide); (case h2 => decide))
    | ((with_reducible apply Stays.app (Stays.of_keeps (keeps_lockoutWrite ..) ?h1 ?h2)); (case h1 => decide); (case h2 => decide))
    | with_reducible apply Stays.app (stay_inhibitWrite ..)
    | ((with_reducible apply Stays.app (Stays.of_keeps (keeps_droptestWrite ..) ?h1 ?h2)); (case h1 => decide); (case h2 => decide))
    | with_reducible apply Stays.ite
    | intro _)

theorem stay_liveWrite (s : State) (o : Origin) (i : Nat) (sub : Nat) (v : Nat) (data : List Byte) :
    Stays s (State.liveWrite s o i sub v data) := by
  unfold State.liveWrite
  repeat (first
    | with_reducible exact Stays.refl _
    | ((with_reducible apply Stays.app (Stays.of_keeps (keeps_checkNow ..) ?h1 ?h2)); (case h1 => decide); (case h2 => decide))
    | ((with_reducible apply Stays.app (Stays.of_keeps (keeps_captureArm ..) ?h1 ?h2)); (case h1 => decide); (case h2 => decide))
    | with_reducible apply Stays.app (stay_enterHibernate ..)
    | ((with_reducible apply Stays.app (Stays.of_keeps (keeps_cfgWrite ..) ?h1 ?h2)); (case h1 => decide); (case h2 => decide))
    | ((with_reducible apply Stays.app (Stays.of_keeps (keeps_sectionWrite ..) ?h1 ?h2)); (case h1 => decide); (case h2 => decide))
    | ((with_reducible apply Stays.app (Stays.of_keeps (keeps_installKey ..) ?h1 ?h2)); (case h1 => decide); (case h2 => decide))
    | with_reducible apply Stays.app (stay_permitWrite ..)
    | ((with_reducible apply Stays.app (Stays.of_keeps (keeps_correlateWrite ..) ?h1 ?h2)); (case h1 => decide); (case h2 => decide))
    | ((with_reducible apply Stays.app (Stays.of_keeps (keeps_terminalWrite ..) ?h1 ?h2)); (case h1 => decide); (case h2 => decide))
    | with_reducible apply Stays.app (stay_stopTestWrite ..)
    | ((with_reducible apply Stays.app (Stays.of_keeps (keeps_engineWrite ..) ?h1 ?h2)); (case h1 => decide); (case h2 => decide))
    | ((with_reducible apply Stays.app (Stays.of_keeps (keeps_recCommand ..) ?h1 ?h2)); (case h1 => decide); (case h2 => decide))
    | ((with_reducible apply Stays.app (Stays.of_keeps (keeps_clearHistory ..) ?h1 ?h2)); (case h1 => decide); (case h2 => decide))
    | with_reducible apply Stays.elim
    | with_reducible apply Stays.ite
    | intro _)

theorem stay_applyWrite (s : State) (o : Origin) (i : Nat) (sub : Nat) (data : List Byte) :
    Stays s (State.applyWrite s o i sub data) := by
  unfold State.applyWrite
  repeat (first
    | with_reducible exact Stays.refl _
    | ((with_reducible apply Stays.app (Stays.of_keeps (keeps_stage ..) ?h1 ?h2)); (case h1 => decide); (case h2 => decide))
    | with_reducible apply Stays.app (stay_liveWrite ..)
    | with_reducible apply Stays.ite
    | intro _
    | split)

theorem stay_refuseWrite (s : State) (w : HeldWrite) (abort : Nat) :
    Stays s (State.refuseWrite s w abort) := by
  unfold State.refuseWrite
  repeat (first
    | with_reducible exact Stays.refl _
    | ((with_reducible apply Stays.app (Stays.of_keeps (keeps_judgeRefusal ..) ?h1 ?h2)); (case h1 => decide); (case h2 => decide))
    | with_reducible apply Stays.app (stay_dropHeld ..)
    | intro _)

theorem stay_refuseBusy (s : State) (w : HeldWrite) :
    Stays s (State.refuseBusy s w) := by
  unfold State.refuseBusy
  repeat (first
    | with_reducible exact Stays.refl _
    | with_reducible apply Stays.app (stay_refuseWrite ..)
    | ((with_reducible apply Stays.app (Stays.of_keeps (keeps_countBusy ..) ?h1 ?h2)); (case h1 => decide); (case h2 => decide))
    | with_reducible apply Stays.ite
    | intro _)

theorem stay_grantWrite (s : State) (w : HeldWrite) :
    Stays s (State.grantWrite s w) := by
  unfold State.grantWrite
  dsimp only
  repeat (first
    | with_reducible exact Stays.refl _
    | with_reducible apply Stays.app (stay_applyWrite ..)
    | with_reducible apply Stays.app (stay_refuseWrite ..)
    | with_reducible apply Stays.app (stay_answerHeld ..)
    | with_reducible apply Stays.ite
    | intro _)

theorem stay_judgePart (s : State) (ws : List (HeldWrite × Nat)) :
    Stays s (State.judgePart s ws) := by
  unfold State.judgePart
  dsimp only
  repeat (first
    | with_reducible exact Stays.refl _
    | with_reducible apply Stays.foldl
    | with_reducible apply Stays.app (stay_refuseBusy ..)
    | with_reducible apply Stays.app (stay_refuseWrite ..)
    | with_reducible apply Stays.app (stay_grantWrite ..)
    | with_reducible apply Stays.ite
    | intro _)

theorem stay_judgeObject (s : State) (i : Nat) (sub : Nat) :
    Stays s (State.judgeObject s i sub) := by
  unfold State.judgeObject
  dsimp only
  repeat (first
    | with_reducible exact Stays.refl _
    | with_reducible apply Stays.app (stay_judgePart ..)
    | intro _
    | ((with_reducible apply Stays.app (Stays.of_keeps (keeps_set_net_held ..) ?h1 ?h2)); (case h1 => decide); (case h2 => decide)))

theorem stay_takeWrite (s : State) (k : Fin 4) (x : Session) (i : Nat) (sub : Nat) (data : List Byte) :
    Stays s (State.takeWrite s k x i sub data).1 := by
  unfold State.takeWrite
  dsimp only
  repeat (first
    | with_reducible exact Stays.refl _
    | ((with_reducible apply Stays.app (Stays.of_keeps (keeps_answer ..) ?h1 ?h2)); (case h1 => decide); (case h2 => decide))
    | ((with_reducible apply Stays.app (Stays.of_keeps (keeps_receiptRefusal ..) ?h1 ?h2)); (case h1 => decide); (case h2 => decide))
    | ((with_reducible apply Stays.app (Stays.of_keeps (keeps_sessionWrite ..) ?h1 ?h2)); (case h1 => decide); (case h2 => decide))
    | with_reducible apply Stays.app (stay_endSession ..)
    | with_reducible apply Stays.ite
    | intro _
    | split
    | ((with_reducible apply Stays.app (Stays.of_keeps (keeps_set_net_held ..) ?h1 ?h2)); (case h1 => decide); (case h2 => decide)))

theorem stay_rowReceive (s : State) (o : Origin) (i : Nat) (sub : Nat) (data : List Byte) :
    Stays s (State.rowReceive s o i sub data).1 := by
  unfold State.rowReceive
  repeat (first
    | with_reducible exact Stays.refl _
    | ((with_reducible apply Stays.app (Stays.of_keeps (keeps_touch ..) ?h1 ?h2)); (case h1 => decide); (case h2 => decide))
    | ((with_reducible apply Stays.app (Stays.of_keeps (keeps_say ..) ?h1 ?h2)); (case h1 => decide); (case h2 => decide))
    | with_reducible apply Stays.app (stay_takeWrite ..)
    | with_reducible apply Stays.ite
    | intro _
    | split)

theorem stay_rowWrite (s : State) (o : Origin) (i : Nat) (sub : Nat) (data : List Byte) :
    Stays s (State.rowWrite s o i sub data) := by
  unfold State.rowWrite
  dsimp only
  repeat (first
    | with_reducible exact Stays.refl _
    | with_reducible apply Stays.app (stay_judgeObject ..)
    | with_reducible apply Stays.app (stay_rowReceive ..)
    | with_reducible apply Stays.ite
    | intro _)

theorem stay_writeRequest (h : Hdr) (items : List WriteItem) (s : State) : Stays s (writeRequest h items s) :=
  Stays.request (fun k u => by
    have us (v : State) (e : Session → Session) : Stays v (v.updSession k e) :=
      Stays.of_keeps (keeps_updSession ..) (by decide) (by decide)
    exact (((us u _).trans (Stays.of_keeps (keeps_writeAll ..) (by decide) (by decide))).trans (us ..)).trans
      (stay_closeRequest ..))

theorem stay_sdoWrite (s : State) (p : CanPort) (k : Fin 4) (j : Fin 4) (i : Nat) (sub : Nat) (data : List Byte) :
    Stays s (State.sdoWrite s p k j i sub data) := by
  unfold State.sdoWrite
  dsimp only
  repeat (first
    | with_reducible exact Stays.refl _
    | ((with_reducible apply Stays.app (Stays.of_keeps (keeps_sdoAnswer ..) ?h1 ?h2)); (case h1 => decide); (case h2 => decide))
    | ((with_reducible apply Stays.app (Stays.of_keeps (keeps_receive ..) ?h1 ?h2)); (case h1 => decide); (case h2 => decide))
    | with_reducible apply Stays.app (stay_endSession ..)
    | with_reducible apply Stays.ite
    | intro _
    | split)

theorem stay_sdoWriteSegment (s : State) (p : CanPort) (k : Fin 4) (j : Fin 4) (t : SdoXfer) (toggle : Bool) (data : List Byte) (last : Bool) :
    Stays s (State.sdoWriteSegment s p k j t toggle data last) := by
  unfold State.sdoWriteSegment
  dsimp only
  repeat (first
    | with_reducible exact Stays.refl _
    | ((with_reducible apply Stays.app (Stays.of_keeps (keeps_sdoAnswer ..) ?h1 ?h2)); (case h1 => decide); (case h2 => decide))
    | ((with_reducible apply Stays.app (Stays.of_keeps (keeps_abortXfer ..) ?h1 ?h2)); (case h1 => decide); (case h2 => decide))
    | with_reducible apply Stays.app (stay_sdoWrite ..)
    | ((with_reducible apply Stays.app (Stays.of_keeps (keeps_putXfer ..) ?h1 ?h2)); (case h1 => decide); (case h2 => decide))
    | with_reducible apply Stays.ite
    | intro _)

theorem stay_sdoServe (s : State) (p : CanPort) (k : Fin 4) (j : Fin 4) (r : SdoReq) :
    Stays s (State.sdoServe s p k j r) := by
  unfold State.sdoServe
  repeat (first
    | with_reducible exact Stays.refl _
    | ((with_reducible apply Stays.app (Stays.of_keeps (keeps_sdoRead ..) ?h1 ?h2)); (case h1 => decide); (case h2 => decide))
    | ((with_reducible apply Stays.app (Stays.of_keeps (keeps_sdoAnswer ..) ?h1 ?h2)); (case h1 => decide); (case h2 => decide))
    | ((with_reducible apply Stays.app (Stays.of_keeps (keeps_abortXfer ..) ?h1 ?h2)); (case h1 => decide); (case h2 => decide))
    | ((with_reducible apply Stays.app (Stays.of_keeps (keeps_sdoReadSegment ..) ?h1 ?h2)); (case h1 => decide); (case h2 => decide))
    | with_reducible apply Stays.app (stay_sdoWriteSegment ..)
    | with_reducible apply Stays.app (stay_sdoWrite ..)
    | ((with_reducible apply Stays.app (Stays.of_keeps (keeps_putXfer ..) ?h1 ?h2)); (case h1 => decide); (case h2 => decide))
    | with_reducible apply Stays.ite
    | intro _
    | split)

theorem stay_sdoRequest (p : CanPort) (k : Fin 4) (r : SdoReq) (s : State) :
    Stays s (sdoRequest p k r s) := by
  unfold sdoRequest
  dsimp only
  repeat (first
    | with_reducible exact Stays.refl _
    | ((with_reducible apply Stays.app (Stays.of_keeps (keeps_sdoAnswer ..) ?h1 ?h2)); (case h1 => decide); (case h2 => decide))
    | ((with_reducible apply Stays.app (Stays.of_keeps (keeps_touch ..) ?h1 ?h2)); (case h1 => decide); (case h2 => decide))
    | with_reducible apply Stays.app (stay_sdoServe ..)
    | ((with_reducible apply Stays.app (Stays.of_keeps (keeps_openChannel ..) ?h1 ?h2)); (case h1 => decide); (case h2 => decide))
    | ((with_reducible apply Stays.app (Stays.of_keeps (keeps_refuseSession ..) ?h1 ?h2)); (case h1 => decide); (case h2 => decide))
    | with_reducible apply Stays.ite
    | intro _
    | split)

theorem stay_takeDatagram (s : State) (bs : List Byte) :
    Stays s (State.takeDatagram s bs) := by
  unfold State.takeDatagram
  dsimp only
  repeat (first
    | with_reducible exact Stays.refl _
    | with_reducible apply Stays.app (stay_closeSession ..)
    | ((with_reducible apply Stays.app (Stays.of_keeps (keeps_nopRequest ..) ?h1 ?h2)); (case h1 => decide); (case h2 => decide))
    | ((with_reducible apply Stays.app (Stays.of_keeps (keeps_malformed ..) ?h1 ?h2)); (case h1 => decide); (case h2 => decide))
    | ((with_reducible apply Stays.app (Stays.of_keeps (keeps_openPlain ..) ?h1 ?h2)); (case h1 => decide); (case h2 => decide))
    | with_reducible apply Stays.app (stay_writeRequest ..)
    | ((with_reducible apply Stays.app (Stays.of_keeps (keeps_readRequest ..) ?h1 ?h2)); (case h1 => decide); (case h2 => decide))
    | with_reducible apply Stays.app (stay_openTakeover ..)
    | with_reducible apply Stays.ite
    | intro _
    | split)

theorem stay_spiFrame (bytes : List Byte) (s : State) :
    Stays s (spiFrame bytes s) := by
  unfold spiFrame
  dsimp only
  repeat (first
    | with_reducible exact Stays.refl _
    | with_reducible apply Stays.app (stay_takeDatagram ..)
    | ((with_reducible apply Stays.app (Stays.of_keeps (keeps_spiCrcError ..) ?h1 ?h2)); (case h1 => decide); (case h2 => decide))
    | with_reducible apply Stays.ite
    | intro _)

theorem stay_judgeAll (s : State) :
    Stays s (State.judgeAll s) := by
  unfold State.judgeAll
  dsimp only
  repeat (first
    | with_reducible exact Stays.refl _
    | with_reducible apply Stays.app (stay_judgePart ..)
    | intro _
    | ((with_reducible apply Stays.app (Stays.of_keeps (keeps_set_net_held ..) ?h1 ?h2)); (case h1 => decide); (case h2 => decide)))

theorem stay_writeJudgement (s : State) :
    Stays s (writeJudgement s) := by
  unfold writeJudgement
  repeat (first
    | with_reducible exact Stays.refl _
    | ((with_reducible apply Stays.app (Stays.of_keeps (keeps_tickInstant ..) ?h1 ?h2)); (case h1 => decide); (case h2 => decide))
    | with_reducible apply Stays.app (stay_judgeAll ..)
    | intro _)

end Sys2Proof.Machine
end

