-- ==== Sys2Proof/Laws/Twin.lean ====
section
/-! SUPPORT. The delay registers: a word that a read delivers is the word that the core takes, whatever the other bytes
of the cycle hold (R339, R340), and what a cycle leaves in the stages. -/

namespace Sys2Proof.Machine

/-- A word that is put into the value of a cycle is what the core takes from it. -/
theorem deliveredWord_stageWord (n : Nat) (w : BitVec 32) : deliveredWord (stageWord n w) = w := by
  have hs : stageAt + 32 ≤ 224 := by unfold stageAt; omega
  apply BitVec.eq_of_getLsbD_eq
  intro i hi
  have h1 : stageAt + i < 224 := by omega
  have h2 : stageAt + i - stageAt = i := by omega
  have h3 : ¬ stageAt + i < stageAt := by omega
  have ones : ∀ j : Fin 32, ((BitVec.allOnes 32).setWidth 224).getLsbD j.val = true := by decide
  simp only [deliveredWord, stageWord, BitVec.getLsbD_setWidth, BitVec.getLsbD_ushiftRight, BitVec.getLsbD_or,
    BitVec.getLsbD_and, BitVec.getLsbD_not, BitVec.getLsbD_shiftLeft, hi, h1, h2, h3, ones ⟨i, hi⟩]
  simp
  omega

@[simp] theorem Twin.shift_delay0 (t : Twin) (v : BitVec 224) : (t.shift v).delay0 = ⟨v, stageParity v⟩ := rfl
@[simp] theorem Twin.shift_delay1 (t : Twin) (v : BitVec 224) : (t.shift v).delay1 = t.delay0 := rfl
@[simp] theorem Twin.shift_input (t : Twin) (v : BitVec 224) : (t.shift v).coreA.input = v := rfl
@[simp] theorem Twin.shift_entersB (t : Twin) (v : BitVec 224) : (t.shift v).entersB = t.delay0.data := rfl
@[simp] theorem Twin.shift_stopLatch (t : Twin) (v : BitVec 224) : (t.shift v).stopLatch = t.stopLatch := rfl

/-- What a cycle enters the first stage with has good parity (R339). -/
theorem Twin.shift_good (t : Twin) (v : BitVec 224) : (t.shift v).stagesGood = t.delay0.good := by
  simp [Twin.stagesGood, DelayStage.good]

end Sys2Proof.Machine
end

