-- ==== Sys2Proof/Tests/Slice0.lean ====
section
/-! SUPPORT. Tests: a term that each check of WellFormed refuses, single steps against examples of the spec,
and for every obligation with hypotheses states that meet them. -/

namespace Sys2Proof.Tests

-- one theorem after the other: each waits for the kernel, and a thread for each would exhaust the memory
set_option Elab.async false
open Sys2Proof Sys2Proof.Machine

-- states to test on

/-- A small configuration: an inductive head 0 between sections 0 and 1 on channels 0 and 1, a free bridge channel 2,
permit 0, law 0, both CAN ports, ETA, one RPDO, one TPDO and one SRDO. -/
def cfg1 : CfgMap :=
  [(cfgKey 0x1016 1, 5 * 65536 + 200), (cfgKey 0x1017 0, 100), (cfgKey 0x1301 1, 1), (cfgKey 0x1301 2, 10),
   (cfgKey 0x1301 5, 0x101), (cfgKey 0x1301 6, 0x102), (cfgKey 0x13FE 0, 0xA5), (cfgKey 0x1400 1, 0x205),
   (cfgKey 0x1400 5, 100), (cfgKey 0x1600 1, 0x25011D20), (cfgKey 0x1800 1, 0x185), (cfgKey 0x1800 2, 255),
   (cfgKey 0x1800 5, 50), (cfgKey 0x1A00 1, 0x22000220),
   (cfgKey 0x2100 1, 1 * 2 ^ 60 + 1 * 2 ^ 40 + 0xFF * 2 ^ 32 + 160 * 2 ^ 16 + 2400), (cfgKey 0x2100 2, 100),
   (cfgKey 0x2200 1, 0xC0), (cfgKey 0x2201 1, 0x80),
   (cfgKey 0x2300 1, 0x90321E14), (cfgKey 0x2300 0x11, 0x80),
   (cfgKey 0x2500 7, 1), (cfgKey 0x2501 1, 0x01 * 2 ^ 24 + 0x50 * 2 ^ 16 + 1 * 2 ^ 10),
   (cfgKey 0x2600 1, 1 * 2 ^ 28 + 7 * 2 ^ 20 + 3 * 2 ^ 17 + 2 ^ 16), (cfgKey 0x2600 2, 500),
   (cfgKey 0x2601 1, 1 * 2 ^ 28 + 7 * 2 ^ 20 + 3 * 2 ^ 17 + 2 ^ 16), (cfgKey 0x2601 2, 500),
   (cfgKey 0x2602 1, 2 * 2 ^ 28 + 7 * 2 ^ 20 + 3 * 2 ^ 17 + 2 ^ 16), (cfgKey 0x2602 2, 1000),
   (cfgKey 0x2700 1, 1 * 2 ^ 16 + 2 ^ 13 + 2 ^ 12 + 100), (cfgKey 0x2700 2, 4 * 2 ^ 24 + 5 * 2 ^ 16 + 2 ^ 13 + 2 ^ 12 + 100),
   (cfgKey 0x2700 3, 8 * 2 ^ 24 + 9 * 2 ^ 16 + 2 ^ 12 + 100), (cfgKey 0x2700 4, 12 * 2 ^ 24 + 13 * 2 ^ 16 + 2 ^ 12 + 100),
   (cfgKey 0x2700 0x41, 1 * 2 ^ 56 + 1 * 2 ^ 32 + 0xFFFF * 2 ^ 16),
   (cfgKey 0x2700 0x42, 1 * 2 ^ 56 + 1 * 2 ^ 48 + 4 * 2 ^ 40 + 5 * 2 ^ 32 + 0xFFFF * 2 ^ 16),
   (cfgKey 0x2700 0x43, 2 * 2 ^ 56 + 2 * 2 ^ 48 + 8 * 2 ^ 40 + 9 * 2 ^ 32 + 10 * 2 ^ 24 + 11 * 2 ^ 16),
   (cfgKey 0x2B00 2, 5 + 0xDB * 256), (cfgKey 0x2B00 3, 6 + 0xCB * 256),
   (cfgKey 0x2B00 4, 7 * 2 ^ 136 + 100 * 2 ^ 144 + 60 * 2 ^ 160 + 1 * 2 ^ 176)]

/-- The same with TICK_SRC on CANA and a SYNC counter of 7. -/
def cfg2 : CfgMap := [(cfgKey 0x1019 0, 7), (cfgKey 0x2500 1, 1 * 2 ^ 29 + 1000 * 2 ^ 16)] ++ cfg1

/-- A device that runs on `cfg1`. -/
def up : State := { power := { phase := .running }, cfg := { active := cfg1, staged := cfg1 } }

/-- The same in another phase. -/
def upIn (p : Phase) : State := { up with power := { up.power with phase := p } }

def me : Origin := ⟨.spi, 1⟩

def sess (l : Level) : Session := { port := .spi, number := 1, peer := 0, level := l, lastAt := 0 }

def withSession (s : State) (x : Session) : State :=
  { s with net := { s.net with sessions := Tab.put (Tab.all none) 0 (some x) } }

/-- The device with one session on SPI. -/
def upAs (l : Level) : State := withSession up (sess l)

/-- With no write held, no row is contested. -/
theorem uncontested (c : Instr) (s : State) (h : s.net.held = []) : contested c s = false := by
  unfold contested
  split <;> simp [h]

/-- With no write held and none asked for, a session has none outstanding. -/
theorem idle (s : State) (l : Level) (h : s.net.held = []) : outstanding (withSession s (sess l)) (sess l) = false := by
  simp [outstanding, sess, withSession, h]

theorem asks (c : Instr) (s : State) (l : Level) (h : s.alive = true) (hh : s.net.held = []) :
    Asks c (withSession s (sess l)) me l 0 (sess l) :=
  ⟨h, uncontested c _ hh, by rfl, by rfl, idle s l hh, Nat.le_refl _⟩

/-- A session of level `l` also has every lower level. -/
theorem asksLower (c : Instr) (s : State) (l m : Level) (h : s.alive = true) (hh : s.net.held = [])
    (hl : levelCode m ≤ levelCode l) : Asks c (withSession s (sess l)) me m 0 (sess l) :=
  ⟨h, uncontested c _ hh, by rfl, by rfl, idle s l hh, hl⟩

/-- Whether a command leads to a next state that meets a test. -/
def nextIs (c : Instr) (s : State) (p : State → Bool) : Bool :=
  match exec c s with
  | .next t => p t
  | _ => false

/-- The envelope samples of a resonance check, one each 20 us, at one amplitude; the phase at the point is so many
times 10 degrees. -/
def envelope (a p : Rat) : List (Nat × Rat × Rat) :=
  (List.range 250).map (fun i => (i * 20000, a, 1000 * p * (2 - ((i / 50 : Nat) : Rat))))

-- WellFormed refuses

theorem test_wf_origin_can : (Instr.modeCmdOff ⟨.cana, 5⟩).wellFormed = false := by decide +kernel
theorem test_wf_origin_spi : (Instr.modeCmdOff ⟨.spi, 256⟩).wellFormed = false := by decide +kernel
theorem test_wf_header_port : (Instr.openPlain { port := .canb, session := 0, seq := 0 }).wellFormed = false := by decide +kernel
theorem test_wf_header_seq : (Instr.nopRequest { port := .spi, session := 1, seq := 65536 }).wellFormed = false := by decide +kernel
theorem test_wf_header_source :
    (Instr.nopRequest { port := .eta, link := { dest := 0, source := 2 ^ 48 }, session := 1, seq := 0 }).wellFormed = false := by decide +kernel
theorem test_wf_header_session : (Instr.nopRequest { port := .eta, session := 256, seq := 0 }).wellFormed = false := by decide +kernel
theorem test_wf_value16 : (Instr.inhibitWrite me 65536).wellFormed = false := by decide +kernel
theorem test_wf_value8 : (Instr.authRequest me 256).wellFormed = false := by decide +kernel
theorem test_wf_value32 : (Instr.excHoldWrite me true (2 ^ 32)).wellFormed = false := by decide +kernel
theorem test_wf_value64 : (Instr.correlate me (2 ^ 64)).wellFormed = false := by decide +kernel
theorem test_wf_sample : (Instr.channelOutputSample 0 ⟨[], [1]⟩).wellFormed = false := by decide +kernel
theorem test_wf_sample_ref : (Instr.channelOutputSample 0 ⟨[1], []⟩).wellFormed = false := by decide +kernel
theorem test_wf_trigger : (Instr.triggerEvent 0 false (2 ^ 32)).wellFormed = false := by decide +kernel
theorem test_wf_verdict : (Instr.traversalVerdict 0 ⟨.fullPos, 0, none, false, false, 256, none, 0, 0, 0, 0⟩).wellFormed = false := by
  decide +kernel
theorem test_wf_tone :
    (Instr.guardCheckEnd (.head 0) [⟨0, .tone [(499999, 1), (5500000, 1)], false⟩]).wellFormed = false := by decide +kernel
theorem test_wf_amplitude : (CheckValue.resonance (envelope (-1) 0 ++ envelope 1 0)).wf = false := by decide +kernel
theorem test_wf_sweep : (CheckValue.resonance ((envelope 1 0).dropLast)).wf = false := by decide +kernel
theorem test_wf_envelope : (Instr.guardCheckEnd (.head 0) [⟨0, .resonance (envelope 1 0), false⟩]).wellFormed = true := by decide +kernel
theorem test_wf_sync_spi : (Instr.tick (.sync .spi none 0) 0).wellFormed = false := by decide +kernel
theorem test_wf_sync_counter : (Instr.tick (.sync .cana (some 256) 0) 0).wellFormed = false := by decide +kernel
theorem test_wf_cycles : (Instr.reeveCompare { cycles := List.replicate 257 none } {} 0#224 0#224).wellFormed = false := by
  decide +kernel
theorem test_wf_sdo_empty : (Instr.sdoRequest .a 0 (.write 0x2300 0x33 [])).wellFormed = false := by decide +kernel
theorem test_wf_sdo_segment : (Instr.sdoRequest .a 0 (.writeSegment false (List.replicate 57 0#8) false)).wellFormed = false := by
  decide +kernel
theorem test_wf_rpdo : (Instr.rpdoReceived .a 0 (List.replicate 65 0#8)).wellFormed = false := by decide +kernel
theorem test_wf_malformed_spi : (Instr.malformedDatagram { port := .spi, session := 0, seq := 0 } 5 .badType).wellFormed = false := by decide +kernel
theorem test_wf_no_items : (Instr.readItems { port := .spi, session := 1, seq := 0 } []).wellFormed = false := by decide +kernel
theorem test_wf_read_item : (Instr.readItems { port := .spi, session := 1, seq := 0 } [⟨65536, 0, 0, 0⟩]).wellFormed = false := by decide +kernel
theorem test_wf_write_item : (Instr.writeItems { port := .spi, session := 1, seq := 0 } [⟨0x2300, 256, 0, 0, []⟩]).wellFormed = false := by decide +kernel
theorem test_wf_pd_block : (Instr.pdHost .a { dest := 0, source := 0 } 0 [⟨256, []⟩]).wellFormed = false := by decide +kernel
theorem test_wf_card : (Instr.bookOpen ⟨true, true, true, true, true, 2 ^ 32⟩).wellFormed = false := by decide +kernel
theorem test_wf_node : (Instr.heartbeatReceived .a 128).wellFormed = false := by decide +kernel
theorem test_wf_temperature : (Instr.tallyCycle 32768).wellFormed = false := by decide +kernel
theorem test_wf_good : (Instr.ackArm me 0x4152).wellFormed = true := by decide +kernel

theorem test_no_word_spells_a_command (nbits w : Nat) : decodeTableWord nbits w = none := rfl

-- single effects against the spec

/-- R76, R97: the current of EXC_CFG word 100 is 1 mA, and an unbound source settles at its start (R86). -/
theorem test_free_start_settles : ((up.issueStart 3).src.get 3).st = .settling ∧ ((up.issueStart 3).src.get 3).current = 100 := by
  decide +kernel

/-- Example of 10: a drop of 20 ms that begins at 0.40 ms ends at 20.40 ms in OFF. -/
theorem test_drop_ends :
    let t := dropElapsed 0 { up with
      now := us 400, permits := { up.permits with po := up.permits.po.put 0 { st := .dropping, out := .low, dropAt := us 400 } } }
    t.now = us 20400 ∧ (t.permits.po.get 0).st = .off := by decide +kernel

def pressed (s : State) (now armed press : Nat) (stuck : Bool) : State :=
  { s with
    now := now
    permits := { s.permits with ack := { armedBy := some me, armedAt := armed, pressed := true, pressOk := true
                                         pressAt := press, stuck := stuck } } }

/-- Example of 10: a 600 ms press under a fresh arming is accepted and the arming is consumed. -/
theorem test_ack_accepted :
    let t := ackEdge false (pressed (upAs .operate) (ms 614600) (sec 605) (ms 614000) false)
    t.tally.ackIn = true ∧ t.permits.ack.armedBy = none ∧ t.permits.ack.accepted = 1 := by decide +kernel

/-- Example of 10: a press of 6 s is ignored. -/
theorem test_ack_too_long :
    let t := ackEdge false (pressed (upAs .operate) (sec 612) (sec 605) (sec 606) true)
    t.tally.ackIn = false ∧ t.permits.ack.ignored = 1 := by decide +kernel

-- for each obligation with hypotheses, states that meet them; the clauses of one statement in their order

/-- O5, O31, O36: a command answers a next state, in a state with a CLEAR section, a DISTURBED one and a RUNNING permit;
a section that becomes CLEAR, and one in RESTORED-AWAITING-SWEEP. -/
def busy : State :=
  { up with
    sect := up.sect.put 0 { st := .clear, unused := false }
    permits := { up.permits with po := up.permits.po.put 0 { st := .running, cond := true, out := .high } } }

theorem witness_FrameOfEveryCommand : ∃ t, exec .stbyStuckSet busy = .next t := ⟨_, rfl⟩

theorem witness_SectionTransitions :
    (let s := { busy with sect := busy.sect.put 2 { st := .clearing, unused := false } }
     (s.sect.get 2).st ≠ .clear ∧ ((clearDelayExpiry 2 s).sect.get 2).st = .clear ∧ ∃ t, exec (.clearDelayExpiry 2) s = .next t) ∧
    (∃ t, exec .stbyStuckSet busy = .next t) ∧ (busy.sect.get 1).st = .disturbed ∧
    ({ busy with sect := busy.sect.put 2 { st := .ras, unused := false } }.sect.get 2).st = .ras :=
  ⟨⟨by decide +kernel, by decide +kernel, _, rfl⟩, ⟨_, rfl⟩, by decide +kernel⟩

theorem witness_RunningNeedsCondition : ∃ t, exec .stbyStuckSet busy = .next t ∧ (t.permits.po.get 0).st = .running :=
  ⟨_, rfl, (congrArg (fun x => (x.po.get 0).st) ((frame_stbyStuckSet busy _ rfl).same .permits (by decide))).trans
    (by decide +kernel)⟩

/-- HIBERNATE entry that began at 0. -/
def entering (now : Nat) : State := { up with now := now, power := { up.power with entering := true } }

/-- The same with a wake PENDING, and the level of STBYn. -/
def enteringWoken (now : Nat) (stbynHigh : Bool) : State :=
  { entering now with power := { (entering now).power with wakePending := true, wakeLocks := true, stbynHigh := stbynHigh } }

/-- O1: a queue of two, an empty one, an entry that ends at the idle step's end and one that does not, and a PENDING
wake at its end with STBYn high and low. -/
theorem witness_StepTakesTheFront : State.reset.pending = [] ∧
    step { State.reset with pending := [.boot, .wake true] } = exec .boot { State.reset with pending := [.wake true] } ∧
    State.reset.goingDown = false ∧ (entering 0).goingDown = true ∧
    (entering (ms 50 - 10000)).power.entryAt + ms 50 ≤ (entering (ms 50 - 10000)).now + 10000 ∧
    (entering 0).now + 10000 < (entering 0).power.entryAt + ms 50 ∧ (entering 0).power.wakePending = false ∧
    (enteringWoken (ms 50 - 10000) false).power.stbynHigh = false ∧
    (let s := enteringWoken (ms 50 - 10000) true
     s.goingDown = true ∧ s.power.wakePending = true ∧ s.power.wakeLocks = true ∧ s.power.stbynHigh = true ∧
       s.power.resetnLow = false ∧ s.power.vsupOk = true ∧ s.power.vioOk = true) := ⟨rfl, rfl, by decide +kernel⟩

/-- O6. -/
theorem witness_MemoryStaysCanonical : Memory.wf { up with emmc := [(0, 1#8), (511, 255#8)] }.emmc = true ∧
    ∃ t, step { up with emmc := [(0, 1#8), (511, 255#8)], pending := [.extestEntry] } = .next t :=
  ⟨by decide +kernel, _, rfl⟩

/-- O7: the latch is set and a step is taken; reset holds no HIBERNATE entry, and its delay registers have good parity. -/
theorem witness_StopKeepsPermitsOpen :
    (let s := { up with twin := { up.twin with stopLatch := true }, pending := [.extestEntry] }
     StopSafe s ∧ s.twin.stopLatch = true ∧ ∃ t, step s = .next t) ∧
    (let s := { State.reset with pending := [.extestEntry] }
     (EntrySafe s ∧ s.power.phase = .inReset) ∧ (StagesSafe s ∧ s.twin.stopLatch = false) ∧ ∃ t, step s = .next t) :=
  ⟨⟨fun _ => by decide +kernel, rfl, _, rfl⟩, ⟨fun _ => rfl, rfl⟩, ⟨fun _ => by decide +kernel, rfl⟩, _, rfl⟩

/-- O8: in every phase in which the ports do not answer. -/
theorem witness_SilentWhileNotServing : actsOutside .bellringerStep = false ∧
    [Phase.unpowered, .inReset, .hibernate, .clockHeld, .debugHalted].all (fun p => !(upIn p).serving) = true := by
  decide +kernel

/-- O9: each phase; a drop of either rail, of both, and one that loses the latch. -/
theorem witness_ResetLosesState : (upIn .running).power.phase = .running ∧ (upIn .stopped).power.phase = .stopped ∧
    (upIn .clockHeld).power.phase = .clockHeld ∧ (upIn .debugHalted).power.phase = .debugHalted ∧
    [RailDrop.mk true false false false, ⟨false, true, false, false⟩, ⟨true, true, true, false⟩, ⟨false, true, false, true⟩].all
      (fun r => (r.vsup || r.vio) && !(r.vsup && r.latch)) = true ∧
    ((RailDrop.mk true false false true).vsup && (RailDrop.mk true false false true).latch) = true ∧
    asleep up = false ∧ asleep (entering 0) = false := by decide +kernel

/-- O10, O43. -/
theorem witness_BootRuns : State.reset.twin.stopLatch = false ∧ State.reset.power.clockFault = false ∧ State.reset.power.entering = false ∧
    State.reset.power.phase = .inReset ∧ State.reset.power.vsupOk = true ∧ State.reset.power.vioOk = true ∧
    State.reset.power.resetnLow = false ∧ (upIn .unpowered).power.phase = .unpowered ∧ bootReady State.reset = true ∧
    { State.reset with power := { State.reset.power with resetnLow := true } }.power.resetnLow = true := by
  decide +kernel

/-- O11: with the latch clear and with the latch set. -/
theorem witness_ClockFaultStops : up.power.phase = .running ∧ up.twin.stopLatch = false ∧
    (upIn .stopped).power.phase = .stopped ∧ (upIn .debugHalted).power.phase = .debugHalted ∧ asleep (upIn .stopped) = false ∧
    { upIn .stopped with twin := { up.twin with stopLatch := true } }.twin.stopLatch = true := by
  decide +kernel

/-- O12: values at the ends of 16 bits beside 0x4842; an entry that runs and one that has run its 50 ms. -/
theorem witness_HibernateEntry : (∀ c, Asks c (upAs .maintain) me .maintain 0 (sess .maintain)) ∧ up.alive = true ∧
    up.power.stbyStuck = false ∧ up.power.entering = false ∧ up.twin.stopLatch = false ∧ (65535 < 65536 ∧ 65535 ≠ 0x4842) ∧
    { up with power := { up.power with stbyStuck := true } }.alive = true ∧ (entering 1).alive = true ∧
    (entering (ms 50)).pending = [] ∧ (entering (ms 50)).goingDown = true ∧
    (entering (ms 50)).power.entryAt + ms 50 ≤ (entering (ms 50)).now ∧ (entering (ms 50)).power.wakePending = false ∧
    (enteringWoken (ms 50) false).power.stbynHigh = false :=
  ⟨fun c => asks c up .maintain rfl rfl, by decide +kernel⟩

def hibernating (stbynHigh resetnLow pending : Bool) : State :=
  { up with power := { phase := .hibernate, stbynHigh := stbynHigh, resetnLow := resetnLow, wakePending := pending } }

/-- O13, O14: each level of STBYn and RESETn, with and without a pending wake; an entry under way, and at its end with
a PENDING wake and STBYn high and low. -/
theorem witness_WakeFromHibernate :
    [hibernating true false false, hibernating true true false, hibernating false false true, hibernating false false false].all
      (fun s => s.power.phase == .hibernate && !s.power.entering && s.power.vsupOk && s.power.vioOk && !s.power.clockFault) = true ∧
    (hibernating false false false).power.resetnLow = false ∧ (hibernating false false true).power.wakePending = true ∧
    ((entering 1).alive = true ∧ (entering 1).goingDown = true) ∧
    (let s := enteringWoken (ms 50) true
     s.pending = [] ∧ s.goingDown = true ∧ s.power.entryAt + ms 50 ≤ s.now ∧ s.power.wakePending = true ∧
       s.power.stbynHigh = true ∧ s.power.wakeLocks = true ∧ s.power.resetnLow = false ∧ s.power.vsupOk = true ∧
       s.power.vioOk = true) ∧
    (let s := enteringWoken (ms 50) false
     s.goingDown = true ∧ s.power.wakePending = true ∧ s.power.stbynHigh = false) := by decide +kernel

/-- O15: in and out of HIBERNATE entry, with VEXC_LOW, and a source that is OFF with a start PENDING. -/
theorem witness_SupplyPins : up.alive = true ∧ up.goingDown = false ∧ (entering 1).alive = true ∧ (entering 1).goingDown = true ∧
    (let s := { up with power := { up.power with vexcLow := true }, src := up.src.put 3 { pending := true } }
     s.alive = true ∧ s.power.vexcLow = true ∧ (s.src.get 3).st = .off ∧ (s.src.get 3).pending = true) := by decide +kernel

/-- O16: the first and the last terminal, the first and the last word. -/
theorem witness_ClampFlagsAndHolds : up.serving = true ∧ (∀ c, Asks c (upAs .maintain) me .maintain 0 (sess .maintain)) ∧
    2 ^ 32 - 1 < 2 ^ 32 ∧ (Fin.last 5).val = 5 := ⟨by decide, fun c => asks c up .maintain rfl rfl, by decide, rfl⟩

def withSource (k : Fin 64) (x : Source) : State := { up with src := up.src.put k x }

/-- O17: an unbound source, a bound one, VEXC_LOW, a hold, and each state. -/
theorem witness_SourceStartAndStop :
    (excEnabled up.cfg.active 3 = true ∧ (up.src.get 3).st = .off ∧ srcHeld up 3 = false ∧ up.power.vexcLow = false ∧
      headOfSource up.cfg.active 3 = none) ∧
    (excEnabled up.cfg.active 0 = true ∧ headOfSource up.cfg.active 0 = some 0 ∧ startOffered up 0 = false) ∧
    { up with power := { up.power with vexcLow := true } }.power.vexcLow = true ∧
    srcHeld { up with term := { up.term with hold := 8#64 } } 3 = true ∧
    [ExcState.discharging, .settling, .on].all (fun x => ((withSource 3 { st := x }).src.get 3).st == x) = true := by
  decide +kernel

/-- O18: the last instant at which a discharge is in time; an UNSETTLED span with its end. -/
theorem witness_SourceTimers :
    (let s := withSource 3 { st := .settling }; s.alive = true ∧ (s.src.get 3).st = .settling) ∧
    (let s := { withSource 3 { st := .discharging, seqAt := 5 } with now := ms 10 + 5 }
     s.serving = true ∧ (s.src.get 3).st = .discharging ∧ (s.src.get 3).pending = false ∧ s.now ≤ (s.src.get 3).seqAt + ms 10) ∧
    (let s := { up with ch := up.ch.put 0 { unsetFrom := some 1, unsetTo := some 9 } }
     (s.ch.get 0).unsetFrom = some 1 ∧ (s.ch.get 0).unsetTo = some 9) := by decide +kernel

/-- All sources ON, and the filters cleared a second ago. -/
def cleared : State :=
  { up with
    src := Tab.all { st := .on }
    ch := Tab.all { clearedAt := sec 1 } }

/-- O19: with the source OFF, and ON at the centre instant; an inductive channel and a bridge whose samples are not
CLIPPED, whatever stands at the terminals. -/
theorem witness_ChannelSample : chMode up.cfg.active 0 ≠ 0 ∧ sourceOnAt up 0 (nextCentre up 0) = false ∧
    sourceOnAt cleared 0 (nextCentre cleared 0) = true ∧ sourceOnAt cleared 2 (nextCentre cleared 2) = true ∧
    chInductive cleared.cfg.active 0 = true ∧ chMode cleared.cfg.active 2 ≠ 0 ∧ chInductive cleared.cfg.active 2 = false ∧
    ∀ x, clippedAt cleared 0 (nextCentre cleared 0 + groupDelay cfg1 0) x = false ∧
      clippedAt cleared 2 (nextCentre cleared 2 + groupDelay cfg1 2) x = false :=
  ⟨by decide +kernel, by decide +kernel, by decide +kernel, by decide +kernel, by decide +kernel, by decide +kernel,
    by decide +kernel, fun x => ⟨clippedAt_cleared _ _ _ _ (by decide +kernel), clippedAt_cleared _ _ _ _ (by decide +kernel)⟩⟩

/-- O20: one range above GAIN_MIN, after a forced change and after none, and at it; one below GAIN_MAX, on a channel of a head and on a free one. -/
theorem witness_RangeChanges :
    (let s := { up with ch := up.ch.put 0 { gain := 1 } }
     chAuto s.cfg.active 0 = true ∧ chGainMin s.cfg.active 0 + 1 = (s.ch.get 0).gain ∧ (s.ch.get 0).forcedAt = none) ∧
    (let s := { up with ch := up.ch.put 0 { gain := 1, forcedAt := some 7 } }
     chGainMin s.cfg.active 0 < (s.ch.get 0).gain ∧ (s.ch.get 0).forcedAt = some 7) ∧
    (let s := { up with ch := up.ch.put 0 { gain := 6 } }
     (s.ch.get 0).gain + 1 = chGainMax s.cfg.active 0 ∧ (s.ch.get 0).pendFiner = false ∧ (s.ch.get 0).pendCoarser = false ∧
       headOfChannel s.cfg.active 0 = some 0) ∧
    ({ up with ch := up.ch.put 0 { gain := chGainMin cfg1 0 } }.ch.get 0).gain ≤ chGainMin cfg1 0 ∧
    (headOfChannel up.cfg.active 2 = none ∧ (up.cg.get 2).checkRunning = false ∧ chAuto up.cfg.active 2 = true ∧
      (up.ch.get 2).gain < chGainMax up.cfg.active 2) := by decide +kernel

def slotAt (x : Rat) (resid speed : Nat) : Slot :=
  { s := x, g := 1, v := 0, e2 := 0, openedAt := 0, region := .mid, residRun := resid, speedRun := speed }

def withSlots (a b : Option Slot) : State :=
  { up with head := up.head.put 0 { slots := (Tab.put (Tab.all none) 0 a).put 1 b } }

/-- O21: a slot beyond the sensing length, the runs of exactly 1 ms, a third wheel, a quiet head with a cause. -/
theorem witness_WheelRecognition :
    (let sl := slotAt 1000000 0 0
     ((withSlots (some sl) none).head.get 0).slots.get 0 = some sl ∧ slotDone cfg1 0 none sl = true ∧ regionIn sl.region = true) ∧
    (ms 1 ≤ (slotAt 0 (ms 1) 0).residRun ∧ ms 1 ≤ (slotAt 0 0 (ms 1)).speedRun) ∧
    ({ up with head := up.head.put 0 { third := true } }.head.get 0).third = true ∧
    (let x : Head := { quietFrom := some 7, causes := { jump := true } }
     x.quietFrom = some 7 ∧ wreDisturbed x = true ∧ anySlot x = false) := by decide +kernel

def freeHead (acc : Nat) : State :=
  { up with
    bell := { up.bell with heads := up.bell.heads.put 0 { free := true, freeAcc := acc, freeFrom := some 0 } }
    hg := up.hg.put 0 { gs := .inService } }

/-- O22: exactly 1 s of free time; a rebase that runs. -/
theorem witness_Rebases :
    (let s := freeHead (sec 1)
     headDefined s.cfg.active 0 = true ∧ offerPending s .rebase 0 = false ∧ s.bell.spans = [] ∧
       (s.head.get 0).rebaseMark + sec 1 ≤ freeTotal s 0) ∧
    ({ up with head := up.head.put 0 { rebase := some { startAt := 3 } } }.head.get 0).rebase = some { startAt := 3 } ∧
    (∀ c, Asks c (upAs .commission) me .commission 0 (sess .commission)) :=
  ⟨by decide +kernel, by decide +kernel, fun c => asks c up .commission rfl rfl⟩

/-- O23: a cause to raise, one to drop, one as it is; a check that is due; a free channel; a head that waits for a check. -/
theorem witness_GuardCausesAndRequests :
    (monitorHolds up 0 .sourceDown = true ∧ causeFlag (up.cg.get 0) .sourceDown = false) ∧
    (let s := { up with cg := up.cg.put 0 { clamp := true } }
     monitorHolds s 0 .clamp = false ∧ causeFlag (s.cg.get 0) .clamp = true) ∧
    monitorHolds up 0 .clamp = causeFlag (up.cg.get 0) .clamp ∧
    (let s := freeHead (testPeriodNs cfg1)
     headDefined s.cfg.active 0 = true ∧ (s.hg.get 0).gs ≠ .disturbed ∧ offerPending s .check 0 = false ∧ s.bell.spans = [] ∧
       (s.hg.get 0).freeMark + testPeriodNs s.cfg.active ≤ freeTotal s 0) ∧
    (let s := { up with now := testPeriodNs cfg1 }
     freeChecked s.cfg.active 2 = true ∧ (s.cg.get 2).checkRunning = false ∧
       (s.cg.get 2).freeCheckFrom + testPeriodNs s.cfg.active ≤ s.now) ∧
    (HeadGuard.mk .disturbed false false 0 none (some 4) false).checkedAt.or (some 4) = some 4 := by decide +kernel

theorem witness_CheckNow : (∀ c, Asks c (withSession (freeHead 0) (sess .maintain)) me .maintain 0 (sess .maintain)) ∧
    ((freeHead 0).hg.get 0).gs ≠ .disturbed := ⟨fun c => asks c (freeHead 0) .maintain rfl rfl, by decide +kernel⟩

/-- GUARD_CFG of a channel: 1,000 mOhm and 500 kHz nominal, with a width of 1 % and 1 degree; SWEEP 10. -/
def guard1 : Nat := 0xFF * 2 ^ 8 + 10 * 2 ^ 16 + 1000 * 2 ^ 32 + 100 * 2 ^ 64 + 100 * 2 ^ 80 + 100 * 2 ^ 112 + 100 * 2 ^ 128
  + 5000 * 2 ^ 144 + 100 * 2 ^ 160 + 100 * 2 ^ 176

/-- A check of head 0 and its two channels runs, in a state of the head. -/
def checking (g : GState) : State :=
  { up with
    cfg := { up.cfg with active := [(cfgKey 0x2A00 0x40, guard1), (cfgKey 0x2A00 0x41, guard1)].foldr List.cons cfg1 }
    src := Tab.all { st := .on }
    ch := Tab.all { injFrom := some 1, injTo := some 5 }
    cg := Tab.all { checkRunning := true }
    hg := up.hg.put 0 { gs := g }
    bell := { up.bell with spans :=
      [{ cls := .check, own := 0, heads := [0], endAt := 9, injEnd := 5, chans := [0, 1], active := true }] } }

/-- Measurements of both channels: what GUARD_CFG names, and a coil that is shorted on channel 1. -/
def measGood : List CheckMeas := [⟨0, .resonance (envelope 1000 1), false⟩, ⟨1, .resonance (envelope 1000 1), false⟩]
def measShort : List CheckMeas := [⟨0, .resonance (envelope 1000 1), false⟩, ⟨1, .resonance (envelope 1 1), false⟩]

/-- O24: a free channel under injection; a head whose check ends with PASS on both channels, and with PASS and FAIL, in
IN_SERVICE and in AWAITING_CHECK. -/
theorem witness_GuardCheckEnds :
    (let s := { up with cg := up.cg.put 2 { checkRunning := true }, ch := up.ch.put 2 { injFrom := some 1, injTo := some 9 } }
     s.alive = true ∧ (s.cg.get 2).checkRunning = true ∧ (s.ch.get 2).injFrom = some 1 ∧ (s.ch.get 2).injTo = some 9 ∧
       partnerChan s.cfg.active 2 = none ∧ s.bell.spans = []) ∧
    [GState.inService, .awaitingCheck].all (fun g =>
      let s := checking g
      let u := { s with now := Nat.max s.now 5 }
      s.alive && (s.bell.spans.find? (fun p => p.cls == .check && p.own == 0 && p.active)).any (fun p => p.chans == [0, 1]) &&
        headDefined s.cfg.active 0 && (s.hg.get 0).gs == g && countingOfHead s.cfg.active 0 == [0, 1] &&
        (channelFinding u measGood 0).1 == .pass && (channelFinding u measGood 1).1 == .pass &&
        (channelFinding u measShort 0).1 == .pass && (channelFinding u measShort 1).1 == .failShort) = true ∧
    isFail .failShort = true := by decide +kernel

def withEntries (e : Entry) : State := { up with trk := { up.trk with entries := Tab.all e } }

/-- O25: a FREE entry; a PARKED one and none FREE; none FREE or PARKED. -/
theorem witness_TriggerOpensEntry : headDefined up.cfg.active 0 = true ∧ beforeActivation up 0 = false ∧
    (up.trk.entries.get 127).st = .free ∧
    ((∀ i, ((withEntries { st := .parked }).trk.entries.get i).st ≠ .free) ∧
      ((withEntries { st := .parked }).trk.entries.get 127).st = .parked) ∧
    ∀ i, ((withEntries { st := .running }).trk.entries.get i).st ≠ .free ∧
      ((withEntries { st := .running }).trk.entries.get i).st ≠ .parked := by decide +kernel

def verdict (k : Verdict) (t : Option Nat) : VerdictRec := ⟨k, 9, t, false, false, 0, none, 100, 90, 0, 1⟩

/-- O26: a FULL verdict of an entry, one without, a verdict that is not FULL. -/
theorem witness_VerdictSettlesEntry :
    (let s := withEntries { st := .provisional, tRef := 7 }
     entryOfVerdict s 0 (verdict .fullPos (some 7)) = some 0 ∧ isFull (verdict .fullPos (some 7)).verdict = true ∧
       sideSection s.cfg.active 0 true = some 0 ∧ isFull (verdict .broken (some 7)).verdict = false) ∧
    entryOfVerdict up 0 (verdict .fullNeg none) = none ∧ isFull (verdict .fullNeg none).verdict = true := by decide +kernel

def running0 : Entry :=
  { st := .running, sec := some 1, head := 0, speed := 100, origin := -1000000, startAt := 5 }

/-- O27: an open group with a member; an entry whose prediction has failed at its start; room with TRACKER_FULL. -/
theorem witness_TrackerTimers : (failInstant up.cfg.active running0).isSome = true ∧
    (let g : Group := ⟨1, false, [⟨3, 480, none, 0, 7⟩]⟩
     { up with trk := { up.trk with groups := up.trk.groups.put 0 (some g) } }.trk.groups.get 0 = some g ∧
       g.members.getLast? = some ⟨3, 480, none, 0, 7⟩) ∧
    ({ up with trk := { up.trk with full := true, roomFrom := some 3 } }.trk.roomFrom = some 3) := by decide +kernel

def ringing (f : Offer) : State := { up with bell := { up.bell with rung := [f] } }

/-- O28: one rung start of a free source; a rung range change, finer and coarser, a check with a channel that can start,
a rebase, and a current change of a source that is ON, no head being FREE before; TRACKER_FULL; an offer that can be rung
where no axle is near. -/
theorem witness_BellringerSteps :
    (let f : Offer := { cls := .excitation, head := 0, src := some 0, span := 0, offeredAt := 0 }
     let s := ringing f
     s.bell.rung = [f] ∧ f.src = some 0 ∧ f.newCurrent = none ∧ (s.src.get 0).st = .off ∧ srcHeld s 0 = false ∧
       s.power.vexcLow = false ∧ s.power.entering = false ∧ excEnabled s.cfg.active 0 = true ∧
       ∀ h, (s.bell.heads.get h).free = false) ∧
    (let f : Offer := { cls := .range, head := 0, ch := some 0, finer := true, span := 0, offeredAt := 0 }
     (ringing f).bell.rung = [f] ∧ f.cls = .range ∧ f.ch = some 0 ∧ ((ringing f).ch.get 0).gain < chGainMax cfg1 0 ∧
       chGainMin cfg1 0 < 2) ∧
    (let f : Offer := { cls := .check, head := 0, span := 0, offeredAt := 0 }
     let s := { ringing f with src := Tab.all { st := .on } }
     s.bell.rung = [f] ∧ 0 ∈ reachedChans s.cfg.active (chansOf s.cfg.active f.head.val) ∧
       startable { s with now := nextStep s.power.bootAt s.now s.bell.stepAt } 0 = true) ∧
    (let f : Offer := { cls := .excitation, head := 0, src := some 3, newCurrent := some 70, span := ms 2, offeredAt := 0 }
     let s := { ringing f with src := Tab.all { st := .on } }
     s.bell.rung = [f] ∧ f.cls = .excitation ∧ (s.src.get 3).st = .on) ∧
    { up with trk := { up.trk with full := true } }.trk.full = true ∧
    (let f : Offer := { cls := .rebase, head := 0, span := ms 20, offeredAt := 0 }
     let t := bellStep { up with bell := { up.bell with offers := [f] } }
     t.bell.rung = [f] ∧ t.trk.full = false ∧ t.bell.offers = []) := by
  decide +kernel

/-- Section 0 used, in a state and with a count, and section 1 used and OCCUPIED with a count. -/
def withSections (x : SState) (a b : Nat) : State :=
  { up with sect := (up.sect.put 0 { st := x, unused := false, count := a }).put 1 { st := .occupied, unused := false, count := b } }

/-- A request for section 0, 59 s old and 60 s old, with an acknowledge or none. -/
def asked (acknowledged : Bool) (at_ : Nat) : State :=
  { up with
    now := sec 60
    sect := up.sect.put 0 { unused := false, rstate := .pending, reqAt := at_ }
    hg := up.hg.put 0 { gs := .inService }
    tally := { up.tally with ackIn := acknowledged } }

def axle0 : TallyItem := .confirmed 0 (verdict .fullPos none) none 0 1 (some 0) (some 1)

/-- O29: every cause of DISTURBED; a request that an acknowledge grants, one that waits, one that expires. -/
theorem witness_TallyCycleCompletes :
    up.alive = true ∧ up.twin.stopLatch = false ∧ (∀ c : Fin 64, chRtd up.cfg.active c.val = false) ∧
    0 ∈ boundingHeads up.cfg.active 0 ∧
    (let s := withSections .clear 0 0
     (s.sect.get 0).unused = false ∧ (s.sect.get 0).st ≠ .disturbed ∧ (s.sect.get 0).count = 0 ∧ s.tally.tripTaken = false ∧
       { s with tally := { s.tally with disturbIn := [0], inbox := [axle0] } }.tally.disturbIn = [0] ∧
       ({ s with hg := s.hg.put 0 { raised := true } }.hg.get 0).raised = true ∧
       ({ s with head := s.head.put 0 { raised := true } }.head.get 0).raised = true) ∧
    (let s := { up with hg := up.hg.put 0 { gs := .disturbed }, head := up.head.put 0 { causes := { jump := true } } }
     guardDisturbed s 0 = true ∧ wreDisturbed (s.head.get 0) = true) ∧
    (let s := withSections .occupied 1 4095
     { s with tally := { s.tally with inbox := [axle0] } }.tally.inbox = [axle0] ∧ (s.sect.get 1).count = 4095) ∧
    (let s := asked true (sec 1)
     s.tally.restoreIn = [] ∧ (s.sect.get 0).st = .disturbed ∧ (s.sect.get 0).rstate = .pending ∧ s.tally.ackIn = true ∧
       (s.sect.get 0).raised = 0#8 ∧ s.tally.disturbIn = [] ∧ s.tally.inbox = [] ∧
       (∀ h ∈ boundingHeads s.cfg.active 0, (s.hg.get h).raised = false ∧ (s.head.get h).raised = false ∧
         headDisturbed s h = false ∧ anySlot (s.head.get h) = false) ∧
       (s.sect.get 0).provRefs = 0 ∧ (s.sect.get 0).touched = false ∧
       nextFrom (ms 1) s.power.bootAt s.now s.tally.startAt < (s.sect.get 0).reqAt + sec 60 ∧
       (takeTemperature 250 s.power).thermalTrip = s.power.thermalTrip) ∧
    (asked false (sec 1)).tally.ackIn = false ∧
    ((asked false 0).sect.get 0).reqAt + sec 60 ≤ (asked false 0).now := by decide +kernel

/-- O30: a section to leave with one axle and one to enter with 4,094. -/
theorem witness_ConfirmedAxleCounts :
    (let s := withSections .occupied 1 4094
     s.alive = true ∧ s.tally.ackIn = false ∧ { s with tally := { s.tally with inbox := [axle0] } }.tally.inbox = [axle0] ∧
       0 < (s.sect.get 0).count ∧ (s.sect.get 1).count < 4095) := by
  decide +kernel

/-- O32: a used section published DISTURBED, one published CLEAR, an unused one. -/
theorem witness_SectionWrites : (∀ c, Asks c (upAs .maintain) me .maintain 0 (sess .maintain)) ∧
    secUsed up.cfg.active 0 = true ∧ (up.tally.pub.sections.get 0).st = .disturbed ∧ secUsed up.cfg.active 47 = false :=
  ⟨fun c => asks c up .maintain rfl rfl, by decide +kernel⟩

/-- O33. -/
theorem witness_SectionTimers :
    (let s := { up with sect := up.sect.put 0 { st := .clearing } }
     (s.sect.get 0).st = .clearing ∧ (s.sect.get 0).count = 0 ∧ (s.sect.get 0).provRefs = 0) ∧
    ({ up with sect := up.sect.put 0 { rstate := .pending } }.sect.get 0).rstate = .pending := by decide +kernel

/-- O34: each level, and the ends of 16 bits. -/
theorem witness_PermitWrites : (∀ c, Asks c (upAs .operate) me .operate 0 (sess .operate)) ∧
    (∀ c, Asks c (upAs .maintain) me .maintain 0 (sess .maintain)) ∧
    65535 < 2 ^ 16 ∧ (1 ≠ 0 ∧ 1 ≠ 0x4152) :=
  ⟨fun c => asks c up .operate rfl rfl, fun c => asks c up .maintain rfl rfl, by decide, by decide, by decide⟩

def withPermit (x : Permit) : State := { up with permits := { up.permits with po := up.permits.po.put 0 x } }

/-- O35: each state of a permit, with and without a waiting edge. -/
theorem witness_PermitEdgesAndDrops :
    [PState.highz, .running, .dropping, .off].all (fun x => ((withPermit { st := x }).permits.po.get 0).st == x) = true ∧
    ((withPermit { st := .running, startNext := true }).permits.po.get 0).startNext = true ∧
    ((withPermit { st := .dropping, stopNext := true }).permits.po.get 0).stopNext = true ∧
    ((withPermit { st := .dropping }).permits.po.get 0).stopNext = false ∧ up.serving = true := by decide +kernel

/-- O37: a level expected and none, the third mismatch, a fault already recognised, a stall. -/
theorem witness_ReadbackAndStall :
    expectedLevel cfg1 0 0 ((withPermit { st := .highz }).permits.po.get 0) = none ∧
    expectedLevel cfg1 0 (sec 1) ((withPermit { st := .off, out := .low }).permits.po.get 0) = some false ∧
    3 ≤ ((withPermit { mism := 3 }).permits.po.get 0).mism ∧ ((withPermit { mism := 3 }).permits.po.get 0).runReported = false ∧
    ((withPermit { runReported := true }).permits.po.get 0).runReported = true ∧
    up.twin.stopLatch = false ∧ up.permits.stalled = false := by decide +kernel

/-- O38: no press; the longest press that is not stuck, counted and not; ACKn high; an arming. -/
theorem witness_Acknowledge :
    up.permits.ack.pressed = false ∧
    (let s := pressed (upAs .operate) (sec 10 - 1) (sec 5) (sec 5) false
     s.permits.ack.pressed = true ∧ s.now - s.permits.ack.pressAt < sec 5 ∧ ackCounts s = true ∧
       s.permits.ack.armedBy = some me) ∧
    ackCounts (pressed (upAs .operate) (sec 5 + ms 200 - 1) (sec 5) (sec 5) false) = false ∧
    (Ack.mk none 0 false 0 false (some 4) false false 0 0).highFrom = some 4 := by decide +kernel

def withEngine (e : Engine) : State := { up with engine := e }

/-- O39 (with the ledger below), O40: the timer and a SYNC give a tick; ALLOWANCE itself and one more; each waiting write; the last warm-up tick. -/
theorem witness_EngineTicks :
    tickFrom up .timer = true ∧ tickPort cfg2 = some .cana ∧ up.engine.flags.syncLost = false ∧
    tickFrom { up with cfg := { up.cfg with active := cfg2 } } (.sync .cana none 0) = true ∧
    (0 ≤ allowance cfg1 ∧ allowance cfg1 < allowance cfg1 + 1) ∧
    (let s := withEngine { mode := .follow, waiting := [⟨0x2500, 4, emodeCode .off, 0⟩] }
     s.engine.waiting = [⟨0x2500, 4, emodeCode .off, 0⟩] ∧ 0 ≤ s.net.pdSeq ∧ s.engine.fadeDue = false) ∧
    (withEngine { waiting := [⟨0x2500, 8, 1, 0⟩] }).engine.mode = .off ∧ (1 : Nat).testBit 0 = true ∧
    lawUsed cfg1 0 = true ∧
    (let s := withEngine { mode := .follow, warming := true, warmLeft := 1 }
     s.engine.warming = true ∧ s.engine.warmLeft = 1 ∧ s.engine.mode = .follow ∧ s.engine.waiting = []) := by decide +kernel

/-- O41: OPERATE, MAINTAIN and COMMISSION sessions. -/
theorem witness_EngineWrites : (∀ c, Asks c (upAs .operate) me .operate 0 (sess .operate)) ∧
    (∀ c, Asks c (upAs .maintain) me .maintain 0 (sess .maintain)) ∧
    (sess .operate).level = .operate ∧ 65535 < 2 ^ 16 :=
  ⟨fun c => asks c up .operate rfl rfl, fun c => asks c up .maintain rfl rfl, rfl, by decide⟩

/-- One confirmed axle of 5 t on section 1, and none. -/
def tracked (e : Entry) : State :=
  { up with tally := { up.tally with pub := { up.tally.pub with tracker :=
    { up.tally.pub.tracker with entries := up.tally.pub.tracker.entries.put 3 e } } } }

theorem witness_Ledger : OneAxle (tracked { st := .running, sec := some 1, load := some 500 }) 3 1 500 ∧
    frameKind cfg1 1 = 0 ∧ frameKind ((cfgKey 0x2511 0x21, 1) :: cfg1) 1 = 1 ∧
    ∀ j, (up.tally.pub.tracker.entries.get j).st = .free := by
  unfold OneAxle
  decide +kernel

def withTwin (t : Twin) : State := { up with twin := t }

/-- O42, O43, O44: a known-answer window with a difference in its lane, elsewhere and nowhere; an ordinary window with a
refresh held; a stop test in the window at hand. -/
theorem witness_ReeveWindows :
    (let s := withTwin { lockstep := true, window := 1024 }
     s.alive = true ∧ s.twin.lockstep = true ∧ s.twin.stopLatch = false ∧ s.twin.stagesGood = true ∧
       kaWindow s.twin.window = true ∧
       (0#32 : BitVec 32) ^^^ 2#32 = BitVec.ofNat 32 (2 ^ kaLaneOf s.twin.window)) ∧
    (let s := withTwin { lockstep := true, window := 2 ^ 32 - 1, held := [(2 ^ 32 - 1, .refresh {})] }
     kaWindow s.twin.window = false ∧ s.twin.stopTest ≠ some s.twin.window ∧
       s.twin.held.filter (fun w => w.1 == s.twin.window) = [(s.twin.window, .refresh {})]) ∧
    (let s := withTwin { lockstep := true, window := 3, held := [(3, .refresh {}), (4, .refresh {}), (3, .activation 1#16)] }
     s.twin.held.filter (fun w => w.1 == s.twin.window) = [(s.twin.window, .refresh {})] ++ [(s.twin.window, .activation 1#16)] ∧
       (1#16).getLsbD 0 = true ∧ (1#16).getLsbD 15 = false) ∧
    (signature 0#32 {} = signature 0#32 {} ∧ signature 0#32 {} ≠ signature 0#32 { retired := 1#32 } ∧
      signature 0#32 {} ^^^ signature 0#32 { retired := 1#32 } = 1#32 ∧
      signature 0#32 {} ^^^ signature 0#32 { retired := 2#32 } = BitVec.ofNat 32 (2 ^ kaLaneOf 1024)) ∧
    (255 < windowCycles ∧ (0#32 : BitVec 32) ≠ 1#32) ∧
    (let s := withTwin { lockstep := true, window := 7, stopTest := some 7 }
     kaWindow s.twin.window = false ∧ s.twin.stopTest = some s.twin.window ∧ (5#32 : BitVec 32) ^^^ 4#32 = 1#32) ∧
    (0#32 ≠ 3#32 ∧ (0#32 : BitVec 32) ^^^ 3#32 ≠ BitVec.ofNat 32 (2 ^ kaLaneOf 1024)) := by decide +kernel

theorem witness_StopTest : (∀ c, Asks c (upAs .commission) me .commission 0 (sess .commission)) ∧
    (65535 < 2 ^ 16 ∧ 65535 ≠ 0x5354) ∧ up.twin.stopTest = none ∧ (withTwin { lockstep := true }).twin.lockstep = true :=
  ⟨fun c => asks c up .commission rfl rfl, by decide, rfl, rfl⟩

def bank1 : Bank :=
  let b : Bank := { headerOk := true, generation := 1, digest := 0, fw := 0, checkWord := 0, act := none, image := imageOf [] }
  { b with checkWord := bankCrc b }

/-- O45: parity bits that are right and wrong; the latch clear with the watchdog armed, and the latch set at this
instant, earlier, and with the handler entered; a word of SRAM that is known to be uncorrectable and one that is not, an
image in a bank. -/
theorem witness_StopCauses : stageParity 0#224 ≠ 0#28 ∧ stageParity 0#224 = stageParity 0#224 ∧ up.serving = true ∧
    up.twin.stagesGood = true ∧ (withTwin { watchdog := true }).twin.watchdog = true ∧ up.twin.stopLatch = false ∧
    (let s := withTwin { stopLatch := true, stopCause := 4, stopAt := 0 }
     s.twin.stopLatch = true ∧ s.twin.stopAt = s.now ∧ s.twin.handler = false ∧ Nat.min s.twin.stopCause (1 + 1) = 2) ∧
    (let s := { withTwin { stopLatch := true, stopCause := 4, stopAt := 0 } with now := 1 }
     s.serving = true ∧ s.twin.stopLatch = true ∧ ¬ (s.twin.stopAt = s.now ∧ s.twin.handler = false)) ∧
    (let s := withTwin { stopLatch := true, stopCause := 4, stopAt := 0, handler := true }
     s.twin.stopLatch = true ∧ ¬ (s.twin.stopAt = s.now ∧ s.twin.handler = false)) ∧
    (sramBad { sramCheck := [(9, 5)] } (9#18).toNat = true ∧ sramBad up.twin up.twin.scrubAddr = false) ∧
    (flashPresent up (.program 0) = true ∧ flashBadAt up (.program 0) = none ∧
      flashPresent { up with cfg := { up.cfg with bank1 := some bank1 } } (.bank true 32767) = true ∧
      flashPresent up (.bank true 0) = false) := by decide +kernel

/-- O46: the latch set while the firmware runs; a halted core before and after its handler; a dump that is written, and one
that waits for the last sector of the queue and for the last but one. -/
theorem witness_FatalHandler :
    (let s := withTwin { stopLatch := true, stopCause := 1 }
     s.twin.handler = false ∧ s.alive = true ∧ s.twin.stopLatch = true ∧ dumpCause s = true) ∧
    dumpCause (withTwin { stopLatch := true, stopCause := 8 }) = false ∧
    (upIn .debugHalted).twin.handler = false ∧ (upIn .debugHalted).power.phase = .debugHalted ∧
    (let s := { upIn .stopped with recd := { dump := { st := .writing } } }; s.serving = true ∧ s.recd.dump.st = .writing) ∧
    [1, 2].all (fun w =>
      let q : List Rec := List.replicate 2 ⟨some 9, 0, 0, 0x12, [], 5⟩
      let s := { upIn .stopped with recd :=
        { st := .ready, stopped := true, writing := w, label := some ⟨8, 4096, 64, 0⟩, queue := q, dump := { next := some {} } } }
      s.serving && s.recd.st == .ready && s.recd.stopped && s.recd.queue == q && !flushAbandoned s && s.recd.dump.next == some {} &&
        (s.recd.queue.drop w == if w = 2 then [] else q.take 1)) = true := by
  decide +kernel

def withCan (x : CanState) : State := { up with net := { up.net with can := Tab.all x } }

/-- O47: a port that takes NMT, in service and STOPPED. -/
theorem witness_NetworkManagement : canTakes up .a = true ∧ canTakes (upIn .stopped) .b = true ∧ up.alive = true ∧
    (upIn .stopped).power.phase = .stopped ∧ canEnabled cfg1 .b = true ∧
    (withCan { bus := .busOff, recessive := true }).serving = true ∧
    ((withCan { bus := .busOff, recessive := true }).net.can.get (canIdx .b)).recessive = true := by decide +kernel

/-- O48: error passive, bus-off, a consumer entry that runs, each kind of port with a heartbeat. -/
theorem witness_PortStates :
    canTakes up .a = true ∧ (up.net.can.get 0).bus ≠ .passive ∧ (up.net.can.get 0).bus ≠ .busOff ∧
    canSends (withCan { nmt := .preop }) .b (fun n => n == .preop || n == .operational) = true ∧
    bitOf (cobOn cfg1 .b 0x1014 0 0x80) 31 = false ∧
    canTakes (withCan { bus := .passive }) .a = true ∧ ((withCan { bus := .busOff }).net.can.get 0).bus = .busOff ∧
    ((withCan { bus := .busOff, rejoin := true }).net.can.get 0).rejoin = true ∧
    (hbNode cfg1 0 = 5 ∧ hbTime cfg1 0 ≠ 0) ∧ hbNode cfg1 3 ≠ 5 ∧
    ((withCan { hbAt := Tab.all (some 3) }).net.can.get 1).hbAt.get 3 = some 3 ∧
    (portEnabled cfg1 .eta = true ∧ heartbeatMs cfg1 .eta ≠ 0) ∧ (portEnabled cfg1 .cana = true ∧ heartbeatMs cfg1 .cana ≠ 0) := by
  decide +kernel

/-- O49: an RPDO in and out of Operational, from ETA, its timer, LOST_RX, an event-driven TPDO and an SRDO. -/
theorem witness_ProcessData :
    (let s := withCan { nmt := .operational }
     canTakes s .a = true ∧ (s.net.can.get (canIdx .a)).nmt = .operational ∧
       bitOf (cfgGet s.cfg.active 0x1400 1) 31 = false ∧ mapBytes (mapEntries s.cfg.active 0x1600) ≤ [1#8, 2#8, 3#8, 4#8].length) ∧
    ((withCan { nmt := .preop }).net.can.get (canIdx .b)).nmt ≠ .operational ∧
    (ethEnabled cfg1 .a = true ∧ ethPdRx cfg1 .a = true ∧ frameTaken cfg1 .a { dest := 0xFFFFFFFFFFFF, source := 2 } = true) ∧
    ([(PortId.cana, 0, 5)].find? (fun e => e.1 == .cana && e.2.1 == 0) = some (.cana, 0, 5) ∧ cfgGet cfg1 0x1400 5 ≠ 0) ∧
    (tpdoOn cfg1 0 = true ∧ tpdoEventDriven cfg1 0 = true ∧ tpdoTimer cfg1 0 ≠ 0) ∧ srdoOn cfg1 0 = true := by decide +kernel

/-- O49: an SRDO is valid or is not, whatever its checksum, which is a free value (log 5). -/
theorem witness_SrdoValid (c : CfgMap) (n : Nat) : srdoValid c n = true ∨ srdoValid c n = false := by
  cases srdoValid c n <;> simp

def canSess : Session := { port := .cana, number := 1, peer := 0, level := .operate, lastAt := 0 }

/-- O50: a channel with its session, one without and a free slot, one without and none; reads and writes that pass and
that do not; a transfer under way. -/
theorem witness_SdoTransfers :
    (let s := withSession (withCan { nmt := .preop }) canSess
     sdoServed s .a 0 = true ∧ channelSession s 0 = some (.a, 0) ∧ s.net.sessions.get 0 = some canSess ∧
       readCheck s 0x1000 0 = 0 ∧ readCheck s 0x9999 0 ≠ 0 ∧ isSessionObject 0x2300 0x33 = false ∧
       receiptAbort s (some canSess) 0x2300 0x33 [1#8, 0#8] = 0 ∧ receiptAbort s (some canSess) 0x1000 0 [1#8] ≠ 0) ∧
    (let s := withCan { nmt := .preop }; channelSession s 0 = none ∧ freeSession s = some 0) ∧
    (let s := { up with net := { up.net with sessions := Tab.all (some (sess .observe)) } }
     channelSession s 3 = none ∧ freeSession s = none) ∧
    (let x : SdoXfer := ⟨.b, 0x2900, 0x0B, true, 20, [], false, 0⟩
     (Tab.put (Tab.all (n := 4) (none : Option SdoXfer)) 3 (some x)).get 3 = some x) := by decide +kernel

/-- A held write of INHIBIT from a port. -/
def heldInhibit (p : PortId) : HeldWrite :=
  { by_ := ⟨p, 1⟩, pos := 0, index := 0x2300, sub := 0x33, data := [1#8, 0#8], row := true }

/-- A session on SPI of which a write is held. -/
def withHeld : State :=
  let s := upAs .commission
  { s with net := { s.net with held := [heldInhibit .spi] } }

/-- O51: a write refused at receipt and one that is held; a request while a write is held; a staged write with the staged configuration free and locked;
two writes to one object, from ports of either order; a held FB_VALUE. -/
theorem witness_WritesAndJudgement :
    (∀ c, Asks c (upAs .commission) me .observe 0 (sess .commission)) ∧
    receiptAbort (upAs .commission) (some (sess .commission)) 0x1000 0 [0#8] ≠ 0 ∧
    ((objInfo 0x2100 1).any (fun ob => ob.inCfg && ob.cls == .staged) = true ∧
      isSessionObject 0x2100 1 = false ∧
      receiptAbort (upAs .commission) (some (sess .commission)) 0x2100 1 (List.replicate 8 0#8) = 0 ∧
      cfgLocked (upAs .commission) = false ∧
      cfgLocked { upAs .commission with cfg := { up.cfg with epoch := some 1 } } = true) ∧
    (heldAbort up (heldInhibit .cana) = 0 ∧ heldAbort up (heldInhibit .spi) = 0 ∧
      (portRank cfg1 .spi < portRank cfg1 .cana ∨ portRank cfg1 .cana < portRank cfg1 .spi)) ∧
    (entered (up.tickInstant (timerTicks up)) = false ∧
      entered ((upAs .commission).tickInstant (timerTicks (upAs .commission))) = false) ∧
    (sessionSlot withHeld me = some 0 ∧ withHeld.net.sessions.get 0 = some (sess .commission) ∧
      outstanding withHeld (sess .commission) = true) ∧
    heldHibernate { by_ := ⟨.cana, 0⟩, pos := 0, index := 0x2501 + 15, sub := 0x1D, data := List.replicate 4 0#8 } = false :=
  ⟨fun c => asksLower c up .commission .observe rfl rfl (by decide), by decide +kernel, by decide +kernel, by decide +kernel, by decide +kernel,
    by decide +kernel⟩

/-- A header on SPI, and one on ETA to all. -/
def onSpi (session seq : Nat) : Hdr := { port := .spi, session := session, seq := seq }
def onEta (seq : Nat) : Hdr := { port := .eta, link := { dest := 0xFFFFFFFFFFFF, source := 0x1234 }, session := 0, seq := seq }

/-- O52: a port that takes datagrams, with a free slot and without, a takeover with one match and with none, the expected
SEQ and one that is neither expected nor the one before, a session with a write held. -/
theorem witness_SessionRequests :
    (let s := upAs .operate
     takesDatagrams s (onSpi 1 0) = true ∧ freeSession s = some 1 ∧ takeoverSlots s (onSpi 0 0) 1 = [0] ∧
       takeoverSlots s (onSpi 0 0) 2 = [] ∧ hdrSlot s (onSpi 1 0) = some 0 ∧
       outstanding s (sess .operate) = false ∧ (0 : Nat) = (sess .operate).expected ∧
       (7 ≠ (sess .operate).expected ∧ (7 + 1) % 65536 ≠ (sess .operate).expected) ∧
       receiptAbort s (some (sess .operate)) 0x2300 0x33 [1#8, 0#8] = 0 ∧
       receiptAbort s (some (sess .operate)) 0x2300 0x33 [1#8] ≠ 0) ∧
    freeSession { up with net := { up.net with sessions := Tab.all (some (sess .observe)) } } = none ∧
    takesDatagrams up (onEta 0) = true ∧
    (takesDatagrams withHeld (onSpi 1 0) = true ∧ hdrSlot withHeld (onSpi 1 0) = some 0 ∧
      (onSpi 1 0).seq = (sess .commission).expected ∧ outstanding withHeld (sess .commission) = true) := by decide +kernel

/-- O53: a malformed datagram on ETA; the first bytes of SPI frames that do not hold; a frame in the queue. -/
theorem witness_FramesAndMalformed : takesDatagrams up (onEta 65535) = true ∧ isEth .eta = true ∧
    (ofLe ([0x11#8].take 1) ≠ 0 ∧ ofLe ([0x11#8].take 1) ≠ 0xA5) ∧ (255 < 256 ∧ 65535 < 65536) ∧
    { up with net := { up.net with spiQueue := [⟨none, 0x91, 0, 0, 0, 0, 0, []⟩] } }.net.spiQueue
      = [⟨none, 0x91, 0, 0, 0, 0, 0, []⟩] := by decide +kernel

/-- O54, O55: a session with a challenge, a port that is locked, a key of which no byte is 0 and one of zeros, KEY_ID 0
and not. -/
theorem witness_SessionEndAndAuthorisation :
    (let x := { sess .observe with challenge := some (5#128, 3) }
     (withSession up x).net.sessions.get 0 = some x ∧ x.challenge = some (5#128, 3) ∧ challengeValid (withSession up x) x = true) ∧
    challengeValid up (sess .observe) = false ∧
    (let s := { upAs .observe with net := { (upAs .observe).net with ports := Tab.all { authFails := 2, authLockAt := some 9 } } }
     (s.net.ports.get (portIdx .spi)).authLockAt = some 9 ∧ 2 ≤ (s.net.ports.get (portIdx .spi)).authFails) ∧
    (let s := { up with net := { up.net with keyId := 5 } }; s.net.keyId ≠ 0 ∧ authRefused s .eta = false) ∧
    (List.replicate 32 1#8).length = 32 ∧ ofLe (List.replicate 32 1#8) ≠ 0 ∧ ofLe (List.replicate 32 0#8) = 0 ∧
    up.net.keyId = 0 ∧ (sess .observe).port = .spi := by decide +kernel

theorem witness_ErrorHistoryClear : ∃ a : Nat, (let s := { up with net := { up.net with emcy := { lastAlarms := a } } }
    alarms s = s.net.emcy.lastAlarms) := ⟨alarms up, by decide +kernel⟩

theorem witness_DeviceKey : (∀ c, Asks c (upAs .commission) me .observe 0 (sess .commission)) ∧
    (∀ c, Asks c (upAs .commission) me .commission 0 (sess .commission)) ∧
    (∀ c, Asks c (upAs .commission) me .maintain 0 (sess .commission)) :=
  ⟨fun c => asksLower c up .commission .observe rfl rfl (by decide), fun c => asks c up .commission rfl rfl,
    fun c => asksLower c up .commission .maintain rfl rfl (by decide)⟩

/-- O55: sessions on SPI and on ETA. -/
theorem witness_KeylessAuthorisation : (∀ c, Asks c (upAs .observe) me .observe 0 (sess .observe)) ∧
    (let x : Session := { port := .eta, number := 1, peer := 7, lastAt := 0 }
     (∀ c, Asks c (withSession up x) ⟨.eta, 1⟩ .observe 0 x) ∧ x.port ≠ .spi) ∧ 3 ≤ 3 :=
  ⟨fun c => asks c up .observe rfl rfl, ⟨fun c => ⟨rfl, uncontested c _ rfl, by decide +kernel, rfl, by decide +kernel, by decide⟩, by decide⟩, by decide⟩

/-- O56: a free store and a busy one, a shadow, a bank with an image, images that pass and that do not, EPOCH at its ends. -/
theorem witness_ConfigurationCommands :
    (∀ c, Asks c (upAs .commission) me .commission 0 (sess .commission)) ∧ (up.cfg.job = none ∧ up.cfg.epoch = none) ∧
    shadowValid { up with cfg := { up.cfg with shadow := some cfg1 } } = true ∧ up.cfg.staged = up.cfg.active ∧
    cfgLocked up = false ∧ cfgLocked { up with cfg := { up.cfg with epoch := some 1 } } = true :=
  ⟨fun c => asks c up .commission rfl rfl, by decide +kernel, by decide +kernel, rfl, by decide +kernel, by decide +kernel⟩

theorem witness_CommandRefused : cfgCmdRefused { up with cfg := { up.cfg with job := some .check } } cmdCheck = true := by
  decide +kernel

theorem witness_CfgImage : imageCheck (imageOf []) = (0, 0) ∧ 1 ≤ (imageOf []).length ∧ (imageOf []).length ≤ 65536 ∧
    imageCheck [1#8] ≠ (0, 0) := by decide +kernel

theorem witness_Epoch : epochRefused up 1 = true ∧ up.cfg.job ≠ some .activation ∧
    epochRefused { up with cfg := { up.cfg with active := cfg2, staged := cfg2, shadow := some cfg2 } } 7 = false := by
  decide +kernel

theorem witness_LoadShadow : bankOf { up.cfg with bank1 := some bank1 } (inactiveBank { up.cfg with bank1 := some bank1 }) = some bank1 ∧
    bankGood bank1 = true ∧ imageCheck bank1.image = (0, 0) := by decide +kernel

/-- O57: each job, with a configuration that passes its check and one that does not, a permit in use and one not. -/
theorem witness_ConfigurationCompletions :
    [CfgJob.check, .store, .adopt, .activation].all (fun j => { up with cfg := { up.cfg with job := some j } }.cfg.job == some j) = true ∧
    up.twin.stopLatch = false ∧ permitAssigned cfg1 0 = true ∧ permitAssigned cfg1 1 = false := by decide +kernel

/-- The factory defaults with MAC addresses of their own, 02:00:00:00:00:04 and :05, in place of those of SERIAL. -/
def cfg0 : CfgMap :=
  let eth (mac phy : Nat) := mac * 256 ^ 5 + 2 + 0xFFFFFFFFFFFF * 256 ^ 6 + 255 * 256 ^ 12 + 8 * 256 ^ 13 + 32 * 256 ^ 14
    + 128 * 256 ^ 16 + 1000 * 256 ^ 18 + 10 * 256 ^ 20 + phy * 256 ^ 24
  [(cfgKey 0x2B00 4, eth 4 0), (cfgKey 0x2B00 5, eth 5 1)]

theorem witness_CheckPasses : (cfgCheckOf cfg0).1 = 0 := by decide +kernel

theorem witness_CheckFails : (cfgCheckOf (cfgSet [] 0x2700 1 0x1000)).1 ≠ 0 := by decide +kernel

def rec1 : Rec := ⟨some 9, 0, 0, 0x09, [], 5⟩
def withBook (r : Recorder) : State := { up with recd := r }

/-- O58: each state of the book; a record to flush; a sector under write; the second and the third failure; a loss. -/
theorem witness_RecorderStorage : Memory.wf up.emmc = true ∧
    [BookState.opening, .noCard, .failed].all (fun x => (withBook { st := x }).recd.st == x) = true ∧
    (let s := withBook { st := .ready, opened := true, queue := [rec1] }
     flushDue s.goingDown s.recd = some (5 + ms 50) ∧ flushAbandoned s = false ∧ s.recd.opened = true ∧ s.recd.st = .ready ∧
       s.recd.writing = 0 ∧ s.recd.asleep = false ∧ flushAbandoned (s.reach (5 + ms 50)) = false) ∧
    (let l : Label := ⟨8, 4096, 64, 0⟩
     let s := withBook { st := .ready, label := some l, queue := [rec1], writing := 1, failures := 1 }
     s.recd.label = some l ∧ s.recd.queue = [rec1] ∧ rec1.number = some 9 ∧ 0 < s.recd.writing ∧ s.recd.failures < 2 ∧
       emmcWrites s.recd = true) ∧
    ([BookState.opening, .ready, .noBook, .foreign, .tooSmall].all emmcUsed = true ∧
      emmcWrites { st := .noBook, job := some (.found me) } = true ∧ emmcWrites { st := .opening } = true) ∧
    flushAbandoned (entering (ms 40 + 1)) = true ∧
    (flushAbandoned { entering (ms 40 + 1) with recd := { st := .opening } } = true ∧
      flushAbandoned (up.reach (up.recd.failedAt + sec 10)) = false ∧ flushAbandoned up = false) ∧ 2 ≤ (withBook { st := .ready, failures := 2 }).recd.failures ∧
    Roomy (withBook { lossAt := some 4 }) :=
  ⟨by decide +kernel, by decide +kernel, by decide +kernel, by decide +kernel, by decide +kernel, by decide +kernel,
    by decide +kernel, by unfold Roomy; decide +kernel⟩

/-- O59: READY without a command, a book to found in a window that fits by one slot and in one that does not, both jobs, a loss before a CLEAR. -/
theorem witness_RecorderCommands :
    (∀ c, Asks c (upAs .commission) me .commission 0 (sess .commission)) ∧ (withBook { st := .ready }).recd.job = none ∧
    recCmdRefused (withBook { st := .noBook }) recClearCode = true ∧
    windowTooSmall (withBook { st := .foreign, cardW := 64 + cfgGet cfg1 0x2800 4 + 524288 }) = false ∧
    windowTooSmall (withBook { st := .noBook, cardW := 64 + cfgGet cfg1 0x2800 4 + 524288 - 1 }) = true ∧
    (withBook { job := some (.found me) }).recd.job = some (.found me) ∧
    (let s := withBook { st := .ready, job := some (.clear me true 1 2), label := some ⟨8, 4096, 64, 0⟩, queue := List.replicate 1014 rec1 }
     s.recd.job = some (.clear me true 1 2) ∧ s.recd.label = some ⟨8, 4096, 64, 0⟩ ∧ s.recd.st = .ready ∧
       s.recd.queue.length + 10 = recCap) ∧
    (let s := withBook { st := .ready, job := some (.clear me false 1 2), label := some ⟨8, 4096, 64, 0⟩, next := 3, lost := 1 }
     0 < s.recd.lost ∧ s.recd.exhausted = false ∧ s.recd.next + 8 < 0xFFFFFFFF) ∧
    flushAbandoned (entering (ms 40 + 1)) = true ∧
    (let s := withBook { st := .ready, job := some (.cleared 9), label := some ⟨8, 4096, 64, 0⟩, queue := [rec1], writing := 1 }
     s.serving = true ∧ s.recd.job = some (.cleared 9) ∧ s.recd.queue = rec1 :: [] ∧ 0 < s.recd.writing ∧
       flushAbandoned s = false ∧ (s.recd.queue.take s.recd.writing).any (fun x => x.number == some 9) = true) ∧
    (2 ^ 64 - 1 < 2 ^ 64) := ⟨fun c => asks c up .commission rfl rfl, by decide +kernel⟩

theorem witness_Correlate : (∀ c, Asks c (upAs .operate) me .operate 0 (sess .operate)) ∧
    (∀ c, Asks c (upAs .operate) me .observe 0 (sess .operate)) ∧ Roomy (upAs .operate) :=
  ⟨fun c => asks c up .operate rfl rfl, fun c => asksLower c up .operate .observe rfl rfl (by decide),
    by unfold Roomy; decide +kernel⟩

/-- A device that its fatal handler has stopped, with a session whose DUMP_OFFSET is the last one, in a state of the dump. -/
def stoppedWith (d : DState) : State :=
  withSession { upIn .stopped with recd := { st := .ready, dump := { st := d } } } { sess .observe with dumpOffset := 16776704 }

/-- O60: a running device and a stopped one, whose dump is being written or is not; offsets at the ends and beyond. -/
theorem witness_DumpWindowReads : Served (upAs .observe) me 0 (sess .observe) ∧
    (∀ d, Served (stoppedWith d) me 0 { sess .observe with dumpOffset := 16776704 } ∧ (stoppedWith d).recd.dump.st = d ∧
      (stoppedWith d).power.phase = .stopped ∧ noMedium (stoppedWith d) = false) ∧
    (upAs .observe).recd.dump.st ≠ .writing ∧
    (0 % 512 = 0 ∧ 16776704 % 512 = 0 ∧ 16776704 ≤ 16776704 ∧ 16776704 < 2 ^ 32) ∧ (16777216 % 512 = 0 ∧ 16776704 < 16777216) ∧
    (1 % 512 ≠ 0 ∧ 2 ^ 32 - 1 < 2 ^ 32) :=
  ⟨⟨rfl, rfl, rfl, by decide +kernel⟩, fun _ => ⟨⟨rfl, rfl, rfl, by rfl⟩, rfl, rfl, rfl⟩, by decide +kernel⟩

/-- R488, R495: a stopped device takes DUMP_OFFSET, and refuses DUMP_WINDOW while it writes the dump. -/
theorem test_stopped_dump :
    (let t := ((stoppedWith .writing).rowReceive me 0x2800 0x0E (leBytes 4 512)).1
     t.sent = [Msg.answer me 0x2800 0x0E 0] ∧ (t.net.sessions.get 0).any (fun x => x.dumpOffset == 512) = true) ∧
    ((stoppedWith .writing).rowRead me 0x2800 0x0F).sent = [Msg.answer me 0x2800 0x0F 0x08000022] := by decide +kernel

-- mapping entries (R375): FB_VALUE of law 0 into an RPDO; SEC_CLEAR_MAP, AUTH_RESPONSE and CFG_IMAGE
theorem test_map_rpdo : mapAbort 0x1600 1 0x25011D20 = 0 ∧ mapAbort 0x1607 16 0x20003040 = 0x06040041 := by decide +kernel
theorem test_map_tpdo : mapAbort 0x1A00 1 0x20003040 = 0 ∧ mapAbort 0x1A0F 16 0x2B000F40 = 0x06040041 ∧
    mapAbort 0x1A00 2 0x29000B40 = 0x06040041 := by decide +kernel

end Sys2Proof.Tests
end

/-! SUPPORT. A tick of the moment engine: what it does before it commits or overruns, what an overrun leaves, what a
commit clears; with them O40 (R315, R316, R323). -/

namespace Sys2Proof.Machine

-- the engine before the first step of a tick
/-- `f` is `e` but for the instants of the latest tick and SYNC, and SYNC_LOST, which a SYNC clears (R316). -/
def Engine.SameButInstants (e f : Engine) : Prop :=
  ∃ (tickAt syncAt : Nat) (lost : Bool),
    f = { e with tickAt := tickAt, syncAt := syncAt, flags := { e.flags with syncLost := lost } }

theorem Engine.SameButInstants.refl (e : Engine) : e.SameButInstants e := ⟨_, _, _, rfl⟩

theorem Engine.SameButInstants.trans {e f g : Engine} (h : e.SameButInstants f) (k : f.SameButInstants g) :
    e.SameButInstants g := by
  obtain ⟨_, _, _, rfl⟩ := h
  obtain ⟨_, _, _, rfl⟩ := k
  exact ⟨_, _, _, rfl⟩

@[simp] theorem State.hostPd_engine (s : State) (p : PortId) (seq : Nat) : (s.hostPd p seq).engine = s.engine :=
  (keeps_hostPd s p seq).same .engine (by decide)

@[simp] theorem State.hostPd_cfg (s : State) (p : PortId) (seq : Nat) : (s.hostPd p seq).cfg = s.cfg :=
  (keeps_hostPd s p seq).same .cfg (by decide)

@[simp] theorem State.epochSync_engine (s : State) (c : Option Nat) : (s.epochSync c).engine = s.engine :=
  (keeps_epochSync s c).same .engine (by decide)

/-- An epoch that comes only begins its activation: the active configuration is still the one before (R451). -/
@[simp] theorem State.epochSync_active (s : State) (c : Option Nat) : (s.epochSync c).cfg.active = s.cfg.active := by
  unfold State.epochSync
  split
  · rfl
  · extract_lets s1
    split
    · rfl
    · extract_lets late
      split <;> rfl

@[simp] theorem State.sendAtTick_engine (s : State) : s.sendAtTick.engine = s.engine :=
  (keeps_sendAtTick s).same .engine (by decide)

@[simp] theorem State.sendAtTick_cfg (s : State) : s.sendAtTick.cfg = s.cfg :=
  (keeps_sendAtTick s).same .cfg (by decide)

@[simp] theorem State.openInstant_cfg (s : State) (src : TickSource) : (s.openInstant src).cfg = s.cfg :=
  (keeps_openInstant s src).same .cfg (by decide)

theorem State.tickInstant_engine (s : State) (timer : Bool) :
    s.engine.SameButInstants (s.tickInstant timer).engine := by
  unfold State.tickInstant
  cases timer <;> exact ⟨_, _, _, rfl⟩

theorem State.openInstant_engine (s : State) (src : TickSource) :
    s.engine.SameButInstants (s.openInstant src).engine := by
  unfold State.openInstant
  dsimp only
  split
  · exact .refl _
  · exact s.tickInstant_engine _

theorem State.takeSync_engine (s : State) (src : TickSource) :
    s.engine.SameButInstants (s.takeSync src).engine := by
  cases src with
  | timer => exact .refl _
  | sync p counter seq =>
    simp only [State.takeSync, apply_ite State.engine, State.epochSync_engine, State.hostPd_engine, ite_self]
    split
    · exact ⟨_, _, _, rfl⟩
    · exact .refl _

@[simp] theorem State.takeSync_active (s : State) (src : TickSource) :
    (s.takeSync src).cfg.active = s.cfg.active := by
  cases src with
  | timer => rfl
  | sync p counter seq =>
    simp only [State.takeSync, apply_ite State.cfg, apply_ite Cfg.active, State.epochSync_active, State.hostPd_cfg,
      ite_self]

/-- What every tick does, committed or not: the tick instant, the SYNC that gives it, and what is sent at it (R315). -/
def State.beginTick (s : State) (src : TickSource) : State := ((s.openInstant src).takeSync src).sendAtTick

theorem State.beginTick_engine (s : State) (src : TickSource) :
    s.engine.SameButInstants (s.beginTick src).engine := by
  rw [State.beginTick, State.sendAtTick_engine]
  exact (s.openInstant_engine src).trans (State.takeSync_engine _ src)

@[simp] theorem State.beginTick_active (s : State) (src : TickSource) :
    (s.beginTick src).cfg.active = s.cfg.active := by
  rw [State.beginTick, State.sendAtTick_cfg, State.takeSync_active, State.openInstant_cfg]

-- a tick that overruns, and one that commits
/-- An overrunning tick: its beginning, then the overrun (R323). -/
def State.overrunTick (s : State) (src : TickSource) : State :=
  { s.beginTick src with engine := engineOverrun (s.beginTick src).engine }

theorem tickOverrun_of_tickFrom {s : State} {src : TickSource} (n : Nat) (h : tickFrom s src = true) :
    tickOverrun src n s = s.overrunTick src := if_pos h

theorem tick_of_allowance_lt {s : State} {src : TickSource} {n : Nat} (h : tickFrom s src = true)
    (hn : allowance s.cfg.active < n) : tick src n s = s.overrunTick src := by
  rw [← s.beginTick_active src] at hn
  exact (if_pos h).trans (if_pos hn)

theorem tick_of_le_allowance {s : State} {src : TickSource} {n : Nat} (h : tickFrom s src = true)
    (hn : n ≤ allowance s.cfg.active) :
    tick src n s = (s.beginTick src).engineTick (s.beginTick src).net.pdSeq n := by
  rw [← s.beginTick_active src] at hn
  exact (if_pos h).trans (if_neg (Nat.not_lt.mpr hn))

@[simp] theorem State.engineRecord_engine (s : State) (a b : EMode) : (s.engineRecord a b).engine = s.engine :=
  (keeps_engineRecord s a b).same .engine (by decide)

@[simp] theorem State.fadeAgain_engine (s : State) (was : EngineFlags) : (s.fadeAgain was).engine = s.engine :=
  (keeps_fadeAgain s was).same .engine (by decide)

theorem State.engineTick_engine (s : State) (n cycles : Nat) : (s.engineTick n cycles).engine =
    (tickCommit s s.engine (tickWrites s.cfg.active s.engine n) cycles).1 := by
  simp only [State.engineTick, apply_ite State.engine, State.engineRecord_engine, State.fadeAgain_engine, ite_self]

theorem tickCommit_overrun (s : State) (e : Engine) (x : TickIn) (cycles : Nat) :
    (tickCommit s e x cycles).1.flags.overrun = false := rfl

theorem tickCommit_ovrConsec (s : State) (e : Engine) (x : TickIn) (cycles : Nat) :
    (tickCommit s e x cycles).1.ovrConsec = 0 := rfl

/-- The engine `f` after an overrun of the engine `e`: the overrun is counted, and what a tick commits is as before (R323). -/
def Engine.Overran (e f : Engine) : Prop :=
  f.ovrCount = satInc32 e.ovrCount ∧ f.ovrConsec = satInc 3 e.ovrConsec ∧
  f.flags = { e.flags with overrun := true, syncLost := f.flags.syncLost } ∧
  f = { e with
    ovrCount := f.ovrCount, ovrConsec := f.ovrConsec, flags := f.flags
    quality := f.quality, fadeDue := f.fadeDue, tickAt := f.tickAt, syncAt := f.syncAt }

theorem Engine.SameButInstants.overran {e f : Engine} (h : e.SameButInstants f) : e.Overran (engineOverrun f) := by
  obtain ⟨_, _, _, rfl⟩ := h
  exact ⟨rfl, rfl, rfl, rfl⟩

theorem State.overrunTick_engine (s : State) (src : TickSource) : s.engine.Overran (s.overrunTick src).engine :=
  (s.beginTick_engine src).overran

-- the commands
@[simp] theorem State.begin_tickFrom (s : State) (src : TickSource) : tickFrom s.begin src = tickFrom s src := by
  cases src with
  | timer => rfl
  | sync p counter seq => cases p <;> rfl

/-- How a row ends whose meaning is `f` while the firmware runs. -/
theorem runs_whenAlive {c : Instr} {s : State} {f : State → State} {post : State → Prop}
    (hc : exec c s = run s fun s => s.whenAlive f) (ha : s.alive = true) (hp : post (f s.begin).finish) :
    Runs c s post := by
  refine ⟨(f s.begin).finish, ?_, hp⟩
  have hb : s.begin.whenAlive f = f s.begin := if_pos ha
  rw [hc, run, hb]

theorem overrunTick_finish_engine (s : State) (src : TickSource) :
    s.engine.Overran (s.begin.overrunTick src).finish.engine := by
  rw [State.finish_engine]
  exact s.begin.overrunTick_engine src

/-- Settles O40: both ways of an overrun are `State.overrunTick`, whose engine differs from the one before by what the
beginning of a tick and `engineOverrun` write; a committed tick ends in `tickCommit`, which clears OVERRUN and
OVR_CONSEC. -/
theorem overrunCommitsNothing : Obligations.OverrunCommitsNothing := by
  unfold Obligations.OverrunCommitsNothing
  intro s src n ha hsrc
  have hb : tickFrom s.begin src = true := by rw [State.begin_tickFrom, hsrc]
  refine ⟨?_, fun hn => ?_⟩
  · rintro c (rfl | ⟨rfl, hn⟩)
    · refine runs_whenAlive (f := tickOverrun src n) rfl ha ?_
      rw [tickOverrun_of_tickFrom n hb]
      exact overrunTick_finish_engine s src
    · refine runs_whenAlive (f := tick src n) rfl ha ?_
      rw [tick_of_allowance_lt hb hn]
      exact overrunTick_finish_engine s src
  · refine runs_whenAlive (f := tick src n) rfl ha ?_
    rw [tick_of_le_allowance hb hn, State.finish_engine, State.engineTick_engine]
    exact ⟨tickCommit_overrun .., tickCommit_ovrConsec ..⟩

end Sys2Proof.Machine

/-! SUPPORT. The Reeve's comparison: how its outcome follows from the signatures, what a pass and a stop leave of the
latch, the known answers and the pulse, what boot leaves of the twin; with them O43 (R344 to R346, R348). -/

namespace Sys2Proof.Machine

/-- How a row ends whose meaning is `f`. -/
theorem runs_of_run {c : Instr} {s : State} {f : State → State} {post : State → Prop} (hc : exec c s = run s f)
    (hp : post (f s.begin).finish) : Runs c s post := ⟨(f s.begin).finish, hc, hp⟩

-- the stop latch
@[simp] theorem State.stopLatch_now (s : State) (c : Nat) (g : Option (BitVec 32 × BitVec 32)) :
    (s.stopLatch c g).now = s.now := (keeps_stopLatch s c g).same .now (by decide)

/-- A further cause leaves of the twin all but STOP_SEEN and STOP_CAUSE (R350). -/
theorem State.stopLatch_twin_of_latched {s : State} (c : Nat) (g : Option (BitVec 32 × BitVec 32))
    (h : s.twin.stopLatch = true) : (s.stopLatch c g).twin = { s.twin with
      stopSeen := s.twin.stopSeen ||| BitVec.ofNat 9 (2 ^ (c - 1)), stopCause := causeWith s c } :=
  congrArg State.twin (if_pos h)

/-- What the first cause leaves of the twin (R348, R350, R361). -/
theorem State.stopLatch_twin_of_unlatched {s : State} (c : Nat) (g : Option (BitVec 32 × BitVec 32))
    (h : s.twin.stopLatch = false) : (s.stopLatch c g).twin = { s.twin with
      stopLatch := true, stopCause := c, stopSeen := BitVec.ofNat 9 (2 ^ (c - 1))
      stopWindow := if g.isSome then s.twin.window else windowNow s
      stopSigA := (g.getD (Config.stopSigA s.fresh, Config.stopSigB s.fresh)).1
      stopSigB := (g.getD (Config.stopSigA s.fresh, Config.stopSigB s.fresh)).2
      stopGridTime := gridTime s, stopAt := s.now
      stopArmed := s.twin.watchdog, watchdog := false, lockstep := false, held := [] } :=
  congrArg State.twin (if_neg (Bool.not_eq_true _ ▸ h))

/-- A cause whose code is not lower than the first one does not change STOP_CAUSE (R350, R360). -/
theorem causeWith_of_le {s : State} {c : Nat} (h : s.twin.stopCause ≤ c) : causeWith s c = s.twin.stopCause := by
  unfold causeWith
  split
  · exact Nat.min_eq_left h
  · rfl

-- the steps of a comparison
@[simp] theorem State.applyPermitWrites_twin (s : State) (ws : List PermitWrite) :
    (ws.foldl State.applyPermitWrite s).twin = s.twin :=
  (Keeps.foldl (l := [.permits]) keeps_applyPermitWrite (.refl _ s) ws).same .twin (by decide)

@[simp] theorem State.applyPermitWrites_now (s : State) (ws : List PermitWrite) :
    (ws.foldl State.applyPermitWrite s).now = s.now :=
  (Keeps.foldl (l := [.permits]) keeps_applyPermitWrite (.refl _ s) ws).same .now (by decide)

@[simp] theorem State.reevePass_now (s : State) (n : Nat) : (s.reevePass n).now = s.now :=
  (keeps_reevePass s n).same .now (by decide)

/-- A pass releases the writes of its window and pulses the watchdog (R346, R347). -/
@[simp] theorem State.reevePass_twin (s : State) (n : Nat) : (s.reevePass n).twin =
    { s.twin with held := s.twin.held.filter (fun w => w.1 != n), pulseAt := s.now } := by
  simp [State.reevePass]

@[simp] theorem State.windowDone_now (s : State) (n : Nat) : (s.windowDone n).now = s.now := rfl
@[simp] theorem State.windowDone_stopLatch (s : State) (n : Nat) :
    (s.windowDone n).twin.stopLatch = s.twin.stopLatch := rfl
@[simp] theorem State.windowDone_stopCause (s : State) (n : Nat) :
    (s.windowDone n).twin.stopCause = s.twin.stopCause := rfl
@[simp] theorem State.windowDone_kaPassed (s : State) (n : Nat) :
    (s.windowDone n).twin.kaPassed = s.twin.kaPassed := rfl
@[simp] theorem State.windowDone_pulseAt (s : State) (n : Nat) : (s.windowDone n).twin.pulseAt = s.twin.pulseAt := rfl

/-- The window at hand has ended, and the clock stands at its comparison (R343, R344). -/
def State.atCompare (s : State) (a b : CoreWindow) (d0 d1 : BitVec 224) : State :=
  { s with twin := s.twin.retire a b d0 d1 ((s.twin.window + 1) % 2 ^ 32) }.reach (compareAt s.twin)

@[simp] theorem State.atCompare_stopLatch (s : State) (a b : CoreWindow) (d0 d1 : BitVec 224) :
    (s.atCompare a b d0 d1).twin.stopLatch = s.twin.stopLatch := rfl
@[simp] theorem State.atCompare_kaPassed (s : State) (a b : CoreWindow) (d0 d1 : BitVec 224) :
    (s.atCompare a b d0 d1).twin.kaPassed = s.twin.kaPassed := rfl
@[simp] theorem State.atCompare_pulseAt (s : State) (a b : CoreWindow) (d0 d1 : BitVec 224) :
    (s.atCompare a b d0 d1).twin.pulseAt = s.twin.pulseAt := rfl

/-- The lanes of the window at hand that report a difference (R344, R345). -/
def reportedLanes (t : Twin) (a b : CoreWindow) : BitVec 32 := (reeveSigs t a b).1 ^^^ (reeveSigs t a b).2

/-- The outcome of the window at hand (R344, R345, R363). -/
def compareOutcome (t : Twin) (a b : CoreWindow) : Outcome := reeveOutcome t t.window (reportedLanes t a b)

/-- A comparison that stops the device. -/
def State.compareStop (s : State) (a b : CoreWindow) (d0 d1 : BitVec 224) (cause : Nat) : State :=
  ((s.atCompare a b d0 d1).stopLatch cause (some (reeveSigs s.twin a b))).windowDone s.twin.window

/-- A comparison that passes. -/
def State.comparePass (s : State) (a b : CoreWindow) (d0 d1 : BitVec 224) : State :=
  ((s.atCompare a b d0 d1).reevePass s.twin.window).windowDone s.twin.window

/-- A window after which the device runs on: its number of known answers, and the pulse (R345, R346). -/
structure PassedWith (known : Nat) (t : State) : Prop where
  runs : t.twin.stopLatch = false
  known : t.twin.kaPassed = known
  pulse : t.twin.pulseAt = t.now

/-- A window that stops the device gives a cause and no pulse, and counts no known answer (R345, R346). -/
structure StoppedWith (cause : Nat) (s t : State) : Prop where
  latched : t.twin.stopLatch = true
  cause : t.twin.stopCause = cause
  known : t.twin.kaPassed = s.twin.kaPassed
  pulse : t.twin.pulseAt = s.twin.pulseAt

theorem PassedWith.finish {k : Nat} {t : State} (h : PassedWith k t) : PassedWith k t.finish := by
  obtain ⟨hr, hk, hp⟩ := h
  constructor <;> simpa

theorem StoppedWith.finish {c : Nat} {s t : State} (h : StoppedWith c s t) : StoppedWith c s t.finish := by
  obtain ⟨hl, hc, hk, hp⟩ := h
  constructor <;> simpa

section
variable {s : State} {a b : CoreWindow} {d0 d1 : BitVec 224}

theorem passedWith_comparePass (hs : s.twin.stopLatch = false) :
    PassedWith s.twin.kaPassed (s.comparePass a b d0 d1) := by
  constructor <;> simp [State.comparePass, hs]

theorem stoppedWith_compareStop (hs : s.twin.stopLatch = false) (c : Nat) :
    StoppedWith c s (s.compareStop a b d0 d1 c) := by
  have h : (s.atCompare a b d0 d1).twin.stopLatch = false := hs
  constructor <;> simp [State.compareStop, State.stopLatch_twin_of_unlatched _ _ h]

/-- A later cause with a code not lower than the first one changes nothing of it. -/
theorem StoppedWith.stopLatch {c : Nat} {s t : State} (h : StoppedWith c s t) {c' : Nat} (hc : c ≤ c')
    (g : Option (BitVec 32 × BitVec 32)) : StoppedWith c s (t.stopLatch c' g) := by
  obtain ⟨hl, rfl, hk, hp⟩ := h
  constructor <;> simp [State.stopLatch_twin_of_latched _ _ hl, causeWith_of_le hc, hl, hk, hp]

/-- A comparison while lock-step runs, one result per outcome (R344 to R346, R363). -/
theorem reeveCompare_eq (hl : s.twin.lockstep = true) (hs : s.twin.stopLatch = false) :
    reeveCompare a b d0 d1 s = match compareOutcome s.twin a b with
      | .matched => s.comparePass a b d0 d1
      | .caught =>
        { s.comparePass a b d0 d1 with twin := { (s.comparePass a b d0 d1).twin with
          kaPassed := satInc32 (s.comparePass a b d0 d1).twin.kaPassed, watchdog := true } }
      | .mismatch => s.compareStop a b d0 d1 4
      | .kaMissed => s.compareStop a b d0 d1 5
      | .stopTest => s.compareStop a b d0 d1 9
      | .stopTestMismatch => (s.compareStop a b d0 d1 4).stopLatch 9 none := by
  have h : (s.twin.lockstep && !s.twin.stopLatch) = true := by simp [hl, hs]
  exact if_pos h

theorem reeveCompare_matched (hl : s.twin.lockstep = true) (hs : s.twin.stopLatch = false)
    (ho : compareOutcome s.twin a b = .matched) : PassedWith s.twin.kaPassed (reeveCompare a b d0 d1 s) := by
  rw [reeveCompare_eq hl hs, ho]
  exact passedWith_comparePass hs

theorem reeveCompare_caught (hl : s.twin.lockstep = true) (hs : s.twin.stopLatch = false)
    (ho : compareOutcome s.twin a b = .caught) :
    PassedWith (satInc32 s.twin.kaPassed) (reeveCompare a b d0 d1 s) := by
  rw [reeveCompare_eq hl hs, ho]
  obtain ⟨hr, hk, hp⟩ := passedWith_comparePass (a := a) (b := b) (d0 := d0) (d1 := d1) hs
  exact ⟨hr, congrArg satInc32 hk, hp⟩

theorem reeveCompare_stops (hl : s.twin.lockstep = true) (hs : s.twin.stopLatch = false) {c : Nat}
    (ho : outcomeCause (compareOutcome s.twin a b) = some c) : StoppedWith c s (reeveCompare a b d0 d1 s) := by
  rw [reeveCompare_eq hl hs]
  generalize compareOutcome s.twin a b = o at ho
  cases o with
  | matched | caught => cases ho
  | mismatch | kaMissed | stopTest => cases ho; exact stoppedWith_compareStop hs _
  | stopTestMismatch => cases ho; exact (stoppedWith_compareStop hs 4).stopLatch (by decide) none

/-- The Reeve sends no pulse after a comparison that stops the device (R346). -/
theorem reeveCompare_pulseAt_of_latched (hl : s.twin.lockstep = true) (hs : s.twin.stopLatch = false)
    (ht : (reeveCompare a b d0 d1 s).twin.stopLatch = true) :
    (reeveCompare a b d0 d1 s).twin.pulseAt = s.twin.pulseAt := by
  cases ho : compareOutcome s.twin a b with
  | matched => exact absurd ht (by simp [(reeveCompare_matched hl hs ho).runs])
  | caught => exact absurd ht (by simp [(reeveCompare_caught hl hs ho).runs])
  | mismatch | kaMissed | stopTest | stopTestMismatch =>
    exact (reeveCompare_stops hl hs (by rw [ho]; rfl)).pulse

/-- How REEVE_COMPARE ends on a running device with good parity in the delay registers. -/
theorem runs_reeveCompare {post : State → Prop} (ha : s.alive = true) (hg : s.twin.stagesGood = true)
    (hp : post (reeveCompare a b d0 d1 s.begin).finish) : Runs (.reeveCompare a b d0 d1) s post := by
  have hgo : (s.begin.alive || s.begin.stopCycle) = true := Bool.or_eq_true_iff.mpr (.inl ha)
  have hc : s.begin.checkStages = s.begin := if_pos hg
  have hrow : s.begin.guarded (s.begin.alive || s.begin.stopCycle) (fun s => reeveCompare a b d0 d1 s.checkStages) =
      reeveCompare a b d0 d1 s.begin := (if_pos hgo).trans (congrArg (reeveCompare a b d0 d1) hc)
  rw [← hrow] at hp
  exact runs_of_run (f := fun s => s.guarded (s.alive || s.stopCycle)
    (fun s => reeveCompare a b d0 d1 s.checkStages)) rfl hp

end

-- the outcomes
theorem kaWindow_iff (n : Nat) : kaWindow n = true ↔ n % 1024 = 0 := beq_iff_eq

/-- The inversion of a known-answer window is that of a lane: it is not empty (R345). -/
theorem kaLane_ne_zero (n : Nat) : BitVec.ofNat 32 (2 ^ kaLaneOf n) ≠ 0#32 := by
  have hlt : kaLaneOf n < 32 := Nat.mod_lt _ (by decide)
  have hpow : 2 ^ kaLaneOf n < 2 ^ 32 := Nat.pow_lt_pow_right (by decide) hlt
  have hpos : 0 < 2 ^ kaLaneOf n := Nat.two_pow_pos _
  intro h
  have h0 : 2 ^ kaLaneOf n % 2 ^ 32 = 0 := congrArg BitVec.toNat h
  rw [Nat.mod_eq_of_lt hpow] at h0
  omega

/-- The outcomes of a known-answer window (R345). -/
theorem reeveOutcome_ka {t : Twin} {n : Nat} (h : kaWindow n = true) (d : BitVec 32) :
    reeveOutcome t n d = if d = 0#32 then .kaMissed
      else if d = BitVec.ofNat 32 (2 ^ kaLaneOf n) then .caught else .mismatch := by
  simp [reeveOutcome, injection, h]

/-- The outcomes of a window without an injection (R344). -/
theorem reeveOutcome_plain {t : Twin} {n : Nat} (h : kaWindow n = false) (ht : t.stopTest ≠ some n) (d : BitVec 32) :
    reeveOutcome t n d = if d = 0#32 then .matched else .mismatch := by
  simp [reeveOutcome, h, ht]

theorem reportedLanes_ka {t : Twin} (h : kaWindow t.window = true) (a b : CoreWindow) :
    reportedLanes t a b = signature t.coreA.misr a ^^^
      (signature t.coreB.misr b ^^^ BitVec.ofNat 32 (2 ^ kaLaneOf t.window)) := by
  simp [reportedLanes, reeveSigs, injection, h]

theorem reportedLanes_plain {t : Twin} (h : kaWindow t.window = false) (ht : t.stopTest ≠ some t.window)
    (a b : CoreWindow) : reportedLanes t a b = signature t.coreA.misr a ^^^ signature t.coreB.misr b := by
  simp [reportedLanes, reeveSigs, injection, h, ht]

/-- In a window without an injection, equal signatures are a MATCH (R344). -/
theorem compareOutcome_matched {t : Twin} {a b : CoreWindow} (h : kaWindow t.window = false)
    (ht : t.stopTest ≠ some t.window) (he : signature t.coreA.misr a = signature t.coreB.misr b) :
    compareOutcome t a b = .matched := by
  rw [compareOutcome, reeveOutcome_plain h ht, reportedLanes_plain h ht, he, BitVec.xor_self, if_pos rfl]

section
variable {t : Twin} {a b : CoreWindow} {inv : BitVec 32} (h : kaWindow t.window = true)
  (hi : inv = signature t.coreB.misr b ^^^ BitVec.ofNat 32 (2 ^ kaLaneOf t.window))
include h hi

theorem compareOutcome_caught
    (hd : signature t.coreA.misr a ^^^ inv = BitVec.ofNat 32 (2 ^ kaLaneOf t.window)) :
    compareOutcome t a b = .caught := by
  rw [compareOutcome, reeveOutcome_ka h, reportedLanes_ka h, ← hi, hd, if_neg (kaLane_ne_zero _), if_pos rfl]

theorem compareOutcome_kaMissed (hd : signature t.coreA.misr a = inv) : compareOutcome t a b = .kaMissed := by
  rw [compareOutcome, reeveOutcome_ka h, reportedLanes_ka h, ← hi, hd, BitVec.xor_self, if_pos rfl]

theorem compareOutcome_mismatch (hd : signature t.coreA.misr a ≠ inv)
    (hd' : signature t.coreA.misr a ^^^ inv ≠ BitVec.ofNat 32 (2 ^ kaLaneOf t.window)) :
    compareOutcome t a b = .mismatch := by
  have h0 : signature t.coreA.misr a ^^^ inv ≠ 0#32 := fun e => hd (BitVec.xor_eq_zero_iff.mp e)
  rw [compareOutcome, reeveOutcome_ka h, reportedLanes_ka h, ← hi, if_neg h0, if_neg hd']

end

-- boot
@[simp] theorem State.bootResources_twin (s : State) : s.bootResources.twin = s.twin :=
  (keeps_bootResources s).same .twin (by decide)
@[simp] theorem State.phyReset_twin (s : State) : s.phyReset.twin = s.twin :=
  (keeps_phyReset s).same .twin (by decide)
@[simp] theorem State.startAll_twin (s : State) : s.startAll.twin = s.twin :=
  (keeps_startAll s).same .twin (by decide)
@[simp] theorem State.bellBoot_twin (s : State) : s.bellBoot.twin = s.twin :=
  (keeps_bellBoot s).same .twin (by decide)
@[simp] theorem State.guardActivate_twin (s : State) : s.guardActivate.twin = s.twin :=
  (keeps_guardActivate s).same .twin (by decide)
@[simp] theorem State.bootPorts_twin (s : State) : s.bootPorts.twin = s.twin :=
  (keeps_bootPorts s).same .twin (by decide)

/-- Only step 4 of boot writes the twin (R48). Each state on the way is made opaque once its twin is known: to compare two
of them by computation, the kernel would count nanoseconds. -/
theorem State.boot_twin (s : State) : s.boot.twin = bootTwin s.twin s.now s.fresh := by
  unfold State.boot
  extract_lets t0 drawn power term s1 s2 power' s3 s4 s5 s6 s7 bell tally trk permits ack engine recd s8
  have h2 : s2.twin = s1.twin := s1.reach_twin _
  clear_value s2
  have h4 : s4.twin = s2.twin := s3.bootResources_twin
  clear_value s4
  have h6 : s6.twin = s4.twin := by
    rw [State.guardActivate_twin, State.updRec_twin, State.bellBoot_twin, State.startAll_twin, State.phyReset_twin,
      State.reach_twin]
  clear_value s6
  have h7 : s7.twin = s6.twin := s6.reach_twin _
  clear_value s7
  calc s8.bootPorts.twin = s7.twin := s8.bootPorts_twin
    _ = s1.twin := by rw [h7, h6, h4, h2]

theorem State.settleEntry_of_not_entering {s : State} (h : s.power.entering = false) : s.settleEntry = s := by
  have he : entered s = false := by simp [entered, State.goingDown, h]
  simp [State.settleEntry, he]

/-- How BOOT ends on a device that can boot. -/
theorem runs_boot {s : State} {post : State → Prop} (hb : bootReady s = true) (he : s.power.entering = false)
    (hp : post s.begin.boot.finish) : Runs .boot s post := by
  have hsettle : s.begin.settleEntry = s.begin := State.settleEntry_of_not_entering he
  have hboot : boot s.begin.settleEntry = s.begin.boot := by rw [hsettle]; exact if_pos hb
  rw [← hboot] at hp
  exact runs_of_run (f := fun s => boot s.settleEntry) rfl hp

theorem bootTwin_kaPassed_pos (t : Twin) (t0 free : Nat) : 1 ≤ (bootTwin t t0 free).kaPassed := Nat.le_add_left 1 _

/-- Settles O43: a window's result follows from its outcome (`reeveCompare_matched`, `reeveCompare_caught`,
`reeveCompare_stops`), and the outcome of a known-answer window from the lanes that differ after the inversion; boot
writes the number of known answers passed in `bootTwin`. -/
theorem knownAnswers : Obligations.KnownAnswers := by
  unfold Obligations.KnownAnswers
  refine ⟨fun n => ⟨kaWindow_iff n, rfl, rfl, rfl⟩, fun s hb he => ?_, ?_⟩
  · refine runs_boot hb he ?_
    rw [State.finish_twin, State.boot_twin]
    exact bootTwin_kaPassed_pos ..
  · rintro s a b d0 d1 _ _ ha hl hs hg rfl rfl
    refine ⟨fun hk inv hi => ?_, fun hk ht he => ?_, ?_⟩
    · refine runs_reeveCompare ha hg ⟨fun hd => ?_, fun hd => ?_, fun hd hd' => ?_⟩
      · obtain ⟨hr, hc, hp⟩ := (reeveCompare_caught (s := s.begin) (d0 := d0) (d1 := d1) hl hs
          (compareOutcome_caught hk hi hd)).finish
        exact ⟨hr, hc, hp⟩
      · have ho : compareOutcome s.twin a b = .kaMissed := compareOutcome_kaMissed hk hi hd
        obtain ⟨hr, hc, hn, -⟩ := (reeveCompare_stops (s := s.begin) (d0 := d0) (d1 := d1) hl hs (c := 5)
          (congrArg outcomeCause ho)).finish
        exact ⟨hr, hc, hn⟩
      · have ho : compareOutcome s.twin a b = .mismatch := compareOutcome_mismatch hk hi hd hd'
        obtain ⟨hr, hc, hn, -⟩ := (reeveCompare_stops (s := s.begin) (d0 := d0) (d1 := d1) hl hs (c := 4)
          (congrArg outcomeCause ho)).finish
        exact ⟨hr, hc, hn⟩
    · obtain ⟨hr, -, hp⟩ := (reeveCompare_matched (s := s.begin) (d0 := d0) (d1 := d1) hl hs
        (compareOutcome_matched hk ht he)).finish
      exact runs_reeveCompare ha hg ⟨hr, hp⟩
    · refine runs_reeveCompare ha hg ?_
      rw [State.finish_twin]
      exact reeveCompare_pulseAt_of_latched (s := s.begin) hl hs

end Sys2Proof.Machine

/-! SUPPORT. A write row to a SESSION object: who asks, what its receipt leaves, the level that it sets; with them O55
(R378, R379, R429). -/

namespace Sys2Proof.Machine

-- little-endian bytes
theorem length_leBytes (n v : Nat) : (leBytes n v).length = n := by
  induction n generalizing v with
  | zero => rfl
  | succ n ih => exact congrArg (· + 1) (ih _)

/-- The bytes of a number spell it, as far as they reach (R11). -/
theorem ofLe_leBytes (n v : Nat) : ofLe (leBytes n v) = v % 256 ^ n := by
  induction n generalizing v with
  | zero => exact (Nat.mod_one v).symm
  | succ n ih =>
    have hcons : ofLe (leBytes (n + 1) v) = v % 256 + 256 * ofLe (leBytes n (v / 256)) := rfl
    rw [hcons, ih, Nat.pow_succ', Nat.mod_mul]

theorem ofLe_leBytes_byte {v : Nat} (h : v < 256) : ofLe (leBytes 1 v) = v := by
  rw [ofLe_leBytes, Nat.pow_one, Nat.mod_eq_of_lt h]

-- who asks
/-- The slot of an origin holds the session of that origin (R373). -/
theorem origin_of_sessionSlot {s : State} {o : Origin} {k : Fin 4} {x : Session} (hk : sessionSlot s o = some k)
    (hx : s.net.sessions.get k = some x) : x.origin = o := by
  have h := List.find?_some hk
  simp only [hx, Bool.and_eq_true, beq_iff_eq] at h
  obtain ⟨hp, hn⟩ := h
  rw [Session.origin, hp, hn]

theorem State.serving_of_alive {s : State} (h : s.alive = true) : s.serving = true := by
  simp only [State.alive, Bool.and_eq_true] at h
  obtain ⟨hp, he⟩ := h
  simp [State.serving, hp, he]

theorem Asks.served_begin {c : Instr} {s : State} {o : Origin} {l : Level} {k : Fin 4} {x : Session}
    (h : Asks c s o l k x) : Served s.begin o k x :=
  ⟨State.serving_of_alive (s := s) h.alive, h.slot, h.holds, h.idle⟩

-- what is written in a session's slot
@[simp] theorem State.updSession_get (s : State) (k : Fin 4) (f : Session → Session) :
    (s.updSession k f).net.sessions.get k = (s.net.sessions.get k).map f := Tab.get_upd_self ..

@[simp] theorem State.sessionRecord_net (s : State) (x : Session) (event : Nat) :
    (s.sessionRecord x event).net = s.net := rfl

theorem State.touch_get {s : State} {k : Fin 4} {x : Session} (h : s.net.sessions.get k = some x) :
    (s.touch k).net.sessions.get k = some { x with lastAt := s.now } := by
  rw [State.touch, State.updSession_get, h, Option.map_some]

theorem State.setLevel_get {s : State} {k : Fin 4} {x : Session} (h : s.net.sessions.get k = some x) (l : Level) :
    (s.setLevel k l).net.sessions.get k = some { x with level := l } := by
  simp only [State.setLevel, h]
  split
  next hl => rw [h, ← hl]
  next => rw [State.sessionRecord_net, State.updSession_get, h, Option.map_some]

-- the receipt
/-- A write row that its receipt lets pass to a SESSION object other than SESSION_END completes at once: the session's
timeout starts again, the object takes the value, and the origin is answered (R378, R424). -/
theorem State.rowWrite_session {s : State} {o : Origin} {k : Fin 4} {x : Session} {i sub : Nat} {data : List Byte}
    (h : Served s o k x) (hs : isSessionObject i sub = true) (he : isSessionEnd i sub = false)
    (ha : receiptAbort (s.touch k) (some x) i sub data = 0) :
    s.rowWrite o i sub data = ((s.touch k).sessionWrite k i sub data).1.answer o i sub
      ((s.touch k).sessionWrite k i sub data).2 := by
  obtain ⟨hv, hk, hx, hi⟩ := h
  have ho : x.origin = o := origin_of_sessionSlot hk hx
  simp [State.rowWrite, State.rowReceive, State.takeWrite, hv, hk, hx, hi, ha, hs, he, ho]

/-- Every session may write AUTH_REQUEST, with a level up to 3 (R12, R379). -/
theorem receiptAbort_authRequest (s : State) (x : Session) {v : Nat} (hv : v ≤ 3) :
    receiptAbort s (some x) 0x2B00 0x0D (leBytes 1 v) = 0 := by
  have hobj : objInfo 0x2B00 0x0D = some { size := 1, access := .rw, cls := .session } := by decide
  have hsize : sizeAbort { size := 1, access := .rw, cls := .session } (leBytes 1 v).length = 0 := by
    rw [length_leBytes]; rfl
  have hvalue : valueRefused 0x2B00 0x0D v = false := by simp [valueRefused, within, hv]
  have hmap : mapAbort 0x2B00 0x0D v = 0 := rfl
  have hread : ofLe (leBytes 1 v) = v := ofLe_leBytes_byte (Nat.lt_of_le_of_lt hv (by decide))
  simp [receiptAbort, hobj, levelAbort, hsize, valueAbort, hread, hvalue, hmap]

-- AUTH_REQUEST
/-- While no key is installed AUTH_REQUEST is refused on every port but SPI (R429). -/
theorem authRefused_keyless {s : State} (h : s.net.keyId = 0) (p : PortId) : authRefused s p = (p != .spi) := if_pos h

section
variable {s : State} {k : Fin 4} {x : Session} (hx : s.net.sessions.get k = some x)
include hx

theorem State.authRequest_of_refused (hr : authRefused s x.port = true) (v : Nat) :
    s.authRequest k v = (s, 0x08000022) := by
  simp [State.authRequest, hx, hr]

theorem State.authRequest_keyless_granted (hr : authRefused s x.port = false) (hkey : s.net.keyId = 0) (v : Nat) :
    s.authRequest k v = ((s.updSession k (fun x => { x with authLevel := v })).setLevel k (levelOf v), 0) := by
  simp [State.authRequest, hx, hr, hkey]

end

/-- How AUTH_REQUEST ends for a session that may ask: what `authRequest` gives is answered, and its sessions stay. -/
theorem runs_authRequest {s : State} {o : Origin} {k : Fin 4} {x y : Session} {v a : Nat}
    (h : Asks (.authRequest o v) s o .observe k x) (hv : v ≤ 3)
    (ha : ((s.begin.touch k).authRequest k v).2 = a)
    (hy : ((s.begin.touch k).authRequest k v).1.net.sessions.get k = some y) :
    Runs (.authRequest o v) s fun t => Msg.answer o 0x2B00 0x0D a ∈ t.sent ∧ t.net.sessions.get k = some y := by
  have hw : (s.begin.touch k).sessionWrite k 0x2B00 0x0D (leBytes 1 v) = (s.begin.touch k).authRequest k v := by
    simp [State.sessionWrite, ofLe_leBytes_byte (Nat.lt_of_le_of_lt hv (by decide))]
  have hrow : s.begin.rowWrite o 0x2B00 0x0D (leBytes 1 v) =
      ((s.begin.touch k).authRequest k v).1.answer o 0x2B00 0x0D a := by
    rw [State.rowWrite_session h.served_begin (by decide) (by decide) (receiptAbort_authRequest _ _ hv), hw, ha]
  refine runs_of_run (f := fun s => s.rowWrite o 0x2B00 0x0D (leBytes 1 v)) rfl ?_
  rw [hrow]
  exact ⟨(grows_finish _).mem (by simp [State.answer]), by simpa [State.answer] using hy⟩

/-- Settles O55: without a key the write is refused by its port alone, and a grant sets the level written. -/
theorem keylessAuthorisation : Obligations.KeylessAuthorisation := by
  unfold Obligations.KeylessAuthorisation
  intro s o k x v h hkey hv
  have hx := State.touch_get (s := s.begin) h.holds
  have hr : ∀ p, authRefused (s.begin.touch k) p = (p != .spi) := authRefused_keyless hkey
  refine ⟨fun hp => ?_, fun hp => ?_⟩
  · have hg := State.authRequest_keyless_granted hx (by simp [hr, hp]) hkey v
    refine runs_authRequest h hv (by rw [hg]) ?_
    rw [hg, State.setLevel_get (by rw [State.updSession_get, hx, Option.map_some])]
    rfl
  · have hg := State.authRequest_of_refused hx (by simpa [hr] using hp) v
    exact runs_authRequest h hv (by rw [hg]) (by rw [hg]; exact hx)

end Sys2Proof.Machine

/-! SUPPORT. The reset state, the frame of every command; with them O2, O3, O4, O5. -/

namespace Sys2Proof.Machine

@[simp] theorem Tab.get_all {n : Nat} {α : Type} (x : α) (i : Fin n) : (Tab.all x : Tab n α).get i = x :=
  Vector.getElem_replicate i.isLt

/-- Settles O4: each arm of `exec` is a `run`, which answers a next state. -/
theorem everyCommandCompletes : Obligations.EveryCommandCompletes := by
  unfold Obligations.EveryCommandCompletes
  intro c s
  cases c <;> exact ⟨_, rfl⟩

/-- Settles O2: each field of the reset state is its default. -/
theorem resetState : Obligations.ResetState := by
  unfold Obligations.ResetState State.reset
  simp

/-- Settles O3: the eMMC is empty, every permit is HIGHZ, no entry runs, and the zeros of both delay registers have
their parity. -/
theorem resetMeetsInvariants : Obligations.ResetMeetsInvariants := by
  unfold Obligations.ResetMeetsInvariants
  refine ⟨rfl, fun h => ?_, fun _ => rfl, fun _ => ?_⟩
  · exact absurd h (by decide)
  · decide

/-- What a command changes in a state: `frame_<command>` for each. -/
theorem exec_frame {c : Instr} {s t : State} (h : exec c s = .next t) : Keeps (touchesIn c s ++ reports) s t := by
  cases c with
  | resetnLow => exact frame_resetnLow s t h
  | brownout a0 => exact frame_brownout a0 s t h
  | supplyRelease a0 => exact frame_supplyRelease a0 s t h
  | boot => exact frame_boot s t h
  | bootPllLockTimeout => exact frame_bootPllLockTimeout s t h
  | vexcLowSet => exact frame_vexcLowSet s t h
  | vexcLowClear => exact frame_vexcLowClear s t h
  | clkinMissing => exact frame_clkinMissing s t h
  | clockFreqError => exact frame_clockFreqError s t h
  | pllLockLoss => exact frame_pllLockLoss s t h
  | hibernateCommand a0 a1 => exact frame_hibernateCommand a0 a1 s t h
  | stbynLowQualified => exact frame_stbynLowQualified s t h
  | stbyStuckSet => exact frame_stbyStuckSet s t h
  | stbyStuckClear => exact frame_stbyStuckClear s t h
  | wake a0 => exact frame_wake a0 s t h
  | stbynRiseWake a0 a1 => exact frame_stbynRiseWake a0 a1 s t h
  | hibernateSupplyLoss => exact frame_hibernateSupplyLoss s t h
  | clampFlagSet a0 a1 => exact frame_clampFlagSet a0 a1 s t h
  | clfClearWrite a0 a1 a2 a3 => exact frame_clfClearWrite a0 a1 a2 a3 s t h
  | excHoldWrite a0 a1 a2 => exact frame_excHoldWrite a0 a1 a2 s t h
  | excStart a0 => exact frame_excStart a0 s t h
  | excRampComplete a0 => exact frame_excRampComplete a0 s t h
  | excStop a0 => exact frame_excStop a0 s t h
  | excDischargeComplete a0 => exact frame_excDischargeComplete a0 s t h
  | excDischargeTimeout a0 => exact frame_excDischargeTimeout a0 s t h
  | complianceSet a0 => exact frame_complianceSet a0 s t h
  | complianceClear a0 => exact frame_complianceClear a0 s t h
  | unsettledSpanEnd a0 => exact frame_unsettledSpanEnd a0 s t h
  | channelOutputSample a0 a1 => exact frame_channelOutputSample a0 a1 s t h
  | slotClose a0 a1 => exact frame_slotClose a0 a1 s t h
  | fitLost a0 => exact frame_fitLost a0 s t h
  | overspeed a0 a1 => exact frame_overspeed a0 a1 s t h
  | wreCauseClear a0 => exact frame_wreCauseClear a0 s t h
  | triggerEvent a0 a1 a2 => exact frame_triggerEvent a0 a1 a2 s t h
  | traversalVerdict a0 a1 => exact frame_traversalVerdict a0 a1 s t h
  | groupGapTimeout a0 => exact frame_groupGapTimeout a0 s t h
  | trackerWindowUpdate => exact frame_trackerWindowUpdate s t h
  | predictionFailed a0 => exact frame_predictionFailed a0 s t h
  | trackerFullClear => exact frame_trackerFullClear s t h
  | bellringerStep => exact frame_bellringerStep s t h
  | overloadForcedChange a0 => exact frame_overloadForcedChange a0 s t h
  | rangeFinerRequest a0 => exact frame_rangeFinerRequest a0 s t h
  | guardCauseRaised a0 a1 => exact frame_guardCauseRaised a0 a1 s t h
  | guardCauseDropped a0 a1 => exact frame_guardCauseDropped a0 a1 s t h
  | checkRequestDue a0 => exact frame_checkRequestDue a0 s t h
  | freeChannelCheckDue a0 => exact frame_freeChannelCheckDue a0 s t h
  | checkNow a0 a1 => exact frame_checkNow a0 a1 s t h
  | guardCheckEnd a0 a1 => exact frame_guardCheckEnd a0 a1 s t h
  | testStarvedSet a0 => exact frame_testStarvedSet a0 s t h
  | rebaseRequest a0 => exact frame_rebaseRequest a0 s t h
  | rebaseComplete a0 => exact frame_rebaseComplete a0 s t h
  | captureCmdArm a0 a1 a2 => exact frame_captureCmdArm a0 a1 a2 s t h
  | tallyCycle a0 => exact frame_tallyCycle a0 s t h
  | clearDelayExpiry a0 => exact frame_clearDelayExpiry a0 s t h
  | restoreRequest a0 a1 a2 => exact frame_restoreRequest a0 a1 a2 s t h
  | restoreWithdraw a0 a1 a2 => exact frame_restoreWithdraw a0 a1 a2 s t h
  | restoreExpiry a0 => exact frame_restoreExpiry a0 s t h
  | disturbCmd a0 a1 a2 => exact frame_disturbCmd a0 a1 a2 s t h
  | dropElapsed a0 => exact frame_dropElapsed a0 s t h
  | droptestCmd a0 a1 => exact frame_droptestCmd a0 a1 s t h
  | readbackFault a0 => exact frame_readbackFault a0 s t h
  | tallyStall => exact frame_tallyStall s t h
  | inhibitWrite a0 a1 => exact frame_inhibitWrite a0 a1 s t h
  | lockoutCmd a0 a1 => exact frame_lockoutCmd a0 a1 s t h
  | ackDebouncedEdge a0 => exact frame_ackDebouncedEdge a0 s t h
  | ackStuckSet => exact frame_ackStuckSet s t h
  | ackHighQualified => exact frame_ackHighQualified s t h
  | ackArm a0 a1 => exact frame_ackArm a0 a1 s t h
  | ackArmWithdraw a0 a1 => exact frame_ackArmWithdraw a0 a1 s t h
  | ackArmExpiry => exact frame_ackArmExpiry s t h
  | tick a0 a1 => exact frame_tick a0 a1 s t h
  | tickOverrun a0 a1 => exact frame_tickOverrun a0 a1 s t h
  | syncLost => exact frame_syncLost s t h
  | warmupEnd a0 a1 => exact frame_warmupEnd a0 a1 s t h
  | modeCmdFollow a0 => exact frame_modeCmdFollow a0 s t h
  | modeCmdHold a0 => exact frame_modeCmdHold a0 s t h
  | modeCmdOff a0 => exact frame_modeCmdOff a0 s t h
  | modeCmdFade a0 => exact frame_modeCmdFade a0 s t h
  | lawEnableWrite a0 a1 => exact frame_lawEnableWrite a0 a1 s t h
  | lawReset a0 a1 => exact frame_lawReset a0 a1 s t h
  | reeveCompare a0 a1 a2 a3 => exact frame_reeveCompare a0 a1 a2 a3 s t h
  | delayParityError a0 a1 a2 => exact frame_delayParityError a0 a1 a2 s t h
  | scrubRead a0 => exact frame_scrubRead a0 s t h
  | pulseTimeout => exact frame_pulseTimeout s t h
  | stopTestCmd a0 a1 => exact frame_stopTestCmd a0 a1 s t h
  | debugRequest a0 => exact frame_debugRequest a0 s t h
  | debugExit => exact frame_debugExit s t h
  | fatalHandlerEntry => exact frame_fatalHandlerEntry s t h
  | dumpWriteDone a0 => exact frame_dumpWriteDone a0 s t h
  | dumpTimeout a0 => exact frame_dumpTimeout a0 s t h
  | sdoRequest a0 a1 a2 => exact frame_sdoRequest a0 a1 a2 s t h
  | sdoSegmentTimeout a0 => exact frame_sdoSegmentTimeout a0 s t h
  | writeJudgement => exact frame_writeJudgement s t h
  | genericWrite a0 a1 a2 a3 => exact frame_genericWrite a0 a1 a2 a3 s t h
  | nmtStart a0 => exact frame_nmtStart a0 s t h
  | nmtStop a0 => exact frame_nmtStop a0 s t h
  | nmtEnterPreoperational a0 => exact frame_nmtEnterPreoperational a0 s t h
  | nmtResetCommunication a0 => exact frame_nmtResetCommunication a0 s t h
  | rpdoReceived a0 a1 a2 => exact frame_rpdoReceived a0 a1 a2 s t h
  | rpdoTimeout a0 a1 => exact frame_rpdoTimeout a0 a1 s t h
  | tpdoEventTimer a0 => exact frame_tpdoEventTimer a0 s t h
  | srdoRefresh a0 => exact frame_srdoRefresh a0 s t h
  | heartbeatSend a0 => exact frame_heartbeatSend a0 s t h
  | hbConsumerMiss a0 a1 => exact frame_hbConsumerMiss a0 a1 s t h
  | canErrorPassive a0 a1 => exact frame_canErrorPassive a0 a1 s t h
  | busOffRecovery a0 => exact frame_busOffRecovery a0 s t h
  | openPlain a0 => exact frame_openPlain a0 s t h
  | openTakeover a0 a1 => exact frame_openTakeover a0 a1 s t h
  | closeSession a0 => exact frame_closeSession a0 s t h
  | readItems a0 a1 => exact frame_readItems a0 a1 s t h
  | writeItems a0 a1 => exact frame_writeItems a0 a1 s t h
  | nopRequest a0 => exact frame_nopRequest a0 s t h
  | pdHost a0 a1 a2 a3 => exact frame_pdHost a0 a1 a2 a3 s t h
  | spiFrameReceived a0 => exact frame_spiFrameReceived a0 s t h
  | spiFrameCrcError => exact frame_spiFrameCrcError s t h
  | spiFrameDelivered => exact frame_spiFrameDelivered s t h
  | sessionTimeout a0 => exact frame_sessionTimeout a0 s t h
  | sessionEnd a0 a1 => exact frame_sessionEnd a0 a1 s t h
  | authRequest a0 a1 => exact frame_authRequest a0 a1 s t h
  | authChallenge a0 => exact frame_authChallenge a0 s t h
  | authResponse a0 a1 => exact frame_authResponse a0 a1 s t h
  | authChallengeExpiry a0 => exact frame_authChallengeExpiry a0 s t h
  | authLockoutEnd a0 => exact frame_authLockoutEnd a0 s t h
  | deviceKey a0 a1 => exact frame_deviceKey a0 a1 s t h
  | errorHistoryClear a0 a1 => exact frame_errorHistoryClear a0 a1 s t h
  | cfgCheck a0 => exact frame_cfgCheck a0 s t h
  | cfgCheckDone => exact frame_cfgCheckDone s t h
  | cfgDiscard a0 => exact frame_cfgDiscard a0 s t h
  | cfgStore a0 => exact frame_cfgStore a0 s t h
  | cfgStoreDone a0 => exact frame_cfgStoreDone a0 s t h
  | cfgActivate a0 => exact frame_cfgActivate a0 s t h
  | activationEffect a0 => exact frame_activationEffect a0 s t h
  | cfgAdopt a0 => exact frame_cfgAdopt a0 s t h
  | cfgAdoptDone a0 => exact frame_cfgAdoptDone a0 s t h
  | cfgLoadShadow a0 => exact frame_cfgLoadShadow a0 s t h
  | cfgImageWrite a0 a1 => exact frame_cfgImageWrite a0 a1 s t h
  | expectedDigestWrite a0 a1 => exact frame_expectedDigestWrite a0 a1 s t h
  | epochArm a0 a1 => exact frame_epochArm a0 a1 s t h
  | epochDisarm a0 a1 => exact frame_epochDisarm a0 a1 s t h
  | bookOpen a0 => exact frame_bookOpen a0 s t h
  | emmcRetry a0 => exact frame_emmcRetry a0 s t h
  | sectorFlushDue => exact frame_sectorFlushDue s t h
  | sectorWriteDone a0 => exact frame_sectorWriteDone a0 s t h
  | timeRecordDue => exact frame_timeRecordDue s t h
  | emmcResetReopen a0 => exact frame_emmcResetReopen a0 s t h
  | recClear a0 => exact frame_recClear a0 s t h
  | recFound a0 => exact frame_recFound a0 s t h
  | recorderCmdDone => exact frame_recorderCmdDone s t h
  | correlate a0 a1 => exact frame_correlate a0 a1 s t h
  | readWindow a0 => exact frame_readWindow a0 s t h
  | dumpWindow a0 => exact frame_dumpWindow a0 s t h
  | permitDueEdge a0 => exact frame_permitDueEdge a0 s t h
  | readbackSample a0 a1 => exact frame_readbackSample a0 a1 s t h
  | canErrorActive a0 => exact frame_canErrorActive a0 s t h
  | heartbeatReceived a0 a1 => exact frame_heartbeatReceived a0 a1 s t h
  | ethLinkDown a0 a1 => exact frame_ethLinkDown a0 a1 s t h
  | ethLinkUp a0 => exact frame_ethLinkUp a0 s t h
  | extestEntry => exact frame_extestEntry s t h
  | extestExit => exact frame_extestExit s t h
  | malformedDatagram a0 a1 a2 => exact frame_malformedDatagram a0 a1 a2 s t h
  | lostRxExpiry a0 => exact frame_lostRxExpiry a0 s t h
  | lossHoldExpiry => exact frame_lossHoldExpiry s t h
  | sectorBusyTimeout => exact frame_sectorBusyTimeout s t h
  | supplyVoltageUpdate a0 a1 a2 => exact frame_supplyVoltageUpdate a0 a1 a2 s t h

theorem subParts_iff {a b : List Part} : subParts a b = true ↔ a ⊆ b := by
  simp [subParts, List.all_eq_true, List.subset_def]

theorem touchesIn_subset (c : Instr) (s : State) : touchesIn c s ⊆ touches c ++ rivals := by
  unfold touchesIn
  split
  · exact fun _ => id
  · simp

/-- The frame of a command whatever writes are held. -/
theorem exec_frame_rivals {c : Instr} {s t : State} (h : exec c s = .next t) :
    Keeps (touches c ++ rivals ++ reports) s t :=
  (exec_frame h).mono (subParts_iff.mpr fun _ hp =>
    List.mem_append.mpr ((List.mem_append.mp hp).imp_left (touchesIn_subset c s ·)))

/-- Settles O5: `exec_frame`, without rivals where no held write contests the row. -/
theorem frameOfEveryCommand : Obligations.FrameOfEveryCommand := by
  unfold Obligations.FrameOfEveryCommand
  refine ⟨fun c s t hc h => ?_, fun c s t h => exec_frame_rivals h⟩
  have hf := exec_frame h
  rwa [touchesIn, hc, if_neg Bool.false_ne_true, List.append_nil] at hf

end Sys2Proof.Machine

/-! SUPPORT. Invariants that speak of a few parts of the state alone: what lists none of these parts keeps them, and what
a write row and a judgement do to them follows from what a live write does. -/

namespace Sys2Proof.Machine

-- invariants of a few parts of the state
/-- `I` speaks of the parts in `P` alone. -/
def SpeaksOf (P : List Part) (I : State → Prop) : Prop := ∀ s t, (∀ p ∈ P, p.same s t) → I s → I t

/-- No part of `P` is in `l`. -/
def misses (P l : List Part) : Bool := P.all (fun p => !decide (p ∈ l))

theorem SpeaksOf.keeps {P l : List Part} {I : State → Prop} (hI : SpeaksOf P I) {s t : State} (h : Keeps l s t)
    (hm : misses P l = true) (hs : I s) : I t :=
  hI s t (fun p hp => h.same p (by simpa using List.all_eq_true.mp hm p hp)) hs

section
variable {P : List Part} {I : State → Prop} (hI : SpeaksOf P I)
include hI

/-- The frame of a command keeps `I` where it lists no part that `I` speaks of. -/
theorem SpeaksOf.untouched {c : Instr} {s t : State} (h : exec c s = .next t)
    (hm : misses P (touches c ++ rivals ++ reports) = true) (hs : I s) : I t := hI.keeps (exec_frame_rivals h) hm hs

/-- A command keeps `I` where its effect does. -/
theorem SpeaksOf.run (hm : misses P reports = true) {f : State → State} (hf : ∀ u, I u → I (f u)) {s t : State}
    (h : run s f = .next t) (hs : I s) : I t := by
  unfold Machine.run at h
  cases h
  exact hI.keeps (keeps_finish _) (by simp_all [misses, reports]) (hf _ (hI.keeps (keeps_begin s) (by simp_all [misses, reports]) hs))

end

theorem speaksOf_entrySafe : SpeaksOf [.power] EntrySafe := by
  intro s t h
  have hp : t.power = s.power := h .power (by simp)
  rw [EntrySafe, EntrySafe, hp]
  exact id

theorem speaksOf_stagesSafe : SpeaksOf [.twin] StagesSafe := by
  intro s t h
  have hp : t.twin = s.twin := h .twin (by simp)
  rw [StagesSafe, StagesSafe, hp]
  exact id

theorem speaksOf_wf : SpeaksOf [.emmc] (fun s => Memory.wf s.emmc = true) := by
  intro s t h
  have hp : t.emmc = s.emmc := h .emmc (by simp)
  show Memory.wf s.emmc = true → Memory.wf t.emmc = true
  rw [hp]
  exact id

-- what judges writes
theorem State.alive_of_same {l : List Part} {s t : State} (h : Keeps l s t)
    (hm : misses [.power, .now, .twin] l = true) : t.alive = s.alive := by
  have same (p : Part) (hp : p ∈ [Part.power, .now, .twin]) : p.same s t :=
    h.same p (by simpa using List.all_eq_true.mp hm p hp)
  have hp : t.power = s.power := same .power (by simp)
  have hn : t.now = s.now := same .now (by simp)
  have ht : t.twin = s.twin := same .twin (by simp)
  simp [State.alive, entered, State.goingDown, hp, hn, ht]

/-- What a live write may change, but for HIBERNATE_CMD, CLEAR_CMD and STOP_TEST_CMD. -/
def livePlain : List Part := [.term, .src, .ch, .head, .bell, .tally, .permits, .engine, .auth, .emcy, .cfg, .recd, .log]

/-- What a live write can do: begin a HIBERNATE entry, begin a command of the recorder, name a stop test, or write
`livePlain`. -/
def LiveWrites (s : State) (o : Origin) (v : Nat) (t : State) : Prop :=
  t = s.enterHibernate 0 (some o) ∨ t = s.recCommand o v ∨ t = s.stopTestWrite ∨ Keeps livePlain s t

theorem LiveWrites.plain {l : List Part} {s t : State} {o : Origin} {v : Nat} (h : Keeps l s t)
    (hl : subParts l livePlain = true) : LiveWrites s o v t := .inr (.inr (.inr (h.mono hl)))

theorem LiveWrites.ite {c : Prop} [Decidable c] {s a b : State} {o : Origin} {v : Nat} (ha : LiveWrites s o v a)
    (hb : LiveWrites s o v b) : LiveWrites s o v (if c then a else b) := by
  split
  · exact ha
  · exact hb

theorem State.liveWrite_cases (s : State) (o : Origin) (i sub v : Nat) (data : List Byte) :
    LiveWrites s o v (s.liveWrite o i sub v data) := by
  unfold State.liveWrite
  refine .ite (.plain (keeps_clearHistory s) rfl) <| .ite (.inl rfl) <|
    .ite (.plain (Keeps.elim (.refl _ s) fun k => keeps_captureArm k v s) rfl) <|
    .ite (.plain (Keeps.elim (.refl _ s) fun n => keeps_sectionWrite s o n sub v) rfl) <|
    .ite (.plain (keeps_permitWrite s o sub v) rfl) <| .ite (.plain (keeps_engineWrite s i sub v) rfl) <|
    .ite (.plain (keeps_terminalWrite s sub v) rfl) <|
    .ite (.ite (.plain (keeps_correlateWrite s o v) rfl) (.inr (.inl rfl))) <|
    .ite (.plain (keeps_cfgWrite s sub v data) rfl) <|
    .ite (.ite (.inr (.inr (.inl rfl))) (.plain (keeps_checkNow v s) rfl)) <|
    .ite (.plain (keeps_installKey s v) rfl) (.plain (.refl [] s) rfl)

/-- What judging a write may change beside its effect. -/
def judgeParts : List Part := [.now, .tally, .permits, .sessions, .held, .ports, .stream, .xfer, .auth, .engine, .tickInst,
  .term, .src, .ch, .head, .bell, .emcy, .cfg, .recd, .log, .sent]

theorem misses_mono {P a b : List Part} (hs : subParts a b = true) (h : misses P b = true) : misses P a = true := by
  rw [misses, List.all_eq_true] at h ⊢
  intro p hp
  have hb := h p hp
  simp only [Bool.not_eq_true', decide_eq_false_iff_not] at hb ⊢
  exact fun ha => hb (subParts_mem hs ha)

section
variable {P : List Part} {I : State → Prop} (hI : SpeaksOf P I) (hm : misses P judgeParts = true)
include hI hm

theorem SpeaksOf.judging {l : List Part} {s t : State} (h : Keeps l s t) (hl : subParts l judgeParts = true) (hs : I s) :
    I t := hI.keeps h (misses_mono hl hm) hs

/-- A live write keeps `I` where the three writes that reach beyond `livePlain` do. -/
theorem SpeaksOf.liveWrite {s : State} (hh : ∀ o, I (s.enterHibernate 0 (some o))) (hr : ∀ o v, I (s.recCommand o v))
    (ht : I s.stopTestWrite) (hs : I s) (o : Origin) (i sub v : Nat) (data : List Byte) :
    I (s.liveWrite o i sub v data) := by
  obtain h | h | h | h := s.liveWrite_cases o i sub v data
  · rw [h]; exact hh o
  · rw [h]; exact hr o v
  · rw [h]; exact ht
  · exact hI.judging hm h rfl hs

variable (hlive : ∀ u o i sub v data, u.alive = true → I u → I (State.liveWrite u o i sub v data))
include hlive

theorem SpeaksOf.grantWrite {s : State} (w : HeldWrite) (hs : I s) : I (s.grantWrite w) := by
  unfold State.grantWrite
  split
  case isFalse => exact hs
  case isTrue ha =>
    extract_lets a
    split
    · exact hI.judging hm (keeps_refuseWrite s w a) rfl hs
    · have hans : I (s.answerHeld w 0) := hI.judging hm (keeps_answerHeld s w 0) rfl hs
      have halive : (s.answerHeld w 0).alive = true := by
        rw [State.alive_of_same (h := keeps_answerHeld s w 0) rfl, ha]
      unfold State.applyWrite
      split
      · exact hans
      · split
        · exact hI.judging hm (keeps_stage ..) rfl hans
        · exact hlive _ _ _ _ _ _ halive hans

theorem SpeaksOf.judgePart {s : State} (ws : List (HeldWrite × Nat)) (hs : I s) : I (s.judgePart ws) := by
  unfold State.judgePart
  extract_lets ok
  refine List.foldlRecOn ws _ hs fun acc hacc w _ => ?_
  dsimp only
  split
  · exact hI.judging hm (keeps_refuseWrite acc w.1 _) rfl hacc
  · split
    · exact hI.judging hm (keeps_refuseBusy acc w.1) rfl hacc
    · exact hI.grantWrite hm hlive w.1 hacc

theorem SpeaksOf.rowWrite {s : State} (o : Origin) (i sub : Nat) (data : List Byte) (hs : I s) :
    I (s.rowWrite o i sub data) := by
  have hr : I (s.rowReceive o i sub data).1 := hI.judging hm (keeps_rowReceive s o i sub data) rfl hs
  unfold State.rowWrite
  extract_lets r
  split
  · exact hI.judgePart hm hlive _ (hI.judging hm (keeps_set_net_held r.1 _) rfl hr)
  · exact hr

theorem SpeaksOf.writeJudgement {s : State} (hs : I s) : I (writeJudgement s) := by
  have h0 : I (s.tickInstant (timerTicks s)) := hI.judging hm (keeps_tickInstant s _) rfl hs
  have h1 := hI.judging hm (keeps_set_net_held _ []) rfl h0
  exact hI.judgePart hm hlive _ (hI.judgePart hm hlive _ (hI.judgePart hm hlive _ h1))

end

theorem stagesSafe_stopTestWrite {s : State} (hs : StagesSafe s) : StagesSafe s.stopTestWrite := by
  unfold State.stopTestWrite
  split <;> exact hs

end Sys2Proof.Machine

/-! SUPPORT. Boot in its steps (R48), and what the last of them leave alone. -/

namespace Sys2Proof.Machine

-- boot
/-- What leaves the recorder alone, but for records, leaves the state of the book alone. -/
theorem recd_st_of_keeps {l : List Part} {s t : State} (h : Keeps l s t) (hl : Part.recd ∉ l) : t.recd.st = s.recd.st :=
  show t.recd.steady.st = s.recd.steady.st from congrArg Recorder.st (h.same .recd hl)

/-- Boot up to its step 6: lock-step runs, and the configuration and the causes of the start have been read (R48). -/
def State.bootConfigured (s : State) : State :=
  let s1 : State := { s.draw with
    power := { s.power with phase := .running, bootAt := s.now, resetnLow := false, wakePending := false }
    term := { s.term with dischargeSw := 0#192 }
    twin := bootTwin s.twin s.now s.fresh }
  let s2 := s1.reach (s.now + bootCfgNs)
  { s2 with
    cfg := bootCfg s2.cfg s2.now
    power := { s2.power with
      resetCause := s2.power.latch, latch := 0#6, vsupMv := (Config.bootMv s.fresh 0).toNat
      vioMv := (Config.bootMv s.fresh 1).toNat, vexcMv := (Config.bootMv s.fresh 2).toNat
      dieTemp := (Config.bootTemp s.fresh).toInt } }

/-- Step 8 of boot, before the ports answer (R48). -/
def State.bootEnds (s : State) : State :=
  { s with
    tally := { s.tally with startAt := s.now, allRecords := true }
    permits := { s.permits with refreshedAt := s.now, ack := { s.permits.ack with highFrom := some s.now } }
    engine := { s.engine with tickAt := s.now, syncAt := s.now }
    bell := { s.bell with stepAt := s.now }
    trk := { s.trk with stepAt := s.now }
    recd := { s.recd with lastRecordAt := s.now } }

/-- What step 7 of boot may change. -/
def bootStartParts : List Part :=
  [.now, .fresh, .term, .src, .ch, .cg, .hg, .head, .bell, .tally, .trk, .recd, .log, .sent]

/-- Step 7 of boot, up to the instant of its end: PHYs, sources, the Bellringer, the recorder and the guard (R48). -/
def State.bootStarts (s : State) (t0 : Nat) : State :=
  (((((s.reach (t0 + bootRunNs)).phyReset.startAll).bellBoot).updRec (fun r => { r with st := .opening })).guardActivate).reach
    (t0 + bootEndNs)

/-- Boot is its configuration, the resources of step 6, step 7 and step 8. -/
theorem State.boot_eq (s : State) :
    s.boot = (s.bootConfigured.bootResources.bootStarts s.now).bootEnds.bootPorts := rfl

theorem keeps_bootStarts (s : State) (t0 : Nat) : Keeps bootStartParts s (s.bootStarts t0) :=
  ((((((keeps_reach s _).mono rfl).trans ((keeps_phyReset _).mono rfl)).trans ((keeps_startAll _).mono rfl)).trans
    ((keeps_bellBoot _).mono rfl)).trans ((keeps_updRec _ _).mono rfl)).trans (((keeps_guardActivate _).mono rfl).trans
    ((keeps_reach _ _).mono rfl))


theorem State.bootStarts_now {s : State} {t0 : Nat} (h : s.now ≤ t0 + bootRunNs) :
    (s.bootStarts t0).now = t0 + bootEndNs := by
  have hrun : t0 + bootRunNs ≤ t0 + bootEndNs := Nat.add_le_add_left (by decide) t0
  unfold State.bootStarts
  rw [State.reach_now, show (State.guardActivate _).now = _ from (keeps_guardActivate _).same .now (by decide),
    State.updRec_now, show (State.bellBoot _).now = _ from (keeps_bellBoot _).same .now (by decide),
    show (State.startAll _).now = _ from (keeps_startAll _).same .now (by decide),
    show (State.phyReset _).now = _ from (keeps_phyReset _).same .now (by decide), State.reach_now]
  rw [show Nat.max s.now (t0 + bootRunNs) = t0 + bootRunNs from Nat.max_eq_right h]
  exact Nat.max_eq_right hrun

theorem State.bootStarts_recd_st (s : State) (t0 : Nat) : (s.bootStarts t0).recd.st = .opening := by
  unfold State.bootStarts
  rw [State.reach_recd]
  exact recd_st_of_keeps (keeps_guardActivate _) (by decide)

theorem State.bootConfigured_now (s : State) : s.bootConfigured.now = s.now + bootCfgNs := by
  show (State.reach _ _).now = _
  rw [State.reach_now]
  exact Nat.max_eq_right (Nat.le_add_right ..)

theorem keeps_bootEnds (s : State) : Keeps [.bell, .tally, .trk, .permits, .engine, .recd, .log] s s.bootEnds :=
  keeps_set_bell_tally_trk_permits_engine_recd s _ _ _ _ _ _

/-- What of the state steps 7 and 8 of boot may change. -/
theorem keeps_bootLate (s : State) :
    Keeps (bootStartParts ++ [.engine, .permits, .ports, .stream, .can]) s.bootConfigured.bootResources s.boot := by
  rw [State.boot_eq]
  exact (((keeps_bootStarts _ _).mono rfl).trans ((keeps_bootEnds _).mono rfl)).trans ((keeps_bootPorts _).mono rfl)

theorem State.boot_power (s : State) : s.boot.power = s.bootConfigured.power :=
  ((keeps_bootLate s).same .power (by decide)).trans ((keeps_bootResources _).same .power (by decide))

theorem State.boot_cfg (s : State) : s.boot.cfg = s.bootConfigured.cfg :=
  ((keeps_bootLate s).same .cfg (by decide)).trans ((keeps_bootResources _).same .cfg (by decide))

theorem State.boot_sect (s : State) : s.boot.sect = s.bootConfigured.bootResources.sect :=
  (keeps_bootLate s).same .sect (by decide)

theorem State.bootEnds_po (s : State) : s.bootEnds.permits.po = s.permits.po := rfl

theorem State.boot_now (s : State) : s.boot.now = s.now + ms 180 := by
  have hn : s.bootConfigured.bootResources.now ≤ s.now + bootRunNs := by
    rw [show (State.bootResources _).now = _ from (keeps_bootResources _).same .now (by decide), State.bootConfigured_now]
    exact Nat.add_le_add_left (by decide) _
  have hs := State.bootStarts_now hn
  rw [State.boot_eq]
  generalize s.bootConfigured.bootResources.bootStarts s.now = u at hs
  calc u.bootEnds.bootPorts.now = u.bootEnds.now := (keeps_bootPorts _).same .now (by decide)
    _ = u.now := (keeps_bootEnds u).same .now (by decide)
    _ = s.now + ms 180 := hs

theorem State.boot_po (s : State) : s.boot.permits.po = s.bootConfigured.bootResources.permits.po := by
  have hp := (keeps_bootStarts s.bootConfigured.bootResources s.now).same .permits (by decide)
  rw [State.boot_eq]
  generalize s.bootConfigured.bootResources.bootStarts s.now = u at hp
  calc u.bootEnds.bootPorts.permits.po = u.bootEnds.permits.po :=
        congrArg Permits.po ((keeps_bootPorts _).same .permits (by decide))
    _ = u.permits.po := u.bootEnds_po
    _ = s.bootConfigured.bootResources.permits.po := congrArg Permits.po hp

theorem State.bootEnds_recd_st (s : State) : s.bootEnds.recd.st = s.recd.st := rfl

theorem State.boot_recd_st (s : State) : s.boot.recd.st = .opening := by
  rw [State.boot_eq, ← s.bootConfigured.bootResources.bootStarts_recd_st s.now]
  generalize s.bootConfigured.bootResources.bootStarts s.now = u
  exact (recd_st_of_keeps (keeps_bootPorts _) (by decide)).trans u.bootEnds_recd_st

end Sys2Proof.Machine

/-! SUPPORT. What loses the volatile state, and what boots, keeps the three invariants of O6 and O7. -/

namespace Sys2Proof.Machine

-- loss of the volatile state, and boot, for the three invariants
theorem entrySafe_of_entering {s : State} (h : s.power.entering = false) : EntrySafe s := fun _ => h

theorem stagesSafe_of_stopLatch {s : State} (h : s.twin.stopLatch = true) : StagesSafe s :=
  fun h' => absurd (h.symm.trans h') (by decide)

theorem State.volatileLost_entering (s : State) (ph : Phase) : (s.volatileLost ph).power.entering = false := rfl

theorem stagesSafe_volatileLost (s : State) (ph : Phase) : StagesSafe (s.volatileLost ph) := by
  have h : ({} : DelayStage).good = true := by decide
  exact fun _ => by rw [Twin.stagesGood, Bool.and_eq_true]; exact ⟨h, h⟩

theorem wf_sectorStored {s : State} (h : Memory.wf s.emmc = true) : Memory.wf s.sectorStored.emmc = true := by
  unfold State.sectorStored
  split
  · exact memWrite_wf _ _ h
  · exact h

theorem wf_volatileLost {s : State} (ph : Phase) (h : Memory.wf s.emmc = true) :
    Memory.wf (s.volatileLost ph).emmc = true := by
  show Memory.wf s.tornSector.emmc = true
  unfold State.tornSector
  split
  · exact wf_sectorStored h
  · exact h

theorem State.bootConfigured_power (s : State) : s.bootConfigured.power = { s.power with
    phase := .running, bootAt := s.now, resetnLow := false, wakePending := false, resetCause := s.power.latch
    latch := 0#6, vsupMv := (Config.bootMv s.fresh 0).toNat, vioMv := (Config.bootMv s.fresh 1).toNat
    vexcMv := (Config.bootMv s.fresh 2).toNat, dieTemp := (Config.bootTemp s.fresh).toInt } := rfl

theorem State.boot_entering (s : State) : s.boot.power.entering = s.power.entering := by
  rw [State.boot_power, State.bootConfigured_power]

theorem stagesSafe_boot (s : State) : StagesSafe s.boot := by
  intro _
  rw [State.boot_twin]
  simp [Twin.stagesGood, DelayStage.good, bootTwin]

theorem boot_command_entering (s : State) : (boot s).power.entering = s.power.entering := by
  unfold boot
  split
  · exact s.boot_entering
  · rfl

theorem stagesSafe_boot_command {s : State} (h : StagesSafe s) : StagesSafe (boot s) := by
  unfold boot
  split
  · exact stagesSafe_boot s
  · exact h

theorem bootPllLockTimeout_entering (s : State) : (bootPllLockTimeout s).power.entering = s.power.entering := by
  unfold bootPllLockTimeout
  split
  · rw [State.addLatch, State.updPower_power, State.updPower_power, State.reach_power]
  · rfl

theorem State.beginBoot_entering (s : State) (b : Bool) : (s.beginBoot b).power.entering = s.power.entering := by
  unfold State.beginBoot
  split
  · rfl
  · split
    · exact boot_command_entering s
    · exact bootPllLockTimeout_entering s

theorem stagesSafe_beginBoot {s : State} (b : Bool) (h : StagesSafe s) : StagesSafe (s.beginBoot b) := by
  unfold State.beginBoot
  split
  · exact speaksOf_stagesSafe.keeps (keeps_addLatch ..) (by decide) h
  · split
    · exact stagesSafe_boot_command h
    · exact speaksOf_stagesSafe.keeps (keeps_bootPllLockTimeout s) (by decide) h

theorem State.wakeUp_entering (s : State) (b : Bool) : (s.wakeUp b).power.entering = s.power.entering := by
  unfold State.wakeUp
  rw [State.beginBoot_entering, State.updPower_power, State.reach_power, State.addLatch, State.updPower_power]

theorem stagesSafe_wakeUp {s : State} (b : Bool) (h : StagesSafe s) : StagesSafe (s.wakeUp b) := by
  have hl : StagesSafe (s.addLatch latchWake) := speaksOf_stagesSafe.keeps (keeps_addLatch ..) (by decide) h
  unfold State.wakeUp
  generalize s.addLatch latchWake = u at hl
  have hr := speaksOf_stagesSafe.keeps (keeps_reach u (u.now + ms 2)) (by decide) hl
  exact stagesSafe_beginBoot b (speaksOf_stagesSafe.keeps (keeps_updPower _ _) (by decide) hr)

theorem State.settleEntry_cases (s : State) : s.settleEntry = s ∨ s.settleEntry = s.endEntry ∨
    s.settleEntry = s.endEntry.wakeUp s.endEntry.power.wakeLocks := by
  unfold State.settleEntry
  extract_lets s1
  split
  · split
    · exact .inr (.inr rfl)
    · exact .inr (.inl rfl)
  · exact .inl rfl

theorem State.endEntry_entering (s : State) : s.endEntry.power.entering = false := rfl

theorem stagesSafe_endEntry (s : State) : StagesSafe s.endEntry :=
  stagesSafe_volatileLost (s.reach _) .hibernate

theorem entrySafe_settleEntry {s : State} (h : EntrySafe s) : EntrySafe s.settleEntry := by
  obtain e | e | e := s.settleEntry_cases <;> rw [e]
  · exact h
  · exact entrySafe_of_entering s.endEntry_entering
  · exact entrySafe_of_entering (by rw [State.wakeUp_entering, State.endEntry_entering])

theorem stagesSafe_settleEntry {s : State} (h : StagesSafe s) : StagesSafe s.settleEntry := by
  obtain e | e | e := s.settleEntry_cases <;> rw [e]
  · exact h
  · exact stagesSafe_endEntry s
  · exact stagesSafe_wakeUp _ (stagesSafe_endEntry s)

theorem wf_settleEntry {s : State} (h : Memory.wf s.emmc = true) : Memory.wf s.settleEntry.emmc = true := by
  have he : Memory.wf s.endEntry.emmc = true := by
    unfold State.endEntry
    extract_lets s1
    rw [State.updPower_emmc]
    exact wf_volatileLost .hibernate (by rw [State.reach_emmc]; exact h)
  obtain e | e | e := s.settleEntry_cases <;> rw [e]
  · exact h
  · exact he
  · exact speaksOf_wf.keeps (keeps_wakeUp ..) (by decide) he

-- resets and losses of power
theorem State.enterReset_entering (s : State) : s.enterReset.power.entering = false := by
  unfold State.enterReset
  extract_lets s0 s1
  split <;> rfl

theorem stagesSafe_enterReset (s : State) : StagesSafe s.enterReset := by
  unfold State.enterReset
  extract_lets s0 s1
  split <;> exact stagesSafe_volatileLost s .inReset

theorem wf_enterReset {s : State} (h : Memory.wf s.emmc = true) : Memory.wf s.enterReset.emmc = true := by
  unfold State.enterReset
  extract_lets s0 s1
  split <;> exact wf_volatileLost .inReset h

theorem State.latchLost_entering (s : State) : s.latchLost.power.entering = false := rfl

theorem stagesSafe_latchLost (s : State) : StagesSafe s.latchLost := stagesSafe_volatileLost (s.updPower fun p => { p with latch := latchPor, wakePending := false }) .unpowered

theorem wf_latchLost {s : State} (h : Memory.wf s.emmc = true) : Memory.wf s.latchLost.emmc = true :=
  wf_volatileLost (s := s.updPower fun p => { p with latch := latchPor, wakePending := false }) .unpowered h

theorem entrySafe_resetnLow {s : State} (h : EntrySafe s) : EntrySafe (resetnLow s) := by
  unfold resetnLow
  extract_lets s1
  split
  · exact h
  · exact entrySafe_of_entering s1.enterReset_entering

theorem stagesSafe_resetnLow {s : State} (h : StagesSafe s) : StagesSafe (resetnLow s) := by
  unfold resetnLow
  extract_lets s1
  split
  · exact h
  · exact stagesSafe_enterReset s1

theorem wf_resetnLow {s : State} (h : Memory.wf s.emmc = true) : Memory.wf (resetnLow s).emmc = true := by
  unfold resetnLow
  extract_lets s1
  split
  · exact h
  · exact wf_enterReset (s := s1) h

/-- What a brownout leaves: the rails alone, a device without power, or one in reset with causes and switches. -/
theorem brownout_cases (r : RailDrop) (s : State) : ∃ (ok : Power → Power), (∀ p, (ok p).entering = p.entering) ∧
    (∀ p, (ok p).phase = p.phase) ∧ (brownout r s = s.updPower ok ∨ brownout r s = (s.updPower ok).latchLost ∨
    ∃ l m, brownout r s = (((s.updPower ok).enterReset.addLatch l).addLatch m) ∨
      brownout r s = (((s.updPower ok).enterReset.addLatch l).addLatch m).switchesOpen) := by
  unfold brownout
  split
  · refine ⟨fun p => { p with vsupOk := p.vsupOk && !r.vsup, vioOk := p.vioOk && !r.vio }, fun _ => rfl, fun _ => rfl, ?_⟩
    extract_lets s1 s2
    split
    · exact .inr (.inl rfl)
    · split
      · exact .inl rfl
      · split
        · exact .inr (.inr ⟨_, _, .inr rfl⟩)
        · exact .inr (.inr ⟨_, _, .inl rfl⟩)
  · exact ⟨id, fun _ => rfl, fun _ => rfl, .inl rfl⟩

theorem entrySafe_brownout {s : State} (r : RailDrop) (h : EntrySafe s) : EntrySafe (brownout r s) := by
  obtain ⟨ok, he, hp, e | e | ⟨l, m, e | e⟩⟩ := brownout_cases r s <;> rw [e]
  · intro hph
    rw [State.updPower_power, hp] at hph
    rw [State.updPower_power, he, h hph]
  · exact entrySafe_of_entering (State.latchLost_entering _)
  all_goals exact entrySafe_of_entering (State.enterReset_entering _)

theorem stagesSafe_brownout {s : State} (r : RailDrop) (h : StagesSafe s) : StagesSafe (brownout r s) := by
  obtain ⟨ok, -, -, e | e | ⟨l, m, e | e⟩⟩ := brownout_cases r s <;> rw [e]
  · exact h
  · exact stagesSafe_latchLost _
  all_goals exact stagesSafe_enterReset _

theorem wf_brownout {s : State} (r : RailDrop) (h : Memory.wf s.emmc = true) : Memory.wf (brownout r s).emmc = true := by
  obtain ⟨ok, -, -, e | e | ⟨l, m, e | e⟩⟩ := brownout_cases r s <;> rw [e]
  · exact h
  · exact wf_latchLost (s := s.updPower ok) h
  all_goals exact wf_enterReset (s := s.updPower ok) h

end Sys2Proof.Machine

/-! SUPPORT. Which operations leave a device that is in reset, in HIBERNATE or without power out of a HIBERNATE entry
(R46, R53). -/

namespace Sys2Proof.Machine

-- which commands leave a device in reset out of a HIBERNATE entry (R46, R53)
theorem entrySafe_of_phase {s : State}
    (h : s.power.phase = .running ∨ s.power.phase = .stopped ∨ s.power.phase = .clockHeld ∨ s.power.phase = .debugHalted) :
    EntrySafe s := by
  intro hp
  obtain h | h | h | h := h <;> simp [h] at hp

theorem entrySafe_of_same {s t : State} (hp : t.power.phase = s.power.phase) (he : t.power.entering = s.power.entering)
    (h : EntrySafe s) : EntrySafe t := by
  unfold EntrySafe
  rw [hp, he]
  exact h

theorem entrySafe_keeps {l : List Part} {s t : State} (h : Keeps l s t) (hl : misses [.power] l = true)
    (hs : EntrySafe s) : EntrySafe t := speaksOf_entrySafe.keeps h hl hs

theorem entrySafe_updPower {s : State} {f : Power → Power} (hp : ∀ p, (f p).phase = p.phase)
    (he : ∀ p, (f p).entering = p.entering) (h : EntrySafe s) : EntrySafe (s.updPower f) :=
  entrySafe_of_same (hp _) (he _) h

theorem entrySafe_beginBoot {s : State} (b : Bool) (h : s.power.entering = false) : EntrySafe (s.beginBoot b) :=
  entrySafe_of_entering (by rw [State.beginBoot_entering, h])

theorem State.alive_running {s : State} (h : s.alive = true) : s.power.phase = .running := by
  simp only [State.alive, Bool.and_eq_true, beq_iff_eq] at h
  exact h.1

section
variable {s : State} (h : EntrySafe s)
include h

theorem entrySafe_boot : EntrySafe (boot s) := by
  unfold boot
  split
  · rw [show s.boot = s.boot from rfl]
    exact entrySafe_of_phase (.inl (by rw [State.boot_power, State.bootConfigured_power]))
  · exact entrySafe_updPower (fun _ => rfl) (fun _ => rfl) h

theorem entrySafe_bootPllLockTimeout : EntrySafe (bootPllLockTimeout s) := by
  unfold bootPllLockTimeout
  split
  · exact entrySafe_updPower (fun _ => rfl) (fun _ => rfl)
      (entrySafe_updPower (fun _ => rfl) (fun _ => rfl) (entrySafe_keeps (keeps_reach ..) (by decide) h))
  · exact h

theorem entrySafe_supplyRelease (b : Bool) : EntrySafe (supplyRelease b s) := by
  have hup (t : State) (ht : EntrySafe t) : EntrySafe (t.updPower fun p => { p with vsupOk := true, vioOk := true }) :=
    entrySafe_updPower (fun _ => rfl) (fun _ => rfl) ht
  unfold supplyRelease
  extract_lets s1
  split
  case h_1 hp => exact entrySafe_beginBoot b (h (.inr (.inl hp)))
  case h_2 hp => exact entrySafe_beginBoot b (h (.inl hp))
  case h_3 => exact hup s h
  all_goals
    split
    · exact hup s h
    · exact h

theorem entrySafe_clockFault : EntrySafe (clockFault s) := by
  unfold clockFault
  split
  · exact h
  · split
    case h_1 | h_2 | h_3 => exact entrySafe_of_phase (.inr (.inr (.inl rfl)))
    all_goals exact h

/-- A HIBERNATE entry begins on a running device. -/
theorem entrySafe_enterHibernate (ha : s.power.phase = .running) (trigger : Nat) (o : Option Origin) :
    EntrySafe (s.enterHibernate trigger o) := by
  unfold State.enterHibernate
  extract_lets s1 s2 s3
  split
  · exact h
  · refine entrySafe_of_phase (.inl ?_)
    rw [show (State.emmcSleep _).power = _ from (keeps_emmcSleep _).same .power (by decide), State.updRec_power,
      show s3.power = s2.power from (keeps_record s2 _ _).same .power (by decide), show s2.power = s1.permitsLow.power from (keeps_stopAll _).same .power (by decide),
      show s1.permitsLow.power = s1.power from (keeps_permitsLow _).same .power (by decide)]
    exact ha

theorem entrySafe_stbynLow : EntrySafe (stbynLow s) := by
  have h1 : EntrySafe (s.updPower fun p => { p with stbynHigh := false }) :=
    entrySafe_updPower (fun _ => rfl) (fun _ => rfl) h
  unfold stbynLow State.guarded
  split
  case isTrue hg =>
    simp only [Bool.and_eq_true] at hg
    exact entrySafe_enterHibernate h1 (State.alive_running hg.1) 1 none
  case isFalse => exact h1

theorem entrySafe_wake (b : Bool) : EntrySafe (wake b s) := by
  have h0 : EntrySafe s.settleEntry := entrySafe_settleEntry h
  unfold wake
  extract_lets s0
  split
  next hp =>
    split
    · exact entrySafe_of_entering (by rw [State.wakeUp_entering]; exact h0 (.inr (.inr hp)))
    · exact h0
  next =>
    split
    · exact entrySafe_updPower (fun _ => rfl) (fun _ => rfl) h0
    · exact h0

theorem entrySafe_stbynRise (a b : Bool) : EntrySafe (stbynRise a b s) := by
  have h0 : EntrySafe s.settleEntry := entrySafe_settleEntry h
  unfold stbynRise
  extract_lets s0 s1
  have h1 : EntrySafe s1 := entrySafe_updPower (fun _ => rfl) (fun _ => rfl) h0
  split
  · split
    next hp => exact entrySafe_of_entering (by rw [State.wakeUp_entering]; exact h0 (.inr (.inr hp)))
    next =>
      split
      · exact entrySafe_updPower (fun _ => rfl) (fun _ => rfl) h1
      · exact h1
  · exact h1

theorem entrySafe_hibernateSupplyLoss : EntrySafe (hibernateSupplyLoss s) := by
  unfold hibernateSupplyLoss
  split
  · exact entrySafe_of_entering (State.latchLost_entering _)
  · exact h

theorem entrySafe_vexcLowSet : EntrySafe (vexcLowSet s) := by
  have h1 : EntrySafe (s.setVexcLow true) := entrySafe_of_same rfl rfl h
  unfold vexcLowSet State.whenAlive
  split
  · exact entrySafe_keeps (keeps_raiseSourceDown _) (by decide) h1
  · exact h1

theorem entrySafe_vexcLowClear : EntrySafe (vexcLowClear s) := by
  have h1 : EntrySafe (s.setVexcLow false) := entrySafe_of_same rfl rfl h
  unfold vexcLowClear State.whenAlive
  split
  · split
    · exact entrySafe_keeps (keeps_issuePending _) (by decide) h1
    · exact h1
  · exact h

theorem entrySafe_debugRequest (b : Bool) : EntrySafe (debugRequest b s) := by
  unfold debugRequest
  split
  · exact entrySafe_of_phase (.inr (.inr (.inr rfl)))
  · exact h

end

theorem entrySafe_foldl {α : Type} {f : State → α → State} (hf : ∀ u x, EntrySafe u → EntrySafe (f u x)) (l : List α)
    {s : State} (h : EntrySafe s) : EntrySafe (l.foldl f s) := by
  induction l generalizing s with
  | nil => exact h
  | cons x xs ih => exact ih (hf s x h)

theorem entrySafe_takeThermal {s : State} (t : Int) (h : EntrySafe s) : EntrySafe (s.takeThermal t) := by
  unfold State.takeThermal
  extract_lets was s1 now s2 _ _
  have h1 : EntrySafe s1 := entrySafe_of_same rfl rfl h
  clear_value s1
  split
  · have h2 : EntrySafe s2 :=
      entrySafe_keeps (keeps_raiseSourceDown _) (by decide) (entrySafe_keeps (keeps_stopAll s1) (by decide) h1)
    clear_value s2
    exact entrySafe_keeps (keeps_set_sect_tally s2 _ _) (by decide) h2
  · split
    · exact entrySafe_keeps (keeps_startAll _) (by decide) (entrySafe_keeps (keeps_set_tally s1 _) (by decide) h1)
    · exact h1

theorem entrySafe_tallyTake {s : State} (t : Int) (h : EntrySafe s) : EntrySafe (s.tallyTake t) := by
  unfold State.tallyTake
  extract_lets l _ s1 s2 s3 s4 _ s5 s6 s7 s8 s9
  have h1 : EntrySafe s1 := entrySafe_of_same rfl rfl h
  have h2 : EntrySafe s2 := entrySafe_keeps (keeps_guardCycle _) (by decide) (entrySafe_takeThermal t h1)
  clear_value s2
  have h3 : EntrySafe s3 := entrySafe_foldl (fun u i => entrySafe_keeps (keeps_takeItem u i) (by decide)) l h2
  clear_value s3
  have h4 : EntrySafe s4 := entrySafe_foldl (fun u r => entrySafe_keeps (keeps_takeRestore u r) (by decide)) _ h3
  clear_value s4
  have h5 : EntrySafe s5 := entrySafe_keeps (keeps_set_tally s4 _) (by decide) h4
  clear_value s5
  have h6 : EntrySafe s6 :=
    entrySafe_keeps (keeps_takeDisturb _) (by decide) (entrySafe_keeps (keeps_takePermitWrites s5) (by decide) h5)
  clear_value s6
  have h7 : EntrySafe s7 := entrySafe_keeps (keeps_countPhase s6 _) (by decide) h6
  clear_value s7
  have h9 : EntrySafe s9 := entrySafe_keeps (keeps_takeHeads s8) (by decide) (entrySafe_keeps (keeps_set_sect s7 _) (by decide) h7)
  clear_value s9
  exact entrySafe_keeps (keeps_set_sect s9 _) (by decide) h9

theorem entrySafe_tallyCycle {s : State} (t : Int) (h : EntrySafe s) : EntrySafe (tallyCycle t s) := by
  unfold tallyCycle
  extract_lets t0 s0 _ s1 trip0 s2 s3
  have h0 : EntrySafe s0 := entrySafe_keeps (keeps_reach s t0) (by decide) h
  clear_value s0
  have h1 : EntrySafe s1 := entrySafe_keeps (keeps_set_tally s0 _) (by decide) h0
  clear_value s1
  have h2 : EntrySafe s2 := entrySafe_tallyTake t h1
  clear_value s2
  have h3 : EntrySafe s3 :=
    entrySafe_keeps (keeps_evaluateAll _) (by decide) (entrySafe_keeps (keeps_restorePhase s2) (by decide) h2)
  clear_value s3
  exact entrySafe_keeps (keeps_tallyPublish s3 _ _) (by decide) h3

/-- The state where Core A runs its fatal handler stays out of reset. -/
theorem entrySafe_enterHandler (s : State) : EntrySafe s.enterHandler := by
  unfold State.enterHandler
  extract_lets _ _ s1 s2 s3 _ s4 s5
  have h1 : EntrySafe s1 := entrySafe_of_phase (.inr (.inl rfl))
  have h2 : EntrySafe s2 := entrySafe_foldl (fun u p => entrySafe_keeps (keeps_setNmt u p .preop) (by decide)) _
    (entrySafe_keeps (keeps_refuseHeld _) (by decide) (entrySafe_keeps (keeps_stopAll s1) (by decide) h1))
  clear_value s2
  have h3 : EntrySafe s3 := entrySafe_keeps (keeps_emergency s2 ..) (by decide) h2
  clear_value s3
  have h4 : EntrySafe s4 := entrySafe_keeps (keeps_recHandler _) (by decide) (entrySafe_keeps (keeps_set_twin s3 _) (by decide) h3)
  clear_value s4
  have h5 : EntrySafe s5 := entrySafe_keeps (keeps_fatalRecord s4) (by decide) h4
  clear_value s5
  split
  · split
    · exact entrySafe_keeps (keeps_dumpBegin s5 ..) (by decide) h5
    · exact h5
  · exact h5

theorem entrySafe_fatalHandlerEntry {s : State} (h : EntrySafe s) : EntrySafe (fatalHandlerEntry s) := by
  unfold fatalHandlerEntry
  split
  · exact entrySafe_enterHandler s
  · exact h

theorem entrySafe_debugExit {s : State} (h : EntrySafe s) : EntrySafe (debugExit s) := by
  unfold debugExit
  extract_lets _ s1
  split
  · split
    · exact entrySafe_of_phase (.inr (.inl rfl))
    · exact entrySafe_enterHandler s1
  · exact h

/-- What a write does to the HIBERNATE entry: only HIBERNATE_CMD begins one, on a running device. -/
theorem entrySafe_liveWrite (s : State) (o : Origin) (i sub v : Nat) (data : List Byte) (ha : s.alive = true)
    (h : EntrySafe s) : EntrySafe (s.liveWrite o i sub v data) :=
  speaksOf_entrySafe.liveWrite (by decide) (fun _ => entrySafe_enterHibernate h (State.alive_running ha) _ _)
    (fun _ _ => entrySafe_keeps (keeps_recCommand ..) (by decide) h)
    (entrySafe_keeps (keeps_stopTestWrite s) (by decide) h) h o i sub v data

theorem entrySafe_whenAlive {s : State} {f : State → State} (hf : ∀ u, EntrySafe u → EntrySafe (f u)) (h : EntrySafe s) :
    EntrySafe (s.whenAlive f) := by
  unfold State.whenAlive
  split
  · exact hf s h
  · exact h

theorem entrySafe_guarded {s : State} {b : Bool} {f : State → State} (hf : ∀ u, EntrySafe u → EntrySafe (f u))
    (h : EntrySafe s) : EntrySafe (s.guarded b f) := by
  unfold State.guarded
  split
  · exact hf s h
  · exact h

theorem entrySafe_stbyStuckSet {s : State} (h : EntrySafe s) : EntrySafe (stbyStuckSet s) :=
  entrySafe_updPower (fun _ => rfl) (fun _ => rfl) h

theorem entrySafe_stbyStuckClear {s : State} (h : EntrySafe s) : EntrySafe (stbyStuckClear s) :=
  entrySafe_updPower (fun _ => rfl) (fun _ => rfl) h

theorem entrySafe_tapLoad {s : State} (i : TapInstr) (h : EntrySafe s) : EntrySafe (s.tapLoad i) :=
  entrySafe_updPower (fun _ => rfl) (fun _ => rfl) h

theorem entrySafe_supplyVoltage {s : State} (a b d : BitVec 16) (h : EntrySafe s) : EntrySafe (supplyVoltage a b d s) :=
  entrySafe_updPower (fun _ => rfl) (fun _ => rfl) h

theorem entrySafe_cycleSent {s : State} (t : Int) (h : EntrySafe s) : EntrySafe (tallyCycle t s).sendChanged :=
  entrySafe_keeps (keeps_sendChanged _) (by decide) (entrySafe_tallyCycle t h)

end Sys2Proof.Machine

/-! SUPPORT. The invariant of HIBERNATE entries over every command. -/

namespace Sys2Proof.Machine

/-- No command brings a device that is in reset, in HIBERNATE or without power into a HIBERNATE entry (R46, R53). -/
theorem exec_entrySafe {c : Instr} {s t : State} (h : exec c s = .next t) (hs : EntrySafe s) : EntrySafe t := by
  have run {f : State → State} (h : run s f = .next t) (hf : ∀ u, EntrySafe u → EntrySafe (f u)) : EntrySafe t :=
    speaksOf_entrySafe.run (by decide) hf h hs
  cases c with
  | resetnLow =>
    exact run (f := fun s => resetnLow s.settleEntry) h fun u hu => entrySafe_resetnLow (entrySafe_settleEntry hu)
  | brownout r =>
    exact run (f := fun s => brownout r s.settleEntry) h fun u hu => entrySafe_brownout r (entrySafe_settleEntry hu)
  | supplyRelease b =>
    exact run (f := fun s => supplyRelease b s.settleEntry) h
      fun u hu => entrySafe_supplyRelease (entrySafe_settleEntry hu) b
  | boot => exact run (f := fun s => boot s.settleEntry) h fun u hu => entrySafe_boot (entrySafe_settleEntry hu)
  | bootPllLockTimeout => exact run (f := bootPllLockTimeout) h fun u hu => entrySafe_bootPllLockTimeout hu
  | vexcLowSet => exact run (f := vexcLowSet) h fun u hu => entrySafe_vexcLowSet hu
  | vexcLowClear => exact run (f := vexcLowClear) h fun u hu => entrySafe_vexcLowClear hu
  | clkinMissing => exact run (f := clockFault) h fun u hu => entrySafe_clockFault hu
  | clockFreqError => exact run (f := clockFault) h fun u hu => entrySafe_clockFault hu
  | pllLockLoss => exact run (f := clockFault) h fun u hu => entrySafe_clockFault hu
  | hibernateCommand o v =>
    exact run (f := fun s => s.rowWrite o 0x2000 0x18 (leBytes 2 v)) h
      fun u hu => speaksOf_entrySafe.rowWrite (by decide) entrySafe_liveWrite _ _ _ _ hu
  | stbynLowQualified => exact run (f := stbynLow) h fun u hu => entrySafe_stbynLow hu
  | stbyStuckSet => exact run (f := stbyStuckSet) h fun u hu => entrySafe_stbyStuckSet hu
  | stbyStuckClear =>
    exact run (f := fun s => s.guarded s.serving stbyStuckClear) h
      fun u hu => entrySafe_guarded (fun _ => entrySafe_stbyStuckClear) hu
  | wake b => exact run (f := wake b) h fun u hu => entrySafe_wake hu b
  | stbynRiseWake a b => exact run (f := stbynRise a b) h fun u hu => entrySafe_stbynRise hu a b
  | hibernateSupplyLoss =>
    exact run (f := fun s => hibernateSupplyLoss s.settleEntry) h
      fun u hu => entrySafe_hibernateSupplyLoss (entrySafe_settleEntry hu)
  | extestEntry =>
    exact run (f := fun s => s.guarded (tapWorks s) (fun s => s.tapLoad .extest)) h
      fun u hu => entrySafe_guarded (fun _ => entrySafe_tapLoad .extest) hu
  | extestExit =>
    exact run (f := fun s => s.guarded (tapWorks s) (fun s => s.tapLoad .idcode)) h
      fun u hu => entrySafe_guarded (fun _ => entrySafe_tapLoad .idcode) hu
  | supplyVoltageUpdate a b d =>
    exact run (f := fun s => s.whenAlive (supplyVoltage a b d)) h
      fun u hu => entrySafe_whenAlive (fun _ => entrySafe_supplyVoltage a b d) hu
  | tallyCycle d =>
    exact run (f := fun s => s.whenAlive (fun s => (tallyCycle d s).sendChanged)) h
      fun u hu => entrySafe_whenAlive (fun _ => entrySafe_cycleSent d) hu
  | debugRequest b =>
    exact run (f := fun s => s.guarded s.serving (debugRequest b)) h
      fun u hu => entrySafe_guarded (fun _ hv => entrySafe_debugRequest hv b) hu
  | debugExit => exact run (f := debugExit) h fun u hu => entrySafe_debugExit hu
  | fatalHandlerEntry =>
    exact run (f := fun s => s.whenAlive fatalHandlerEntry) h
      fun u hu => entrySafe_whenAlive (fun _ => entrySafe_fatalHandlerEntry) hu
  | writeJudgement =>
    exact run (f := fun s => s.whenAlive writeJudgement) h fun u hu =>
      entrySafe_whenAlive (fun _ hv => speaksOf_entrySafe.writeJudgement (by decide) entrySafe_liveWrite hv) hu
  | _ => exact speaksOf_entrySafe.untouched h rfl hs

end Sys2Proof.Machine

/-! SUPPORT. While the stop latch is clear both stages of the delay registers have good parity: a lemma per operation
that changes the twin, every other one by its frame (R339, R349). -/

namespace Sys2Proof.Machine

theorem stagesSafe_keeps {l : List Part} {s t : State} (h : Keeps l s t) (hl : misses [.twin] l = true)
    (hs : StagesSafe s) : StagesSafe t := speaksOf_stagesSafe.keeps h hl hs

/-- What leaves the latch and both stages alone. -/
theorem stagesSafe_of_same {s t : State} (hl : t.twin.stopLatch = s.twin.stopLatch) (h0 : t.twin.delay0 = s.twin.delay0)
    (h1 : t.twin.delay1 = s.twin.delay1) (h : StagesSafe s) : StagesSafe t := by
  unfold StagesSafe Twin.stagesGood at *
  rwa [hl, h0, h1]

theorem State.stopLatch_stopLatch (s : State) (c : Nat) (g : Option (BitVec 32 × BitVec 32)) :
    (s.stopLatch c g).twin.stopLatch = true := by
  unfold State.stopLatch
  extract_lets bit sg _ s1
  split
  case isTrue h => exact h
  case isFalse => rfl

theorem stagesSafe_stopLatch (s : State) (c : Nat) (g : Option (BitVec 32 × BitVec 32)) : StagesSafe (s.stopLatch c g) :=
  stagesSafe_of_stopLatch (s.stopLatch_stopLatch c g)

theorem stagesSafe_checkStages (s : State) : StagesSafe s.checkStages := by
  unfold State.checkStages
  split
  case isTrue h => exact fun _ => h
  case isFalse => exact stagesSafe_stopLatch s 1 none

/-- The value that enters the first stage brings its parity, and what stood there goes on. -/
theorem Twin.shift_stagesGood {t : Twin} (v : BitVec 224) (h : t.stagesGood = true) : (t.shift v).stagesGood = true := by
  simp only [Twin.stagesGood, Bool.and_eq_true] at h
  simp [Twin.stagesGood, Twin.shift, DelayStage.good]
  simpa [DelayStage.good] using h.1

theorem stagesSafe_eccDouble (s : State) (c : Nat) : StagesSafe (s.eccDouble c) := by
  unfold State.eccDouble
  extract_lets s1
  have h1 : StagesSafe s1 := stagesSafe_stopLatch s c none
  clear_value s1
  split
  · exact stagesSafe_keeps (keeps_set_recd s1 _) (by decide) h1
  · exact h1

theorem stagesSafe_foldl {α : Type} {f : State → α → State} (hf : ∀ u x, StagesSafe u → StagesSafe (f u x)) (l : List α)
    {s : State} (h : StagesSafe s) : StagesSafe (l.foldl f s) := by
  induction l generalizing s with
  | nil => exact h
  | cons x xs ih => exact ih (hf s x h)

section
variable {s : State} (h : StagesSafe s)
include h

theorem stagesSafe_clockFault_command : StagesSafe (clockFault s) := by
  have hc : StagesSafe s.clockFault := by
    have hl := s.stopLatch_stopLatch 7 none
    unfold State.clockFault
    extract_lets s1
    have h1 : s1.twin = (s.stopLatch 7 none).twin :=
      ((keeps_addLatch _ _).same .twin (by decide)).trans ((keeps_excReset _).same .twin (by decide))
    clear_value s1
    exact stagesSafe_of_stopLatch (by rw [← hl, ← h1])
  unfold clockFault
  split
  · exact h
  · split
    case h_1 | h_2 | h_3 => exact hc
    all_goals exact h

theorem stagesSafe_holdPermit (w : PermitWrite) : StagesSafe (s.holdPermit w) := by
  unfold State.holdPermit
  split
  · exact h
  · exact h

theorem stagesSafe_refreshPhase (trip : Bool) : StagesSafe (s.refreshPhase trip) := by
  unfold State.refreshPhase
  extract_lets s1 r s2
  have h1 : StagesSafe (s1.permitRecords r) :=
    stagesSafe_keeps (keeps_permitRecords _ _) (by decide) (stagesSafe_keeps (keeps_lockPhase s trip) (by decide) h)
  have h2 : StagesSafe s2 := stagesSafe_holdPermit h1 (.refresh r)
  clear_value s2
  exact stagesSafe_keeps (keeps_set_tally s2 _) (by decide) h2

theorem stagesSafe_tallyPublish (l : List TallyItem) (trip : Bool) : StagesSafe (s.tallyPublish l trip) := by
  unfold State.tallyPublish
  extract_lets s1 s2 s3 s4
  have h1 : StagesSafe s1 := stagesSafe_keeps (keeps_noteHeadDist _) (by decide) (stagesSafe_keeps (keeps_provLoads s) (by decide) h)
  clear_value s1
  have h2 : StagesSafe s2 :=
    stagesSafe_keeps (keeps_headRecords _) (by decide) (stagesSafe_keeps (keeps_trackRecords s1 l) (by decide) h1)
  clear_value s2
  have h3 : StagesSafe s3 := stagesSafe_keeps (keeps_ackRecords _) (by decide)
    (stagesSafe_foldl (fun u n => stagesSafe_keeps (keeps_sectionRecords u n) (by decide)) _ h2)
  clear_value s3
  have h4 : StagesSafe s4 := stagesSafe_refreshPhase (stagesSafe_keeps (keeps_publish s3) (by decide) h3) trip
  clear_value s4
  exact stagesSafe_keeps (keeps_set_sect s4 _) (by decide) h4

theorem stagesSafe_tallyCycle (t : Int) : StagesSafe (tallyCycle t s) := by
  unfold tallyCycle
  extract_lets t0 s0 _ s1 trip0 s2 s3
  have h0 : StagesSafe s0 := stagesSafe_keeps (keeps_reach s t0) (by decide) h
  clear_value s0
  have h1 : StagesSafe s1 := stagesSafe_keeps (keeps_set_tally s0 _) (by decide) h0
  clear_value s1
  have h2 : StagesSafe s2 := stagesSafe_keeps (keeps_tallyTake s1 t) (by decide) h1
  clear_value s2
  have h3 : StagesSafe s3 :=
    stagesSafe_keeps (keeps_evaluateAll _) (by decide) (stagesSafe_keeps (keeps_restorePhase s2) (by decide) h2)
  clear_value s3
  exact stagesSafe_tallyPublish h3 _ _

theorem stagesSafe_activateAll (old : CfgMap) : StagesSafe (s.activateAll old) := by
  unfold State.activateAll
  extract_lets s1 s2
  have h1 : StagesSafe s1 := stagesSafe_foldl (fun u k => stagesSafe_keeps (keeps_channelActivate u old k) (by decide)) _
    (stagesSafe_keeps (keeps_bellActivate _) (by decide) (stagesSafe_keeps (keeps_wreActivate old s) (by decide) h))
  clear_value s1
  have h2 : StagesSafe s2 := stagesSafe_keeps (keeps_switchSense _) (by decide)
    (stagesSafe_foldl (fun u k => stagesSafe_keeps (keeps_excActivate u old k) (by decide)) _ h1)
  clear_value s2
  have h3 : StagesSafe s2.guardActivate.trackerActivate.tallyActivate :=
    stagesSafe_keeps (keeps_tallyActivate _) (by decide) (stagesSafe_keeps (keeps_trackerActivate _) (by decide)
      (stagesSafe_keeps (keeps_guardActivate s2) (by decide) h2))
  generalize s2.guardActivate.trackerActivate.tallyActivate = s3 at h3
  have h4 : StagesSafe s3.permitActivate :=
    stagesSafe_holdPermit (stagesSafe_keeps (keeps_unlockUnassigned s3) (by decide) h3) _
  exact stagesSafe_keeps (keeps_engineActivate _) (by decide) h4

theorem stagesSafe_activationEffect (ok : Bool) : StagesSafe (activationEffect ok s) := by
  unfold activationEffect
  extract_lets s0 old _ s1
  split
  · split
    · have h0 : StagesSafe s0 := stagesSafe_keeps (keeps_reach s _) (by decide) h
      clear_value s0
      have h1 : StagesSafe s1 := stagesSafe_keeps (keeps_set_cfg s0 _) (by decide) h0
      clear_value s1
      exact stagesSafe_activateAll (stagesSafe_keeps (keeps_configRecord s1 _ _) (by decide) h1) old
    · exact stagesSafe_keeps (keeps_set_cfg s _) (by decide) h
  · exact h

theorem stagesSafe_reevePass (n : Nat) : StagesSafe (s.reevePass n) :=
  stagesSafe_of_same (by simp) (by simp) (by simp) h

theorem stagesSafe_windowDone (n : Nat) : StagesSafe (s.windowDone n) := h

theorem stagesSafe_sramFault (w : Nat) : StagesSafe (s.sramFault w) := by
  unfold State.sramFault
  split
  · exact stagesSafe_eccDouble s 2
  · exact h

theorem stagesSafe_flashFault (p : FlashPlace) : StagesSafe (s.flashFault p) := by
  unfold State.flashFault
  split
  · exact stagesSafe_eccDouble s 3
  · exact h

end

/-- A window's end brings two values with their parity into the stages. -/
theorem stagesSafe_retire (s : State) (a b : CoreWindow) (d0 d1 : BitVec 224) (n : Nat) :
    StagesSafe { s with twin := s.twin.retire a b d0 d1 n } := fun _ => by
  simp [Twin.retire, Twin.stagesGood, Twin.shift, DelayStage.good]

theorem stagesSafe_reeveCompare {s : State} (a b : CoreWindow) (d0 d1 : BitVec 224) (h : StagesSafe s) :
    StagesSafe (reeveCompare a b d0 d1 s) := by
  unfold reeveCompare
  extract_lets n sg ended s0 stop s1
  have h0 : StagesSafe s0 := stagesSafe_keeps (keeps_reach _ _) (by decide) (stagesSafe_retire s a b d0 d1 _)
  clear_value s0
  have hstop (c : Nat) : StagesSafe (stop c) := stagesSafe_windowDone (stagesSafe_stopLatch s0 c _) n
  have hpass : StagesSafe ((s0.reevePass n).windowDone n) := stagesSafe_windowDone (stagesSafe_reevePass h0 n) n
  split
  · split
    · exact hpass
    · exact stagesSafe_of_same rfl rfl rfl hpass
    · exact hstop 4
    · exact hstop 5
    · exact hstop 9
    · exact stagesSafe_stopLatch _ 9 none
  · split
    · cases outcomeCause _ with
      | none => exact h
      | some c => exact stagesSafe_stopLatch s c none
    · exact h

/-- A read passes the check of the stages, and its value brings its parity (R339). -/
theorem stagesSafe_coreRead (s : State) (w : BitVec 32) : StagesSafe (s.coreRead w) := by
  have h := stagesSafe_checkStages s
  unfold State.coreRead
  extract_lets s1 _
  have h1 : StagesSafe s1 := h
  clear_value s1
  exact fun hl => Twin.shift_stagesGood _ (h1 hl)

section
variable {s : State} (h : StagesSafe s)
include h

theorem stagesSafe_scrubNext : StagesSafe s.scrubNext := by
  unfold State.scrubNext Machine.scrubNext
  split <;> exact h

theorem stagesSafe_scrubRead (r : MemRead) : StagesSafe (scrubRead r s) := by
  have read (w : Nat) : StagesSafe (s.sramRead w) := stagesSafe_sramFault (stagesSafe_coreRead s _) w
  unfold scrubRead
  extract_lets word
  cases r with
  | clean => exact stagesSafe_scrubNext (stagesSafe_sramFault h word)
  | coreAccess reads =>
    dsimp only
    split
    · exact read word
    · exact h
  | single => exact stagesSafe_scrubNext (s := { s with twin := sramCorrected s.twin word }) h
  | singleThenStore mask data =>
    exact stagesSafe_scrubNext (s := { s with twin := { sramCorrected s.twin word with
      sram := sramPut s.twin.sram word mask data } }) h
  | double x => exact stagesSafe_scrubNext (stagesSafe_eccDouble _ 2)
  | coreClean a => exact read a.toNat
  | coreSingle a => exact stagesSafe_coreRead _ _
  | coreDouble a x => exact stagesSafe_eccDouble _ 2
  | flashClean p => exact stagesSafe_flashFault (stagesSafe_coreRead s _) p
  | flashSingle p => exact stagesSafe_coreRead _ _
  | flashDouble p x => exact stagesSafe_eccDouble _ 3

theorem stagesSafe_pulseTimeout : StagesSafe (pulseTimeout s) := by
  unfold pulseTimeout
  split
  · exact stagesSafe_stopLatch _ 6 none
  · split
    · exact stagesSafe_stopLatch s 6 none
    · exact h

theorem stagesSafe_debugRequest (b : Bool) : StagesSafe (debugRequest b s) := by
  unfold debugRequest
  extract_lets s0 s1
  split
  · exact stagesSafe_of_stopLatch (State.stopLatch_stopLatch _ 8 none)
  · exact h

theorem stagesSafe_enterHandler : StagesSafe s.enterHandler := by
  unfold State.enterHandler
  extract_lets _ _ s1 s2 s3 _ s4 s5
  have h1 : StagesSafe s1 := h
  clear_value s1
  have h2 : StagesSafe s2 := stagesSafe_foldl (fun u p => stagesSafe_keeps (keeps_setNmt u p .preop) (by decide)) _
    (stagesSafe_keeps (keeps_refuseHeld _) (by decide) (stagesSafe_keeps (keeps_stopAll s1) (by decide) h1))
  clear_value s2
  have h3 : StagesSafe s3 := stagesSafe_keeps (keeps_emergency s2 ..) (by decide) h2
  clear_value s3
  have h4 : StagesSafe s4 := stagesSafe_keeps (keeps_recHandler _) (by decide)
    (stagesSafe_of_same (t := { s3 with twin := { s3.twin with frozen := frozenValues s3 } }) rfl rfl rfl h3)
  clear_value s4
  have h5 : StagesSafe s5 := stagesSafe_keeps (keeps_fatalRecord s4) (by decide) h4
  clear_value s5
  split
  · split
    · exact stagesSafe_keeps (keeps_dumpBegin s5 ..) (by decide) h5
    · exact stagesSafe_keeps (keeps_updRec s5 _) (by decide) h5
  · exact h5

theorem stagesSafe_fatalHandlerEntry : StagesSafe (fatalHandlerEntry s) := by
  unfold fatalHandlerEntry
  split
  · exact stagesSafe_enterHandler h
  · exact h

theorem stagesSafe_debugExit : StagesSafe (debugExit s) := by
  unfold debugExit
  extract_lets _ s1
  split
  · split
    · exact h
    · exact stagesSafe_enterHandler (s := s1) h
  · exact h

theorem stagesSafe_supplyRelease (b : Bool) : StagesSafe (supplyRelease b s) := by
  unfold supplyRelease
  extract_lets s1
  split
  case h_1 | h_2 => exact stagesSafe_beginBoot b (stagesSafe_keeps (keeps_updPower _ _) (by decide) h)
  case h_3 => exact h
  all_goals
    split
    · exact h
    · exact h

theorem stagesSafe_wake (b : Bool) : StagesSafe (wake b s) := by
  have h0 : StagesSafe s.settleEntry := stagesSafe_settleEntry h
  unfold wake
  extract_lets s0
  split
  · split
    · exact stagesSafe_wakeUp b h0
    · exact h0
  · split
    · exact stagesSafe_keeps (keeps_latchWake ..) (by decide) h0
    · exact h0

theorem stagesSafe_stbynRise (a b : Bool) : StagesSafe (stbynRise a b s) := by
  have h0 : StagesSafe s.settleEntry := stagesSafe_settleEntry h
  unfold stbynRise
  extract_lets s0 s1
  have h1 : StagesSafe s1 := stagesSafe_keeps (keeps_updPower _ _) (by decide) h0
  clear_value s1
  split
  · split
    · exact stagesSafe_wakeUp _ h1
    · split
      · exact stagesSafe_keeps (keeps_latchWake ..) (by decide) h1
      · exact h1
  · exact h1

theorem stagesSafe_hibernateSupplyLoss : StagesSafe (hibernateSupplyLoss s) := by
  unfold hibernateSupplyLoss
  split
  · exact stagesSafe_latchLost s
  · exact h

theorem stagesSafe_whenAlive {f : State → State} (hf : StagesSafe s → StagesSafe (f s)) : StagesSafe (s.whenAlive f) := by
  unfold State.whenAlive
  split
  · exact hf h
  · exact h

theorem stagesSafe_guarded {b : Bool} {f : State → State} (hf : StagesSafe s → StagesSafe (f s)) :
    StagesSafe (s.guarded b f) := by
  unfold State.guarded
  split
  · exact hf h
  · exact h

end

/-- Of the writes only STOP_TEST_CMD reaches the twin, and not its stages. -/
theorem stagesSafe_liveWrite (s : State) (o : Origin) (i sub v : Nat) (data : List Byte) (_ : s.alive = true)
    (h : StagesSafe s) : StagesSafe (s.liveWrite o i sub v data) :=
  speaksOf_stagesSafe.liveWrite (by decide) (fun _ => stagesSafe_keeps (keeps_enterHibernate ..) (by decide) h)
    (fun _ _ => stagesSafe_keeps (keeps_recCommand ..) (by decide) h) (stagesSafe_stopTestWrite h) h o i sub v data

end Sys2Proof.Machine

/-! SUPPORT. The three invariants of O7 over every command, and over a step with an empty queue; with them O7. -/

namespace Sys2Proof.Machine

/-- While the latch is clear no command leaves wrong parity in a delay register (R339, R349). -/
theorem exec_stagesSafe {c : Instr} {s t : State} (h : exec c s = .next t) (hs : StagesSafe s) : StagesSafe t := by
  have run {f : State → State} (h : run s f = .next t) (hf : ∀ u, StagesSafe u → StagesSafe (f u)) : StagesSafe t :=
    speaksOf_stagesSafe.run (by decide) hf h hs
  cases c with
  | resetnLow =>
    exact run (f := fun s => resetnLow s.settleEntry) h
      fun _ hu => stagesSafe_resetnLow (stagesSafe_settleEntry hu)
  | brownout r =>
    exact run (f := fun s => brownout r s.settleEntry) h
      fun _ hu => stagesSafe_brownout r (stagesSafe_settleEntry hu)
  | supplyRelease pllLocks =>
    exact run (f := fun s => supplyRelease pllLocks s.settleEntry) h
      fun _ hu => stagesSafe_supplyRelease (stagesSafe_settleEntry hu) pllLocks
  | boot =>
    exact run (f := fun s => boot s.settleEntry) h
      fun _ hu => stagesSafe_boot_command (stagesSafe_settleEntry hu)
  | clkinMissing => exact run (f := clockFault) h fun _ hu => stagesSafe_clockFault_command hu
  | clockFreqError => exact run (f := clockFault) h fun _ hu => stagesSafe_clockFault_command hu
  | pllLockLoss => exact run (f := clockFault) h fun _ hu => stagesSafe_clockFault_command hu
  | wake pllLocks => exact run (f := wake pllLocks) h fun _ hu => stagesSafe_wake hu pllLocks
  | stbynRiseWake waknLow pllLocks =>
    exact run (f := stbynRise waknLow pllLocks) h
      fun _ hu => stagesSafe_stbynRise hu waknLow pllLocks
  | hibernateSupplyLoss =>
    exact run (f := fun s => hibernateSupplyLoss s.settleEntry) h
      fun _ hu => stagesSafe_hibernateSupplyLoss (stagesSafe_settleEntry hu)
  | tallyCycle dieTemp =>
    exact run (f := fun s => s.whenAlive (fun s => (tallyCycle dieTemp s).sendChanged)) h
      fun _ hu => stagesSafe_whenAlive hu fun hv => stagesSafe_keeps (keeps_sendChanged _) (by decide) (stagesSafe_tallyCycle hv dieTemp)
  | reeveCompare a b delay0 delay1 =>
    exact run (f := fun s => s.guarded (s.alive || s.stopCycle) (fun s => reeveCompare a b delay0 delay1 s.checkStages)) h
      fun u hu => stagesSafe_guarded hu fun _ => stagesSafe_reeveCompare a b delay0 delay1 (stagesSafe_checkStages u)
  | delayParityError second data parity =>
    exact run (f := fun s => s.guarded (s.serving || s.stopCycle) (delayParityError second data parity)) h
      fun _ hu => stagesSafe_guarded hu fun _ => stagesSafe_checkStages _
  | scrubRead r =>
    exact run (f := fun s => s.guarded (s.serving || s.stopCycle) (scrubRead r)) h
      fun _ hu => stagesSafe_guarded hu fun hv => stagesSafe_scrubRead hv r
  | pulseTimeout =>
    exact run (f := fun s => s.guarded (s.serving || s.stopCycle) pulseTimeout) h
      fun _ hu => stagesSafe_guarded hu fun hv => stagesSafe_pulseTimeout hv
  | stopTestCmd o v =>
    exact run (f := fun s => s.rowWrite o 0x2A00 0x0F (leBytes 2 v)) h
      fun _ => speaksOf_stagesSafe.rowWrite (by decide) stagesSafe_liveWrite _ _ _ _
  | debugRequest trstnHigh =>
    exact run (f := fun s => s.guarded s.serving (debugRequest trstnHigh)) h
      fun _ hu => stagesSafe_guarded hu fun hv => stagesSafe_debugRequest hv trstnHigh
  | debugExit => exact run (f := debugExit) h fun _ hu => stagesSafe_debugExit hu
  | fatalHandlerEntry =>
    exact run (f := fun s => s.whenAlive fatalHandlerEntry) h
      fun _ hu => stagesSafe_whenAlive hu fun hv => stagesSafe_fatalHandlerEntry hv
  | writeJudgement =>
    exact run (f := fun s => s.whenAlive writeJudgement) h
      fun _ hu => stagesSafe_whenAlive hu fun hv => speaksOf_stagesSafe.writeJudgement (by decide) stagesSafe_liveWrite hv
  | activationEffect programOk =>
    exact run (f := fun s => s.whenAlive (activationEffect programOk)) h
      fun _ hu => stagesSafe_whenAlive hu fun hv => stagesSafe_activationEffect hv programOk
  | _ => exact speaksOf_stagesSafe.untouched h rfl hs

/-- The effect of a command carries `StopSafe` on. -/
theorem stay_run {s t : State} {f : State → State} (h : run s f = .next t) (hf : ∀ u, Stays u (f u)) : Stays s t := by
  unfold Machine.run at h
  cases h
  exact ((Stays.of_keeps (keeps_begin s) (by decide) (by decide)).trans (hf _)).trans
    (Stays.of_keeps (keeps_finish _) (by decide) (by decide))

/-- A command that lists neither permits nor twin, and no row whose object a held write contests. -/
theorem stay_untouched {c : Instr} {s t : State} (h : exec c s = .next t) (hr : rowObject c = none)
    (hm : misses [.permits, .twin] (touches c ++ reports) = true) : Stays s t := by
  have hf := exec_frame h
  rw [touchesIn, contested, hr, if_neg Bool.false_ne_true, List.append_nil] at hf
  simp only [misses, List.all_cons, List.all_nil, Bool.and_true, Bool.and_eq_true, Bool.not_eq_true', decide_eq_false_iff_not] at hm
  exact Stays.of_keeps hf hm.1 hm.2

/-- A stopped device keeps its permits high-impedance, whatever command is carried out (R277, R348). -/
theorem exec_stays {c : Instr} {s t : State} (h : exec c s = .next t) : Stays s t := by
  have run {f : State → State} (h : run s f = .next t) (hf : ∀ u, Stays u (f u)) : Stays s t := stay_run h hf
  cases c with
  | resetnLow =>
    exact run (f := fun s => resetnLow s.settleEntry) h
      fun u => (stay_settleEntry u).trans (stay_resetnLow ..)
  | brownout r =>
    exact run (f := fun s => brownout r s.settleEntry) h
      fun u => (stay_settleEntry u).trans (stay_brownout ..)
  | supplyRelease pllLocks =>
    exact run (f := fun s => supplyRelease pllLocks s.settleEntry) h
      fun u => (stay_settleEntry u).trans (stay_supplyRelease ..)
  | boot => exact run (f := fun s => boot s.settleEntry) h fun u => (stay_settleEntry u).trans (stay_boot_command ..)
  | clkinMissing => exact run (f := clockFault) h fun u => stay_clockFault_command ..
  | clockFreqError => exact run (f := clockFault) h fun u => stay_clockFault_command ..
  | pllLockLoss => exact run (f := clockFault) h fun u => stay_clockFault_command ..
  | hibernateCommand o v =>
    exact run (f := fun s => s.rowWrite o 0x2000 0x18 (leBytes 2 v)) h
      fun u => stay_rowWrite ..
  | stbynLowQualified => exact run (f := stbynLow) h fun u => stay_stbynLow ..
  | wake pllLocks => exact run (f := wake pllLocks) h fun u => stay_wake ..
  | stbynRiseWake waknLow pllLocks => exact run (f := stbynRise waknLow pllLocks) h fun u => stay_stbynRise ..
  | hibernateSupplyLoss =>
    exact run (f := fun s => hibernateSupplyLoss s.settleEntry) h
      fun u => (stay_settleEntry u).trans (stay_hibernateSupplyLoss ..)
  | clfClearWrite o k v live =>
    exact run (f := fun s => (s.guarded s.serving (fun s => s.setClamps k live)).rowWrite o 0x2700 (0x81 + k.val) (leBytes 4 v)) h
      fun u => (Stays.guarded (fun v => Stays.of_keeps (keeps_setClamps v k live) (by decide) (by decide)) (Stays.refl u)).trans (stay_rowWrite ..)
  | excHoldWrite o high v =>
    exact run (f := fun s => s.rowWrite o 0x2700 (if high then 0x8F else 0x8E) (leBytes 4 v)) h
      fun u => stay_rowWrite ..
  | checkNow o mask => exact run (f := fun s => s.rowWrite o 0x2A00 0x3C (leBytes 4 mask)) h fun u => stay_rowWrite ..
  | captureCmdArm o w v =>
    exact run (f := fun s => s.rowWrite o (0x2100 + w.val) 0x13 (leBytes 1 v)) h
      fun u => stay_rowWrite ..
  | tallyCycle dieTemp =>
    exact run (f := fun s => s.whenAlive (fun s => (tallyCycle dieTemp s).sendChanged)) h
      fun u => Stays.whenAlive (fun v => (stay_tallyCycle dieTemp v).trans (Stays.of_keeps (keeps_sendChanged _) (by decide) (by decide))) (Stays.refl u)
  | restoreRequest o n v =>
    exact run (f := fun s => s.rowWrite o (0x2200 + n.val) 0x0B (leBytes 2 v)) h
      fun u => stay_rowWrite ..
  | restoreWithdraw o n v =>
    exact run (f := fun s => s.rowWrite o (0x2200 + n.val) 0x0B (leBytes 2 v)) h
      fun u => stay_rowWrite ..
  | disturbCmd o n v =>
    exact run (f := fun s => s.rowWrite o (0x2200 + n.val) 0x0D (leBytes 2 v)) h
      fun u => stay_rowWrite ..
  | dropElapsed p =>
    exact run (f := fun s => s.guarded s.serving (dropElapsed p)) h
      fun u => Stays.guarded (fun v => stay_dropElapsed ..) (Stays.refl u)
  | droptestCmd o mask =>
    exact run (f := fun s => s.rowWrite o 0x2300 0x4A (leBytes 2 mask)) h
      fun u => stay_rowWrite ..
  | readbackFault p =>
    exact run (f := fun s => s.guarded s.serving (readbackFault p)) h
      fun u => Stays.guarded (fun v => stay_readbackFault ..) (Stays.refl u)
  | tallyStall =>
    exact run (f := fun s => s.whenAlive tallyStall) h
      fun u => Stays.whenAlive (fun v => stay_tallyStall ..) (Stays.refl u)
  | inhibitWrite o v => exact run (f := fun s => s.rowWrite o 0x2300 0x33 (leBytes 2 v)) h fun u => stay_rowWrite ..
  | lockoutCmd o mask =>
    exact run (f := fun s => s.rowWrite o 0x2300 0x38 (leBytes 2 mask)) h
      fun u => stay_rowWrite ..
  | ackDebouncedEdge pressed =>
    exact run (f := fun s => s.whenAlive (ackEdge pressed)) h
      fun u => Stays.whenAlive (fun v => stay_ackEdge ..) (Stays.refl u)
  | ackStuckSet =>
    exact run (f := fun s => s.whenAlive ackStuckSet) h
      fun u => Stays.whenAlive (fun v => stay_ackStuckSet ..) (Stays.refl u)
  | ackHighQualified =>
    exact run (f := fun s => s.whenAlive ackHighQualified) h
      fun u => Stays.whenAlive (fun v => stay_ackHighQualified ..) (Stays.refl u)
  | ackArm o v => exact run (f := fun s => s.rowWrite o 0x2300 0x34 (leBytes 2 v)) h fun u => stay_rowWrite ..
  | ackArmWithdraw o v => exact run (f := fun s => s.rowWrite o 0x2300 0x34 (leBytes 2 v)) h fun u => stay_rowWrite ..
  | ackArmExpiry =>
    exact run (f := fun s => s.whenAlive ackArmExpiry) h
      fun u => Stays.whenAlive (fun v => stay_ackArmExpiry ..) (Stays.refl u)
  | modeCmdFollow o => exact run (f := fun s => s.rowWrite o 0x2500 0x04 (leBytes 1 1)) h fun u => stay_rowWrite ..
  | modeCmdHold o => exact run (f := fun s => s.rowWrite o 0x2500 0x04 (leBytes 1 2)) h fun u => stay_rowWrite ..
  | modeCmdOff o => exact run (f := fun s => s.rowWrite o 0x2500 0x04 (leBytes 1 0)) h fun u => stay_rowWrite ..
  | modeCmdFade o => exact run (f := fun s => s.rowWrite o 0x2500 0x04 (leBytes 1 3)) h fun u => stay_rowWrite ..
  | lawEnableWrite o v => exact run (f := fun s => s.rowWrite o 0x2500 0x07 (leBytes 2 v)) h fun u => stay_rowWrite ..
  | lawReset o mask => exact run (f := fun s => s.rowWrite o 0x2500 0x08 (leBytes 2 mask)) h fun u => stay_rowWrite ..
  | reeveCompare a b delay0 delay1 =>
    exact run (f := fun s => s.guarded (s.alive || s.stopCycle) (fun s => reeveCompare a b delay0 delay1 s.checkStages)) h
      fun u => Stays.guarded (fun v => (stay_checkStages v).trans (stay_reeveCompare ..)) (Stays.refl u)
  | delayParityError second data parity =>
    exact run (f := fun s => s.guarded (s.serving || s.stopCycle) (delayParityError second data parity)) h
      fun u => Stays.guarded (fun v => stay_delayParityError ..) (Stays.refl u)
  | scrubRead r =>
    exact run (f := fun s => s.guarded (s.serving || s.stopCycle) (scrubRead r)) h
      fun u => Stays.guarded (fun v => stay_scrubRead ..) (Stays.refl u)
  | pulseTimeout =>
    exact run (f := fun s => s.guarded (s.serving || s.stopCycle) pulseTimeout) h
      fun u => Stays.guarded (fun v => stay_pulseTimeout ..) (Stays.refl u)
  | stopTestCmd o v => exact run (f := fun s => s.rowWrite o 0x2A00 0x0F (leBytes 2 v)) h fun u => stay_rowWrite ..
  | debugRequest trstnHigh =>
    exact run (f := fun s => s.guarded s.serving (debugRequest trstnHigh)) h
      fun u => Stays.guarded (fun v => stay_debugRequest ..) (Stays.refl u)
  | debugExit => exact run (f := debugExit) h fun u => stay_debugExit ..
  | fatalHandlerEntry =>
    exact run (f := fun s => s.whenAlive fatalHandlerEntry) h
      fun u => Stays.whenAlive (fun v => stay_fatalHandlerEntry ..) (Stays.refl u)
  | sdoRequest p k r =>
    exact run (f := fun s => s.guarded (sdoServed s p k) (sdoRequest p k r)) h
      fun u => Stays.guarded (fun v => stay_sdoRequest ..) (Stays.refl u)
  | writeJudgement =>
    exact run (f := fun s => s.whenAlive writeJudgement) h
      fun u => Stays.whenAlive (fun v => stay_writeJudgement ..) (Stays.refl u)
  | genericWrite o i sub data => exact run (f := fun s => (s.rowReceive o i sub data).1) h fun u => stay_rowReceive ..
  | nmtStop p =>
    exact run (f := fun s => s.guarded (canTakes s p) (nmtStop p)) h
      fun u => Stays.guarded (fun v => stay_nmtStop ..) (Stays.refl u)
  | nmtResetCommunication p =>
    exact run (f := fun s => s.guarded (s.serving && canEnabled s.cfg.active p) (nmtResetCommunication p)) h
      fun u => Stays.guarded (fun v => stay_nmtResetCommunication ..) (Stays.refl u)
  | openTakeover w target => exact run (f := fun s => openTakeover w target s) h fun u => stay_openTakeover ..
  | closeSession w => exact run (f := fun s => closeSession w s) h fun u => stay_closeSession ..
  | writeItems w items => exact run (f := fun s => writeRequest w items s) h fun u => stay_writeRequest ..
  | spiFrameReceived bytes =>
    exact run (f := fun s => s.guarded s.serving (spiFrame bytes)) h
      fun u => Stays.guarded (fun v => stay_spiFrame ..) (Stays.refl u)
  | sessionTimeout k =>
    exact run (f := fun s => s.guarded s.serving (sessionTimeout k)) h
      fun u => Stays.guarded (fun v => stay_sessionTimeout ..) (Stays.refl u)
  | sessionEnd o v => exact run (f := fun s => s.rowWrite o 0x2B00 0x11 (leBytes 1 v)) h fun u => stay_rowWrite ..
  | deviceKey o key => exact run (f := fun s => s.rowWrite o 0x2B00 0x12 key) h fun u => stay_rowWrite ..
  | errorHistoryClear o v =>
    exact run (f := fun s => s.rowWrite o 0x1003 0x00 (leBytes 1 v)) h
      fun u => stay_rowWrite ..
  | cfgCheck o => exact run (f := fun s => s.rowWrite o 0x2900 0x07 (leBytes 2 cmdCheck)) h fun u => stay_rowWrite ..
  | cfgDiscard o =>
    exact run (f := fun s => s.rowWrite o 0x2900 0x07 (leBytes 2 cmdDiscard)) h
      fun u => stay_rowWrite ..
  | cfgStore o => exact run (f := fun s => s.rowWrite o 0x2900 0x07 (leBytes 2 cmdStore)) h fun u => stay_rowWrite ..
  | cfgActivate o =>
    exact run (f := fun s => s.rowWrite o 0x2900 0x07 (leBytes 2 cmdActivate)) h
      fun u => stay_rowWrite ..
  | activationEffect programOk =>
    exact run (f := fun s => s.whenAlive (activationEffect programOk)) h
      fun u => Stays.whenAlive (fun v => stay_activationEffect ..) (Stays.refl u)
  | cfgAdopt o => exact run (f := fun s => s.rowWrite o 0x2900 0x07 (leBytes 2 cmdAdopt)) h fun u => stay_rowWrite ..
  | cfgLoadShadow o =>
    exact run (f := fun s => s.rowWrite o 0x2900 0x07 (leBytes 2 cmdLoadShadow)) h
      fun u => stay_rowWrite ..
  | cfgImageWrite o image => exact run (f := fun s => s.rowWrite o 0x2900 0x0B image) h fun u => stay_rowWrite ..
  | expectedDigestWrite o v =>
    exact run (f := fun s => s.rowWrite o 0x2900 0x06 (leBytes 8 v)) h
      fun u => stay_rowWrite ..
  | epochArm o v => exact run (f := fun s => s.rowWrite o 0x2900 0x08 (leBytes 4 v)) h fun u => stay_rowWrite ..
  | epochDisarm o v => exact run (f := fun s => s.rowWrite o 0x2900 0x08 (leBytes 4 v)) h fun u => stay_rowWrite ..
  | recClear o =>
    exact run (f := fun s => s.rowWrite o 0x2800 0x0B (leBytes 2 recClearCode)) h
      fun u => stay_rowWrite ..
  | recFound o =>
    exact run (f := fun s => s.rowWrite o 0x2800 0x0B (leBytes 2 recFoundCode)) h
      fun u => stay_rowWrite ..
  | correlate o v => exact run (f := fun s => s.rowWrite o 0x2800 0x0A (leBytes 8 v)) h fun u => stay_rowWrite ..
  | permitDueEdge p =>
    exact run (f := fun s => s.guarded s.serving (permitDueEdge p)) h
      fun u => Stays.guarded (fun v => stay_permitDueEdge ..) (Stays.refl u)
  | readbackSample p level =>
    exact run (f := fun s => s.guarded s.serving (readbackSample p level)) h
      fun u => Stays.guarded (fun v => stay_readbackSample ..) (Stays.refl u)
  | _ => exact stay_untouched h rfl rfl

end Sys2Proof.Machine

/-! SUPPORT. The eMMC area stays canonical: a lemma per operation that writes it, every other one by its frame; with it
O6, and O7 by the invariants of every command. -/

namespace Sys2Proof.Machine

theorem wf_keeps {l : List Part} {s t : State} (h : Keeps l s t) (hl : misses [.emmc] l = true)
    (hs : Memory.wf s.emmc = true) : Memory.wf t.emmc = true := speaksOf_wf.keeps h hl hs

theorem putLabels_wf {m : List Host.Cell} (bs : List Byte) (h : Memory.wf m = true) : Memory.wf (putLabels m bs) = true :=
  memWrite_wf _ _ (memWrite_wf _ _ h)

section
variable {s : State} (h : Memory.wf s.emmc = true)
include h

-- opening a book (R470)
theorem wf_identify (card : CardFacts) : Memory.wf (s.identify card).emmc = true := by
  have hp (copy : List Byte) : Memory.wf (putLabels s.emmc copy) = true := putLabels_wf copy h
  unfold State.identify
  extract_lets keep two copy
  split
  · exact h
  · split
    · exact h
    · split
      · exact h
      · split
        · exact h
        · extract_lets s1 s2
          have h2 : Memory.wf s2.emmc = true := by
            show Memory.wf (ite _ _ _ : State).emmc = true
            split
            · exact h
            · exact hp copy
          clear_value s2
          split
          · exact wf_keeps (keeps_reopenBook ..) (by decide) h2
          · exact wf_keeps (keeps_openBook ..) (by decide) h2

theorem wf_openCard (card : CardFacts) : Memory.wf (s.openCard card).emmc = true := by
  unfold State.openCard
  split
  · exact h
  · exact wf_keeps (keeps_emmcSleep _) (by decide) (wf_identify h card)

theorem wf_bookOpen (card : CardFacts) : Memory.wf (bookOpen card s).emmc = true := by
  unfold bookOpen
  split
  · exact wf_openCard h card
  · exact h

theorem wf_emmcRetry (card : CardFacts) : Memory.wf (emmcRetry card s).emmc = true := by
  unfold emmcRetry
  split
  · exact wf_openCard (wf_keeps (keeps_reach ..) (by decide) h) card
  · exact h

theorem wf_emmcResetReopen (card : CardFacts) : Memory.wf (emmcResetReopen card s).emmc = true := by
  unfold emmcResetReopen
  extract_lets s1
  have h1 : Memory.wf s1.emmc = true := wf_keeps (keeps_reach ..) (by decide) h
  clear_value s1
  split
  · exact wf_openCard (wf_keeps (keeps_updRec ..) (by decide) h1) card
  · exact h

-- sectors and commands (R456, R477 to R479)
theorem wf_sectorWriteDone (ok : Bool) : Memory.wf (sectorWriteDone ok s).emmc = true := by
  unfold sectorWriteDone
  split
  · exact h
  · split
    · split
      · exact wf_keeps (keeps_emmcSleep _) (by decide) (wf_keeps (keeps_dumpReady _) (by decide)
          (wf_keeps (keeps_updRec ..) (by decide) (wf_sectorStored h)))
      · exact h
    · split
      · exact h
      · exact h

theorem wf_clearDone (l : Label) (o : Origin) (erase : Bool) (a b : Nat) :
    Memory.wf (s.clearDone l o erase a b).emmc = true := by
  unfold State.clearDone
  extract_lets t s1 lead fields waiting s2 n
  have h1 : Memory.wf s1.emmc = true := by
    show Memory.wf (ite _ _ _ : State).emmc = true
    split
    · exact wf_keeps (keeps_recRestart ..) (by decide) (memErase_wf _ _ h)
    · exact h
  clear_value s1
  split
  · exact h
  · exact h1

theorem wf_foundDone (o : Origin) : Memory.wf (s.foundDone o).emmc = true := putLabels_wf _ h

theorem wf_recorderCmdDone : Memory.wf (recorderCmdDone s).emmc = true := by
  have hc : Memory.wf s.commandDone.emmc = true := by
    unfold State.commandDone
    split
    · split
      · exact wf_clearDone h _ _ _ _ _
      · exact h
    · exact h
    · exact wf_foundDone h _
    · exact h
    · exact h
  unfold recorderCmdDone
  split
  · exact h
  · exact wf_keeps (keeps_emmcSleep _) (by decide) hc

theorem wf_recCommand (o : Origin) (v : Nat) : Memory.wf (s.recCommand o v).emmc = true := by
  unfold State.recCommand
  split
  · exact h
  · exact memErase_wf _ _ h

-- supplies and standby
theorem wf_hibernateSupplyLoss : Memory.wf (hibernateSupplyLoss s).emmc = true := by
  unfold hibernateSupplyLoss
  split
  · exact wf_latchLost h
  · exact h

theorem wf_wake (b : Bool) : Memory.wf (wake b s).emmc = true := by
  have h0 : Memory.wf s.settleEntry.emmc = true := wf_settleEntry h
  unfold wake
  extract_lets s0
  split
  · split
    · exact wf_keeps (keeps_wakeUp ..) (by decide) h0
    · exact h0
  · split
    · exact h0
    · exact h0

theorem wf_stbynRise (a b : Bool) : Memory.wf (stbynRise a b s).emmc = true := by
  have h0 : Memory.wf s.settleEntry.emmc = true := wf_settleEntry h
  unfold stbynRise
  extract_lets s0 s1
  have h1 : Memory.wf s1.emmc = true := wf_keeps (keeps_updPower _ _) (by decide) h0
  clear_value s1
  split
  · split
    · exact wf_keeps (keeps_wakeUp ..) (by decide) h1
    · split
      · exact h1
      · exact h1
  · exact h1

theorem wf_whenAlive {f : State → State} (hf : Memory.wf (f s).emmc = true) : Memory.wf (s.whenAlive f).emmc = true := by
  unfold State.whenAlive
  split
  · exact hf
  · exact h

theorem wf_guarded {b : Bool} {f : State → State} (hf : Memory.wf (f s).emmc = true) :
    Memory.wf (s.guarded b f).emmc = true := by
  unfold State.guarded
  split
  · exact hf
  · exact h

end

/-- Of the writes only CLEAR_CMD erases. -/
theorem wf_liveWrite (s : State) (o : Origin) (i sub v : Nat) (data : List Byte) (_ : s.alive = true)
    (h : Memory.wf s.emmc = true) : Memory.wf (s.liveWrite o i sub v data).emmc = true :=
  speaksOf_wf.liveWrite (by decide) (fun _ => wf_keeps (keeps_enterHibernate ..) (by decide) h)
    (fun o v => wf_recCommand h o v) (wf_keeps (keeps_stopTestWrite s) (by decide) h) h o i sub v data

theorem wf_rowWrite {s : State} (o : Origin) (i sub : Nat) (data : List Byte) (h : Memory.wf s.emmc = true) :
    Memory.wf (s.rowWrite o i sub data).emmc = true :=
  speaksOf_wf.rowWrite (by decide) wf_liveWrite o i sub data h

theorem wf_writeJudgement {s : State} (h : Memory.wf s.emmc = true) : Memory.wf (writeJudgement s).emmc = true :=
  speaksOf_wf.writeJudgement (by decide) wf_liveWrite h

/-- No command leaves the eMMC area out of its canonical form. -/
theorem exec_wf {c : Instr} {s t : State} (h : exec c s = .next t) (hs : Memory.wf s.emmc = true) :
    Memory.wf t.emmc = true := by
  have run {f : State → State} (h : run s f = .next t)
      (hf : ∀ u : State, Memory.wf u.emmc = true → Memory.wf (f u).emmc = true) : Memory.wf t.emmc = true :=
    speaksOf_wf.run (by decide) hf h hs
  cases c with
  | resetnLow => exact run (f := fun s => resetnLow s.settleEntry) h fun _ hu => wf_resetnLow (wf_settleEntry hu)
  | brownout r => exact run (f := fun s => brownout r s.settleEntry) h fun _ hu => wf_brownout r (wf_settleEntry hu)
  | supplyRelease pllLocks =>
    exact run (f := fun s => supplyRelease pllLocks s.settleEntry) h
      fun _ hu => wf_keeps (keeps_supplyRelease ..) (by decide) (wf_settleEntry hu)
  | boot =>
    exact run (f := fun s => boot s.settleEntry) h
      fun _ hu => wf_keeps (keeps_boot_command ..) (by decide) (wf_settleEntry hu)
  | wake pllLocks => exact run (f := wake pllLocks) h fun _ hu => wf_wake hu pllLocks
  | stbynRiseWake waknLow pllLocks =>
    exact run (f := stbynRise waknLow pllLocks) h
      fun _ hu => wf_stbynRise hu waknLow pllLocks
  | hibernateSupplyLoss =>
    exact run (f := fun s => hibernateSupplyLoss s.settleEntry) h
      fun _ hu => wf_hibernateSupplyLoss (wf_settleEntry hu)
  | writeJudgement =>
    exact run (f := fun s => s.whenAlive writeJudgement) h
      fun _ hu => wf_whenAlive hu (wf_writeJudgement hu)
  | bookOpen card =>
    exact run (f := fun s => s.whenAlive (bookOpen card)) h
      fun _ hu => wf_whenAlive hu (wf_bookOpen hu card)
  | emmcRetry card =>
    exact run (f := fun s => s.whenAlive (emmcRetry card)) h
      fun _ hu => wf_whenAlive hu (wf_emmcRetry hu card)
  | sectorWriteDone ok =>
    exact run (f := fun s => s.guarded s.serving (sectorWriteDone ok)) h
      fun _ hu => wf_guarded hu (wf_sectorWriteDone hu ok)
  | emmcResetReopen card =>
    exact run (f := fun s => s.whenAlive (emmcResetReopen card)) h
      fun _ hu => wf_whenAlive hu (wf_emmcResetReopen hu card)
  | recClear o =>
    exact run (f := fun s => s.rowWrite o 0x2800 0x0B (leBytes 2 recClearCode)) h
      fun _ => wf_rowWrite _ _ _ _
  | recFound o =>
    exact run (f := fun s => s.rowWrite o 0x2800 0x0B (leBytes 2 recFoundCode)) h
      fun _ => wf_rowWrite _ _ _ _
  | recorderCmdDone =>
    exact run (f := fun s => s.whenAlive recorderCmdDone) h
      fun _ hu => wf_whenAlive hu (wf_recorderCmdDone hu)
  | _ => exact speaksOf_wf.untouched h rfl hs

/-- A step is an idle one or the command at the front of the queue. -/
theorem step_cases {s t : State} (h : step s = .next t) :
    t = s.idle ∨ ∃ c rest, exec c { s with pending := rest } = .next t := by
  unfold step at h
  split at h
  · cases h
    exact .inl rfl
  · exact .inr ⟨_, _, h⟩

/-- Settles O6. -/
theorem memoryStaysCanonical : Obligations.MemoryStaysCanonical := by
  unfold Obligations.MemoryStaysCanonical
  intro s t hs h
  obtain rfl | ⟨c, rest, he⟩ := step_cases h
  · exact wf_settleEntry (s := { s with now := s.now + idleNs }) hs
  · exact exec_wf he hs

/-- Settles O7: each invariant speaks of parts that neither the queue nor the clock belongs to. -/
theorem stopKeepsPermitsOpen : Obligations.StopKeepsPermitsOpen := by
  unfold Obligations.StopKeepsPermitsOpen
  intro s t h
  obtain rfl | ⟨c, rest, he⟩ := step_cases h
  · exact ⟨fun hs => (stay_settleEntry { s with now := s.now + idleNs }).imp hs,
      fun hs => entrySafe_settleEntry (s := { s with now := s.now + idleNs }) hs,
      fun hs => stagesSafe_settleEntry (s := { s with now := s.now + idleNs }) hs⟩
  · exact ⟨fun hs => (exec_stays he).imp fun h => hs h, fun hs => exec_entrySafe he fun h => hs h,
      fun hs => exec_stagesSafe he fun h => hs h⟩

end Sys2Proof.Machine

/-! SUPPORT. A write row of a session that may ask: what it leaves when it is granted, and when it is refused (R378 to
R380, R424). -/

namespace Sys2Proof.Machine

-- the value of a row
theorem ofLe_leBytes_of_lt {n v : Nat} (h : v < 256 ^ n) : ofLe (leBytes n v) = v := by
  rw [ofLe_leBytes, Nat.mod_eq_of_lt h]

-- the objects
/-- A LIVE or COMMAND object of `n` bytes from 0x2000 on that a session of level `l` may write (R12, R369). -/
structure LiveObject (i sub n : Nat) (l : Level) (cls : VClass) (inCfg : Bool) : Prop where
  index : 0x2000 ≤ i
  class_ : cls = .live ∨ cls = .command
  info : objInfo i sub = some { size := n, access := .rwa l, cls := cls, inCfg := inCfg }

theorem mapAbort_of_le {i : Nat} (h : 0x2000 ≤ i) (sub v : Nat) : mapAbort i sub v = 0 := by
  have h1 : within i 0x1600 0x1607 = false := by simp [within]; omega
  have h2 : within i 0x1A00 0x1A0F = false := by simp [within]; omega
  simp [mapAbort, h1, h2]

section
variable {i sub n : Nat} {l : Level} {cls : VClass} {inCfg : Bool} (ho : LiveObject i sub n l cls inCfg)
include ho

theorem LiveObject.not_session : isSessionObject i sub = false := by
  obtain ⟨-, rfl | rfl, hi⟩ := ho <;> simp [isSessionObject, hi]

theorem LiveObject.not_staged : (inCfg && cls == .staged) = false := by
  obtain ⟨-, rfl | rfl, -⟩ := ho <;> cases inCfg <;> rfl

/-- The checks at receipt come down to the value (R379). -/
theorem LiveObject.receiptAbort {s : State} {x : Session} {data : List Byte} (hs : s.stopped = false)
    (hl : levelCode l ≤ levelCode x.level) (hn : data.length = n) :
    receiptAbort s (some x) i sub data = if valueRefused i sub (ofLe data) then abortValue else 0 := by
  obtain ⟨hi, -, hinfo⟩ := ho
  subst hn
  simp [Machine.receiptAbort, hinfo, hs, levelAbort, Nat.not_lt.mpr hl, sizeAbort, valueAbort, mapAbort_of_le hi]

/-- Of the checks at judgement the device's state is left (R379). -/
theorem LiveObject.judgeAbort (s : State) (v : Nat) :
    judgeAbort s i sub v = if stateRefused s i sub v then abortState else 0 := by
  obtain ⟨-, rfl | rfl, hinfo⟩ := ho <;> simp [Machine.judgeAbort, hinfo]

/-- An accepted write goes to `liveWrite` (R369, R370). -/
theorem LiveObject.applyWrite (s : State) (o : Origin) (data : List Byte) :
    s.applyWrite o i sub data = s.liveWrite o i sub (ofLe data) data := by
  have hst := ho.not_staged
  unfold State.applyWrite
  rw [ho.info]
  simp only
  rw [if_neg (by rw [hst]; decide)]

end

-- the states of a row
/-- An accepted write of slot `k` takes effect here: its session's timeout has started again, and it has its answer
(R378, R424). -/
def State.accepted (s : State) (k : Fin 4) (o : Origin) (i sub : Nat) : State := (s.begin.touch k).answer o i sub 0

theorem keeps_accepted (s : State) (k : Fin 4) (o : Origin) (i sub : Nat) :
    Keeps [.sessions, .sent] s (s.accepted k o i sub) :=
  (((keeps_begin s).mono rfl).trans ((keeps_touch _ k).mono rfl)).trans ((keeps_answer _ o i sub 0).mono rfl)

theorem State.accepted_session {s : State} {k : Fin 4} {x : Session} (o : Origin) (i sub : Nat)
    (h : s.net.sessions.get k = some x) :
    (s.accepted k o i sub).net.sessions.get k = some { x with lastAt := s.now } := State.touch_get (s := s.begin) h

theorem State.accepted_others (s : State) {k j : Fin 4} (o : Origin) (i sub : Nat) (h : j ≠ k) :
    (s.accepted k o i sub).net.sessions.get j = s.net.sessions.get j := Tab.get_upd_other _ _ _ _ h

theorem State.answer_mem_accepted (s : State) (k : Fin 4) (o : Origin) (i sub : Nat) :
    Msg.answer o i sub 0 ∈ (s.accepted k o i sub).sent := by simp [State.accepted, State.answer]

/-- An effect that leaves clock, sessions and messages alone leaves the write taken. -/
theorem taken_of_keeps {s t : State} {l : List Part} {k : Fin 4} {x : Session} {o : Origin} {i sub : Nat}
    (hx : s.net.sessions.get k = some x) (h : Keeps l (s.accepted k o i sub) t)
    (hl : misses [.now, .sessions, .sent] l = true) : Taken s t.finish o i sub k x := by
  have same (p : Part) (hp : p ∈ [Part.now, .sessions, .sent]) : p.same (s.accepted k o i sub) t :=
    h.same p (by simpa using List.all_eq_true.mp hl p hp)
  have hn : t.now = s.now := same .now (by simp)
  have hs : t.net.sessions = (s.accepted k o i sub).net.sessions := (same .sessions (by simp)).1
  have hm : t.sent = (s.accepted k o i sub).sent := same .sent (by simp)
  refine ⟨(grows_finish t).mem ?_, ?_, fun j hj => ?_, ?_⟩
  · rw [hm]
    exact s.answer_mem_accepted k o i sub
  · rw [State.finish_net_sessions, hs]
    exact State.accepted_session o i sub hx
  · rw [State.finish_net_sessions, hs]
    exact s.accepted_others o i sub hj
  · rw [State.finish_now, hn]

-- the rows
/-- The held write of a row. -/
def rowHeld (o : Origin) (i sub : Nat) (data : List Byte) : HeldWrite :=
  { by_ := o, pos := 0, index := i, sub := sub, data := data, row := true }

theorem heldAbort_rowHeld (s : State) (o : Origin) (i sub : Nat) (data : List Byte) :
    heldAbort s (rowHeld o i sub data) = judgeAbort s i sub (ofLe data) := rfl

section
variable {s : State} {o : Origin} {k : Fin 4} {x : Session} {i sub : Nat} {data : List Byte} (h : Served s o k x)
include h

/-- A row that its receipt refuses is answered with the abort (R378). -/
theorem State.rowWrite_refused {a : Nat} (ha : receiptAbort (s.touch k) (some x) i sub data = a) (h0 : a ≠ 0) :
    s.rowWrite o i sub data = ((s.touch k).receiptRefusal i sub data a).answer o i sub a := by
  obtain ⟨hv, hk, hx, hi⟩ := h
  have ho : x.origin = o := origin_of_sessionSlot hk hx
  simp [State.rowWrite, State.rowReceive, State.takeWrite, hv, hk, hx, hi, ha, h0, ho]

/-- A row that its receipt lets pass, alone for its object, is judged at once (R380). -/
theorem State.rowWrite_judged (hs : isSessionObject i sub = false) (halone : s.net.held.any (heldFor i sub) = false)
    (ha : receiptAbort (s.touch k) (some x) i sub data = 0) :
    s.rowWrite o i sub data = (s.touch k).judgePart [(rowHeld o i sub data, 0)] := by
  obtain ⟨hv, hk, hx, hi⟩ := h
  have ho : x.origin = o := origin_of_sessionSlot hk hx
  have hr : s.rowReceive o i sub data = ({ s.touch k with net := { (s.touch k).net with
      held := (s.touch k).net.held ++ [rowHeld o i sub data] } }, true) := by
    simp [State.rowReceive, State.takeWrite, hv, hk, hx, hi, ha, hs, ho, rowHeld]
  unfold State.rowWrite
  rw [hr]
  exact judgeObject_alone (s.touch k) (rowHeld o i sub data) halone

theorem State.rowWrite_granted (hs : isSessionObject i sub = false) (halone : s.net.held.any (heldFor i sub) = false)
    (ha : receiptAbort (s.touch k) (some x) i sub data = 0) (hj : judgeAbort (s.touch k) i sub (ofLe data) = 0)
    (hal : s.alive = true) :
    s.rowWrite o i sub data = ((s.touch k).answer o i sub 0).applyWrite o i sub data := by
  have halive : (s.touch k).alive = true := hal
  rw [State.rowWrite_judged h hs halone ha, judgePart_one, heldAbort_rowHeld, hj, if_neg (by decide), State.grantWrite,
    if_pos halive]
  simp only [heldAbort_rowHeld, hj, ne_eq, not_true_eq_false, if_false]
  rfl

/-- A row that the device's state refuses at judgement (R379). -/
theorem State.rowWrite_refusedState (hs : isSessionObject i sub = false)
    (halone : s.net.held.any (heldFor i sub) = false) (ha : receiptAbort (s.touch k) (some x) i sub data = 0) {a : Nat}
    (hj : judgeAbort (s.touch k) i sub (ofLe data) = a) (h0 : a ≠ 0) :
    s.rowWrite o i sub data = ((s.touch k).judgeRefusal i sub (ofLe data) a).answer o i sub a := by
  rw [State.rowWrite_judged h hs halone ha, judgePart_one, heldAbort_rowHeld, hj, if_pos h0]
  rfl

end

-- the rows of a session that may ask
theorem Asks.held_begin {c : Instr} {s : State} {o : Origin} {l : Level} {k : Fin 4} {x : Session} {i sub : Nat}
    (h : Asks c s o l k x) (hr : rowObject c = some (i, sub)) : s.begin.net.held.any (heldFor i sub) = false := by
  have ha := h.alone
  rw [contested, hr] at ha
  exact ha

theorem State.stopped_of_alive {s : State} (h : s.alive = true) : s.stopped = false := by
  simp only [State.alive, Bool.and_eq_true, beq_iff_eq] at h
  simp [State.stopped, h.1]

section
variable {c : Instr} {s : State} {o : Origin} {l : Level} {k : Fin 4} {x : Session} {i sub n v : Nat} {cls : VClass}
  {inCfg : Bool} {post : State → Prop}

/-- A write with a value that the object takes, of a state that takes it, is granted: its effect follows the answer. -/
theorem Asks.runs_granted {data : List Byte} (h : Asks c s o l k x)
    (hc : exec c s = run s (fun s => s.rowWrite o i sub data)) (hr : rowObject c = some (i, sub))
    (ho : LiveObject i sub n l cls inCfg) (hn : data.length = n) (hv : valueRefused i sub (ofLe data) = false)
    (hj : stateRefused (s.begin.touch k) i sub (ofLe data) = false)
    (hp : post ((s.accepted k o i sub).liveWrite o i sub (ofLe data) data).finish) : Runs c s post := by
  have hal : s.begin.alive = true := h.alive
  refine runs_of_run hc ?_
  rw [State.rowWrite_granted h.served_begin ho.not_session (h.held_begin hr) ?_ ?_ hal, ho.applyWrite]
  · exact hp
  · rw [ho.receiptAbort (State.stopped_of_alive (s := s.begin.touch k) h.alive) h.level hn, hv]
    rfl
  · rw [ho.judgeAbort, hj]
    rfl

/-- The same for a number of `n` bytes. -/
theorem Asks.runs_number (h : Asks c s o l k x)
    (hc : exec c s = run s (fun s => s.rowWrite o i sub (leBytes n v))) (hr : rowObject c = some (i, sub))
    (ho : LiveObject i sub n l cls inCfg) (hlt : v < 256 ^ n) (hv : valueRefused i sub v = false)
    (hj : stateRefused (s.begin.touch k) i sub v = false)
    (hp : post ((s.accepted k o i sub).liveWrite o i sub v (leBytes n v)).finish) : Runs c s post := by
  have hd := ofLe_leBytes_of_lt hlt
  exact h.runs_granted hc hr ho (length_leBytes n v) (by rwa [hd]) (by rwa [hd]) (by rwa [hd])

/-- A number that the object does not take is refused at receipt (R379). -/
theorem Asks.runs_valueRefused (h : Asks c s o l k x)
    (hc : exec c s = run s (fun s => s.rowWrite o i sub (leBytes n v)))
    (ho : LiveObject i sub n l cls inCfg) (hlt : v < 256 ^ n) (hv : valueRefused i sub v = true) (hi : i ≠ 0x2900)
    (hp : post ((s.begin.touch k).answer o i sub abortValue).finish) : Runs c s post := by
  refine runs_of_run hc ?_
  rw [State.rowWrite_refused h.served_begin (a := abortValue) ?_ (by decide), State.receiptRefusal,
    if_neg (fun h => hi h.1)]
  · exact hp
  · rw [ho.receiptAbort (State.stopped_of_alive (s := s.begin.touch k) h.alive) h.level (length_leBytes n v),
      ofLe_leBytes_of_lt hlt, hv]
    rfl

/-- A number that the device's state refuses is answered so at judgement (R379). -/
theorem Asks.runs_stateRefused (h : Asks c s o l k x)
    (hc : exec c s = run s (fun s => s.rowWrite o i sub (leBytes n v))) (hr : rowObject c = some (i, sub))
    (ho : LiveObject i sub n l cls inCfg) (hlt : v < 256 ^ n) (hv : valueRefused i sub v = false)
    (hj : stateRefused (s.begin.touch k) i sub v = true)
    (hp : post (((s.begin.touch k).judgeRefusal i sub v abortState).answer o i sub abortState).finish) : Runs c s post := by
  have hd := ofLe_leBytes_of_lt hlt
  refine runs_of_run hc ?_
  rw [State.rowWrite_refusedState h.served_begin ho.not_session (h.held_begin hr) ?_ (a := abortState) ?_ (by decide), hd]
  · exact hp
  · rw [ho.receiptAbort (State.stopped_of_alive (s := s.begin.touch k) h.alive) h.level (length_leBytes n v), hd, hv]
    rfl
  · rw [ho.judgeAbort, hd, hj]
    rfl

end

end Sys2Proof.Machine

/-! SUPPORT. What the writes of sections, permits and the engine leave; with them O32, O34 and O41 (R230, R234, R272,
R287, R292, R320, R326, R327). -/

namespace Sys2Proof.Machine

-- sections
theorem objInfo_section (n : Fin 48) (sub : Nat) : objInfo (0x2200 + n.val) sub = if sub > 0xFF then none else sectionInfo sub := by
  have hn := n.isLt
  have h1 : ¬ 0x2200 + n.val < 0x2000 := by omega
  have h2 : ¬ 0x2200 + n.val = 0x2000 := by omega
  have h3 : within (0x2200 + n.val) 0x2100 0x211F = false := by simp [within]; omega
  have h4 : within (0x2200 + n.val) 0x2200 0x222F = true := by simp [within]; omega
  simp [objInfo, h1, h2, h3, h4]

theorem restoreCmd_object (n : Fin 48) : LiveObject (0x2200 + n.val) 0x0B 2 .maintain .command false :=
  ⟨by omega, .inr rfl, by rw [objInfo_section]; rfl⟩

theorem disturbCmd_object (n : Fin 48) : LiveObject (0x2200 + n.val) 0x0D 2 .maintain .command false :=
  ⟨by omega, .inr rfl, by rw [objInfo_section]; rfl⟩

theorem finOf_section (n : Fin 48) : finOf? 48 (0x2200 + n.val - 0x2200) = some n := by
  have h : 0x2200 + n.val - 0x2200 = n.val := by omega
  rw [h, finOf?, dif_pos n.isLt]

theorem State.liveWrite_section (s : State) (o : Origin) (n : Fin 48) (sub v : Nat) (data : List Byte) :
    s.liveWrite o (0x2200 + n.val) sub v data = s.sectionWrite o n sub v := by
  have hn := n.isLt
  have h1 : ¬ 0x2200 + n.val = 0x1003 := by omega
  have h2 : ¬ 0x2200 + n.val = 0x2000 := by omega
  have h3 : within (0x2200 + n.val) 0x2100 0x211F = false := by simp [within]; omega
  have h4 : within (0x2200 + n.val) 0x2200 0x222F = true := by simp [within]; omega
  unfold State.liveWrite
  rw [if_neg h1, if_neg (fun h => h2 h.1), if_neg (by rw [h3]; decide), if_pos h4, finOf_section]
  rfl

theorem valueRefused_section (n : Fin 48) (v : Nat) :
    valueRefused (0x2200 + n.val) 0x0B v = (v != 0x5253 && v != 0) ∧
    valueRefused (0x2200 + n.val) 0x0D v = (v != 0x4453) := by
  have hn := n.isLt
  have h4 : within (0x2200 + n.val) 0x2200 0x222F = true := by simp [within]; omega
  constructor
  · simp [valueRefused, h4]
  · simp [valueRefused, h4]

/-- RESTORE_CMD alone depends on the state of its section (R234). -/
theorem stateRefused_section (s : State) (n : Fin 48) (v : Nat) :
    stateRefused s (0x2200 + n.val) 0x0B v = restoreRefused s n v ∧ stateRefused s (0x2200 + n.val) 0x0D v = false := by
  have hn := n.isLt
  have h4 : within (0x2200 + n.val) 0x2200 0x222F = true := by simp [within]; omega
  constructor
  · simp only [stateRefused, h4, Bool.true_and, beq_self_eq_true, if_true, finOf_section]
  · simp [stateRefused]

/-- Settles O32. -/
theorem sectionWrites : Obligations.SectionWrites := by
  unfold Obligations.SectionWrites
  intro s o n k x
  have hv0 := (valueRefused_section n 0x5253).1
  refine ⟨fun h => ⟨fun hu hp => ?_, fun hr => ?_⟩, fun h => ?_, fun h => ?_⟩
  · refine h.runs_number rfl rfl (restoreCmd_object n) (by decide) hv0 ?_ ?_
    · rw [(stateRefused_section _ n _).1]
      simp [restoreRefused, State.touch, State.updSession, State.begin, hu, hp]
    · rw [State.liveWrite_section]
      exact ⟨taken_of_keeps h.holds (keeps_sectionWrite ..) (by decide), State.finish_tally _, State.finish_sect _⟩
  · refine h.runs_stateRefused rfl rfl (restoreCmd_object n) (by decide) hv0 ?_ ?_
    · rw [(stateRefused_section _ n _).1]
      obtain hr | hr := hr <;> simp [restoreRefused, State.touch, State.updSession, State.begin, hr]
    · have hj (u : State) : u.judgeRefusal (0x2200 + n.val) 0x0B 0x5253 abortState = u := by
        have := n.isLt
        simp [State.judgeRefusal, show ¬ 0x2200 + n.val = 0x2800 by omega]
      rw [hj]
      exact ⟨(grows_finish _).mem (by simp [State.answer]), State.finish_tally _, State.finish_sect _⟩
  · refine h.runs_number rfl rfl (restoreCmd_object n) (by decide) (valueRefused_section n 0).1 ?_ ?_
    · rw [(stateRefused_section _ n _).1]
      rfl
    · rw [State.liveWrite_section]
      exact ⟨taken_of_keeps h.holds (keeps_sectionWrite ..) (by decide), State.finish_tally _, State.finish_sect _⟩
  · refine h.runs_number rfl rfl (disturbCmd_object n) (by decide) (valueRefused_section n 0x4453).2
      (stateRefused_section _ n _).2 ?_
    rw [State.liveWrite_section]
    exact ⟨taken_of_keeps h.holds (keeps_sectionWrite ..) (by decide), State.finish_tally _, State.finish_sect _⟩

-- permits
theorem inhibit_object : LiveObject 0x2300 0x33 2 .operate .live false := ⟨by decide, .inl rfl, by decide⟩
theorem ackArm_object : LiveObject 0x2300 0x34 2 .operate .live false := ⟨by decide, .inl rfl, by decide⟩
theorem lockoutCmd_object : LiveObject 0x2300 0x38 2 .operate .command false := ⟨by decide, .inr rfl, by decide⟩
theorem droptestCmd_object : LiveObject 0x2300 0x4A 2 .maintain .command false := ⟨by decide, .inr rfl, by decide⟩

theorem State.liveWrite_permits (s : State) (o : Origin) (sub v : Nat) (data : List Byte) :
    s.liveWrite o 0x2300 sub v data = s.permitWrite o sub v := rfl

/-- A command or live value of the permits that their objects take is taken, and its effect is that of `permitWrite`. -/
theorem Asks.runs_permits {c : Instr} {s : State} {o : Origin} {l : Level} {k : Fin 4} {x : Session} {sub v : Nat}
    {cls : VClass} {post : State → Prop} (h : Asks c s o l k x)
    (hc : exec c s = run s (fun s => s.rowWrite o 0x2300 sub (leBytes 2 v))) (hr : rowObject c = some (0x2300, sub))
    (ho : LiveObject 0x2300 sub 2 l cls false) (hlt : v < 2 ^ 16) (hv : valueRefused 0x2300 sub v = false)
    (hp : post ((s.accepted k o 0x2300 sub).permitWrite o sub v).finish) :
    Runs c s fun t => Taken s t o 0x2300 sub k x ∧ post t := by
  refine h.runs_number hc hr ho hlt hv rfl ?_
  rw [State.liveWrite_permits]
  exact ⟨taken_of_keeps h.holds (keeps_permitWrite ..) (by decide), hp⟩

/-- Settles O34. -/
theorem permitWrites : Obligations.PermitWrites := by
  unfold Obligations.PermitWrites
  intro s o k x
  refine ⟨fun v hv h => ?_, fun v hv h => ?_, fun h => ?_, fun h => ?_, fun v hv h0 h1 h => ?_, fun v hv h => ?_⟩
  · exact h.runs_permits rfl rfl inhibit_object hv rfl (State.finish_permits _)
  · exact h.runs_permits rfl rfl lockoutCmd_object hv rfl ⟨State.finish_permits _, State.finish_tally _⟩
  · exact h.runs_permits rfl rfl ackArm_object (by decide) rfl ⟨State.finish_permits _, State.finish_tally _⟩
  · exact h.runs_permits rfl rfl ackArm_object (by decide) rfl ⟨State.finish_permits _, State.finish_tally _⟩
  · have hr : valueRefused 0x2300 0x34 v = true := by simp [valueRefused, h0, h1, within]
    exact h.runs_valueRefused rfl ackArm_object hv hr (by decide)
      ⟨(grows_finish _).mem (by simp [State.answer]), State.finish_tally _, State.finish_permits _⟩
  · exact h.runs_permits rfl rfl droptestCmd_object hv rfl ⟨State.finish_permits _, State.finish_tally _⟩

-- the engine
theorem modeCmd_object : LiveObject 0x2500 0x04 1 .operate .command false := ⟨by decide, .inr rfl, by decide⟩
theorem lawEnable_object : LiveObject 0x2500 0x07 2 .maintain .live true := ⟨by decide, .inl rfl, by decide⟩
theorem lawReset_object : LiveObject 0x2500 0x08 2 .maintain .command false := ⟨by decide, .inr rfl, by decide⟩

theorem State.liveWrite_engine (s : State) (o : Origin) (sub v : Nat) (data : List Byte) :
    s.liveWrite o 0x2500 sub v data = s.engineWrite 0x2500 sub v := rfl

/-- A command or live value of the engine that its object takes is taken, and its effect is that of `engineWrite`. -/
theorem Asks.runs_engine {c : Instr} {s : State} {o : Origin} {l : Level} {k : Fin 4} {x : Session} {sub n v : Nat}
    {cls : VClass} {inCfg : Bool} {e : Engine} (h : Asks c s o l k x)
    (hc : exec c s = run s (fun s => s.rowWrite o 0x2500 sub (leBytes n v))) (hr : rowObject c = some (0x2500, sub))
    (ho : LiveObject 0x2500 sub n l cls inCfg) (hlt : v < 256 ^ n) (hv : valueRefused 0x2500 sub v = false)
    (he : ((s.accepted k o 0x2500 sub).engineWrite 0x2500 sub v).engine = e) :
    Runs c s fun t => Taken s t o 0x2500 sub k x ∧ t.engine = e := by
  refine h.runs_number hc hr ho hlt hv rfl ?_
  rw [State.liveWrite_engine]
  exact ⟨taken_of_keeps h.holds (keeps_engineWrite ..) (by decide), by rw [State.finish_engine, he]⟩

/-- A session below the level of an object is refused at receipt (R12, R379). -/
theorem LiveObject.receiptAbort_level {i sub n : Nat} {l : Level} {cls : VClass} {inCfg : Bool}
    (ho : LiveObject i sub n l cls inCfg) {s : State} {x : Session} (hs : s.stopped = false)
    (hl : levelCode x.level < levelCode l) (data : List Byte) : Machine.receiptAbort s (some x) i sub data = abortLevel := by
  simp [Machine.receiptAbort, ho.info, hs, levelAbort, hl, abortLevel]

/-- Settles O41. -/
theorem engineWrites : Obligations.EngineWrites := by
  unfold Obligations.EngineWrites
  intro s o k x
  refine ⟨?_, fun v hv => ⟨fun h => ?_, fun h => ?_⟩, fun hx v h => ?_⟩
  · rintro c m (⟨rfl, rfl⟩ | ⟨rfl, rfl⟩ | ⟨rfl, rfl⟩ | ⟨rfl, rfl⟩) h
    all_goals exact h.runs_engine rfl rfl modeCmd_object (by decide) (by decide) rfl
  · exact h.runs_engine rfl rfl lawEnable_object hv rfl rfl
  · exact h.runs_engine rfl rfl lawReset_object hv rfl rfl
  · have hs := State.stopped_of_alive (s := s.begin.touch k) h.alive
    refine runs_of_run (f := fun s => s.rowWrite o 0x2500 0x07 (leBytes 2 v)) rfl ?_
    rw [State.rowWrite_refused h.served_begin
      (lawEnable_object.receiptAbort_level hs (by rw [hx]; decide) (leBytes 2 v)) (by decide)]
    exact ⟨(grows_finish _).mem (by simp [State.answer]), State.finish_engine _⟩

end Sys2Proof.Machine

/-! SUPPORT. Rows of the permit hardware, of the acknowledge input and of the timers of a section; with them O33, O35, O37
and O38 (R228, R233, R235, R272 to R283, R290 to R294). -/

namespace Sys2Proof.Machine

/-- How a row ends whose meaning is `f` while its condition holds. -/
theorem runs_guarded {c : Instr} {s : State} {b : State → Bool} {f : State → State} {post : State → Prop}
    (hc : exec c s = run s fun s => s.guarded (b s) f) (hb : b s.begin = true) (hp : post (f s.begin).finish) :
    Runs c s post := by
  refine ⟨(f s.begin).finish, ?_, hp⟩
  have hg : s.begin.guarded (b s.begin) f = f s.begin := if_pos hb
  rw [hc, run, hg]

@[simp] theorem Tab.get_map {n : Nat} {α β : Type} (f : α → β) (t : Tab n α) (i : Fin n) :
    Tab.get (Vector.map f t) i = f (t.get i) := by
  show (Vector.map f t)[i.val] = f (t[i.val])
  exact Vector.getElem_map ..

-- due edges and drops
theorem permitEdge_st (now : Nat) (x : Permit) : (permitEdge now x).st = x.st := by
  unfold permitEdge
  split <;> rename_i h
  · rfl
  · split <;> rw [h]
  · split <;> rw [h]
  · rfl

theorem nextEdge_begin (s : State) (p : Fin 16) : nextEdge s.begin p = nextEdge s p := rfl

/-- What a due edge leaves. -/
theorem permitDueEdge_po (p q : Fin 16) (s : State) : (permitDueEdge p s).permits.po.get q =
    if q = p then { permitEdge (Nat.max s.now (nextEdge s p)) (s.permits.po.get p) with edgeAt := nextEdge s p }
    else s.permits.po.get q := by
  unfold permitDueEdge
  extract_lets t s0
  rw [State.updPermit_po, show s0.now = Nat.max s.now t from State.reach_now s t, show s0.permits = s.permits from rfl]
  split
  · subst q
    exact Tab.get_upd_self ..
  · exact Tab.get_upd_other _ _ _ _ ‹_›

theorem permitDueEdge_now (p : Fin 16) (s : State) : (permitDueEdge p s).now = Nat.max s.now (nextEdge s p) :=
  State.reach_now s _

/-- What the end of a drop leaves. -/
theorem dropElapsed_eq {p : Fin 16} {s : State} (hd : (s.permits.po.get p).st = .dropping)
    (hs : (s.permits.po.get p).stopNext = false) : dropElapsed p s =
    (s.reach ((s.permits.po.get p).dropAt + ms (permitDrop s.cfg.active p.val))).updPermit p (fun y =>
      if y.pending && y.cond then permitStart y else { y with st := .off, pending := false, tested := false }) := by
  simp [dropElapsed, hd, hs]

/-- Settles O35. -/
theorem permitEdgesAndDrops : Obligations.PermitEdgesAndDrops := by
  unfold Obligations.PermitEdgesAndDrops
  refine ⟨fun s p hv => ?_, fun s p hv hd hs => ?_⟩
  · refine runs_guarded (b := State.serving) (f := permitDueEdge p) rfl hv ?_
    have hp := permitDueEdge_po p p s.begin
    rw [if_pos rfl] at hp
    rw [State.finish_permits, State.finish_now, permitDueEdge_now, hp]
    refine ⟨rfl, rfl, permitEdge_st .., fun h => ?_, fun h hn => ?_, fun h hn => ?_, fun h => ?_, fun h hn => ?_,
      fun q hq => ?_⟩
    · simp [permitEdge, h]
    · simp [permitEdge, h, hn]
    · simp [permitEdge, h, hn]
    · obtain h | h := h
      · simp only [permitEdge, h, State.begin_permits]
        split <;> rfl
      · simp [permitEdge, h]
    · simp [permitEdge, h, hn]
    · exact (permitDueEdge_po p q s.begin).trans (if_neg hq)
  · refine runs_guarded (b := State.serving) (f := dropElapsed p) rfl hv ?_
    rw [State.finish_permits, State.finish_now, dropElapsed_eq (s := s.begin) hd hs, State.updPermit_now, State.reach_now,
      State.updPermit_po, Tab.get_upd_self, State.reach_permits]
    refine ⟨rfl, ?_, ?_, ?_, ?_, fun q hq => Tab.get_upd_other _ _ _ _ hq⟩
    · by_cases hc : (s.permits.po.get p).pending = true ∧ (s.permits.po.get p).cond = true <;> simp [hc, permitStart]
    all_goals split <;> rfl

-- readback and the refresh timer
/-- The sampled bit of RB_MAP (R296). -/
theorem getLsbD_rbMap (m : BitVec 16) (p : Fin 16) (b : Bool) :
    (if b then m ||| BitVec.ofNat 16 (2 ^ p.val) else m &&& ~~~(BitVec.ofNat 16 (2 ^ p.val))).getLsbD p.val = b := by
  have hp : (BitVec.ofNat 16 (2 ^ p.val)).getLsbD p.val = true := by
    rw [BitVec.getLsbD_ofNat, Nat.testBit_two_pow_self, decide_eq_true p.isLt]
    rfl
  cases b
  · rw [if_neg Bool.false_ne_true, BitVec.getLsbD_and, BitVec.getLsbD_not, hp]
    simp
  · rw [if_pos rfl, BitVec.getLsbD_or, hp, Bool.or_true]

/-- The state that a readback sample finds at its instant, with its level in RB_MAP (R280, R296). -/
def State.sampled (s : State) (t : Nat) (p : Fin 16) (level : Bool) : State :=
  { s.reach t with permits := { s.permits with
    rbMap := if level then s.permits.rbMap ||| BitVec.ofNat 16 (2 ^ p.val)
      else s.permits.rbMap &&& ~~~(BitVec.ofNat 16 (2 ^ p.val)) } }

theorem State.sampled_now (s : State) (t : Nat) (p : Fin 16) (b : Bool) : (s.sampled t p b).now = Nat.max s.now t :=
  State.reach_now s t

/-- What a match or a mismatch with the expected level leaves of a permit (R281). -/
def permitSampled (hit : Bool) (x : Permit) : Permit :=
  if hit then { x with mism := 0, runReported := false, good := satInc 3 x.good }
  else { x with mism := satInc 3 x.mism, good := 0 }

/-- The sample as it is judged. -/
def State.sampledJudged (s : State) (t : Nat) (p : Fin 16) (b : Bool) : State :=
  let c := s.cfg.active
  let s1 := s.sampled t p b
  match expectedLevel c p.val s1.now (s1.permits.po.get p) with
  | none => s1
  | some e =>
    if b == (e != permitInv c p.val) then
      s1.updPermit p (fun x => { x with mism := 0, runReported := false, good := satInc 3 x.good })
    else s1.updPermit p (fun x => { x with mism := satInc 3 x.mism, good := 0 })

theorem readbackSample_judged {s : State} {p : Fin 16} {t : Nat} (b : Bool) (h : nextEdge s p - us 10 = t) :
    readbackSample p b s = s.sampledJudged t p b := by
  unfold readbackSample
  rw [h]
  rfl

/-- A sample without an expected level leaves the permit, another one counts a match or a mismatch (R280, R281). -/
theorem readbackSample_eq {s : State} {p : Fin 16} {t : Nat} (b : Bool) (ht : nextEdge s p - us 10 = t) :
    readbackSample p b s =
      (expectedLevel s.cfg.active p.val (Nat.max s.now t) (s.permits.po.get p)).elim (s.sampled t p b)
        fun e => (s.sampled t p b).updPermit p (permitSampled (b == (e != permitInv s.cfg.active p.val))) := by
  have hpo : s.permits.po = (s.sampled t p b).permits.po := rfl
  rw [readbackSample_judged b ht, ← State.sampled_now s t p b, hpo, State.sampledJudged]
  generalize s.sampled t p b = u
  cases expectedLevel s.cfg.active p.val u.now (u.permits.po.get p) with
  | none => rfl
  | some e =>
    simp only [Option.elim]
    cases b == (e != permitInv s.cfg.active p.val) with
    | true => rfl
    | false => rfl

/-- The third mismatch of a run is reported (R281). -/
def permitReported (x : Permit) : Permit := { x with runReported := true }

theorem readbackFault_eq {s : State} {p : Fin 16} (h3 : 3 ≤ (s.permits.po.get p).mism)
    (hr : (s.permits.po.get p).runReported = false) : readbackFault p s =
    { s.updPermit p permitReported with
      permits := { (s.updPermit p permitReported).permits with
        rbFaults := satInc32 (s.updPermit p permitReported).permits.rbFaults }
      tally := { s.tally with readbackIn := s.tally.readbackIn ||| BitVec.ofNat 16 (2 ^ p.val) } } := by
  unfold permitReported
  simp [readbackFault, h3, hr]

theorem readbackFault_reported {s : State} {p : Fin 16} (hr : (s.permits.po.get p).runReported = true) :
    readbackFault p s = s := by simp [readbackFault, hr]

/-- 1.5 ms without a refresh take every assigned permit low (R283). -/
theorem permitStalled_of_ne_highz {now : Nat} {x : Permit} (h : x.st ≠ .highz) :
    (permitStalled now x).st = .dropping ∧ (permitStalled now x).out = .low ∧ (permitStalled now x).cond = false ∧
      (permitStalled now x).pending = false := by
  unfold permitStalled
  split
  case h_1 hz => exact absurd hz h
  case h_2 => exact ⟨rfl, rfl, rfl, rfl⟩
  case h_3 hz ho =>
    refine ⟨?_, rfl, rfl, rfl⟩
    cases hx : x.st with
    | highz => exact absurd hx h
    | off => exact absurd hx ho
    | running => simp [permitForceLow, hx]
    | dropping => cases hn : x.stopNext <;> simp [permitForceLow, hx, hn]

theorem tallyStall_eq {s : State} {t : Nat} (hl : s.twin.stopLatch = false) (hs : s.permits.stalled = false)
    (ht : s.permits.refreshedAt + us 1500 = t) : tallyStall s =
    { s.reach t with
      permits := { (s.reach t).permits with
        stalled := true, po := Vector.map (permitStalled (s.reach t).now) (s.reach t).permits.po }
      tally := { (s.reach t).tally with stallIn := true } } := by
  simp only [tallyStall, hl, hs, ht, Bool.or_self, Bool.false_eq_true, if_false]

/-- How a readback sample ends (R280, R281, R296). -/
theorem runs_readbackSample {s : State} {p : Fin 16} {i : Nat} (b : Bool) (hv : s.serving = true)
    (hi : nextEdge s p - us 10 = i) : Runs (.readbackSample p b) s fun t =>
    t.now = Nat.max s.now i ∧ t.permits.rbMap.getLsbD p.val = b ∧
    (expectedLevel s.cfg.active p.val t.now (s.permits.po.get p) = none → t.permits.po.get p = s.permits.po.get p) ∧
    (∀ e, expectedLevel s.cfg.active p.val t.now (s.permits.po.get p) = some e → (t.permits.po.get p).mism =
      if b = (e != permitInv s.cfg.active p.val) then 0 else satInc 3 (s.permits.po.get p).mism) ∧
    (t.permits.po.get p).st = (s.permits.po.get p).st ∧ ∀ q, q ≠ p → t.permits.po.get q = s.permits.po.get q := by
  refine runs_guarded (b := State.serving) (f := readbackSample p b) rfl hv ?_
  rw [← nextEdge_begin] at hi
  have hn : (s.begin.sampled i p b).now = Nat.max s.now i := State.sampled_now s.begin i p b
  have hpo : (s.begin.sampled i p b).permits.po = s.permits.po := rfl
  have hmap : (s.begin.sampled i p b).permits.rbMap.getLsbD p.val = b := getLsbD_rbMap ..
  rw [State.finish_permits, State.finish_now, readbackSample_eq b hi, State.begin_cfg, State.begin_now,
    State.begin_permits]
  cases he : expectedLevel s.cfg.active p.val (Nat.max s.now i) (s.permits.po.get p) with
  | none =>
    rw [Option.elim_none, hn, he, hpo]
    exact ⟨rfl, hmap, fun _ => rfl, fun e h => (nomatch h), rfl, fun _ _ => rfl⟩
  | some e =>
    rw [Option.elim_some, State.updPermit_now, State.updPermit_po, hn, he, Tab.get_upd_self, hpo]
    refine ⟨rfl, hmap, fun h => (nomatch h), ?_, ?_, fun q hq => Tab.get_upd_other _ _ _ _ hq⟩
    · rintro _ ⟨⟩
      by_cases hb : b = (e != permitInv s.cfg.active p.val) <;> simp [permitSampled, hb]
    · unfold permitSampled
      split
      · rfl
      · rfl

/-- 1.5 ms without a refresh (R283). -/
theorem runs_tallyStall {s : State} {i : Nat} (ha : s.alive = true) (hl : s.twin.stopLatch = false)
    (hs : s.permits.stalled = false) (hi : s.permits.refreshedAt + us 1500 = i) : Runs .tallyStall s fun t =>
    t.now = Nat.max s.now i ∧ t.permits.stalled = true ∧ t.tally.stallIn = true ∧
    ∀ p, (s.permits.po.get p).st ≠ .highz → (t.permits.po.get p).st = .dropping ∧ (t.permits.po.get p).out = .low ∧
      (t.permits.po.get p).cond = false ∧ (t.permits.po.get p).pending = false := by
  refine runs_whenAlive (f := tallyStall) rfl ha ?_
  rw [State.finish_permits, State.finish_tally, State.finish_now, tallyStall_eq (s := s.begin) hl hs hi]
  refine ⟨State.reach_now s.begin i, rfl, rfl, fun p hp => ?_⟩
  rw [Tab.get_map]
  exact permitStalled_of_ne_highz hp

/-- Settles O37. -/
theorem readbackAndStall : Obligations.ReadbackAndStall := by
  unfold Obligations.ReadbackAndStall
  refine ⟨fun s p b hv => runs_readbackSample b hv rfl, fun s p hv h3 hr => ?_, fun s p hv hr => ?_,
    fun s ha hl hs => runs_tallyStall ha hl hs rfl⟩
  · refine runs_guarded (b := State.serving) (f := readbackFault p) rfl hv ?_
    rw [State.finish_permits, State.finish_tally, readbackFault_eq (s := s.begin) h3 hr]
    refine ⟨rfl, ?_, Tab.get_upd_self .., fun q hq => Tab.get_upd_other _ _ _ _ hq⟩
    exact getLsbD_rbMap s.tally.readbackIn p true
  · refine runs_guarded (b := State.serving) (f := readbackFault p) rfl hv ?_
    rw [State.finish_permits, State.finish_tally, readbackFault_reported (s := s.begin) hr]
    exact ⟨rfl, rfl⟩

end Sys2Proof.Machine

/-! SUPPORT. The acknowledge input and the timers of a section; with them O33 and O38 (R228, R233, R235, R290 to R294). -/

namespace Sys2Proof.Machine

-- the acknowledge input
@[simp] theorem State.updAck_ack (s : State) (f : Ack → Ack) : (s.updAck f).permits.ack = f s.permits.ack := rfl
@[simp] theorem State.updAck_now (s : State) (f : Ack → Ack) : (s.updAck f).now = s.now := rfl
@[simp] theorem State.updAck_tally (s : State) (f : Ack → Ack) : (s.updAck f).tally = s.tally := rfl
@[simp] theorem State.ackEvent_permits (s : State) (e p : Nat) (o : Option Origin) :
    (s.ackEvent e p o).permits = s.permits := rfl
@[simp] theorem State.ackEvent_now (s : State) (e p : Nat) (o : Option Origin) : (s.ackEvent e p o).now = s.now := rfl
@[simp] theorem State.ackEvent_ackIn (s : State) (e p : Nat) (o : Option Origin) :
    (s.ackEvent e p o).tally.ackIn = s.tally.ackIn := rfl

theorem State.setStuck_ack (s : State) : s.setStuck.permits.ack = { s.permits.ack with stuck := true } := by
  unfold State.setStuck
  split
  next h => rw [← h]
  next => rfl

@[simp] theorem State.setStuck_now (s : State) : s.setStuck.now = s.now := (keeps_setStuck s).same .now (by decide)

/-- A press that begins qualifies when ACKn has been high for 1 s (R290, R291). -/
theorem ackPress_pressOk (s : State) : (ackPress s).permits.ack.pressOk = true ↔
    ∃ a, s.permits.ack.highFrom = some a ∧ a + sec 1 ≤ s.now := by
  unfold ackPress
  rw [State.updAck_ack]
  cases s.permits.ack.highFrom with
  | none => simp
  | some a => simp

/-- The release of a press that counts is an acknowledge and consumes the arming (R291). -/
theorem ackRelease_counts {s : State} (h5 : s.now - s.permits.ack.pressAt < sec 5) (hc : ackCounts s = true) :
    (ackRelease s).permits.ack = { s.permits.ack with
      pressed := false, highFrom := some s.now, armedBy := none, accepted := satInc32 s.permits.ack.accepted } ∧
    (ackRelease s).tally.ackIn = true := by
  simp [ackRelease, Nat.not_le.mpr h5, hc]

/-- Any other release is ignored and counted (R291). -/
theorem ackRelease_ignored {s : State} (h5 : s.now - s.permits.ack.pressAt < sec 5) (hc : ackCounts s = false) :
    (ackRelease s).permits.ack = { s.permits.ack with
      pressed := false, highFrom := some s.now, ignored := satInc32 s.permits.ack.ignored } ∧
    (ackRelease s).tally.ackIn = s.tally.ackIn := by
  simp [ackRelease, Nat.not_le.mpr h5, hc]

theorem ackHighQualified_eq {s : State} {a t : Nat} (ha : s.permits.ack.highFrom = some a) (ht : a + sec 1 = t) :
    (ackHighQualified s).permits.ack = { s.permits.ack with highQualified := true, stuck := false } ∧
    (ackHighQualified s).now = Nat.max s.now t := by
  unfold ackHighQualified
  rw [ha]
  simp only [ht]
  split
  next hs => exact ⟨rfl, State.reach_now s t⟩
  next hs =>
    have h0 : s.permits.ack.stuck = false := by simpa using hs
    refine ⟨?_, State.reach_now s t⟩
    rw [State.updAck_ack, State.reach_permits, ← h0]

theorem ackArmExpiry_eq {s : State} {o : Origin} {t : Nat} (ho : s.permits.ack.armedBy = some o)
    (ht : s.permits.ack.armedAt + sec 60 = t) :
    (ackArmExpiry s).permits.ack = { s.permits.ack with armedBy := none } ∧ (ackArmExpiry s).now = Nat.max s.now t := by
  unfold ackArmExpiry
  rw [ho]
  simp only [ht]
  exact ⟨rfl, State.reach_now s t⟩

theorem ackStuckSet_eq {s : State} {t : Nat} (hp : s.permits.ack.pressed = true)
    (ht : s.permits.ack.pressAt + sec 5 = t) :
    (ackStuckSet s).permits.ack = { s.permits.ack with stuck := true } ∧ (ackStuckSet s).now = Nat.max s.now t := by
  unfold ackStuckSet
  rw [if_pos hp, ht, State.setStuck_ack, State.setStuck_now]
  exact ⟨rfl, State.reach_now s t⟩

/-- Settles O38. -/
theorem acknowledge : Obligations.Acknowledge := by
  unfold Obligations.Acknowledge
  intro s ha
  refine ⟨fun hp => ?_, fun hp h5 => ?_, fun hp => ?_, fun a hh => ?_, fun o ho => ?_⟩
  · have he : ackEdge true s.begin = ackPress s.begin := by simp [ackEdge, hp]
    refine runs_whenAlive (f := ackEdge true) rfl ha ?_
    rw [he, State.finish_permits, State.finish_tally]
    exact ⟨rfl, rfl, rfl, rfl, ackPress_pressOk s.begin⟩
  · have he : ackEdge false s.begin = ackRelease s.begin := by simp [ackEdge, hp]
    refine runs_whenAlive (f := ackEdge false) rfl ha ?_
    rw [he, State.finish_permits, State.finish_tally]
    cases hc : ackCounts s with
    | true =>
      obtain ⟨hack, hin⟩ := ackRelease_counts (s := s.begin) h5 hc
      rw [hack, hin]
      exact ⟨rfl, rfl, rfl, fun _ => ⟨rfl, rfl, rfl, rfl⟩, fun h => (nomatch h)⟩
    | false =>
      obtain ⟨hack, hin⟩ := ackRelease_ignored (s := s.begin) h5 hc
      rw [hack, hin]
      exact ⟨rfl, rfl, rfl, fun h => (nomatch h), fun _ => ⟨rfl, rfl, rfl, rfl⟩⟩
  · obtain ⟨hack, hn⟩ := ackStuckSet_eq (s := s.begin) hp rfl
    refine runs_whenAlive (f := ackStuckSet) rfl ha ?_
    rw [State.finish_permits, State.finish_now, hack, hn]
    exact ⟨rfl, rfl⟩
  · obtain ⟨hack, hn⟩ := ackHighQualified_eq (s := s.begin) hh rfl
    refine runs_whenAlive (f := ackHighQualified) rfl ha ?_
    rw [State.finish_permits, State.finish_now, hack, hn]
    exact ⟨rfl, rfl⟩
  · obtain ⟨hack, hn⟩ := ackArmExpiry_eq (s := s.begin) ho rfl
    refine runs_whenAlive (f := ackArmExpiry) rfl ha ?_
    rw [State.finish_permits, State.finish_now, hack, hn]
    exact ⟨rfl, rfl⟩

-- the timers of a section
@[simp] theorem State.updSect_get_self (s : State) (n : Fin 48) (f : Section → Section) :
    (s.updSect n f).sect.get n = f (s.sect.get n) := Tab.get_upd_self ..

theorem State.updSect_get_other (s : State) {n j : Fin 48} (f : Section → Section) (h : j ≠ n) :
    (s.updSect n f).sect.get j = s.sect.get j := Tab.get_upd_other _ _ _ _ h

/-- The first cycle start at or after T0 + CLEAR_DELAY (R228). -/
def clearStart (s : State) (n : Fin 48) : Nat :=
  s.tally.startAt + ((s.sect.get n).t0 + ms (clearDelay s.cfg.active n.val) - s.tally.startAt + ms 1 - 1) / ms 1 * ms 1

theorem clearDelayExpiry_eq {s : State} {n : Fin 48} {t : Nat} (hs : (s.sect.get n).st = .clearing)
    (hc : (s.sect.get n).count = 0) (hr : (s.sect.get n).provRefs = 0) (ht : clearStart s n = t) :
    clearDelayExpiry n s = (s.reach t).updSect n (fun x => { x with st := .clear, clearRemain := 0 }) := by
  subst ht
  simp only [clearDelayExpiry, hs, hc, hr, beq_self_eq_true, decide_true, Bool.and_self, if_true, clearStart]

theorem runs_clearDelayExpiry {s : State} {n : Fin 48} {t : Nat} (ha : s.alive = true)
    (hs : (s.sect.get n).st = .clearing) (hc : (s.sect.get n).count = 0) (hr : (s.sect.get n).provRefs = 0)
    (ht : clearStart s n = t) : Runs (.clearDelayExpiry n) s fun u => (u.sect.get n).st = .clear ∧
      (u.sect.get n).count = 0 ∧ u.now = Nat.max s.now t ∧ ∀ j, j ≠ n → u.sect.get j = s.sect.get j := by
  refine runs_whenAlive (f := clearDelayExpiry n) rfl ha ?_
  rw [State.finish_sect, State.finish_now, clearDelayExpiry_eq (s := s.begin) hs hc hr ht, State.updSect_get_self,
    State.updSect_now]
  exact ⟨rfl, hc, State.reach_now s.begin t, fun j hj => State.updSect_get_other _ _ hj⟩

theorem restoreExpiry_eq {s : State} {n : Fin 48} {t : Nat} (hp : (s.sect.get n).rstate = .pending)
    (ht : (s.sect.get n).reqAt + sec 60 = t) : restoreExpiry n s = (s.reach t).endRequest n .expired 0 none := by
  simp only [restoreExpiry, hp, ht, beq_self_eq_true, if_true]

theorem runs_restoreExpiry {s : State} {n : Fin 48} {t : Nat} (ha : s.alive = true)
    (hp : (s.sect.get n).rstate = .pending) (ht : (s.sect.get n).reqAt + sec 60 = t) :
    Runs (.restoreExpiry n) s fun u => u.now = Nat.max s.now t ∧
      u.sect.get n = { s.sect.get n with rstate := .expired, reason := 0, reqBy := none } ∧
      ∀ j, j ≠ n → u.sect.get j = s.sect.get j := by
  refine runs_whenAlive (f := restoreExpiry n) rfl ha ?_
  rw [State.finish_sect, State.finish_now, restoreExpiry_eq (s := s.begin) hp ht]
  exact ⟨State.reach_now s.begin t, Tab.get_upd_self .., fun j hj => Tab.get_upd_other _ _ _ _ hj⟩

/-- Settles O33. -/
theorem sectionTimers : Obligations.SectionTimers := by
  unfold Obligations.SectionTimers
  exact ⟨fun s n ha hs hc hr => runs_clearDelayExpiry ha hs hc hr rfl, fun s n ha hp => runs_restoreExpiry ha hp rfl⟩

end Sys2Proof.Machine

/-! SUPPORT. What the stop latch leaves of the device, with the stop path of a clock fault and of a stop test; with them
O11 and O44 (R43, R44, R348, R350, R360, R363). -/

namespace Sys2Proof.Machine

-- the stop
/-- What a stop writes of the twin (R348, R361). -/
def Twin.stopPart (t : Twin) : (Bool × Nat × BitVec 9 × Bool) × Bool × List (Nat × PermitWrite) × Nat × Nat :=
  ((t.stopLatch, t.stopCause, t.stopSeen, t.watchdog), t.lockstep, t.held, t.stopGridTime, t.stopAt)

@[simp] theorem State.stopLatch_power (s : State) (c : Nat) (g : Option (BitVec 32 × BitVec 32)) :
    (s.stopLatch c g).power = s.power := (keeps_stopLatch s c g).same .power (by decide)

/-- The first cause makes every permit high-impedance (R348). -/
theorem State.stopLatch_permits_of_unlatched {s : State} (c : Nat) (g : Option (BitVec 32 × BitVec 32))
    (h : s.twin.stopLatch = false) :
    (s.stopLatch c g).permits = { s.permits with po := Vector.map permitHighz s.permits.po } :=
  congrArg State.permits (if_neg (Bool.not_eq_true _ ▸ h))

/-- A further cause leaves the permits alone (R350). -/
theorem State.stopLatch_permits_of_latched {s : State} (c : Nat) (g : Option (BitVec 32 × BitVec 32))
    (h : s.twin.stopLatch = true) : (s.stopLatch c g).permits = s.permits :=
  (congrArg State.permits (if_pos h : s.stopLatch c g = _)).trans rfl

theorem permitHighz_all (po : Tab 16 Permit) (p : Fin 16) :
    (Tab.get (Vector.map permitHighz po) p).st = .highz ∧ (Tab.get (Vector.map permitHighz po) p).out = .highz := by
  rw [Tab.get_map]
  exact ⟨rfl, rfl⟩

theorem State.stoppedBy_stopLatch {s : State} (h : s.twin.stopLatch = false) (c : Nat)
    (g : Option (BitVec 32 × BitVec 32)) : StoppedBy s (s.stopLatch c g) c := by
  have ht := State.stopLatch_twin_of_unlatched c g h
  have hg : gridTime (s.stopLatch c g) = gridTime s := by
    rw [gridTime, State.stopLatch_now, State.stopLatch_power, ← gridTime]
  rw [StoppedBy, hg, ht, State.stopLatch_now, State.stopLatch_permits_of_unlatched c g h]
  exact ⟨rfl, rfl, rfl, rfl, rfl, rfl, rfl, rfl, rfl, rfl, permitHighz_all _⟩

/-- A state that a stop leaves is still one when what the stop writes has stayed. -/
theorem StoppedBy.congr {s t s' t' : State} {c : Nat} (h : StoppedBy s t c) (hw : t'.twin.stopPart = t.twin.stopPart)
    (hp : t'.permits = t.permits) (hn : t'.now = t.now) (hb : t'.power.bootAt = t.power.bootAt)
    (hu : t'.twin.pulseAt = t.twin.pulseAt) (hi : s'.permits.inhibit = s.permits.inhibit)
    (hv : s'.twin.pulseAt = s.twin.pulseAt) : StoppedBy s' t' c := by
  have hg : gridTime t' = gridTime t := by rw [gridTime, hn, hb, ← gridTime]
  simp only [Twin.stopPart, Prod.mk.injEq] at hw
  obtain ⟨⟨h1, h2, h3, h4⟩, h5, h6, h7, h8⟩ := hw
  rw [StoppedBy, h1, h2, h3, h4, h5, h6, h7, h8, hg, hp, hn, hu, hi, hv]
  exact h

theorem StoppedBy.finish {s t : State} {c : Nat} (h : StoppedBy s t c) : StoppedBy s t.finish c :=
  h.congr (by rw [State.finish_twin]) (State.finish_permits t) (State.finish_now t) (by rw [State.finish_power])
    (by rw [State.finish_twin]) rfl rfl

-- the clock fault
section
variable {s : State}

@[simp] theorem State.clockFault_twin : s.clockFault.twin = (s.stopLatch 7 none).twin := rfl
@[simp] theorem State.clockFault_permits : s.clockFault.permits = (s.stopLatch 7 none).permits := rfl
@[simp] theorem State.clockFault_now : s.clockFault.now = (s.stopLatch 7 none).now := rfl
@[simp] theorem State.clockFault_src : s.clockFault.src = Tab.all {} := rfl

theorem State.clockFault_latch : s.clockFault.power.latch = s.power.latch ||| latchClock := by
  change (s.stopLatch 7 none).power.latch ||| latchClock = _
  rw [State.stopLatch_power]

/-- The clock monitor acts while the device runs, stopped or halted (R44). -/
theorem clockFault_of_awake (hp : s.power.phase = .running ∨ s.power.phase = .stopped ∨ s.power.phase = .debugHalted)
    (ha : asleep s = false) : clockFault s = s.clockFault := by
  unfold Machine.clockFault
  rw [if_neg (by rw [ha]; decide)]
  rcases hp with hp | hp | hp <;> rw [hp]

theorem runs_clockFault {c : Instr} {post : State → Prop} (hc : c = .clkinMissing ∨ c = .clockFreqError ∨ c = .pllLockLoss)
    (hp : s.power.phase = .running ∨ s.power.phase = .stopped ∨ s.power.phase = .debugHalted) (ha : asleep s = false)
    (h : post s.begin.clockFault.finish) : Runs c s post := by
  have hrow : clockFault s.begin = s.begin.clockFault := clockFault_of_awake hp ha
  rw [← hrow] at h
  rcases hc with rfl | rfl | rfl <;> exact runs_of_run (f := clockFault) rfl h

end

/-- A cause's bit is in STOP_SEEN, whether the latch was set before or not (R350). -/
theorem State.stopLatch_seen (s : State) {c : Nat} (hc : c - 1 < 9) (g : Option (BitVec 32 × BitVec 32)) :
    (s.stopLatch c g).twin.stopSeen.getLsbD (c - 1) = true := by
  have hbit : (BitVec.ofNat 9 (2 ^ (c - 1))).getLsbD (c - 1) = true := by
    rw [BitVec.getLsbD_ofNat, Nat.testBit_two_pow_self, decide_eq_true hc, Bool.and_true]
  cases h : s.twin.stopLatch with
  | true => rw [State.stopLatch_twin_of_latched c g h, BitVec.getLsbD_or, hbit, Bool.or_true]
  | false => rw [State.stopLatch_twin_of_unlatched c g h, hbit]

/-- Settles O11: the effect is `State.clockFault`, a stop by cause 7 and the reset of the excitation. -/
theorem clockFaultStops : Obligations.ClockFaultStops := by
  unfold Obligations.ClockFaultStops
  intro c s hc hp ha
  refine runs_clockFault hc hp ha ?_
  rw [State.finish_power, State.finish_twin, State.finish_permits, State.finish_src, State.finish_now,
    State.clockFault_twin, State.clockFault_permits, State.clockFault_src, State.clockFault_now, State.clockFault_latch]
  refine ⟨rfl, rfl, State.stopLatch_stopLatch .., fun h => ?_, fun h => ?_, State.stopLatch_seen _ (by decide) _,
    fun k => by rw [Tab.get_all], rfl, s.begin.stopLatch_now 7 none⟩
  · obtain ⟨-, hcause, -, -, -, -, -, -, -, -, hz⟩ := State.stoppedBy_stopLatch (s := s.begin) h 7 none
    exact ⟨hcause, hz⟩
  · rw [State.stopLatch_permits_of_latched (s := s.begin) 7 none h, State.stopLatch_twin_of_latched (s := s.begin) 7 none h]
    exact ⟨rfl, rfl⟩

-- the stop test
theorem stopTestCmd_object : LiveObject 0x2A00 0x0F 2 .commission .command false := ⟨by decide, .inr rfl, by decide⟩

/-- The stop test is given the next window, or the one after it where that one is a known-answer window (R363). -/
theorem State.stopTestWrite_twin {s : State} (hl : s.twin.lockstep = true) (ht : s.twin.stopTest = none) {m : Nat}
    (hm : (s.twin.window + 1) % 2 ^ 32 = m) : s.stopTestWrite.twin =
      { s.twin with stopTest := some (if kaWindow m then m + 1 else m) } := by
  simp [State.stopTestWrite, hl, ht, ← hm]

/-- The window after a known-answer window is none (R345). -/
theorem kaWindow_succ {n : Nat} (h : kaWindow n = true) : kaWindow (n + 1) = false := by
  have h0 : n % 1024 = 0 := (kaWindow_iff n).mp h
  rw [Bool.eq_false_iff]
  intro h'
  have h1 : (n + 1) % 1024 = 0 := (kaWindow_iff _).mp h'
  omega

section
variable {t : Twin} (h : kaWindow t.window = false) (ht : t.stopTest = some t.window)
include h ht

/-- In the window of the stop test bit 0 of SIG_B is inverted (R363). -/
theorem reportedLanes_stopTest (a b : CoreWindow) :
    reportedLanes t a b = signature t.coreA.misr a ^^^ (signature t.coreB.misr b ^^^ 1#32) := by
  simp [reportedLanes, reeveSigs, injection, h, ht]

theorem reeveOutcome_stopTest (d : BitVec 32) : reeveOutcome t t.window d = if d = 0#32 then .kaMissed
    else if d = 1#32 then .stopTest else if d.getLsbD 0 then .stopTestMismatch else .mismatch := by
  simp [reeveOutcome, h, ht]

theorem compareOutcome_stopTest {a b : CoreWindow} (he : signature t.coreA.misr a = signature t.coreB.misr b) :
    compareOutcome t a b = .stopTest := by
  rw [compareOutcome, reeveOutcome_stopTest h ht, reportedLanes_stopTest h ht, he, ← BitVec.xor_assoc, BitVec.xor_self,
    BitVec.zero_xor]
  rfl

theorem compareOutcome_stopTestMissed {a b : CoreWindow}
    (he : signature t.coreA.misr a ^^^ signature t.coreB.misr b = 1#32) : compareOutcome t a b = .kaMissed := by
  rw [compareOutcome, reeveOutcome_stopTest h ht, reportedLanes_stopTest h ht, ← BitVec.xor_assoc, he, BitVec.xor_self,
    if_pos rfl]

end

theorem State.stoppedBy_compareStop {s : State} {a b : CoreWindow} {d0 d1 : BitVec 224} (hs : s.twin.stopLatch = false)
    (c : Nat) : StoppedBy s (s.compareStop a b d0 d1 c) c :=
  (State.stoppedBy_stopLatch (s := s.atCompare a b d0 d1) hs c (some (reeveSigs s.twin a b))).congr rfl rfl rfl rfl rfl
    rfl rfl

/-- Settles O44: the row is taken by `stopTestWrite`, and the outcome of the window of the test follows from the lanes
that differ after the inversion. -/
theorem stopTest : Obligations.StopTest := by
  unfold Obligations.StopTest
  refine ⟨fun s o k x v h => ⟨?_, fun hlt hv => ?_⟩, ?_⟩
  · rintro rfl
    refine h.runs_number rfl rfl stopTestCmd_object (by decide) rfl rfl ?_
    refine ⟨taken_of_keeps h.holds (keeps_stopTestWrite _) (by decide), fun hl ht => ?_⟩
    generalize hm : (s.twin.window + 1) % 2 ^ 32 = m
    refine ⟨_, (State.finish_twin _).trans (State.stopTestWrite_twin (s := s.accepted k o 0x2A00 0x0F) hl ht hm), ?_⟩
    cases hk : kaWindow m with
    | true => exact ⟨kaWindow_succ hk, .inr ⟨rfl, rfl⟩⟩
    | false => exact ⟨hk, .inl rfl⟩
  · have hr : valueRefused 0x2A00 0x0F v = true := by simp [valueRefused, hv, within]
    exact h.runs_valueRefused rfl stopTestCmd_object hlt hr (by decide)
      ⟨(grows_finish _).mem (by simp [State.answer]), State.finish_twin _⟩
  · rintro s a b d0 d1 _ _ ha hl hs hg rfl rfl hk ht
    refine ⟨fun he => runs_reeveCompare ha hg ?_, fun he => runs_reeveCompare ha hg ?_⟩
    · have ho : compareOutcome s.begin.twin a b = .stopTest := compareOutcome_stopTest hk ht he
      rw [reeveCompare_eq (s := s.begin) hl hs, ho]
      exact (State.stoppedBy_compareStop (s := s.begin) hs 9).finish
    · have ho : compareOutcome s.begin.twin a b = .kaMissed := compareOutcome_stopTestMissed hk ht he
      rw [reeveCompare_eq (s := s.begin) hl hs, ho]
      exact (State.stoppedBy_compareStop (s := s.begin) hs 5).finish

end Sys2Proof.Machine

/-! SUPPORT. A change made to every entry of a table in turn; the signature register and what it keeps of a window; a
comparison that passes or stops; with them O42 (R339, R341 to R344, R347). -/

namespace Sys2Proof.Machine

-- a change of every entry in turn
section
variable {ι σ β : Type} [DecidableEq ι] {view : σ → ι → β} {R : σ → Prop} {g : σ → ι → σ} {F : ι → β → β}
  (hR : ∀ s i, R s → R (g s i)) (hself : ∀ s i, R s → view (g s i) i = F i (view s i))
  (hother : ∀ s i j, j ≠ i → view (g s i) j = view s j)
include hR hself hother

/-- Steps that each change their own entry change every entry once. -/
theorem foldl_each {l : List ι} (hl : l.Nodup) {s : σ} (hs : R s) (i : ι) :
    view (l.foldl g s) i = if i ∈ l then F i (view s i) else view s i := by
  induction l generalizing s with
  | nil => rfl
  | cons a l ih =>
    obtain ⟨ha, hl⟩ := List.nodup_cons.mp hl
    rw [List.foldl_cons, ih hl (hR s a hs)]
    by_cases e : i = a
    · subst e
      rw [if_neg ha, if_pos List.mem_cons_self, hself s i hs]
    · rw [hother s a i e]
      simp [e]

end

theorem foldl_allFin {n : Nat} {σ β : Type} {view : σ → Fin n → β} {g : σ → Fin n → σ} {F : Fin n → β → β} (R : σ → Prop)
    (hR : ∀ s i, R s → R (g s i)) (hself : ∀ s i, R s → view (g s i) i = F i (view s i))
    (hother : ∀ s i j, j ≠ i → view (g s i) j = view s j) {s : σ} (hs : R s) (i : Fin n) :
    view ((allFin n).foldl g s) i = F i (view s i) := by
  rw [allFin, foldl_each hR hself hother (List.nodup_finRange n) hs i, if_pos (List.mem_finRange i)]

-- the permits that a released write reaches
@[simp] theorem State.updPermit_self (s : State) (p : Fin 16) (f : Permit → Permit) :
    (s.updPermit p f).permits.po.get p = f (s.permits.po.get p) := Tab.get_upd_self ..

theorem State.updPermit_other (s : State) {p q : Fin 16} (f : Permit → Permit) (h : q ≠ p) :
    (s.updPermit p f).permits.po.get q = s.permits.po.get q := Tab.get_upd_other _ _ _ _ h

/-- A refresh reaches every assigned permit (R283, R347). -/
theorem State.applyRefresh_po (s : State) (r : Refresh) (p : Fin 16) : (s.applyRefresh r).permits.po.get p =
    if permitAssigned s.cfg.active p.val then permitTakes s.now s.power.entering r p (s.permits.po.get p)
    else s.permits.po.get p := by
  refine foldl_allFin (view := fun (u : State) p => u.permits.po.get p)
    (F := fun p x => if permitAssigned s.cfg.active p.val then permitTakes s.now s.power.entering r p x else x)
    (fun acc : State => acc.cfg = s.cfg ∧ acc.now = s.now ∧ acc.power = s.power) ?_ ?_ ?_ ⟨rfl, rfl, rfl⟩ p
  · intro acc i h
    split <;> exact h
  · rintro acc i ⟨hc, hn, hp⟩
    simp only [hc, hn, hp]
    split
    · exact State.updPermit_self ..
    · rfl
  · intro acc i j h
    split
    · exact State.updPermit_other _ _ h
    · rfl

/-- An activation reaches every permit (R277). -/
theorem State.permitOutputs_po {s : State} (h : s.twin.stopLatch = false) (m : BitVec 16) (p : Fin 16) :
    (s.permitOutputs m).permits.po.get p = permitActivated (m.getLsbD p.val) s.now (s.permits.po.get p) := by
  rw [State.permitOutputs, if_neg (by rw [h]; decide)]
  refine foldl_allFin (view := fun (u : State) p => u.permits.po.get p)
    (F := fun p => permitActivated (m.getLsbD p.val) s.now) (fun acc : State => acc.now = s.now) ?_ ?_ ?_ rfl p
  · exact fun acc i h => h
  · intro acc i h
    rw [← h]
    exact State.updPermit_self ..
  · exact fun acc i j h => State.updPermit_other acc _ h

-- the signature register
/-- A register takes in every word: another word gives another value (R342). -/
theorem misrStep_word {m v w : BitVec 32} (h : misrStep m v = misrStep m w) : v = w := by
  unfold misrStep at h
  dsimp only at h
  split at h
  · exact (BitVec.xor_right_inj _).mp ((BitVec.xor_left_inj _).mp h)
  · exact (BitVec.xor_right_inj _).mp h

theorem misrStep_lsb (m w : BitVec 32) : (misrStep m w).getLsbD 0 = (w.getLsbD 0 ^^ m.msb) := by
  unfold misrStep
  dsimp only
  split
  next h => simp [h]
  next h => simp [h]

/-- A register forgets nothing: another value before gives another one after (R342). -/
theorem misrStep_seed {m n w : BitVec 32} (h : misrStep m w = misrStep n w) : m = n := by
  have hmsb : m.msb = n.msb := by
    have h0 := congrArg (fun x => x.getLsbD 0) h
    simpa only [misrStep_lsb, Bool.xor_right_inj] using h0
  have hshift : m <<< 1 = n <<< 1 := by
    unfold misrStep at h
    rw [hmsb] at h
    dsimp only at h
    split at h
    · exact (BitVec.xor_left_inj _).mp ((BitVec.xor_left_inj _).mp h)
    · exact (BitVec.xor_left_inj _).mp h
  refine BitVec.eq_of_getLsbD_eq fun i hi => ?_
  by_cases e : i = 31
  · subst e
    simpa [BitVec.msb_eq_getLsbD_last] using hmsb
  · have hb := congrArg (fun x => x.getLsbD (i + 1)) hshift
    have h1 : i + 1 < 32 := by omega
    simpa only [BitVec.getLsbD_shiftLeft, h1, decide_true, Nat.not_lt.mpr (Nat.le_add_left 1 i), decide_false,
      Bool.not_false, Bool.true_and, Nat.add_sub_cancel] using hb

theorem misrCycle_seed {m n : BitVec 32} {r : Option Retire} (h : misrCycle m r = misrCycle n r) : m = n :=
  misrStep_seed (misrStep_seed h)

theorem foldl_misrCycle_seed {l : List (Option Retire)} {m n : BitVec 32}
    (h : l.foldl misrCycle m = l.foldl misrCycle n) : m = n := by
  induction l generalizing m n with
  | nil => exact h
  | cons r l ih => exact misrCycle_seed (ih h)

/-- The cycles of a window about one that is among its 256 (R343). -/
theorem take_windowCycles {pre post : List (Option Retire)} (x : Option Retire) (h : pre.length < windowCycles) :
    ((pre ++ x :: post) ++ List.replicate windowCycles none).take windowCycles =
      pre ++ x :: (post ++ List.replicate windowCycles none).take (windowCycles - pre.length - 1) := by
  obtain ⟨k, hk⟩ : ∃ k, windowCycles - pre.length = k + 1 := ⟨windowCycles - pre.length - 1, by omega⟩
  rw [List.append_assoc, List.take_append, List.take_of_length_le (Nat.le_of_lt h), hk, List.cons_append,
    List.take_succ_cons, Nat.add_sub_cancel]

/-- Windows that differ in the value of one register write have other signatures (R341 to R343). -/
theorem signature_ne_of_reg (seed n : BitVec 32) (pre post : List (Option Retire)) (r : BitVec 5) {v w : BitVec 32}
    (h : pre.length < windowCycles) (hvw : v ≠ w) : signature seed ⟨pre ++ some (.reg r v) :: post, n⟩ ≠
      signature seed ⟨pre ++ some (.reg r w) :: post, n⟩ := by
  intro he
  simp only [signature, take_windowCycles _ h, List.foldl_append, List.foldl_cons] at he
  exact hvw (misrStep_word (foldl_misrCycle_seed (misrStep_seed he)))

-- a comparison that passes
/-- What a window that passes leaves but for the known answers and the permits: the registers of both cores are seeded
with the number of the next window, Core A's stores are in memory, and the writes of the window have been released (R338,
R339, R343, R347). -/
structure WindowEnds (s t : State) (a : CoreWindow) (d0 d1 : BitVec 224) : Prop where
  latch : t.twin.stopLatch = false
  held : t.twin.held = s.twin.held.filter (fun w => w.1 != s.twin.window)
  window : t.twin.window = (s.twin.window + 1) % 2 ^ 32
  windows : t.twin.windows = s.twin.window
  seedA : t.twin.coreA.misr = BitVec.ofNat 32 t.twin.window
  seedB : t.twin.coreB.misr = BitVec.ofNat 32 t.twin.window
  sram : t.twin.sram = a.cycles.foldl sramStore s.twin.sram
  input : t.twin.coreA.input = d0
  delay0 : t.twin.delay0.data = d0
  delay1 : t.twin.entersB = d1

/-- The writes that are released at the comparison of the window at hand (R347). -/
def Twin.released (t : Twin) : List PermitWrite := (t.held.filter (fun w => w.1 == t.window)).map Prod.snd

section
variable {s : State} {a b : CoreWindow} {d0 d1 : BitVec 224}

theorem State.windowEnds_comparePass (hs : s.twin.stopLatch = false) : WindowEnds s (s.comparePass a b d0 d1) a d0 d1 := by
  constructor <;> simp [State.comparePass, State.windowDone, State.atCompare, Twin.retire, Twin.shift, Twin.entersB,
    CoreRegs.window, hs]

@[simp] theorem State.atCompare_held : (s.atCompare a b d0 d1).twin.held = s.twin.held := rfl

theorem State.comparePass_permits : (s.comparePass a b d0 d1).permits =
    (s.twin.released.foldl State.applyPermitWrite (s.atCompare a b d0 d1)).permits := by
  simp only [State.comparePass, State.windowDone, State.reevePass, State.atCompare_held, Twin.released]

theorem State.comparePass_now : (s.comparePass a b d0 d1).now = (s.atCompare a b d0 d1).now :=
  State.reevePass_now ..

theorem State.atCompare_now {i : Nat} (hi : compareAt s.twin = i) : (s.atCompare a b d0 d1).now = Nat.max s.now i := by
  rw [State.atCompare, hi, State.reach_now]

end

/-- What the writes released at the comparison at `u` leave of the permits that stood at `s` (R277, R283, R347). -/
structure PermitsReleased (s : State) (n : Nat) (t : State) : Prop where
  none : (∀ w ∈ s.twin.held, w.1 ≠ n) → t.permits = s.permits
  refresh : ∀ r, s.twin.held.filter (fun w => w.1 == n) = [(n, .refresh r)] →
    t.permits.refreshedAt = t.now ∧ t.permits.stalled = false ∧
    ∀ p : Fin 16, permitAssigned s.cfg.active p.val = true →
      (t.permits.po.get p).st = (permitRefresh t.now (r.cond.getLsbD p.val && !s.power.entering)
        (r.force.getLsbD p.val) (r.test.getLsbD p.val) (s.permits.po.get p)).st
  activation : ∀ (l : List (Nat × PermitWrite)) (m : BitVec 16),
    s.twin.held.filter (fun w => w.1 == n) = l ++ [(n, .activation m)] →
    ∀ p : Fin 16, (m.getLsbD p.val = true → (t.permits.po.get p).st = .dropping ∧
        (t.permits.po.get p).out = .low ∧ (t.permits.po.get p).dropAt = t.now) ∧
      (m.getLsbD p.val = false → (t.permits.po.get p).st = .highz ∧ (t.permits.po.get p).out = .highz)

theorem permitsReleased_of_foldl {s u : State} {n : Nat} (hp : u.permits = s.permits) (hc : u.cfg = s.cfg)
    (hw : u.power = s.power) (hl : u.twin.stopLatch = false) :
    PermitsReleased s n (((s.twin.held.filter (fun w => w.1 == n)).map Prod.snd).foldl State.applyPermitWrite u) := by
  constructor
  case none =>
    intro h
    have hnil : s.twin.held.filter (fun w => w.1 == n) = [] := by simpa using h
    rw [hnil]
    exact hp
  case refresh =>
    intro r h
    rw [h]
    refine ⟨rfl, rfl, fun p ha => ?_⟩
    have hpo := u.applyRefresh_po r p
    rw [hc, if_pos ha, hp, hw] at hpo
    have hn : (u.applyRefresh r).now = u.now := (keeps_applyRefresh u r).same .now (by decide)
    change ((u.applyRefresh r).permits.po.get p).st = (permitRefresh (u.applyRefresh r).now _ _ _ _).st
    rw [hpo, hn, permitTakes]
  case activation =>
    intro l m h p
    rw [h, List.map_append, List.foldl_append, List.map_cons, List.map_nil, List.foldl_cons, List.foldl_nil]
    generalize hv : (l.map Prod.snd).foldl State.applyPermitWrite u = v
    have hlv : v.twin.stopLatch = false := by rw [← hv, State.applyPermitWrites_twin, hl]
    have hpo := State.permitOutputs_po hlv m p
    have hn : (v.permitOutputs m).now = v.now := (keeps_permitOutputs v m).same .now (by decide)
    change (_ → ((v.permitOutputs m).permits.po.get p).st = _ ∧ ((v.permitOutputs m).permits.po.get p).out = _ ∧
      ((v.permitOutputs m).permits.po.get p).dropAt = (v.permitOutputs m).now) ∧
      (_ → ((v.permitOutputs m).permits.po.get p).st = _ ∧ ((v.permitOutputs m).permits.po.get p).out = _)
    rw [hpo, hn]
    refine ⟨fun hm => ?_, fun hm => ?_⟩ <;> rw [hm] <;> simp [permitActivated, permitHighz]

theorem PermitsReleased.congr {s t t' : State} {n : Nat} (h : PermitsReleased s n t) (hp : t'.permits = t.permits)
    (hn : t'.now = t.now) : PermitsReleased s n t' := by
  obtain ⟨h1, h2, h3⟩ := h
  constructor <;> simpa only [hp, hn]

section
variable {s : State} {a b : CoreWindow} {d0 d1 : BitVec 224}

theorem State.permitsReleased_comparePass (hs : s.twin.stopLatch = false) :
    PermitsReleased s s.twin.window (s.comparePass a b d0 d1) :=
  (permitsReleased_of_foldl (s := s) (u := s.atCompare a b d0 d1) (n := s.twin.window) rfl rfl rfl hs).congr
    State.comparePass_permits (by rw [State.comparePass_now, State.applyPermitWrites_now])

theorem WindowEnds.finish {t : State} (h : WindowEnds s t a d0 d1) : WindowEnds s t.finish a d0 d1 := by
  obtain ⟨h1, h2, h3, h4, h5, h6, h7, h8, h9, h10⟩ := h
  constructor <;> rw [State.finish_twin] <;> assumption

/-- A window without a difference that the Reeve did not make ends so; a known-answer window arms the watchdog (R344,
R345). -/
theorem reeveCompare_passes (hl : s.twin.lockstep = true) (hs : s.twin.stopLatch = false)
    (he : signature s.twin.coreA.misr a = signature s.twin.coreB.misr b)
    (hk : kaWindow s.twin.window = true ∨ s.twin.stopTest ≠ some s.twin.window) {i : Nat} (hi : compareAt s.twin = i) :
    WindowEnds s (reeveCompare a b d0 d1 s) a d0 d1 ∧ PermitsReleased s s.twin.window (reeveCompare a b d0 d1 s) ∧
      (reeveCompare a b d0 d1 s).now = Nat.max s.now i ∧
      (kaWindow s.twin.window = true → (reeveCompare a b d0 d1 s).twin.watchdog = true) := by
  have hw := State.windowEnds_comparePass (a := a) (b := b) (d0 := d0) (d1 := d1) hs
  have hp := State.permitsReleased_comparePass (a := a) (b := b) (d0 := d0) (d1 := d1) hs
  have hn := State.comparePass_now (s := s) (a := a) (b := b) (d0 := d0) (d1 := d1)
  rw [State.atCompare_now hi] at hn
  rw [reeveCompare_eq hl hs]
  cases hka : kaWindow s.twin.window with
  | true =>
    have hd : signature s.twin.coreA.misr a ^^^ (signature s.twin.coreB.misr b ^^^
        BitVec.ofNat 32 (2 ^ kaLaneOf s.twin.window)) = BitVec.ofNat 32 (2 ^ kaLaneOf s.twin.window) := by
      rw [he, ← BitVec.xor_assoc, BitVec.xor_self, BitVec.zero_xor]
    rw [compareOutcome_caught hka rfl hd]
    obtain ⟨h1, h2, h3, h4, h5, h6, h7, h8, h9, h10⟩ := hw
    exact ⟨⟨h1, h2, h3, h4, h5, h6, h7, h8, h9, h10⟩, hp.congr rfl rfl, hn, fun _ => rfl⟩
  | false =>
    have ht : s.twin.stopTest ≠ some s.twin.window := hk.resolve_left (by rw [hka]; decide)
    rw [compareOutcome_matched hka ht he]
    exact ⟨hw, hp, hn, fun h => by cases h⟩

/-- Other signatures outside a known-answer window and a stop test are a MISMATCH (R344, R361). -/
theorem reeveCompare_mismatch (hl : s.twin.lockstep = true) (hs : s.twin.stopLatch = false)
    (hk : kaWindow s.twin.window = false) (ht : s.twin.stopTest ≠ some s.twin.window)
    (hd : signature s.twin.coreA.misr a ≠ signature s.twin.coreB.misr b) :
    reeveCompare a b d0 d1 s = s.compareStop a b d0 d1 4 := by
  have h0 : signature s.twin.coreA.misr a ^^^ signature s.twin.coreB.misr b ≠ 0#32 :=
    fun e => hd (BitVec.xor_eq_zero_iff.mp e)
  have ho : compareOutcome s.twin a b = .mismatch := by
    rw [compareOutcome, reeveOutcome_plain hk ht, reportedLanes_plain hk ht, if_neg h0]
  rw [reeveCompare_eq hl hs, ho]

theorem State.compareStop_sigs (hs : s.twin.stopLatch = false) (c : Nat) :
    (s.compareStop a b d0 d1 c).twin.stopWindow = s.twin.window ∧
    (s.compareStop a b d0 d1 c).twin.stopSigA = (reeveSigs s.twin a b).1 ∧
    (s.compareStop a b d0 d1 c).twin.stopSigB = (reeveSigs s.twin a b).2 := by
  have h := State.stopLatch_twin_of_unlatched (s := s.atCompare a b d0 d1) c (some (reeveSigs s.twin a b)) hs
  refine ⟨?_, ?_, ?_⟩
  · exact (congrArg Twin.stopWindow h).trans rfl
  · exact (congrArg Twin.stopSigA h).trans rfl
  · exact (congrArg Twin.stopSigB h).trans rfl

theorem reeveSigs_plain {t : Twin} (h : kaWindow t.window = false) (ht : t.stopTest ≠ some t.window) :
    reeveSigs t a b = (signature t.coreA.misr a, signature t.coreB.misr b) := by
  simp [reeveSigs, injection, h, ht]

end

/-- Settles O42. -/
theorem reeveWindows : Obligations.ReeveWindows := by
  unfold Obligations.ReeveWindows
  refine ⟨?_, fun seed n pre post r v w h hvw => signature_ne_of_reg seed n pre post r h hvw⟩
  rintro s a b d0 d1 _ _ ha hl hs hg rfl rfl
  refine ⟨fun he hk => runs_reeveCompare ha hg ?_, fun hd hk ht => runs_reeveCompare ha hg ?_⟩
  · generalize hi : s.twin.lockAt + (s.twin.window + 1) * windowNs + compareNs = i
    obtain ⟨hw, hp, hn, hwd⟩ := reeveCompare_passes (s := s.begin) (d0 := d0) (d1 := d1) hl hs he hk hi
    obtain ⟨h1, h2, h3, h4, h5, h6, h7, h8, h9, h10⟩ := hw.finish
    obtain ⟨p1, p2, p3⟩ := hp.congr (State.finish_permits _) (State.finish_now _)
    exact ⟨(State.finish_now _).trans hn, h1, h2, h3, h4, h5, h6, h7, h8, h9, h10,
      fun hka => by rw [State.finish_twin, hwd hka], p1, p2, p3⟩
  · rw [reeveCompare_mismatch (s := s.begin) hl hs hk ht hd, State.finish_twin]
    obtain ⟨hw, hA, hB⟩ := State.compareStop_sigs (s := s.begin) (a := a) (b := b) (d0 := d0) (d1 := d1) hs 4
    rw [reeveSigs_plain (t := s.begin.twin) hk ht] at hA hB
    exact ⟨(State.stoppedBy_compareStop (s := s.begin) hs 4).finish, hw, hA, hB⟩

end Sys2Proof.Machine

/-! SUPPORT. A word that a memory holds, the causes that the memories, the delay registers, the watchdog and the debugger
give, and what a read of Core A delivers; with them O45 (R339, R340, R349, R350, R352, R353, R357, R360). -/

namespace Sys2Proof.Machine

-- the map of a memory
theorem cfgFind_cfgIns_self (m : CfgMap) (k v : Nat) : cfgFind (cfgIns m k v) k = some v := by
  induction m with
  | nil => simp [cfgIns, cfgFind]
  | cons e m ih =>
    obtain ⟨j, w⟩ := e
    simp only [cfgIns]
    split
    · simp [cfgFind]
    · split
      · simp [cfgFind]
      next h =>
        have hj : ¬ j = k := fun e => h (beq_iff_eq.mpr e.symm)
        simpa [cfgFind, hj] using ih

theorem cfgFind_cfgIns_other (m : CfgMap) {j k : Nat} (v : Nat) (h : j ≠ k) : cfgFind (cfgIns m k v) j = cfgFind m j := by
  induction m with
  | nil => simp [cfgIns, cfgFind, Ne.symm h]
  | cons e m ih =>
    obtain ⟨i, w⟩ := e
    simp only [cfgIns]
    split
    · simp [cfgFind, Ne.symm h]
    · split
      next hk =>
        have hk : k = i := by simpa using hk
        simp [cfgFind, ← hk, Ne.symm h]
      · simp only [cfgFind, ih]

theorem cfgFind_cfgDel_self (m : CfgMap) (k : Nat) : cfgFind (cfgDel m k) k = none := by
  induction m with
  | nil => rfl
  | cons e m ih =>
    obtain ⟨j, w⟩ := e
    by_cases h : j = k
    · simpa [cfgDel, h] using ih
    · simpa [cfgDel, h, cfgFind] using ih

-- a word of SRAM
theorem sramByteAt_eq (stored : List (Nat × Nat)) (key : Option Nat) (a : Nat) : sramByteAt stored key a =
    (cfgFind stored a).elim (key.elim 0#8 (fun n => Config.sramByte n a)) (BitVec.ofNat 8) := by
  have h : cfgFind stored a = (stored.find? (fun e => e.1 == a)).map Prod.snd := by
    induction stored with
    | nil => rfl
    | cons e m ih =>
      obtain ⟨j, w⟩ := e
      by_cases hj : j = a <;> simp [cfgFind, hj, ih]
  rw [h, sramByteAt]
  cases stored.find? (fun e => e.1 == a) <;> rfl

/-- A word that is stored whole is found, byte by byte. -/
theorem cfgFind_sramPut (m : List (Nat × Nat)) (word : Nat) (data : BitVec 32) {k : Nat} (h : k < 4) :
    cfgFind (sramPut m word 0xF#4 data) (4 * word + k) = some (byteOf data.toNat k) := by
  have hput : sramPut m word 0xF#4 data = cfgIns (cfgIns (cfgIns (cfgIns m (4 * word + 0) (byteOf data.toNat 0))
      (4 * word + 1) (byteOf data.toNat 1)) (4 * word + 2) (byteOf data.toNat 2)) (4 * word + 3) (byteOf data.toNat 3) := rfl
  rw [hput]
  match k, h with
  | 0, _ => rw [cfgFind_cfgIns_other _ _ (by omega), cfgFind_cfgIns_other _ _ (by omega),
      cfgFind_cfgIns_other _ _ (by omega), cfgFind_cfgIns_self]
  | 1, _ => rw [cfgFind_cfgIns_other _ _ (by omega), cfgFind_cfgIns_other _ _ (by omega), cfgFind_cfgIns_self]
  | 2, _ => rw [cfgFind_cfgIns_other _ _ (by omega), cfgFind_cfgIns_self]
  | 3, _ => rw [cfgFind_cfgIns_self]

theorem sramData_of_sramPut {t : Twin} {m : List (Nat × Nat)} {word : Nat} {data : BitVec 32}
    (h : t.sram = sramPut m word 0xF#4 data) : sramData t word = data := by
  have hb : (List.range 4).map (fun k => sramByteAt t.sram t.sramKey (4 * word + k)) = leBytes 4 data.toNat := by
    have hk (k : Nat) (hk : k < 4) : sramByteAt t.sram t.sramKey (4 * word + k) = BitVec.ofNat 8 (byteOf data.toNat k) := by
      rw [sramByteAt_eq, h, cfgFind_sramPut m word data hk]
      rfl
    have hbyte (v : Nat) : BitVec.ofNat 8 (v % 256) = BitVec.ofNat 8 v := BitVec.eq_of_toNat_eq (by simp)
    simp only [List.range, List.range.loop, List.map_cons, List.map_nil, hk 0 (by decide), hk 1 (by decide),
      hk 2 (by decide), hk 3 (by decide)]
    simp only [leBytes, byteOf, hbyte, Nat.div_div_eq_div_mul, Nat.pow_zero, Nat.div_one, Nat.pow_succ, Nat.one_mul]
  rw [sramData, hb, ofLe_leBytes_of_lt (by simpa using data.isLt), BitVec.ofNat_toNat, BitVec.setWidth_eq]

/-- The check bits and the data of a word are the word (R352). -/
theorem wordCheck_append_wordData (x : BitVec 39) : BitVec.ofNat 7 (wordCheck x).toNat ++ wordData x = x := by
  rw [BitVec.ofNat_toNat, BitVec.setWidth_eq]
  refine BitVec.eq_of_getLsbD_eq fun i hi => ?_
  rw [BitVec.getLsbD_append]
  by_cases h : i < 32
  · simp [wordData, h]
  · have : i - 32 < 7 := by omega
    simp [wordCheck, h, this, show 32 + (i - 32) = i by omega]

/-- An uncorrectable word stays as it was found (R352). -/
theorem sramStored_of_found {t : Twin} {m c : List (Nat × Nat)} {word : Nat} {x : BitVec 39}
    (h : t.sram = sramPut m word 0xF#4 (wordData x)) (hc : t.sramCheck = cfgIns c word (wordCheck x).toNat) :
    sramStored t word = x := by
  rw [sramStored, hc, cfgFind_cfgIns_self, sramData_of_sramPut h]
  exact wordCheck_append_wordData x

theorem sramStored_of_corrected {t : Twin} {c : List (Nat × Nat)} {word : Nat} (hc : t.sramCheck = cfgDel c word) :
    sramStored t word = storedWord (sramData t word) := by
  rw [sramStored, hc, cfgFind_cfgDel_self]

-- a word of flash
theorem flashStored_of_found {s : State} {p : FlashPlace} {x : BitVec 39} (h : flashBadAt s p = some x.toNat) :
    flashStored s p = x := by
  rw [flashStored, h]
  simp

theorem bankOf_putBank (g : Cfg) (k : Bool) (b : Option Bank) : bankOf (putBank g k b) k = b := by
  cases k <;> rfl

theorem State.flashWord_bad {s : State} {p : FlashPlace} (x : BitVec 39) (h : flashPresent s p = true) :
    flashBadAt (s.flashWord p x) p = some x.toNat := by
  cases p with
  | program w => exact cfgFind_cfgIns_self ..
  | bank k w =>
    obtain ⟨b, hb⟩ : ∃ b, bankOf s.cfg k = some b := Option.isSome_iff_exists.mp h
    simp only [flashBadAt, State.flashWord, bankOf_putBank, hb, Option.map_some, Option.bind_some]
    exact cfgFind_cfgIns_self ..

/-- Whether a word of flash is known to be uncorrectable rests on the flash alone. -/
theorem flashBadAt_congr {s t : State} (hf : t.twin.flashBad = s.twin.flashBad) (hc : t.cfg = s.cfg) (p : FlashPlace) :
    flashBadAt t p = flashBadAt s p := by
  cases p <;> simp only [flashBadAt, hf, hc]

-- a cause, the first one or a further one
/-- What a twin shows of the stop before a cause (R350). -/
def Twin.causeView (t : Twin) : Bool × Nat × BitVec 9 × Nat × Bool × Nat :=
  (t.stopLatch, t.stopCause, t.stopSeen, t.stopAt, t.handler, t.pulseAt)

/-- A cause has been given: it stops the device, or joins STOP_SEEN (R348, R350). -/
structure CauseGiven (s t : State) (c : Nat) : Prop where
  first : s.twin.stopLatch = false → StoppedBy s t c
  further : s.twin.stopLatch = true → t.twin.stopCause = causeWith s c ∧ t.twin.stopLatch = true ∧
    t.twin.stopSeen = s.twin.stopSeen ||| BitVec.ofNat 9 (2 ^ (c - 1)) ∧ t.permits = s.permits

theorem State.causeGiven_stopLatch (s : State) (c : Nat) : CauseGiven s (s.stopLatch c none) c := by
  refine ⟨fun h => State.stoppedBy_stopLatch h c none, fun h => ?_⟩
  rw [State.stopLatch_twin_of_latched c none h, State.stopLatch_permits_of_latched c none h]
  exact ⟨rfl, h, rfl, rfl⟩

theorem CauseGiven.congr {s t s' t' : State} {c : Nat} (h : CauseGiven s t c) (hw : t'.twin.stopPart = t.twin.stopPart)
    (hp : t'.permits = t.permits) (hn : t'.now = t.now) (hb : t'.power.bootAt = t.power.bootAt)
    (hu : t'.twin.pulseAt = t.twin.pulseAt) (hv : s'.twin.causeView = s.twin.causeView) (hq : s'.permits = s.permits)
    (hm : s'.now = s.now) : CauseGiven s' t' c := by
  have hc : causeWith s' c = causeWith s c := by
    simp only [Twin.causeView, Prod.mk.injEq] at hv
    obtain ⟨-, h2, -, h4, h5, -⟩ := hv
    rw [causeWith, h2, h4, h5, hm, ← causeWith]
  simp only [Twin.causeView, Prod.mk.injEq] at hv
  obtain ⟨h1, -, h3, -, -, h6⟩ := hv
  refine ⟨fun hl => ?_, fun hl => ?_⟩
  · exact (h.first (h1 ▸ hl)).congr hw hp hn hb hu (by rw [hq]) h6
  · simp only [Twin.stopPart, Prod.mk.injEq] at hw
    obtain ⟨⟨w1, w2, w3, -⟩, -⟩ := hw
    rw [w1, w2, w3, hp, hq, hc, h3]
    exact h.further (h1 ▸ hl)

theorem CauseGiven.finish {s t : State} {c : Nat} (h : CauseGiven s t c) : CauseGiven s t.finish c :=
  h.congr (by rw [State.finish_twin]) (State.finish_permits t) (State.finish_now t) (by rw [State.finish_power])
    (by rw [State.finish_twin]) rfl rfl rfl

/-- A cause writes nothing of the twin but what shows the stop. -/
theorem State.stopLatch_twin (s : State) (c : Nat) : ∃ (l : Bool) (n : Nat) (b : BitVec 9) (w : Nat) (x y : BitVec 32)
    (g a : Nat) (r d k : Bool) (h : List (Nat × PermitWrite)), (s.stopLatch c none).twin = { s.twin with
      stopLatch := l, stopCause := n, stopSeen := b, stopWindow := w, stopSigA := x, stopSigB := y, stopGridTime := g
      stopAt := a, stopArmed := r, watchdog := d, lockstep := k, held := h } := by
  cases h : s.twin.stopLatch with
  | true => exact ⟨_, _, _, _, _, _, _, _, _, _, _, _, State.stopLatch_twin_of_latched c none h⟩
  | false => exact ⟨_, _, _, _, _, _, _, _, _, _, _, _, State.stopLatch_twin_of_unlatched c none h⟩

-- an uncorrectable word
section
variable (s : State) (c : Nat)

theorem State.eccDouble_twin : (s.eccDouble c).twin = (s.stopLatch c none).twin := by
  unfold State.eccDouble; dsimp only; split <;> rfl
theorem State.eccDouble_permits : (s.eccDouble c).permits = (s.stopLatch c none).permits := by
  unfold State.eccDouble; dsimp only; split <;> rfl
theorem State.eccDouble_now : (s.eccDouble c).now = (s.stopLatch c none).now := by
  unfold State.eccDouble; dsimp only; split <;> rfl
theorem State.eccDouble_power : (s.eccDouble c).power = (s.stopLatch c none).power := by
  unfold State.eccDouble; dsimp only; split <;> rfl

theorem State.causeGiven_eccDouble : CauseGiven s (s.eccDouble c) c :=
  (s.causeGiven_stopLatch c).congr (by rw [State.eccDouble_twin]) (s.eccDouble_permits c) (s.eccDouble_now c)
    (by rw [State.eccDouble_power]) (by rw [State.eccDouble_twin]) rfl rfl rfl

end

-- a read of Core A
theorem delivers_shift (t : Twin) (n : Nat) (w : BitVec 32) : Delivers t (t.shift (stageWord n w)) w := by
  refine ⟨deliveredWord_stageWord n w, rfl, rfl, fun h => ?_⟩
  simp [Twin.shift, h]

theorem Delivers.stopLatch {a : Twin} {s : State} {w : BitVec 32} (h : Delivers a s.twin w) (c : Nat) :
    Delivers a (s.stopLatch c none).twin w := by
  obtain ⟨l, n, b, win, x, y, g, at_, r, d, k, held, ht⟩ := s.stopLatch_twin c
  rw [ht]
  exact h

section
variable {s : State} (hg : s.twin.stagesGood = true)
include hg

theorem State.checkStages_of_good : s.checkStages = s := if_pos hg

theorem State.coreRead_of_good (w : BitVec 32) :
    s.coreRead w = { s.draw with twin := s.twin.shift (stageWord s.fresh w) } := by
  rw [State.coreRead, State.checkStages_of_good hg]

theorem State.coreRead_delivers (w : BitVec 32) : Delivers s.twin (s.coreRead w).twin w := by
  rw [State.coreRead_of_good hg]
  exact delivers_shift ..

theorem State.coreRead_twin (w : BitVec 32) : (s.coreRead w).twin = s.twin.shift (s.coreRead w).twin.coreA.input := by
  rw [State.coreRead_of_good hg]
  rfl

theorem State.coreRead_sramBad (w : BitVec 32) (word : Nat) :
    sramBad (s.coreRead w).twin word = sramBad s.twin word := by
  rw [State.coreRead_of_good hg]
  rfl

theorem State.coreRead_flashBadAt (w : BitVec 32) (p : FlashPlace) : flashBadAt (s.coreRead w) p = flashBadAt s p := by
  rw [State.coreRead_of_good hg]
  exact flashBadAt_congr rfl rfl p

/-- A read that finds no word uncorrectable does no more than deliver it (R339, R340). -/
theorem State.sramRead_of_good {word : Nat} (h : sramBad s.twin word = false) :
    s.sramRead word = s.coreRead (sramData s.twin word) := by
  rw [State.sramRead, State.sramFault, State.coreRead_sramBad hg, if_neg (by rw [h]; decide)]

theorem State.sramRead_of_bad {word : Nat} (h : sramBad s.twin word = true) :
    s.sramRead word = (s.coreRead (sramData s.twin word)).eccDouble 2 := by
  rw [State.sramRead, State.sramFault, State.coreRead_sramBad hg, if_pos h]

/-- A word that a read of Core A delivers and finds uncorrectable gives its cause. -/
theorem State.causeGiven_coreRead (w : BitVec 32) (c : Nat) : CauseGiven s ((s.coreRead w).eccDouble c) c := by
  rw [State.coreRead_of_good hg]
  exact (State.causeGiven_eccDouble _ c).congr rfl rfl rfl rfl rfl rfl rfl rfl

end

theorem State.eccDouble_delivers {a : Twin} {s : State} {w : BitVec 32} (h : Delivers a s.twin w) (c : Nat) :
    Delivers a (s.eccDouble c).twin w := by
  rw [State.eccDouble_twin]
  exact h.stopLatch c

-- the memories' rows
section
variable {s : State}

/-- The twin after a cause holds what it held. -/
theorem State.eccDouble_sramStored (u : State) (c word : Nat) :
    sramStored (u.eccDouble c).twin word = sramStored u.twin word := by
  obtain ⟨l, n, b, win, x, y, g, at_, r, d, k, held, ht⟩ := u.stopLatch_twin c
  rw [State.eccDouble_twin, ht]
  rfl

theorem State.eccDouble_cfg (u : State) (c : Nat) : (u.eccDouble c).cfg = u.cfg :=
  (keeps_eccDouble u c).same .cfg (by decide)

theorem State.eccDouble_flashBadAt (u : State) (c : Nat) (p : FlashPlace) :
    flashBadAt (u.eccDouble c) p = flashBadAt u p := by
  refine flashBadAt_congr ?_ (u.eccDouble_cfg c) p
  obtain ⟨l, n, b, win, x, y, g, at_, r, d, k, held, ht⟩ := u.stopLatch_twin c
  rw [State.eccDouble_twin, ht]

theorem State.sramWord_stored (word : Nat) (x : BitVec 39) : sramStored (s.sramWord word x).twin word = x :=
  sramStored_of_found (t := (s.sramWord word x).twin) rfl rfl

@[simp] theorem scrubNext_stopPart (t : Twin) : (scrubNext t).stopPart = t.stopPart := by
  unfold scrubNext; split <;> rfl
@[simp] theorem scrubNext_pulseAt (t : Twin) : (scrubNext t).pulseAt = t.pulseAt := by
  unfold scrubNext; split <;> rfl
theorem scrubNext_sramStored (t : Twin) (word : Nat) : sramStored (scrubNext t) word = sramStored t word := by
  unfold scrubNext; split <;> rfl

theorem CauseGiven.scrubNext {t : State} {c : Nat} (h : CauseGiven s t c) : CauseGiven s t.scrubNext c :=
  h.congr (scrubNext_stopPart _) rfl rfl rfl (scrubNext_pulseAt _) rfl rfl rfl

/-- The scrubber finds its word uncorrectable. -/
theorem causeGiven_scrubDouble (x : BitVec 39) : CauseGiven s (scrubRead (.double x) s) 2 :=
  ((State.causeGiven_eccDouble (s.sramWord s.twin.scrubAddr x) 2).congr (s' := s) rfl rfl rfl rfl rfl rfl rfl rfl).scrubNext

theorem scrubDouble_stored (x : BitVec 39) :
    sramStored (scrubRead (.double x) s).twin s.twin.scrubAddr = x := by
  change sramStored (Machine.scrubNext ((s.sramWord s.twin.scrubAddr x).eccDouble 2).twin) s.twin.scrubAddr = x
  rw [scrubNext_sramStored, State.eccDouble_sramStored, State.sramWord_stored]

section
variable (hg : s.twin.stagesGood = true)
include hg

/-- Core A reads a word of SRAM that is found uncorrectable. -/
theorem causeGiven_coreDouble (a : BitVec 18) (x : BitVec 39) : CauseGiven s (scrubRead (.coreDouble a x) s) 2 :=
  (State.causeGiven_coreRead (s := s.sramWord a.toNat x) hg (wordData x) 2).congr rfl rfl rfl rfl rfl rfl rfl rfl

theorem coreDouble_delivers (a : BitVec 18) (x : BitVec 39) :
    Delivers s.twin (scrubRead (.coreDouble a x) s).twin (wordData x) :=
  State.eccDouble_delivers (State.coreRead_delivers (s := s.sramWord a.toNat x) hg (wordData x)) 2

theorem coreDouble_stored (a : BitVec 18) (x : BitVec 39) :
    sramStored (scrubRead (.coreDouble a x) s).twin a.toNat = x := by
  change sramStored (((s.sramWord a.toNat x).coreRead (wordData x)).eccDouble 2).twin a.toNat = x
  rw [State.eccDouble_sramStored, State.coreRead_of_good (s := s.sramWord a.toNat x) hg]
  exact s.sramWord_stored a.toNat x



/-- Core A reads a word of flash that is found uncorrectable. -/
theorem causeGiven_flashDouble (p : FlashPlace) (x : BitVec 39) : CauseGiven s (scrubRead (.flashDouble p x) s) 3 := by
  cases p with
  | program w =>
    exact (State.causeGiven_coreRead (s := s.flashWord (.program w) x) hg (wordData x) 3).congr rfl rfl rfl rfl rfl rfl
      rfl rfl
  | bank k w =>
    exact (State.causeGiven_coreRead (s := s.flashWord (.bank k w) x) hg (wordData x) 3).congr rfl rfl rfl rfl rfl rfl
      rfl rfl

theorem flashDouble_delivers (p : FlashPlace) (x : BitVec 39) :
    Delivers s.twin (scrubRead (.flashDouble p x) s).twin (wordData x) := by
  cases p with
  | program w =>
    exact State.eccDouble_delivers (State.coreRead_delivers (s := s.flashWord (.program w) x) hg (wordData x)) 3
  | bank k w => exact State.eccDouble_delivers (State.coreRead_delivers (s := s.flashWord (.bank k w) x) hg (wordData x)) 3

theorem flashDouble_bad {p : FlashPlace} (x : BitVec 39) (h : flashPresent s p = true) :
    flashBadAt (scrubRead (.flashDouble p x) s) p = some x.toNat := by
  have hgood : (s.flashWord p x).twin.stagesGood = true := by
    cases p <;> exact hg
  change flashBadAt (((s.flashWord p x).coreRead (wordData x)).eccDouble 3) p = _
  rw [State.eccDouble_flashBadAt, State.coreRead_flashBadAt hgood, State.flashWord_bad x h]

/-- Core A reads a word of SRAM that is known to be uncorrectable. -/
theorem causeGiven_coreClean {a : BitVec 18} (h : sramBad s.twin a.toNat = true) :
    CauseGiven s (scrubRead (.coreClean a) s) 2 := by
  change CauseGiven s (s.sramRead a.toNat) 2
  rw [State.sramRead_of_bad hg h]
  exact State.causeGiven_coreRead hg _ 2

end

/-- Wrong parity at a stage is cause 1 (R339). -/
theorem causeGiven_delayParity (second : Bool) {data : BitVec 224} {parity : BitVec 28} (h : parity ≠ stageParity data) :
    CauseGiven s (delayParityError second data parity s) 1 := by
  have hd : (DelayStage.good ⟨data, parity⟩) = false := by simpa [DelayStage.good] using h
  cases second with
  | true =>
    have hb : ({ s with twin := { s.twin with delay1 := ⟨data, parity⟩ } } : State).twin.stagesGood = false := by
      simp [Twin.stagesGood, hd]
    rw [delayParityError, State.checkStages, if_neg]
    · exact (State.causeGiven_stopLatch _ 1).congr rfl rfl rfl rfl rfl rfl rfl rfl
    · rw [if_pos rfl, hb]; decide
  | false =>
    have hb : ({ s with twin := { s.twin with delay0 := ⟨data, parity⟩ } } : State).twin.stagesGood = false := by
      simp [Twin.stagesGood, hd]
    rw [delayParityError, State.checkStages, if_neg]
    · exact (State.causeGiven_stopLatch _ 1).congr rfl rfl rfl rfl rfl rfl rfl rfl
    · rw [if_neg (by decide), hb]; decide

theorem delayParityError_of_good (hg : s.twin.stagesGood = true) (second : Bool) {data : BitVec 224} {parity : BitVec 28}
    (h : parity = stageParity data) : delayParityError second data parity s = { s with twin :=
      if second then { s.twin with delay1 := ⟨data, parity⟩ } else { s.twin with delay0 := ⟨data, parity⟩ } } := by
  subst h
  refine if_pos ?_
  simp only [Twin.stagesGood, Bool.and_eq_true] at hg
  obtain ⟨h0, h1⟩ := hg
  have hd : DelayStage.good ⟨data, stageParity data⟩ = true := by simp [DelayStage.good]
  cases second <;> simp [Twin.stagesGood, h0, h1, hd]

/-- A debug request is cause 8 (R357). -/
theorem debugRequest_eq (hg : s.twin.stagesGood = true) : debugRequest true s =
    { ({ s.draw with twin := s.twin.shift (stageDebug s.fresh) } : State).stopLatch 8 none with
      power := { (({ s.draw with twin := s.twin.shift (stageDebug s.fresh) } : State).stopLatch 8 none).power with
        phase := .debugHalted }
      twin := { (({ s.draw with twin := s.twin.shift (stageDebug s.fresh) } : State).stopLatch 8 none).twin with
        debugTaint := true, debugActive := true, lockstep := false } } := by
  rw [debugRequest, if_pos rfl, State.checkStages_of_good hg]

theorem causeGiven_debugRequest (hg : s.twin.stagesGood = true) : CauseGiven s (debugRequest true s) 8 := by
  rw [debugRequest_eq hg]
  generalize hu : ({ s.draw with twin := s.twin.shift (stageDebug s.fresh) } : State) = u
  have hl : u.twin.stopLatch = s.twin.stopLatch := by rw [← hu]; rfl
  obtain ⟨h1, h2⟩ := u.causeGiven_stopLatch 8
  refine ⟨fun h => ?_, fun h => ?_⟩
  · refine (h1 (hl.trans h)).congr ?_ rfl rfl rfl rfl (by rw [← hu]; rfl) (by rw [← hu]; rfl)
    rw [State.stopLatch_twin_of_unlatched (s := u) 8 none (hl.trans h)]
    rfl
  · obtain ⟨h3, h4, h5, h6⟩ := h2 (hl.trans h)
    refine ⟨h3.trans (by rw [← hu]; rfl), h4, h5.trans (by rw [← hu]; rfl), h6.trans (by rw [← hu]; rfl)⟩

end

-- the rows
section
variable {s : State} {post : State → Prop}

theorem runs_scrubRead (r : MemRead) (h : s.serving = true) (hp : post (scrubRead r s.begin).finish) :
    Runs (.scrubRead r) s post :=
  runs_guarded (b := fun s => s.serving || s.stopCycle) (f := scrubRead r) rfl (Bool.or_eq_true_iff.mpr (.inl h)) hp

theorem runs_delayParityError (second : Bool) (data : BitVec 224) (parity : BitVec 28) (h : s.serving = true)
    (hp : post (delayParityError second data parity s.begin).finish) : Runs (.delayParityError second data parity) s post :=
  runs_guarded (b := fun s => s.serving || s.stopCycle) (f := delayParityError second data parity) rfl
    (Bool.or_eq_true_iff.mpr (.inl h)) hp

theorem runs_debugRequest (trstn : Bool) (h : s.serving = true) (hp : post (debugRequest trstn s.begin).finish) :
    Runs (.debugRequest trstn) s post :=
  runs_guarded (b := fun s => s.serving) (f := debugRequest trstn) rfl h hp

end

-- the watchdog
theorem pulseTimeout_of_armed {s : State} (hw : s.twin.watchdog = true) (hs : s.twin.stopLatch = false) {i : Nat}
    (hi : s.twin.pulseAt + pulseNs = i) : pulseTimeout s = (s.reach i).stopLatch 6 none := by
  rw [pulseTimeout, if_pos (by simp [hw, hs]), hi]

theorem runs_pulseTimeout {s : State} (h : s.serving = true) (hw : s.twin.watchdog = true)
    (hs : s.twin.stopLatch = false) {i : Nat} (hi : s.twin.pulseAt + pulseNs = i) :
    Runs .pulseTimeout s fun t => StoppedBy s t 6 ∧ t.now = Nat.max s.now i := by
  refine runs_guarded (b := fun s => s.serving || s.stopCycle) (f := pulseTimeout) rfl (Bool.or_eq_true_iff.mpr (.inl h)) ?_
  rw [pulseTimeout_of_armed (s := s.begin) hw hs hi]
  have hu : (s.begin.reach i).twin.stopLatch = false := hs
  refine ⟨((State.stoppedBy_stopLatch hu 6 none).congr rfl rfl rfl rfl rfl rfl rfl).finish, ?_⟩
  rw [State.finish_now, State.stopLatch_now, State.reach_now]
  rfl

/-- A row that gives a cause to a device that has stopped (R350). -/
theorem CauseGiven.joins {s t : State} {c : Nat} (h : CauseGiven s.begin t c) (hl : s.twin.stopLatch = true) :
    t.finish.twin.stopCause = (if s.twin.stopAt = s.now ∧ s.twin.handler = false then Nat.min s.twin.stopCause c
      else s.twin.stopCause) ∧ t.finish.twin.stopLatch = true ∧
      t.finish.twin.stopSeen = s.twin.stopSeen ||| BitVec.ofNat 9 (2 ^ (c - 1)) ∧ t.finish.permits = s.permits := by
  obtain ⟨h1, h2, h3, h4⟩ := h.finish.further hl
  exact ⟨h1.trans rfl, h2, h3, h4⟩

/-- What a read of Core A leaves when it finds no word uncorrectable. -/
theorem State.coreRead_delivered {s : State} (hg : s.twin.stagesGood = true) (w : BitVec 32) :
    Delivers s.twin (s.coreRead w).finish.twin w ∧
      (s.coreRead w).finish.twin = s.twin.shift (s.coreRead w).finish.twin.coreA.input := by
  rw [State.finish_twin]
  exact ⟨State.coreRead_delivers hg w, State.coreRead_twin hg w⟩

/-- Settles O45: the rows of a clean scrub and of clean and corrected words deliver, count and write back; every other one gives its
cause. -/
theorem stopCauses : Obligations.StopCauses := by
  unfold Obligations.StopCauses
  intro s hs hg
  have hb : s.begin.twin.stagesGood = true := hg
  refine ⟨fun second data parity => ⟨fun hp hl => ?_, fun hp => ?_⟩, fun hl => ⟨fun hw => ?_, fun x => ?_, fun a x => ?_,
    fun p x => ?_, fun a ha => ?_, ?_⟩, fun hl c b hc => ?_, ?_, ?_, fun hbad => ⟨?_, ?_⟩, ?_, ?_, fun mask data => ?_,
    fun a => ⟨fun hbad => ?_, ?_⟩, fun p => ⟨fun hbad => ?_, ?_⟩⟩
  · exact runs_delayParityError second data parity hs ((causeGiven_delayParity second hp).finish.first hl)
  · refine runs_delayParityError second data parity hs ?_
    rw [delayParityError_of_good (s := s.begin) hb second hp, State.finish_twin, State.finish_permits]
    cases second <;> exact ⟨rfl, rfl, rfl⟩
  · exact runs_pulseTimeout hs hw hl rfl
  · refine runs_scrubRead _ hs ⟨(causeGiven_scrubDouble x).finish.first hl, ?_⟩
    rw [State.finish_twin]
    exact scrubDouble_stored (s := s.begin) x
  · refine runs_scrubRead _ hs ⟨(causeGiven_coreDouble hb a x).finish.first hl, ?_⟩
    rw [State.finish_twin]
    exact ⟨coreDouble_stored hb a x, coreDouble_delivers hb a x⟩
  · refine runs_scrubRead _ hs ⟨(causeGiven_flashDouble hb p x).finish.first hl, fun hp => ?_, ?_⟩
    · refine flashStored_of_found ((flashBadAt_congr ?_ ?_ p).trans (flashDouble_bad (s := s.begin) hb x hp))
      · rw [State.finish_twin]
      · rw [State.finish_cfg]
    · rw [State.finish_twin]
      exact flashDouble_delivers hb p x
  · exact runs_scrubRead _ hs ((causeGiven_coreClean (s := s.begin) hb ha).finish.first hl)
  · refine runs_debugRequest _ hs ⟨(causeGiven_debugRequest hb).finish.first hl, ?_⟩
    rw [State.finish_power, debugRequest_eq hb]
  · rcases hc with ⟨second, data, parity, rfl, hp, rfl⟩ | ⟨x, rfl, rfl⟩ | ⟨a, x, rfl, rfl⟩ | ⟨p, x, rfl, rfl⟩ | ⟨rfl, rfl⟩
    · exact runs_delayParityError second data parity hs ((causeGiven_delayParity second hp).joins hl)
    · exact runs_scrubRead _ hs ((causeGiven_scrubDouble x).joins hl)
    · exact runs_scrubRead _ hs ((causeGiven_coreDouble hb a x).joins hl)
    · exact runs_scrubRead _ hs ((causeGiven_flashDouble hb p x).joins hl)
    · exact runs_debugRequest _ hs ((causeGiven_debugRequest hb).joins hl)
  · refine runs_debugRequest _ hs ?_
    rw [State.finish_power, State.finish_twin, debugRequest_eq hb]
    obtain ⟨l, n, b, win, x, y, g, at_, r, d, k, held, ht⟩ :=
      State.stopLatch_twin ({ s.begin.draw with twin := s.begin.twin.shift (stageDebug s.begin.fresh) } : State) 8
    exact ⟨rfl, rfl, rfl, rfl, (congrArg Twin.delay1 ht).trans rfl⟩
  · exact runs_debugRequest _ hs ⟨State.finish_power _, State.finish_twin _⟩
  · refine runs_scrubRead _ hs ((State.finish_twin _).trans ?_)
    have hbad : sramBad s.begin.twin s.begin.twin.scrubAddr = false := hbad
    have hf : s.begin.sramFault s.begin.twin.scrubAddr = s.begin := if_neg (by rw [hbad]; decide)
    exact (congrArg (fun u : State => Machine.scrubNext u.twin) hf).trans rfl
  · refine runs_scrubRead _ hs ?_
    have hr : scrubRead (.coreAccess true) s.begin = s.begin.coreRead (sramData s.twin s.twin.scrubAddr) :=
      State.sramRead_of_good hb hbad
    rw [hr]
    exact State.coreRead_delivered hb _
  · exact runs_scrubRead _ hs (State.finish_twin _)
  · exact runs_scrubRead _ hs (State.finish_twin _)
  · exact runs_scrubRead _ hs (State.finish_twin _)
  · refine runs_scrubRead _ hs ?_
    have hr : scrubRead (.coreClean a) s.begin = s.begin.coreRead (sramData s.twin a.toNat) :=
      State.sramRead_of_good hb hbad
    rw [hr]
    exact State.coreRead_delivered hb _
  · refine runs_scrubRead _ hs ?_
    generalize hu : ({ s.begin with twin := sramCorrected s.begin.twin a.toNat } : State) = u
    have hug : u.twin.stagesGood = true := by rw [← hu]; exact hg
    have hr : scrubRead (.coreSingle a) s.begin = u.coreRead (sramData s.twin a.toNat) := by rw [← hu]; rfl
    obtain ⟨hd, ht⟩ := State.coreRead_delivered hug (sramData s.twin a.toNat)
    rw [hr]
    subst hu
    refine ⟨hd, ?_, ht⟩
    rw [ht]
    exact sramStored_of_corrected (c := s.twin.sramCheck) rfl
  · refine runs_scrubRead _ hs ?_
    have hf : flashBadAt (s.begin.coreRead (flashData s p)) p = none :=
      (State.coreRead_flashBadAt hb _ p).trans ((flashBadAt_congr rfl rfl p).trans hbad)
    have hr : scrubRead (.flashClean p) s.begin = s.begin.coreRead (flashData s p) := by
      change (s.begin.coreRead (flashData s p)).flashFault p = _
      rw [State.flashFault, hf]
      rfl
    rw [hr]
    exact State.coreRead_delivered hb _
  · refine runs_scrubRead _ hs ?_
    generalize hu : s.begin.flashCorrected p = u
    have hug : u.twin.stagesGood = true := by rw [← hu]; exact hg
    have hr : scrubRead (.flashSingle p) s.begin = u.coreRead (flashData s p) := by rw [← hu]; rfl
    obtain ⟨hd, ht⟩ := State.coreRead_delivered hug (flashData s p)
    rw [hr]
    have hc : (u.coreRead (flashData s p)).cfg = s.cfg := by
      rw [(keeps_coreRead u _).same .cfg (by decide), ← hu]
      rfl
    subst hu
    exact ⟨hd, by rw [State.finish_cfg, hc], ht⟩

end Sys2Proof.Machine

/-! SUPPORT. What boot leaves, from reset, from a supply release and from a wake; with them O10 and O14 (R32, R47, R48,
R54, R56, R57, R277). -/

namespace Sys2Proof.Machine

-- masks
theorem mapBits_succ (n : Nat) (f : Nat → Bool) :
    mapBits (n + 1) f = if f n then mapBits n f + 2 ^ n else mapBits n f := by
  simp [mapBits, List.range_succ]

theorem mapBits_lt (n : Nat) (f : Nat → Bool) : mapBits n f < 2 ^ n := by
  induction n with
  | zero => exact Nat.one_pos
  | succ n ih =>
    rw [mapBits_succ, Nat.pow_succ]
    split <;> omega

/-- Bit j of a mask is the j-th of the bits that it is made of. -/
theorem testBit_mapBits (n : Nat) (f : Nat → Bool) (j : Nat) : (mapBits n f).testBit j = (decide (j < n) && f j) := by
  induction n with
  | zero => simp [mapBits]
  | succ n ih =>
    have hlt := mapBits_lt n f
    rw [mapBits_succ]
    by_cases hj : j = n
    · subst hj
      split
      next h => simp [Nat.add_comm _ (2 ^ j), Nat.testBit_two_pow_add_eq, ih, h]
      next h => simp [ih, h]
    · have hd : decide (j < n + 1) = decide (j < n) := by
        rw [decide_eq_decide]
        omega
      rw [hd, ← ih]
      split
      · have h2 : mapBits n f + 2 ^ n = 2 ^ n ||| mapBits n f := by
          simpa [Nat.add_comm] using Nat.two_pow_add_eq_or_of_lt hlt 1
        simp [h2, Nat.testBit_or, Ne.symm hj]
      · rfl

theorem getLsbD_assignedMask (c : CfgMap) (p : Fin 16) : (assignedMask c).getLsbD p.val = permitAssigned c p.val := by
  rw [assignedMask, BitVec.getLsbD_ofNat, testBit_mapBits]
  simp

-- step 6 of boot
theorem Tab.get_map_finRange {n : Nat} {α : Type} (f : Fin n → α) (i : Fin n) :
    Tab.get (Vector.map f (Vector.finRange n)) i = f i := by
  show (Vector.map f (Vector.finRange n))[i.val] = f i
  simp

section
variable (s : State)

/-- Step 6 of boot before the permits are set (R48). -/
def State.bootTables : State :=
  let c := s.cfg.active
  { s with
    sect := Vector.map (fun (n : Fin 48) => sectionStart (secUsed c n.val) causeStart (s.sect.get n)) (Vector.finRange 48)
    head := Vector.map (fun (h : Fin 32) => freshHead c h.val (s.head.get h)) (Vector.finRange 32)
    ch := Vector.map (fun (k : Fin 64) => freshChannel c s.now k.val (s.ch.get k)) (Vector.finRange 64)
    permits := { s.permits with gridAt := s.now }
    engine := { s.engine with live := engineLive c, initDue := BitVec.allOnes 16 } }

theorem State.bootResources_eq :
    s.bootResources = (s.bootTables.permitOutputs (assignedMask s.cfg.active)).noteRoom := rfl

theorem State.bootResources_sect (n : Fin 48) : (s.bootResources.sect.get n).st = .disturbed := by
  rw [State.bootResources_eq, (keeps_noteRoom _).same .sect (by decide), (keeps_permitOutputs _ _).same .sect (by decide)]
  exact congrArg Section.st (Tab.get_map_finRange _ n)

theorem State.bootResources_po (h : s.twin.stopLatch = false) (p : Fin 16) : s.bootResources.permits.po.get p =
    permitActivated (permitAssigned s.cfg.active p.val) s.now (s.permits.po.get p) := by
  rw [State.bootResources_eq, (keeps_noteRoom _).same .permits (by decide), State.permitOutputs_po (s := s.bootTables) h,
    getLsbD_assignedMask]
  rfl

theorem State.bootConfigured_stopLatch : s.bootConfigured.twin.stopLatch = s.twin.stopLatch := by
  unfold State.bootConfigured
  extract_lets _ _ _ s1 s2
  have h : s2.twin = s1.twin := s1.reach_twin _
  clear_value s2
  change s2.twin.stopLatch = _
  rw [h]
  simp only [s1, bootTwin]

theorem State.bootConfigured_active : s.bootConfigured.cfg.active = (bootConfig s.cfg).1 := by
  unfold State.bootConfigured
  extract_lets _ _ _ s1 s2
  have h : s2.cfg = s1.cfg := s1.reach_cfg _
  clear_value s2
  change (bootConfig s2.cfg).1 = _
  rw [h]
  rfl

end

-- boot as a whole
theorem booted_boot {s : State} (h : s.twin.stopLatch = false) : Booted s s.boot := by
  have hpo (p : Fin 16) : s.boot.permits.po.get p =
      permitActivated (permitAssigned s.boot.cfg.active p.val) s.bootConfigured.now (s.bootConfigured.permits.po.get p) := by
    rw [State.boot_po, State.bootResources_po _ (s.bootConfigured_stopLatch.trans h), State.boot_cfg]
  refine ⟨?_, s.boot_now, ?_, ?_, ?_, fun n => ?_, fun p hp => ?_, fun p hp => ?_, ?_, ?_, s.boot_recd_st, ?_⟩
  · rw [State.boot_power, State.bootConfigured_power]
  · rw [State.boot_power, State.bootConfigured_power]
  · rw [State.boot_power, State.bootConfigured_power]
  · rw [State.boot_power, State.bootConfigured_power]
  · rw [State.boot_sect, State.bootResources_sect]
  · rw [hpo, hp]
    exact ⟨rfl, rfl⟩
  · rw [hpo, hp]
    exact ⟨rfl, rfl⟩
  · rw [State.boot_twin, bootTwin]
  · rw [State.boot_twin, bootTwin]
  · rw [State.boot_cfg, State.bootConfigured_active]

/-- `Booted` reads of the state before boot the clock, the retention latch and the configuration. -/
theorem Booted.congr {s s' t : State} (h : Booted s t) (hn : s'.now = s.now) (hl : s'.power.latch = s.power.latch)
    (hc : s'.cfg = s.cfg) : Booted s' t := by
  rw [Booted, hn, hl, hc]
  exact h

theorem Booted.finish {s t : State} (h : Booted s t) : Booted s t.finish := by
  rw [Booted, State.finish_power, State.finish_now, State.finish_sect, State.finish_permits, State.finish_cfg,
    State.finish_twin, State.finish_recd_st]
  exact h

-- the rows that begin a boot
/-- A device that is in no HIBERNATE entry settles none. -/
theorem runs_settled {c : Instr} {s : State} {f : State → State} {post : State → Prop}
    (hc : exec c s = run s fun s => f s.settleEntry) (he : s.power.entering = false)
    (hp : post (f s.begin).finish) : Runs c s post := by
  refine ⟨(f s.begin).finish, ?_, hp⟩
  rw [hc, run, State.settleEntry_of_not_entering (s := s.begin) he]

section
variable {s : State}

theorem bootReady_iff : bootReady s = true ↔ s.power.phase = .inReset ∧ s.power.vsupOk = true ∧ s.power.vioOk = true ∧
    s.power.clockFault = false := by
  simp [bootReady, and_assoc]

theorem State.beginBoot_of_resetnLow (h : s.power.resetnLow = true) (b : Bool) : s.beginBoot b = s.addLatch latchResetn :=
  if_pos h

theorem State.beginBoot_of_locks (h : s.power.resetnLow = false) (hb : bootReady s = true) : s.beginBoot true = s.boot := by
  rw [State.beginBoot, if_neg (by rw [h]; decide), if_pos rfl, Machine.boot, if_pos hb]

/-- A PLL that does not lock leaves the device in reset, with the fault noted (R48, R68). -/
def State.unlocked (s : State) (i : Nat) : State :=
  ((s.reach i).updPower (fun p => { p with clockFault := true, resetnLow := false })).addLatch latchClock

theorem bootPllLockTimeout_of_ready (hb : bootReady s = true) {i : Nat} (hi : s.now + ms 1 = i) :
    bootPllLockTimeout s = s.unlocked i := by
  rw [bootPllLockTimeout, if_pos hb, hi, State.unlocked]

theorem State.beginBoot_of_no_lock (h : s.power.resetnLow = false) (hb : bootReady s = true) {i : Nat}
    (hi : s.now + ms 1 = i) : s.beginBoot false = s.unlocked i := by
  rw [State.beginBoot, if_neg (by rw [h]; decide), if_neg (by decide), bootPllLockTimeout_of_ready hb hi]

theorem State.unlocked_now {i : Nat} (h : s.now ≤ i) : (s.unlocked i).now = i :=
  (State.reach_now s i).trans (Nat.max_eq_right h)

/-- A supply release as the boot finds it (R32, R47). -/
def State.released (s : State) : State :=
  (s.updPower (fun p => { p with vsupOk := true, vioOk := true })).updPower (fun p => { p with phase := .inReset })

theorem supplyRelease_eq (h : s.power.phase = .inReset ∨ s.power.phase = .unpowered) (b : Bool) :
    supplyRelease b s = s.released.beginBoot b := by
  unfold supplyRelease
  rcases h with h | h <;> rw [h] <;> rfl

theorem State.released_ready (h : s.power.clockFault = false) : bootReady s.released = true :=
  bootReady_iff.mpr ⟨rfl, rfl, rfl, h⟩

end

theorem le_of_add_eq {a b i : Nat} (h : a + b = i) : a ≤ i := h ▸ Nat.le_add_right a b

/-- How BOOT_PLL_LOCK_TIMEOUT ends on a device that can boot (R48, R68). -/
theorem runs_bootPllLockTimeout {s : State} {i : Nat} (hb : bootReady s = true) (hi : s.begin.now + ms 1 = i) :
    Runs .bootPllLockTimeout s fun t => t.power.phase = .inReset ∧ t.power.clockFault = true ∧
      t.power.latch = s.power.latch ||| latchClock ∧ t.now = i ∧ (∀ p, t.permits.po.get p = s.permits.po.get p) := by
  have hle : s.begin.now ≤ i := le_of_add_eq hi
  have hbegin : bootReady s.begin = true := bootReady_iff.mpr (bootReady_iff.mp hb)
  refine runs_of_run (f := bootPllLockTimeout) rfl ?_
  rw [bootPllLockTimeout_of_ready hbegin hi, State.finish_power, State.finish_now, State.finish_permits,
    State.unlocked_now hle]
  exact ⟨(bootReady_iff.mp hb).1, rfl, rfl, rfl, fun _ => rfl⟩

/-- Settles O10. -/
theorem bootRuns : Obligations.BootRuns := by
  unfold Obligations.BootRuns
  refine ⟨fun s hl hcf he => ⟨fun hph hv hio => ?_, fun hph => ⟨fun hr => ⟨?_, ?_⟩, fun hr b => ?_⟩⟩, fun s hb => ?_⟩
  · have hb : bootReady s = true := bootReady_iff.mpr ⟨hph, hv, hio, hcf⟩
    refine runs_boot hb he ⟨((booted_boot (s := s.begin) hl).congr rfl rfl rfl).finish, ?_⟩
    rw [State.finish_power, State.boot_power, State.bootConfigured_power]
  · refine runs_settled (f := supplyRelease true) rfl he ?_
    rw [supplyRelease_eq (s := s.begin) hph,
      State.beginBoot_of_locks (s := s.begin.released) hr (State.released_ready (s := s.begin) hcf), State.finish_power,
      State.boot_power, State.bootConfigured_power]
    exact ⟨((booted_boot (s := s.begin.released) hl).congr rfl rfl rfl).finish, rfl, rfl⟩
  · generalize hi : s.now + ms 1 = i
    refine runs_settled (f := supplyRelease false) rfl he ?_
    rw [supplyRelease_eq (s := s.begin) hph,
      State.beginBoot_of_no_lock (s := s.begin.released) hr (State.released_ready (s := s.begin) hcf) hi, State.finish_power,
      State.finish_now, State.unlocked_now (s := s.begin.released) (le_of_add_eq hi)]
    exact ⟨rfl, rfl, rfl, rfl⟩
  · refine runs_settled (f := supplyRelease b) rfl he ?_
    rw [supplyRelease_eq (s := s.begin) hph, State.beginBoot_of_resetnLow (s := s.begin.released) hr, State.finish_power,
      State.finish_now]
    exact ⟨rfl, rfl, rfl⟩
  · exact runs_bootPllLockTimeout hb rfl

-- the wake
section
variable {s : State}

theorem State.volatileLost_power (s : State) (p : Phase) : (s.volatileLost p).power = keptPower s.power p := rfl

theorem State.endEntry_power : s.endEntry.power = { keptPower s.power .hibernate with
    wakePending := s.power.wakePending, wakeLocks := s.power.wakeLocks } := by
  rw [State.endEntry, State.updPower_power, State.volatileLost_power, State.reach_power]

/-- While STBYn is low the end of an entry executes no wake (R55, R56). -/
theorem State.settleEntry_of_stbynLow (h : s.power.stbynHigh = false) :
    s.settleEntry = if entered s then s.endEntry else s := by
  unfold State.settleEntry
  dsimp only
  rw [State.endEntry_power, keptPower]
  dsimp only
  rw [h, Bool.and_false, if_neg Bool.false_ne_true]

/-- What the row of a wake leaves of the supplies, of the latch and of the clock of the latest boot. -/
structure StaysDown (s t : State) : Prop where
  latch : t.power.latch = s.power.latch
  bootAt : t.power.bootAt = s.power.bootAt
  stbyn : t.power.stbynHigh = false
  asleep : s.power.phase = .hibernate → t.power.phase = .hibernate

theorem staysDown_settleEntry (h : s.power.stbynHigh = false) : StaysDown s s.settleEntry := by
  rw [State.settleEntry_of_stbynLow h]
  split
  · constructor <;> rw [State.endEntry_power, keptPower]
    · exact h
    · exact fun _ => rfl
  · exact ⟨rfl, rfl, h, id⟩

/-- While STBYn is low a wake is at most kept (R55, R56). -/
theorem staysDown_wake (h : s.power.stbynHigh = false) (b : Bool) : StaysDown s (wake b s) := by
  have h0 := staysDown_settleEntry h
  unfold wake
  dsimp only
  generalize s.settleEntry = u at h0
  obtain ⟨h1, h2, h3, h4⟩ := h0
  rw [h3]
  split
  · exact ⟨h1, h2, h3, h4⟩
  · split
    · exact ⟨h1, h2, h3, h4⟩
    · exact ⟨h1, h2, h3, h4⟩

theorem stbynRise_eq (he : s.power.entering = false) (hp : s.power.phase = .hibernate) (waknLow b : Bool) :
    stbynRise waknLow b s = if s.power.wakePending || waknLow
      then (s.updPower (fun p => { p with stbynHigh := true })).wakeUp b
      else s.updPower (fun p => { p with stbynHigh := true }) := by
  unfold stbynRise
  rw [State.settleEntry_of_not_entering he]
  simp only [hp, if_true]

/-- A device that wakes, before its boot (R54). -/
def State.waking (s : State) (i : Nat) : State :=
  ((s.addLatch Machine.latchWake).reach i).updPower (fun p => { p with phase := .inReset, wakePending := false })

theorem State.waking_power (i : Nat) : (s.waking i).power = { s.power with
    phase := .inReset, wakePending := false, latch := s.power.latch ||| Machine.latchWake } := by
  rw [State.waking, State.updPower_power, State.reach_power, State.addLatch, State.updPower_power]

theorem State.addLatch_now (b : BitVec 6) : (s.addLatch b).now = s.now := rfl

theorem State.wakeUp_eq {i : Nat} (hi : s.now + ms 2 = i) (b : Bool) : s.wakeUp b = (s.waking i).beginBoot b := by
  have hw : s.wakeUp b = (s.waking ((s.addLatch Machine.latchWake).now + ms 2)).beginBoot b := rfl
  rw [hw, State.addLatch_now, hi]

theorem State.waking_now {i : Nat} (h : s.now ≤ i) : (s.waking i).now = i :=
  (State.reach_now (s.addLatch Machine.latchWake) i).trans (Nat.max_eq_right h)

theorem woken_wakeUp (hv : s.power.vsupOk = true) (hio : s.power.vioOk = true) (hcf : s.power.clockFault = false)
    (hr : s.power.resetnLow = false) (he : s.power.entering = false) :
    Woken s (s.wakeUp true) s.now ∧ (s.wakeUp true).power.stbynHigh = s.power.stbynHigh := by
  generalize hi : s.now + ms 2 = i
  have hn : (s.waking i).now = i := State.waking_now (le_of_add_eq hi)
  have hb : bootReady (s.waking i) = true := by
    rw [bootReady_iff, State.waking_power]
    exact ⟨rfl, hv, hio, hcf⟩
  have hr : (s.waking i).power.resetnLow = false := by rw [State.waking_power, hr]
  have hboot : (s.waking i).boot.now = i + ms 180 := by rw [State.boot_now, hn]
  rw [State.wakeUp_eq hi, State.beginBoot_of_locks hr hb, Woken, State.boot_power, State.bootConfigured_power, hboot, hi,
    State.waking_power]
  exact ⟨⟨rfl, rfl, rfl, rfl, rfl, he⟩, rfl⟩

end

/-- Settles O14. -/
theorem standbyGatesWake : Obligations.StandbyGatesWake := by
  unfold Obligations.StandbyGatesWake
  refine fun s hs => ⟨fun b => ?_, fun hp he => ⟨fun hv hio hcf hr waknLow hw => ?_, fun hw b => ?_⟩⟩
  · obtain ⟨h1, h2, h3, h4⟩ := staysDown_wake (s := s.begin) hs b
    refine runs_of_run (f := wake b) rfl ?_
    rw [State.finish_power]
    exact ⟨h1, h2, h3, h4⟩
  · refine runs_of_run (f := stbynRise waknLow true) rfl ?_
    have hor : (s.begin.power.wakePending || waknLow) = true := Bool.or_eq_true_iff.mpr hw
    rw [stbynRise_eq (s := s.begin) he hp, if_pos hor, Woken, State.finish_power, State.finish_now]
    exact woken_wakeUp (s := s.begin.updPower (fun p => { p with stbynHigh := true })) hv hio hcf hr he
  · refine runs_of_run (f := stbynRise false b) rfl ?_
    have hor : ¬ (s.begin.power.wakePending || false) = true := by
      rw [Bool.or_false]
      exact fun h => absurd (hw.symm.trans h) (by decide)
    rw [stbynRise_eq (s := s.begin) he hp, if_neg hor, State.finish_power]
    rfl

end Sys2Proof.Machine

/-! SUPPORT. Steps over a table at the turn of one entry; the bits of the terminal maps; the starts and stops of a source,
and what they leave of the other sources; with them O15 to O18 (R33, R52, R63, R66, R74, R75, R80, R85 to R91, R103). -/

namespace Sys2Proof.Machine

-- the turn of an entry
/-- In a fold over a table whose steps change each its own entry, the entry is at its turn what it was at the start, and
stays what the step makes of it. -/
theorem foldl_allFin_at {n : Nat} {σ β : Type} {view : σ → Fin n → β} {g : σ → Fin n → σ} (R : σ → Prop)
    (hR : ∀ s i, R s → R (g s i)) (hother : ∀ s i j, j ≠ i → view (g s i) j = view s j) {s : σ} (hs : R s) (i : Fin n) :
    ∃ u, R u ∧ view u i = view s i ∧ view ((allFin n).foldl g s) i = view (g u i) i := by
  have skip : ∀ (l : List (Fin n)) (t : σ), R t → i ∉ l → R (l.foldl g t) ∧ view (l.foldl g t) i = view t i := by
    intro l
    induction l with
    | nil => exact fun t ht _ => ⟨ht, rfl⟩
    | cons a l ih =>
      intro t ht hi
      have ha : i ≠ a := fun e => hi (e ▸ List.mem_cons_self)
      obtain ⟨h1, h2⟩ := ih (g t a) (hR t a ht) (fun h => hi (List.mem_cons_of_mem _ h))
      exact ⟨h1, h2.trans (hother t a i ha)⟩
  obtain ⟨l1, l2, hl⟩ := List.append_of_mem (List.mem_finRange i)
  have hnd : (l1 ++ i :: l2).Nodup := hl ▸ List.nodup_finRange n
  obtain ⟨-, hnd2, hdis⟩ := List.nodup_append.mp hnd
  have h1 : i ∉ l1 := fun h => hdis i h i List.mem_cons_self rfl
  have h2 : i ∉ l2 := (List.nodup_cons.mp hnd2).1
  obtain ⟨hu, hv⟩ := skip l1 s hs h1
  refine ⟨l1.foldl g s, hu, hv, ?_⟩
  rw [allFin, hl, List.foldl_append, List.foldl_cons]
  exact (skip l2 _ (hR _ i hu) h2).2

-- the bits of the terminal maps
theorem getLsbD_setBit192 (b : BitVec 192) (i j : Fin 192) (v : Bool) :
    (setBit192 b i.val v).getLsbD j.val = if j = i then v else b.getLsbD j.val := by
  have hbit : (BitVec.ofNat 192 (2 ^ i.val)).getLsbD j.val = decide (j = i) := by
    rw [BitVec.getLsbD_ofNat, Nat.testBit_two_pow, decide_eq_true j.isLt, Bool.true_and, decide_eq_decide, Fin.ext_iff]
    exact eq_comm
  rw [setBit192, if_pos i.isLt]
  cases v with
  | true =>
    rw [if_pos rfl, BitVec.getLsbD_or, hbit]
    by_cases h : j = i <;> simp [h]
  | false =>
    rw [if_neg (by decide), BitVec.getLsbD_and, BitVec.getLsbD_not, hbit]
    by_cases h : j = i
    · simp [h]
    · simp [h]

theorem testBit_word (k : Nat) (w : BitVec 32) (j : Nat) :
    (w.toNat * 2 ^ (32 * k)).testBit j = (decide (j / 32 = k) && w.getLsbD (j % 32)) := by
  rw [Nat.testBit_mul_two_pow, ← BitVec.testBit_toNat]
  by_cases h : j / 32 = k
  · have h1 : 32 * k ≤ j := by omega
    have h2 : j - 32 * k = j % 32 := by omega
    simp [h, h1, h2]
  · by_cases h1 : 32 * k ≤ j
    · have h2 : 32 ≤ j - 32 * k := by omega
      have h3 : w.toNat.testBit (j - 32 * k) = false := by
        rw [BitVec.testBit_toNat]
        exact BitVec.getLsbD_of_ge _ _ h2
      simp [h, h3]
    · simp [h, h1]

theorem testBit_wordMask (k j : Nat) : (0xFFFFFFFF * 2 ^ (32 * k)).testBit j = decide (j / 32 = k) := by
  have h := testBit_word k (BitVec.allOnes 32) j
  rw [show (BitVec.allOnes 32).toNat = 0xFFFFFFFF from rfl] at h
  rw [h, BitVec.getLsbD_allOnes, decide_eq_true (Nat.mod_lt j (by decide : 0 < 32)), Bool.and_true]

theorem getLsbD_putWord (b : BitVec 192) (k : Nat) (w : BitVec 32) (j : Fin 192) :
    (putWord b k w).getLsbD j.val = if j.val / 32 = k then w.getLsbD (j.val % 32) else b.getLsbD j.val := by
  have hj : j.val < 192 := j.isLt
  rw [putWord, BitVec.getLsbD_or, BitVec.getLsbD_and, BitVec.getLsbD_not, BitVec.getLsbD_ofNat, BitVec.getLsbD_ofNat,
    testBit_word, testBit_wordMask, decide_eq_true hj]
  by_cases h : j.val / 32 = k <;> simp [h]

theorem getLsbD_termWord (b : BitVec 192) (k : Nat) {i : Nat} (h : i < 32) :
    (BitVec.ofNat 32 (termWord b k)).getLsbD i = b.getLsbD (32 * k + i) := by
  rw [BitVec.getLsbD_ofNat, termWord, Nat.testBit_mod_two_pow, Nat.testBit_div_two_pow, decide_eq_true h,
    ← BitVec.testBit_toNat, Nat.add_comm i]
  rfl

-- clamp flags
theorem clampFlagSet_term (i : Fin 192) (b : Bool) (s : State) : (clampFlagSet i b s).term = { s.term with
    clf := setBit192 s.term.clf i.val true, cla := setBit192 s.term.cla i.val b
    clfEvents := if s.term.clf.getLsbD i.val then s.term.clfEvents else satInc32 s.term.clfEvents } :=
  (keeps_voidNamed _ _).same .term (by decide)

/-- A 1 clears a flag whose clamp does not conduct (R75). -/
theorem clfWrite_setClamps (k : Fin 6) (v : Nat) (live : BitVec 32) {s : State}
    {m : BitVec 192} (hm : s.term.cla = putWord m k.val live) (j : Fin 192) :
    (clfWrite k.val v s).term.clf.getLsbD j.val = (s.term.clf.getLsbD j.val &&
      !(decide (j.val / 32 = k.val) && v.testBit (j.val % 32) && !live.getLsbD (j.val % 32))) := by
  have h32 : j.val % 32 < 32 := Nat.mod_lt _ (by decide)
  change (putWord s.term.clf k.val _).getLsbD j.val = _
  rw [getLsbD_putWord, hm]
  by_cases h : j.val / 32 = k.val
  · have hj : 32 * k.val + j.val % 32 = j.val := by omega
    have hlive : (putWord m k.val live).getLsbD j.val = live.getLsbD (j.val % 32) := by rw [getLsbD_putWord, if_pos h]
    rw [if_pos h, BitVec.getLsbD_and, BitVec.getLsbD_or, getLsbD_termWord _ _ h32, getLsbD_termWord _ _ h32, hj, hlive,
      BitVec.getLsbD_not, BitVec.getLsbD_ofNat]
    simp [h, h32]
  · simp [h]

theorem clf_object (w : Fin 6) : LiveObject 0x2700 (0x81 + w.val) 4 .maintain .live false :=
  ⟨by decide, .inl rfl, by revert w; decide⟩

theorem State.liveWrite_clf (s : State) (o : Origin) (w : Fin 6) (v : Nat) (data : List Byte) :
    s.liveWrite o 0x2700 (0x81 + w.val) v data = clfWrite w.val v s := by
  have hs : within (0x81 + w.val) 0x81 0x86 = true := by revert w; decide
  change s.terminalWrite (0x81 + w.val) v = _
  rw [State.terminalWrite, if_pos hs, Nat.add_sub_cancel_left]

/-- A write of CLF is judged with the clamps as the command finds them (R75). -/
theorem runs_clfClearWrite {s : State} {o : Origin} {w : Fin 6} {v : Nat} {live : BitVec 32} {k : Fin 4} {x : Session}
    {post : State → Prop} (h : Asks (.clfClearWrite o w v live) s o .maintain k x) (hv : v < 2 ^ 32)
    (hp : post (clfWrite w.val v ((s.begin.setClamps w live).touch k |>.answer o 0x2700 (0x81 + w.val) 0)).finish) :
    Runs (.clfClearWrite o w v live) s post := by
  have ho := clf_object w
  have hval : valueRefused 0x2700 (0x81 + w.val) v = false := by simp [valueRefused, within]
  have hd : ofLe (leBytes 4 v) = v := ofLe_leBytes_of_lt hv
  have hserv : s.begin.serving = true := h.served_begin.serving
  obtain ⟨hs1, hs2, hs3, hs4⟩ := h.served_begin
  have hserved : Served (s.begin.setClamps w live) o k x := ⟨hs1, hs2, hs3, hs4⟩
  refine runs_of_run (f := fun s => (s.guarded s.serving (fun s => s.setClamps w live)).rowWrite o 0x2700 (0x81 + w.val)
    (leBytes 4 v)) rfl ?_
  have hg : s.begin.guarded s.begin.serving (fun s => s.setClamps w live) = s.begin.setClamps w live := if_pos hserv
  rw [hg, State.rowWrite_granted hserved ho.not_session (h.held_begin rfl) ?_ ?_ h.alive, ho.applyWrite, hd,
    State.liveWrite_clf]
  · exact hp
  · rw [ho.receiptAbort (State.stopped_of_alive (s := (s.begin.setClamps w live).touch k) h.alive) h.level
      (length_leBytes 4 v), hd, hval]
    rfl
  · rw [ho.judgeAbort, hd, stateRefused]
    simp [within]

-- starts and stops of a source
section
variable (s : State) (k : Fin 64)

@[simp] theorem State.updSrc_get (f : Source → Source) : (s.updSrc k f).src.get k = f (s.src.get k) := Tab.get_upd_self ..

theorem State.updSrc_other {j : Fin 64} (f : Source → Source) (h : j ≠ k) :
    (s.updSrc k f).src.get j = s.src.get j := Tab.get_upd_other _ _ _ _ h

/-- A source at the start of its sequence: from zero current to the programmed one (R87). -/
def sourceStarted (c : CfgMap) (now : Nat) (k : Fin 64) (x : Source) : Source :=
  { x with
    st := .settling, pending := false, word := excWord c k.val, chop := chopN c k, seqAt := now, startAt := now
    base := 0, current := wordCurrent (excWord c k.val), latched := none }

theorem State.runStart_src : (s.runStart k).src = s.src.upd k (sourceStarted s.cfg.active s.now k) :=
  (keeps_unsettle _ _).same .src (by decide)

@[simp] theorem State.offerExc_src (h : Fin 32) (i : Option Nat) : (s.offerExc k h i).src = s.src :=
  (keeps_offerExc s k h i).same .src (by decide)

/-- A start is about its own source. -/
theorem State.issueStart_other {j : Fin 64} (h : j ≠ k) : (s.issueStart k).src.get j = s.src.get j := by
  unfold State.issueStart
  split
  · rfl
  · split
    · split
      · rfl
      · split
        · exact s.updSrc_other k _ h
        · split
          · split
            · rfl
            · rw [State.offerExc_src]
          · rw [State.runStart_src]
            exact Tab.get_upd_other _ _ _ _ h
    · exact s.updSrc_other k _ h
    · rfl
    · rfl

/-- A source as a stop finds it (R86, R89). -/
def sourceStopped (now : Nat) (x : Source) : Source :=
  match x.st with
  | .off | .discharging => { x with pending := false }
  | .settling | .on =>
    { x with
      st := .discharging, pending := false, latched := none, base := levelAt x now, current := 0, seqAt := now
      onHist := if x.st == .on then pushOn now x else x.onHist }

@[simp] theorem State.recall_src (p : Offer → Bool) : (s.recall p).src = s.src := rfl
@[simp] theorem State.recall_now (p : Offer → Bool) : (s.recall p).now = s.now := rfl

theorem State.switchDischarge_src (w : Nat) (b : Bool) : (s.switchDischarge w b).src = s.src := rfl
theorem State.switchSense_src : s.switchSense.src = s.src := rfl

theorem State.issueStop_get : (s.issueStop k).src.get k = sourceStopped s.now (s.src.get k) := by
  unfold State.issueStop sourceStopped
  dsimp only [State.recall_src, State.recall_now]
  split
  next h => rw [State.updSrc_get, State.recall_src, h]
  next h => rw [State.updSrc_get, State.recall_src, h]
  next h => rw [State.switchSense_src, State.switchDischarge_src, State.updSrc_get, State.recall_src, h]
  next h => rw [State.switchSense_src, State.switchDischarge_src, State.updSrc_get, State.recall_src, h]

theorem State.issueStop_other {j : Fin 64} (h : j ≠ k) : (s.issueStop k).src.get j = s.src.get j := by
  unfold State.issueStop
  dsimp only
  split <;> exact Tab.get_upd_other _ _ _ _ h

/-- A stop withdraws what its source has offered (R86). -/
theorem State.issueStop_offers {f : Offer} (h : f ∈ (s.issueStop k).bell.offers) : f.src ≠ some k := by
  have hb : (s.issueStop k).bell.offers = s.bell.offers.filter (fun o => !(o.src == some k)) := by
    unfold State.issueStop
    dsimp only
    split <;> rfl
  rw [hb, List.mem_filter] at h
  simpa using h.2

end

end Sys2Proof.Machine

/-! SUPPORT. The rows of the supplies, the terminals and the sources; with them O15 to O18 (R33, R52, R63, R66, R74, R75,
R80, R85 to R91, R103). -/

namespace Sys2Proof.Machine

-- holds
/-- The words of EXC_HOLD (R91). -/
def holdWord (high : Bool) : Nat := if high then 1 else 0

/-- EXC_HOLD after a write of one of its words (R91). -/
def holdAfter (high : Bool) (v : Nat) (old : BitVec 64) : BitVec 64 :=
  (old &&& ~~~(BitVec.ofNat 64 (0xFFFFFFFF * 2 ^ (if high then 32 else 0)))) |||
    BitVec.ofNat 64 (v % 2 ^ 32 * 2 ^ (if high then 32 else 0))

theorem getLsbD_holdAfter (high : Bool) (v : Nat) (old : BitVec 64) (j : Fin 64) :
    (holdAfter high v old).getLsbD j.val =
      if j.val / 32 = holdWord high then v.testBit (j.val % 32) else old.getLsbD j.val := by
  have hoff : (if high then 32 else 0) = 32 * holdWord high := by cases high <;> rfl
  have hw : v % 2 ^ 32 = (BitVec.ofNat 32 v).toNat := rfl
  have h32 : j.val % 32 < 32 := Nat.mod_lt _ (by decide)
  have hv : (BitVec.ofNat 32 v).getLsbD (j.val % 32) = v.testBit (j.val % 32) := by
    rw [BitVec.getLsbD_ofNat, decide_eq_true h32, Bool.true_and]
  rw [holdAfter, hoff, hw, BitVec.getLsbD_or, BitVec.getLsbD_and, BitVec.getLsbD_not, BitVec.getLsbD_ofNat,
    BitVec.getLsbD_ofNat, testBit_word, testBit_wordMask, decide_eq_true j.isLt, hv]
  by_cases h : j.val / 32 = holdWord high <;> simp [h]

/-- What a write of EXC_HOLD does to a source whose bit was and is (R91). -/
def State.holdStep (old new : BitVec 64) (s : State) (k : Fin 64) : State :=
  if new.getLsbD k.val && !old.getLsbD k.val then s.issueStop k
  else if old.getLsbD k.val && !new.getLsbD k.val then s.issueStart k else s

theorem holdWrite_eq (high : Bool) (v : Nat) (s : State) : holdWrite high v s =
    (allFin 64).foldl (State.holdStep s.term.hold (holdAfter high v s.term.hold))
      { s with term := { s.term with hold := holdAfter high v s.term.hold } } := rfl

theorem State.issueStart_hold (s : State) (k : Fin 64) : (s.issueStart k).term.hold = s.term.hold := by
  unfold State.issueStart
  split
  · rfl
  · split
    · split
      · rfl
      · split
        · rfl
        · split
          · split
            · rfl
            · rw [show (s.offerExc k _ none).term = s.term from (keeps_offerExc ..).same .term (by decide)]
          · unfold State.runStart
            rw [show (State.unsettle _ k).term = _ from (keeps_unsettle _ k).same .term (by decide)]
            rfl
    · rfl
    · rfl
    · rfl

theorem State.issueStop_hold (s : State) (k : Fin 64) : (s.issueStop k).term.hold = s.term.hold := by
  unfold State.issueStop
  dsimp only
  split <;> rfl

section
variable (old new : BitVec 64) (s : State)

theorem State.holdStep_hold (k : Fin 64) : (s.holdStep old new k).term.hold = s.term.hold := by
  unfold State.holdStep
  split
  · exact s.issueStop_hold k
  · split
    · exact s.issueStart_hold k
    · rfl

theorem State.holdStep_other {k j : Fin 64} (h : j ≠ k) : (s.holdStep old new k).src.get j = s.src.get j := by
  unfold State.holdStep
  split
  · exact s.issueStop_other k h
  · split
    · exact s.issueStart_other k h
    · rfl

end

theorem holdWrite_hold (high : Bool) (v : Nat) (s : State) :
    (holdWrite high v s).term.hold = holdAfter high v s.term.hold := by
  rw [holdWrite_eq]
  generalize holdAfter high v s.term.hold = new
  refine List.foldlRecOn (motive := fun u : State => u.term.hold = new) (allFin 64) _ rfl fun u hu k _ => ?_
  rw [State.holdStep_hold, hu]

/-- A write of EXC_HOLD does to each source what its own bit says. -/
theorem holdWrite_src (high : Bool) (v : Nat) (s : State) (j : Fin 64) : ∃ u : State, u.src.get j = s.src.get j ∧
    (holdWrite high v s).src.get j = (u.holdStep s.term.hold (holdAfter high v s.term.hold) j).src.get j := by
  obtain ⟨u, -, h1, h2⟩ := foldl_allFin_at (view := fun (u : State) j => u.src.get j)
    (g := State.holdStep s.term.hold (holdAfter high v s.term.hold)) (fun _ => True) (fun _ _ _ => trivial)
    (fun u i j h => State.holdStep_other _ _ u h)
    (s := { s with term := { s.term with hold := holdAfter high v s.term.hold } }) trivial j
  exact ⟨u, h1, h2⟩

theorem excHold_object (high : Bool) : LiveObject 0x2700 (if high then 0x8F else 0x8E) 4 .maintain .live false :=
  ⟨by decide, .inl rfl, by cases high <;> decide⟩

/-- Settles O16. -/
theorem clampFlagsAndHolds : Obligations.ClampFlagsAndHolds := by
  unfold Obligations.ClampFlagsAndHolds
  refine ⟨fun s i b hs => ?_, fun s o w v live k x h hv => ?_, fun s o high v k x h hv => ?_⟩
  · refine runs_guarded (b := State.serving) (f := clampFlagSet i b) rfl hs ?_
    rw [State.finish_term, clampFlagSet_term]
    refine ⟨?_, ?_, fun j hj => ⟨?_, ?_⟩, rfl⟩
    · rw [getLsbD_setBit192, if_pos rfl]
    · rw [getLsbD_setBit192, if_pos rfl]
    · rw [getLsbD_setBit192, if_neg hj]
      rfl
    · rw [getLsbD_setBit192, if_neg hj]
      rfl
  · refine runs_clfClearWrite h hv ?_
    generalize hu : ((s.begin.setClamps w live).touch k).answer o 0x2700 (0x81 + w.val) 0 = u
    have hk : Keeps [.term] (s.accepted k o 0x2700 (0x81 + w.val)) u := by
      rw [← hu]
      exact keeps_set_term _ _
    refine ⟨taken_of_keeps h.holds (hk.trans ((keeps_clfWrite w.val v u).mono rfl)) (by decide), fun j => ?_⟩
    have hcla : u.term.cla = putWord s.term.cla w.val live := by rw [← hu]; rfl
    have hclf : u.term.clf = s.term.clf := by rw [← hu]; rfl
    rw [State.finish_term, clfWrite_setClamps w v live hcla, hclf]
  · refine h.runs_number rfl rfl (excHold_object high) hv (by cases high <;> rfl) (by cases high <;> rfl) ?_
    have hw : (s.accepted k o 0x2700 (if high then 0x8F else 0x8E)).liveWrite o 0x2700 (if high then 0x8F else 0x8E) v
        (leBytes 4 v) = holdWrite high v (s.accepted k o 0x2700 (if high then 0x8F else 0x8E)) := by
      cases high <;> rfl
    rw [hw]
    refine ⟨taken_of_keeps h.holds (keeps_holdWrite ..) (by decide), ?_⟩
    generalize hu : s.accepted k o 0x2700 (if high then 0x8F else 0x8E) = u
    have hhold : u.term.hold = s.term.hold := by rw [← hu]; rfl
    have hsrc : u.src = s.src := by rw [← hu]; rfl
    rw [State.finish_term, State.finish_src, holdWrite_hold, hhold]
    refine ⟨fun j => getLsbD_holdAfter high v s.term.hold j, fun j hj => ?_, fun j hnew hold hst => ?_⟩
    all_goals
      obtain ⟨a, h1, h2⟩ := holdWrite_src high v u j
      rw [hhold] at h2
      rw [hsrc] at h1
    · have hstep : a.holdStep s.term.hold (holdAfter high v s.term.hold) j = a := by
        rw [State.holdStep, hj]
        cases s.term.hold.getLsbD j.val <;> rfl
      rw [h2, hstep, h1]
    · have hstep : a.holdStep s.term.hold (holdAfter high v s.term.hold) j = a.issueStop j := by
        rw [State.holdStep, hnew, hold]
        rfl
      rw [h2, hstep, State.issueStop_get, h1]
      rcases hst with hst | hst <;> simp [sourceStopped, hst]

end Sys2Proof.Machine

/-! SUPPORT. The monitors of the supplies, standby, the boundary scan, and the sequences of a source; with them O15, O17
and O18 (R33, R52, R63, R66, R80, R85 to R90, R103). -/

namespace Sys2Proof.Machine

-- VEXC


theorem guardCauseRaised_cg (ch : Fin 64) (k : GuardCause) (s : State) : (guardCauseRaised ch k s).cg =
    if monitorHolds s ch k && !causeFlag (s.cg.get ch) k then s.cg.upd ch (setCause true k) else s.cg := by
  unfold guardCauseRaised
  split
  · exact (keeps_causeRaised _ _).same .cg (by decide)
  · rfl

theorem guardCauseRaised_other {ch j : Fin 64} (k : GuardCause) (s : State) (h : j ≠ ch) :
    (guardCauseRaised ch k s).cg.get j = s.cg.get j := by
  rw [guardCauseRaised_cg]
  split
  · exact Tab.get_upd_other _ _ _ _ h
  · rfl

/-- VEXC_LOW raises SOURCE_DOWN on every channel that is in use (R33, R134). -/
theorem raiseSourceDown_cg {s : State} (h : s.power.vexcLow = true) {ch : Fin 64} (hm : chMode s.cfg.active ch.val ≠ 0) :
    (s.raiseSourceDown.cg.get ch).sourceDown = true := by
  obtain ⟨u, ⟨hp, hc⟩, -, hu⟩ := foldl_allFin_at (view := fun (u : State) j => u.cg.get j)
    (g := fun acc ch => guardCauseRaised ch .sourceDown acc)
    (fun u => u.power = s.power ∧ u.cfg = s.cfg)
    (fun u i hu => ⟨((keeps_guardCauseRaised i .sourceDown u).same .power (by decide)).trans hu.1,
      ((keeps_guardCauseRaised i .sourceDown u).same .cfg (by decide)).trans hu.2⟩)
    (fun u i j hj => guardCauseRaised_other .sourceDown u hj) (s := s) ⟨rfl, rfl⟩ ch
  have hmon : monitorHolds u ch .sourceDown = true := by simp [monitorHolds, hp, hc, h, hm]
  rw [State.raiseSourceDown, hu, guardCauseRaised_cg, hmon]
  cases hf : causeFlag (u.cg.get ch) .sourceDown with
  | true => exact hf
  | false => exact congrArg ChGuard.sourceDown (Tab.get_upd_self ..)

/-- A source with a PENDING start at the end of VEXC_LOW (R86). -/
def State.pendingStep (s : State) (k : Fin 64) : State :=
  if (s.src.get k).st == .off && (s.src.get k).pending
  then (s.updSrc k (fun x => { x with pending := false })).issueStart k else s

theorem State.issuePending_eq (s : State) : s.issuePending = (allFin 64).foldl State.pendingStep s := rfl

theorem State.pendingStep_other (s : State) {k j : Fin 64} (h : j ≠ k) : (s.pendingStep k).src.get j = s.src.get j := by
  unfold State.pendingStep
  split
  · rw [State.issueStart_other _ _ h, State.updSrc_other _ _ _ h]
  · rfl

theorem State.pendingStep_idle (s : State) {k : Fin 64} (h : (s.src.get k).st ≠ .off ∨ (s.src.get k).pending = false) :
    s.pendingStep k = s := by
  refine if_neg fun h' => ?_
  rw [Bool.and_eq_true, beq_iff_eq] at h'
  rcases h with h | h
  · exact h h'.1
  · exact absurd (h.symm.trans h'.2) (by decide)

/-- Without VEXC_LOW no start stays PENDING on an OFF source. -/
theorem State.issueStart_pending {s : State} {k : Fin 64} (hv : s.power.vexcLow = false) (hst : (s.src.get k).st = .off)
    (hp : (s.src.get k).pending = false) : ((s.issueStart k).src.get k).pending = false := by
  unfold State.issueStart
  rw [hst, hv]
  split
  · exact hp
  · dsimp only
    split
    · exact hp
    · rw [if_neg (by decide)]
      split
      · split
        · exact hp
        · rw [State.offerExc_src, hp]
      · rw [State.runStart_src, Tab.get_upd_self]
        rfl

theorem State.pendingStep_pending {s : State} {k : Fin 64} (hv : s.power.vexcLow = false)
    (hst : (s.src.get k).st = .off) : ((s.pendingStep k).src.get k).pending = false := by
  unfold State.pendingStep
  split
  · exact State.issueStart_pending (s := s.updSrc k _) hv (by rw [State.updSrc_get]; exact hst)
      (by rw [State.updSrc_get])
  next h => simpa [hst] using h

section
variable {s : State} (hv : s.power.vexcLow = false) (k : Fin 64)
include hv

theorem issuePending_at : ∃ u : State, u.power.vexcLow = false ∧ u.src.get k = s.src.get k ∧
    s.issuePending.src.get k = (u.pendingStep k).src.get k := by
  refine foldl_allFin_at (view := fun (u : State) j => u.src.get j) (g := State.pendingStep)
    (fun u => u.power.vexcLow = false) (fun u i hu => ?_) (fun u i j hj => u.pendingStep_other hj) hv k
  have hk : (u.pendingStep i).power = u.power := by
    unfold State.pendingStep
    split
    · exact (keeps_issueStart _ i).same .power (by decide)
    · rfl
  rw [hk, hu]

theorem issuePending_idle (h : (s.src.get k).st ≠ .off ∨ (s.src.get k).pending = false) :
    s.issuePending.src.get k = s.src.get k := by
  obtain ⟨u, -, h1, h2⟩ := issuePending_at hv k
  rw [h2, State.pendingStep_idle u (by rwa [h1]), h1]

theorem issuePending_pending (h : (s.src.get k).st = .off) : (s.issuePending.src.get k).pending = false := by
  obtain ⟨u, hu, h1, h2⟩ := issuePending_at hv k
  have hst : (u.src.get k).st = .off := by rw [h1, h]
  rw [h2, State.pendingStep_pending hu hst]

end

/-- The boundary scan takes the permits off their balls (R63). -/
theorem permitPin_extest {s : State} (h : s.power.tap.instr = .extest) (p : Fin 16) : permitPin s p = .highz := by
  simp [permitPin, Power.extest, h]

theorem State.alive_iff {s : State} : s.alive = true ↔ s.power.phase = .running ∧ entered s = false := by
  simp [State.alive]

theorem asleep_of_running {s : State} (hp : s.power.phase = .running) (he : entered s = false) : asleep s = false := by
  rw [asleep, hp, he]
  rfl

/-- Settles O15. -/
theorem supplyPins : Obligations.SupplyPins := by
  unfold Obligations.SupplyPins
  intro s ha
  obtain ⟨hph, hen⟩ := State.alive_iff.mp ha
  have hserv : s.begin.serving = true := State.serving_of_alive (s := s) ha
  have htap : tapWorks s.begin = true := by
    have h1 : s.begin.power.phase = .running := hph
    rw [tapWorks, asleep_of_running h1 hen, h1]
    rfl
  refine ⟨?_, ?_, ?_, ?_, ?_, ?_, fun a b c => ?_⟩
  · refine runs_of_run (f := vexcLowSet) rfl ?_
    have hv : vexcLowSet s.begin = (s.begin.setVexcLow true).raiseSourceDown := if_pos ha
    have hk := keeps_raiseSourceDown (s.begin.setVexcLow true)
    rw [hv, State.finish_power, State.finish_src, State.finish_cg, hk.same .power (by decide), hk.same .src (by decide)]
    exact ⟨rfl, rfl, fun ch hm => raiseSourceDown_cg (s := s.begin.setVexcLow true) rfl hm⟩
  · refine runs_of_run (f := vexcLowClear) rfl ?_
    rw [State.finish_power, State.finish_src]
    cases hvl : s.power.vexcLow with
    | true =>
      have hv : vexcLowClear s.begin = (s.begin.setVexcLow false).issuePending :=
        (if_pos hvl).trans (if_pos ha)
      rw [hv, (keeps_issuePending _).same .power (by decide)]
      exact ⟨rfl, fun k hk => issuePending_idle (s := s.begin.setVexcLow false) rfl k hk,
        fun _ k hk => issuePending_pending (s := s.begin.setVexcLow false) rfl k hk⟩
    | false =>
      have hv : vexcLowClear s.begin = s.begin := if_neg (by rw [State.begin_power, hvl]; decide)
      rw [hv]
      refine ⟨?_, fun _ _ => rfl, fun h => (nomatch h)⟩
      rw [State.begin_power, ← hvl]
  · refine runs_of_run (f := stbyStuckSet) rfl ?_
    have hw : stuckWatched s.begin = !s.goingDown := by
      have : s.begin.alive = true := ha
      rw [stuckWatched, this]
      rfl
    rw [State.finish_power, stbyStuckSet, hw]
    rfl
  · refine runs_guarded (b := State.serving) (f := stbyStuckClear) rfl hserv ?_
    have hw : stuckWatched s.begin = !s.goingDown := by
      have : s.begin.alive = true := ha
      rw [stuckWatched, this]
      rfl
    rw [State.finish_power, stbyStuckClear, hw, Bool.not_not]
    rfl
  · refine runs_guarded (b := tapWorks) (f := fun s => s.tapLoad .extest) rfl htap ⟨?_, fun p => ?_⟩
    · rw [State.finish_power]
      rfl
    · exact permitPin_extest (by rw [State.finish_power]; rfl) p
  · refine runs_guarded (b := tapWorks) (f := fun s => s.tapLoad .idcode) rfl htap ⟨?_, fun p => ?_⟩
    · rw [State.finish_power]
      rfl
    · have h1 : asleep (s.begin.tapLoad .idcode).finish = false := by
        have h2 : entered (s.begin.tapLoad .idcode).finish = false := by
          rw [entered, State.goingDown, State.finish_power, State.finish_twin, State.finish_now]
          exact hen
        have h3 : (s.begin.tapLoad .idcode).finish.power.phase = .running := by
          rw [State.finish_power]
          exact hph
        exact asleep_of_running h3 h2
      rw [permitPin, h1, State.finish_power, State.finish_permits]
      rfl
  · refine runs_whenAlive (f := supplyVoltage a b c) rfl ha ?_
    rw [State.finish_power]
    rfl

-- the level of a source
/-- A ramp begins at its base (R87, R89). -/
theorem levelAt_seqAt (x : Source) : levelAt x x.seqAt = x.base := by
  have h : ¬ x.seqAt + rampNs ≤ x.seqAt := by
    have : 0 < rampNs := by decide
    omega
  rw [levelAt, if_neg h, Nat.sub_self, show ((0 : Nat) : Rat) = 0 from rfl, Rat.mul_zero, Rat.div_def, Rat.zero_mul,
    Rat.add_zero]

/-- A ramp has led to the current of its sequence when its time has passed (R86, R87, R89). -/
theorem levelAt_of_ramped {x : Source} {t : Nat} (h : x.seqAt + rampNs = t) : levelAt x t = x.current :=
  if_pos (Nat.le_of_eq h)

-- a start
section
variable {s : State} {k : Fin 64}

theorem State.issueStart_entering (h : s.power.entering = true) : s.issueStart k = s :=
  if_pos (by rw [h, Bool.or_true])

section
variable (he : s.power.entering = false) (hen : excEnabled s.cfg.active k.val = true)
include he hen

theorem State.issueStart_held (hst : (s.src.get k).st = .off) (hh : srcHeld s k = true) : s.issueStart k = s := by
  unfold State.issueStart
  rw [if_neg (by rw [he, hen]; decide), hst]
  exact if_pos hh

theorem State.issueStart_vexcLow (hst : (s.src.get k).st = .off) (hh : srcHeld s k = false) (hv : s.power.vexcLow = true) :
    s.issueStart k = s.updSrc k (fun x => { x with pending := true }) := by
  unfold State.issueStart
  rw [if_neg (by rw [he, hen]; decide), hst, hh, hv]
  rfl

theorem State.issueStart_free (hst : (s.src.get k).st = .off) (hh : srcHeld s k = false) (hv : s.power.vexcLow = false)
    (hd : headOfSource s.cfg.active k = none) : s.issueStart k = s.runStart k := by
  unfold State.issueStart
  rw [if_neg (by rw [he, hen]; decide), hst, hh, hv, hd]
  rfl

theorem State.issueStart_bound {h : Fin 32} (hst : (s.src.get k).st = .off) (hh : srcHeld s k = false)
    (hv : s.power.vexcLow = false) (hd : headOfSource s.cfg.active k = some h) (ho : startOffered s k = false) :
    s.issueStart k = s.offerExc k h none := by
  unfold State.issueStart
  rw [if_neg (by rw [he, hen]; decide), hst, hh, hv, hd, ho]
  rfl

theorem State.issueStart_discharging (hst : (s.src.get k).st = .discharging) :
    s.issueStart k = s.updSrc k (fun x => { x with pending := true }) := by
  unfold State.issueStart
  rw [if_neg (by rw [he, hen]; decide), hst]

theorem State.issueStart_active (hst : (s.src.get k).st = .settling ∨ (s.src.get k).st = .on) : s.issueStart k = s := by
  unfold State.issueStart
  rw [if_neg (by rw [he, hen]; decide)]
  rcases hst with hst | hst <;> rw [hst]

end

/-- How a start ends on a running device. -/
theorem runs_excStart {post : State → Prop} (ha : s.alive = true) (hp : post (s.begin.issueStart k).finish) :
    Runs (.excStart k) s post :=
  runs_whenAlive (f := fun s => s.issueStart k) rfl ha hp

/-- A start of a source bound to a head is offered to the Bellringer (R85). -/
theorem State.offerExc_offers (h : Fin 32) (i : Option Nat) : ∃ f ∈ (s.offerExc k h i).bell.offers,
    f.cls = .excitation ∧ f.head = h ∧ f.src = some k ∧ f.newCurrent = i :=
  ⟨_, List.mem_append_right _ List.mem_cons_self, rfl, rfl, rfl, rfl⟩

/-- A started source ramps from zero to its programmed current (R87). -/
theorem sourceStarted_ramp {c : CfgMap} {now t : Nat} {x : Source} (ht : now + rampNs = t) :
    levelAt (sourceStarted c now k x) now = 0 ∧
      levelAt (sourceStarted c now k x) t = (wordCurrent (excWord c k.val) : Rat) :=
  ⟨levelAt_seqAt (sourceStarted c now k x), levelAt_of_ramped (x := sourceStarted c now k x) ht⟩

end

-- a stop
section
variable {now : Nat} {x : Source}

theorem sourceStopped_idle (h : x.st = .off ∨ x.st = .discharging) : sourceStopped now x = { x with pending := false } := by
  rcases h with h | h <;> rw [sourceStopped, h]

/-- A stop of a source that drives ramps down from its level (R86, R89). -/
theorem sourceStopped_active (h : x.st = .settling ∨ x.st = .on) : sourceStopped now x = { x with
    st := .discharging, pending := false, latched := none, base := levelAt x now, current := 0, seqAt := now
    onHist := if x.st == .on then pushOn now x else x.onHist } := by
  rcases h with h | h <;> rw [sourceStopped, h]

theorem sourceStopped_ramp {t : Nat} (h : x.st = .settling ∨ x.st = .on) (ht : now + rampNs = t) :
    levelAt (sourceStopped now x) now = levelAt x now ∧ levelAt (sourceStopped now x) t = 0 := by
  have hseq : (sourceStopped now x).seqAt = now := by rw [sourceStopped_active h]
  refine ⟨?_, ?_⟩
  · have h0 := levelAt_seqAt (sourceStopped now x)
    rw [hseq] at h0
    rw [h0, sourceStopped_active h]
  · rw [levelAt_of_ramped (by rw [hseq, ht]), sourceStopped_active h]
    rfl

end

/-- Settles O17. -/
theorem sourceStartAndStop : Obligations.SourceStartAndStop := by
  unfold Obligations.SourceStartAndStop
  refine ⟨fun s k ha he => ?_, fun s k ha he hen => ⟨fun hst hh hv hd => ?_, fun h hst hh hv hd ho => ?_, fun hst hh hv => ?_,
    fun hst hh => ?_, fun hst => ?_, fun hst => ?_⟩, fun s k ha => ⟨fun hst => ?_, fun hst => ?_, fun hst => ?_, ?_⟩⟩
  · refine runs_excStart ha ?_
    rw [State.issueStart_entering (s := s.begin) he, State.finish_src, State.finish_bell]
    exact ⟨rfl, rfl⟩
  · refine runs_excStart ha ?_
    rw [State.issueStart_free (s := s.begin) he hen hst hh hv hd, State.finish_src, State.runStart_src, Tab.get_upd_self]
    obtain ⟨h0, h1⟩ := sourceStarted_ramp (k := k) (c := s.begin.cfg.active) (x := s.begin.src.get k) (now := s.begin.now) rfl
    exact ⟨rfl, rfl, rfl, rfl, h0, h1, fun j hj => Tab.get_upd_other _ _ _ _ hj⟩
  · refine runs_excStart ha ?_
    rw [State.issueStart_bound (s := s.begin) he hen hst hh hv hd ho, State.finish_src, State.finish_bell,
      State.offerExc_src]
    exact ⟨rfl, State.offerExc_offers h none⟩
  · refine runs_excStart ha ?_
    rw [State.issueStart_vexcLow (s := s.begin) he hen hst hh hv, State.finish_src, State.updSrc_get]
    exact ⟨rfl, fun j hj => State.updSrc_other _ _ _ hj⟩
  · refine runs_excStart ha ?_
    rw [State.issueStart_held (s := s.begin) he hen hst hh, State.finish_src, State.finish_bell]
    exact ⟨rfl, rfl⟩
  · refine runs_excStart ha ?_
    rw [State.issueStart_discharging (s := s.begin) he hen hst, State.finish_src, State.updSrc_get]
    exact ⟨rfl, fun j hj => State.updSrc_other _ _ _ hj⟩
  · refine runs_excStart ha ?_
    rw [State.issueStart_active (s := s.begin) he hen hst, State.finish_src]
    rfl
  · refine runs_whenAlive (f := fun s => s.issueStop k) rfl ha ?_
    rw [State.finish_src, State.finish_bell, State.issueStop_get]
    obtain ⟨h0, h1⟩ := sourceStopped_ramp (now := s.begin.now) (x := s.begin.src.get k) hst rfl
    refine ⟨?_, ?_, ?_, ?_, h0, h1, fun f hf => State.issueStop_offers _ _ hf, fun j hj => State.issueStop_other _ _ hj⟩
    all_goals rw [sourceStopped_active (x := s.begin.src.get k) hst]
    rfl
  · refine runs_whenAlive (f := fun s => s.issueStop k) rfl ha ?_
    rw [State.finish_src, State.finish_bell, State.issueStop_get, sourceStopped_idle (x := s.begin.src.get k) hst]
    exact ⟨rfl, fun f hf => State.issueStop_offers _ _ hf, fun j hj => State.issueStop_other _ _ hj⟩
  · refine runs_whenAlive (f := complianceSet k) rfl ha ?_
    have hc : complianceSet k s.begin = s.begin.updSrc k (fun x => { x with compliance := true }) :=
      if_pos (bne_iff_ne.mpr hst)
    rw [hc, State.finish_src, State.updSrc_get]
    exact ⟨rfl, fun j hj => State.updSrc_other _ _ _ hj⟩
  · refine runs_whenAlive (f := fun s => s.updSrc k (fun x => { x with compliance := false })) rfl ha ?_
    rw [State.finish_src, State.updSrc_get]
    exact ⟨rfl, fun j hj => State.updSrc_other _ _ _ hj⟩

-- the ends of the sequences
/-- A current change of an ON source leaves it ON, and the other sources alone (R86). -/
theorem State.issueCurrent_on {s : State} {k : Fin 64} (h : (s.src.get k).st = .on) (i : Nat) :
    ((s.issueCurrent k i).src.get k).st = .on ∧ ((s.issueCurrent k i).src.get k).onFrom = (s.src.get k).onFrom ∧
    ((s.issueCurrent k i).src.get k).latched = (s.src.get k).latched ∧
    ∀ j, j ≠ k → (s.issueCurrent k i).src.get j = s.src.get j := by
  unfold State.issueCurrent
  rw [h]
  dsimp only
  split
  · rw [State.offerExc_src]
    exact ⟨h, rfl, rfl, fun _ _ => rfl⟩
  · rw [State.applyCurrent, if_pos (by rw [h]; rfl),
      show (State.unsettle _ k).src = _ from (keeps_unsettle _ k).same .src (by decide), State.updSrc_get]
    exact ⟨h, rfl, rfl, fun j hj => State.updSrc_other _ _ _ hj⟩

/-- A source at the end of the ramp of its start, before a latched change of current (R86, R87). -/
def State.rampEnded (s : State) (k : Fin 64) : State :=
  (((s.updSrc k (fun y => { y with st := .on, onFrom := s.now, latched := none })).settleAfter k).switchSense).noteSourcesOn

theorem State.rampEnded_src (s : State) (k : Fin 64) :
    (s.rampEnded k).src = s.src.upd k (fun y => { y with st := .on, onFrom := s.now, latched := none }) := by
  rw [State.rampEnded, (keeps_noteSourcesOn _).same .src (by decide), State.switchSense_src,
    show (State.settleAfter _ k).src = _ from (keeps_settleAfter _ k).same .src (by decide)]
  rfl

theorem State.rampEnded_now (s : State) (k : Fin 64) : (s.rampEnded k).now = s.now := by
  rw [State.rampEnded, (keeps_noteSourcesOn _).same .now (by decide), (keeps_switchSense _).same .now (by decide),
    (keeps_settleAfter _ k).same .now (by decide)]
  rfl

theorem excRampComplete_settling {s : State} {k : Fin 64} (h : (s.src.get k).st = .settling) {i : Nat}
    (hi : (s.src.get k).seqAt + rampNs = i) : excRampComplete k s = (s.src.get k).latched.elim
      ((s.reach i).rampEnded k) (fun c => ((s.reach i).rampEnded k).issueCurrent k c) := by
  unfold excRampComplete
  dsimp only
  rw [hi, h]
  cases (s.src.get k).latched <;> simp only [Option.elim, State.rampEnded]

/-- What the end of a start's ramp leaves of the sources, and of the clock (R86, R87). -/
structure RampDone (s t : State) (k : Fin 64) (i : Nat) : Prop where
  now : t.now = Nat.max s.now i
  on : (t.src.get k).st = .on
  since : (t.src.get k).onFrom = t.now
  latched : (t.src.get k).latched = none
  others : ∀ j, j ≠ k → t.src.get j = s.src.get j

theorem rampDone_rampEnded {s : State} (k : Fin 64) (i : Nat) : RampDone s ((s.reach i).rampEnded k) k i := by
  have hn : ((s.reach i).rampEnded k).now = Nat.max s.now i := by rw [State.rampEnded_now, State.reach_now]
  refine ⟨hn, ?_, ?_, ?_, fun j hj => ?_⟩
  · rw [State.rampEnded_src, Tab.get_upd_self]
  · rw [State.rampEnded_src, Tab.get_upd_self, hn, State.reach_now]
  · rw [State.rampEnded_src, Tab.get_upd_self]
  · rw [State.rampEnded_src, Tab.get_upd_other _ _ _ _ hj, State.reach_src]

theorem RampDone.issueCurrent {s t : State} {k : Fin 64} {i : Nat} (h : RampDone s t k i) (c : Nat) :
    RampDone s (t.issueCurrent k c) k i := by
  obtain ⟨h1, h2, h3, h4, h5⟩ := h
  obtain ⟨g1, g2, g3, g4⟩ := State.issueCurrent_on h2 c
  have hn : (t.issueCurrent k c).now = t.now := (keeps_issueCurrent t k c).same .now (by decide)
  refine ⟨hn.trans h1, g1, ?_, g3.trans h4, fun j hj => (g4 j hj).trans (h5 j hj)⟩
  rw [hn, g2, h3]

theorem rampDone_excRampComplete {s : State} {k : Fin 64} (h : (s.src.get k).st = .settling) {i : Nat}
    (hi : (s.src.get k).seqAt + rampNs = i) : RampDone s (excRampComplete k s) k i := by
  rw [excRampComplete_settling h hi]
  cases (s.src.get k).latched with
  | none =>
    rw [Option.elim_none]
    exact rampDone_rampEnded k i
  | some c =>
    rw [Option.elim_some]
    exact (rampDone_rampEnded k i).issueCurrent c

theorem runs_excRampComplete {s : State} {k : Fin 64} (ha : s.alive = true) (h : (s.src.get k).st = .settling) {i : Nat}
    (hi : (s.src.get k).seqAt + rampNs = i) : Runs (.excRampComplete k) s fun t =>
      t.now = Nat.max s.now i ∧ (t.src.get k).st = .on ∧ (t.src.get k).onFrom = t.now ∧
      (t.src.get k).latched = none ∧ ∀ j, j ≠ k → t.src.get j = s.src.get j := by
  refine runs_whenAlive (f := excRampComplete k) rfl ha ?_
  obtain ⟨h1, h2, h3, h4, h5⟩ := rampDone_excRampComplete (s := s.begin) h hi
  rw [State.finish_now, State.finish_src]
  exact ⟨h1, h2, h3, h4, h5⟩

/-- What the end of a stop leaves of the sources, and of the clock (R89, R90). -/
structure StopDone (s t : State) (k : Fin 64) (i : Nat) (incomplete : Bool) : Prop where
  now : t.now = Nat.max s.now i
  off : (t.src.get k).st = .off
  current : (t.src.get k).current = 0
  incomplete : (t.src.get k).dischIncomplete = incomplete
  others : ∀ j, j ≠ k → t.src.get j = s.src.get j

theorem stopDone_endStop {s : State} {k : Fin 64} (hp : (s.src.get k).pending = false) (i : Nat) (b : Bool) :
    StopDone s ((s.reach i).endStop k b) k i b := by
  have he : (s.reach i).endStop k b = (((s.reach i).switchSource ((s.reach i).src.get k).word false).switchDischarge
      ((s.reach i).src.get k).word false).updSrc k (fun x =>
        { x with st := .off, pending := false, base := 0, current := 0, dischIncomplete := b }) := by
    unfold State.endStop
    dsimp only
    rw [if_neg]
    rw [State.reach_src, hp]
    decide
  rw [he]
  constructor
  case now => exact State.reach_now s i
  case others => exact fun j hj => (State.updSrc_other _ _ _ hj).trans (congrArg (fun x => Tab.get x j) (State.reach_src s i))
  all_goals rw [State.updSrc_get]

theorem StopDone.finish {s t : State} {k : Fin 64} {i : Nat} {b : Bool} (h : StopDone s t k i b) :
    t.finish.now = Nat.max s.now i ∧ (t.finish.src.get k).st = .off ∧ (t.finish.src.get k).current = 0 ∧
      (t.finish.src.get k).dischIncomplete = b ∧ ∀ j, j ≠ k → t.finish.src.get j = s.src.get j := by
  obtain ⟨h1, h2, h3, h4, h5⟩ := h
  rw [State.finish_now, State.finish_src]
  exact ⟨h1, h2, h3, h4, h5⟩

section
variable {s : State} {k : Fin 64} (hs : s.serving = true) (h : (s.src.get k).st = .discharging)
  (hp : (s.src.get k).pending = false) {i : Nat}
include hs h hp

theorem runs_excDischargeComplete (hi : (s.src.get k).seqAt + rampNs + us 100 = i) {e : Nat}
    (he : (s.src.get k).seqAt + ms 10 = e) (hle : Nat.max s.now i ≤ e) : Runs (.excDischargeComplete k) s fun t =>
      t.now = Nat.max s.now i ∧ (t.src.get k).st = .off ∧ (t.src.get k).current = 0 ∧
      (t.src.get k).dischIncomplete = false ∧ ∀ j, j ≠ k → t.src.get j = s.src.get j := by
  refine runs_guarded (b := State.serving) (f := excDischargeComplete k) rfl hs ?_
  have hc : excDischargeComplete k s.begin = (s.begin.reach i).endStop k false := by
    have h' : (s.begin.src.get k).st = .discharging := h
    have hi' : (s.begin.src.get k).seqAt + rampNs + us 100 = i := hi
    have he' : (s.begin.src.get k).seqAt + ms 10 = e := he
    unfold excDischargeComplete
    dsimp only
    rw [hi', he', h', State.reach_now, State.begin_now, decide_eq_true hle]
    rfl
  rw [hc]
  exact (stopDone_endStop (s := s.begin) hp i false).finish

theorem runs_excDischargeTimeout (hi : (s.src.get k).seqAt + ms 10 = i) : Runs (.excDischargeTimeout k) s fun t =>
      t.now = Nat.max s.now i ∧ (t.src.get k).st = .off ∧ (t.src.get k).current = 0 ∧
      (t.src.get k).dischIncomplete = true ∧ ∀ j, j ≠ k → t.src.get j = s.src.get j := by
  refine runs_guarded (b := State.serving) (f := excDischargeTimeout k) rfl hs ?_
  have hc : excDischargeTimeout k s.begin = (s.begin.reach i).endStop k true := by
    have h' : (s.begin.src.get k).st = .discharging := h
    have hi' : (s.begin.src.get k).seqAt + ms 10 = i := hi
    unfold excDischargeTimeout
    dsimp only
    rw [hi', h']
    rfl
  rw [hc]
  exact (stopDone_endStop (s := s.begin) hp i true).finish

end

/-- The instants of a discharge lie within its 10 ms (R89, R90). -/
theorem dischargeAt_le {now at_ : Nat} (h : now ≤ at_ + ms 10) : Nat.max now (at_ + rampNs + us 100) ≤ at_ + ms 10 := by
  have h0 : rampNs + us 100 ≤ ms 10 := by decide
  generalize rampNs = a at *
  generalize us 100 = b at *
  generalize ms 10 = c at *
  exact Nat.max_le.mpr ⟨h, by omega⟩

/-- Settles O18. -/
theorem sourceTimers : Obligations.SourceTimers := by
  unfold Obligations.SourceTimers
  refine ⟨fun s k ha h => runs_excRampComplete ha h rfl, fun s k hs h hp hle => ?_,
    fun s k hs h hp => runs_excDischargeTimeout hs h hp rfl, fun s c a b ha hf ht => ?_⟩
  · exact runs_excDischargeComplete hs h hp rfl rfl (dischargeAt_le hle)
  · refine runs_whenAlive (f := unsettledSpanEnd c) rfl ha ?_
    have hc : unsettledSpanEnd c s.begin = (s.begin.reach b).updCh c (fun x =>
        { x with unsetPrev := some (a, b), unsetFrom := none, unsetTo := none }) := by
      have hf' : (s.begin.ch.get c).unsetFrom = some a := hf
      have ht' : (s.begin.ch.get c).unsetTo = some b := ht
      unfold unsettledSpanEnd
      rw [hf', ht']
    rw [hc, State.finish_now, State.finish_ch, State.updCh_now, State.reach_now]
    refine ⟨rfl, ?_, ?_, fun j hj => ?_⟩
    · exact congrArg Channel.unsetFrom (Tab.get_upd_self ..)
    · exact congrArg Channel.unsetPrev (Tab.get_upd_self ..)
    · exact (Tab.get_upd_other _ _ _ _ hj).trans rfl

end Sys2Proof.Machine

/-! SUPPORT. The range of a channel: forced changes, overloads at GAIN_MIN and requests; with them O20 (R114 to R117,
R122). -/

namespace Sys2Proof.Machine

section
variable (s : State) (c : Fin 64)

@[simp] theorem State.updCh_get (f : Channel → Channel) : (s.updCh c f).ch.get c = f (s.ch.get c) := Tab.get_upd_self ..

theorem State.updCh_other {j : Fin 64} (f : Channel → Channel) (h : j ≠ c) :
    (s.updCh c f).ch.get j = s.ch.get j := Tab.get_upd_other _ _ _ _ h

@[simp] theorem State.updCg_get (f : ChGuard → ChGuard) : (s.updCg c f).cg.get c = f (s.cg.get c) := Tab.get_upd_self ..

theorem State.updCg_other {j : Fin 64} (f : ChGuard → ChGuard) (h : j ≠ c) :
    (s.updCg c f).cg.get j = s.cg.get j := Tab.get_upd_other _ _ _ _ h

/-- A channel after a change of its range (R114, R118). -/
def rangeChanged (now : Nat) (g : Nat) (forced : Bool) (x : Channel) : Channel :=
  { x with
    gain := g, pendFiner := false, pendCoarser := false, histFrom := now, peakFrom := now
    forcedAt := if forced then some now else none
    seams := (now, x.gain) :: x.seams.filter (fun e => decide (now ≤ e.1 + ms 100))
    rangeChanges := satInc32 x.rangeChanges
    forcedChanges := if forced then satInc32 x.forcedChanges else x.forcedChanges }

theorem State.changeRange_ch (g : Nat) (forced : Bool) :
    (s.changeRange c g forced).ch = s.ch.upd c (rangeChanged s.now g forced) := rfl

theorem State.changeRange_rung (g : Nat) (forced : Bool) : (s.changeRange c g forced).bell.rung = s.bell.rung := rfl

theorem State.changeRange_offers (g : Nat) (forced : Bool) {f : Offer} (h : f ∈ (s.changeRange c g forced).bell.offers) :
    f ∈ s.bell.offers := (List.mem_filter.mp h).1

theorem State.dropRange_ch :
    (s.dropRange c).ch = s.ch.upd c (fun x => { x with pendFiner := false, pendCoarser := false }) := rfl

theorem State.dropRange_cg : (s.dropRange c).cg = s.cg := rfl
theorem State.changeRange_cg (g : Nat) (forced : Bool) : (s.changeRange c g forced).cg = s.cg := rfl
theorem State.dropRange_now : (s.dropRange c).now = s.now := rfl
theorem State.changeRange_now (g : Nat) (forced : Bool) : (s.changeRange c g forced).now = s.now := rfl

end

-- overloads
/-- The earliest instant of another forced change (R115). -/
theorem forcedFrom_of_some {x : Channel} {a : Nat} (h : x.forcedAt = some a) : forcedFrom x = a + 12800 := by
  rw [forcedFrom, h]
  rfl

theorem forcedFrom_of_none {x : Channel} (h : x.forcedAt = none) : forcedFrom x = 0 := by
  rw [forcedFrom, h]
  rfl

section
variable {s : State} {c : Fin 64} (hm : chMode s.cfg.active c.val ≠ 0)
include hm

theorem overloadForced_above (ha : chAuto s.cfg.active c.val = true) (hg : chGainMin s.cfg.active c.val < (s.ch.get c).gain)
    {i : Nat} (hi : forcedFrom (s.ch.get c) = i) : overloadForced c s =
    (((s.reach i).dropRange c).changeRange c (Nat.max ((s.ch.get c).gain - 2) (chGainMin s.cfg.active c.val)) true).updCg c
      (fun g => { g with voided := g.voided || g.checkRunning }) := by
  unfold overloadForced
  dsimp only
  rw [hi, if_pos]
  simp [hm, ha, hg]

theorem overloadForced_below (hg : (s.ch.get c).gain ≤ chGainMin s.cfg.active c.val) :
    overloadForced c s = s.updCh c (overloadStep s.cfg.active c.val true) := by
  unfold overloadForced
  dsimp only
  rw [if_neg, if_pos (by simp [hm])]
  simp [Nat.not_lt.mpr hg]

end

-- a finer range
theorem rangeFiner_of_due {s : State} {c : Fin 64} (hm : chMode s.cfg.active c.val ≠ 0)
    (ha : chAuto s.cfg.active c.val = true) (hg : (s.ch.get c).gain < chGainMax s.cfg.active c.val)
    (hf : (s.ch.get c).pendFiner = false) (hp : (s.ch.get c).pendCoarser = false) {i : Nat}
    (hi : (s.ch.get c).histFrom + ms 100 = i) : rangeFiner c s = (s.reach i).raiseRange c true := by
  unfold rangeFiner
  dsimp only
  rw [hi, if_pos]
  simp [hm, ha, hg, hf, hp]

/-- A channel with a request for a finer range. -/
def finerAsked (now : Nat) (x : Channel) : Channel := { x with pendFiner := true, pendCoarser := false, pendSince := now }

section
variable {s : State} {c : Fin 64}

/-- A request of a channel of a head is offered to the Bellringer (R116). -/
theorem State.raiseRange_bound {h : Fin 32} (hh : headOfChannel s.cfg.active c.val = some h) :
    s.raiseRange c true = (s.updCh c (finerAsked s.now)).offer { cls := .range, head := h, ch := some c, finer := true
                                                                 span := 8 * samplePeriod s.cfg.active c.val
                                                                 offeredAt := s.now } := by
  unfold State.raiseRange
  rw [hh]
  rfl

/-- A request of a channel of no head is carried out at once, unless a check runs on it (R116, R122). -/
theorem State.raiseRange_free (hh : headOfChannel s.cfg.active c.val = none) : s.raiseRange c true =
    if (s.cg.get c).checkRunning then s.updCh c (finerAsked s.now) else (s.updCh c (finerAsked s.now)).carryRange c := by
  unfold State.raiseRange
  rw [hh]
  rfl

theorem State.carryRange_finer (hf : (s.ch.get c).pendFiner = true) (hp : (s.ch.get c).pendCoarser = false)
    (hg : (s.ch.get c).gain < chGainMax s.cfg.active c.val) :
    s.carryRange c = s.changeRange c ((s.ch.get c).gain + 1) false := by
  unfold State.carryRange State.oneRange
  dsimp only
  rw [hp, hf, if_neg (by decide), if_pos rfl, if_pos rfl, if_pos hg]

theorem State.raiseRange_carried (hh : headOfChannel s.cfg.active c.val = none) (hr : (s.cg.get c).checkRunning = false)
    (hg : (s.ch.get c).gain < chGainMax s.cfg.active c.val) :
    s.raiseRange c true = (s.updCh c (finerAsked s.now)).changeRange c ((s.ch.get c).gain + 1) false := by
  rw [State.raiseRange_free hh, hr, if_neg (by decide), State.carryRange_finer, State.updCh_get]
  · rfl
  · rw [State.updCh_get]
    rfl
  · rw [State.updCh_get]
    rfl
  · rw [State.updCh_get]
    exact hg

theorem State.oneRange_other (s : State) (c : Fin 64) (finer : Bool) {j : Fin 64} (h : j ≠ c) :
    (s.oneRange c finer).ch.get j = s.ch.get j := by
  have hc (g : Nat) : (s.changeRange c g false).ch.get j = s.ch.get j := by
    rw [State.changeRange_ch, Tab.get_upd_other _ _ _ _ h]
  unfold State.oneRange
  dsimp only
  split <;> split
  · exact hc _
  · rfl
  · exact hc _
  · rfl

theorem State.carryRange_other (s : State) (c : Fin 64) {j : Fin 64} (h : j ≠ c) :
    (s.carryRange c).ch.get j = s.ch.get j := by
  unfold State.carryRange
  dsimp only
  split
  · exact s.oneRange_other c false h
  · split
    · exact s.oneRange_other c true h
    · rfl

theorem State.raiseRange_other (finer : Bool) {j : Fin 64} (h : j ≠ c) :
    (s.raiseRange c finer).ch.get j = s.ch.get j := by
  unfold State.raiseRange
  dsimp only
  split
  · exact State.updCh_other _ _ _ h
  · split
    · exact State.updCh_other _ _ _ h
    · rw [State.carryRange_other _ _ h, State.updCh_other _ _ _ h]

theorem runs_rangeFiner (hal : s.alive = true) (hm : chMode s.cfg.active c.val ≠ 0)
    (ha : chAuto s.cfg.active c.val = true) (hg : (s.ch.get c).gain < chGainMax s.cfg.active c.val)
    (hf : (s.ch.get c).pendFiner = false) (hp : (s.ch.get c).pendCoarser = false) {i : Nat}
    (hi : (s.ch.get c).histFrom + ms 100 = i) : Runs (.rangeFinerRequest c) s fun t =>
      t.now = Nat.max s.now i ∧
      (headOfChannel s.cfg.active c.val = none → (s.cg.get c).checkRunning = false →
        (t.ch.get c).gain = (s.ch.get c).gain + 1 ∧ t.bell.rung = s.bell.rung ∧ ∀ f ∈ t.bell.offers, f ∈ s.bell.offers) ∧
      (∀ h, headOfChannel s.cfg.active c.val = some h → (t.ch.get c).gain = (s.ch.get c).gain ∧
        (t.ch.get c).pendFiner = true ∧ ∃ f ∈ t.bell.offers, f.cls = .range ∧ f.head = h ∧ f.ch = some c) ∧
      ∀ j, j ≠ c → t.ch.get j = s.ch.get j := by
  refine runs_whenAlive (f := rangeFiner c) rfl hal ?_
  rw [rangeFiner_of_due (s := s.begin) hm ha hg hf hp hi, State.finish_now, State.finish_ch, State.finish_bell]
  generalize hu : s.begin.reach i = u
  have hnow : u.now = Nat.max s.now i := by rw [← hu, State.reach_now, State.begin_now]
  have hcfg : u.cfg = s.cfg := by rw [← hu, State.reach_cfg, State.begin_cfg]
  have hch : u.ch = s.ch := by rw [← hu, State.reach_ch, State.begin_ch]
  have hcg : u.cg = s.cg := by rw [← hu, State.reach_cg, State.begin_cg]
  have hbell : u.bell = s.bell := by rw [← hu, State.reach_bell, State.begin_bell]
  refine ⟨?_, fun hh hr => ?_, fun h hh => ?_, fun j hj => ?_⟩
  · rw [(keeps_raiseRange u c true).same .now (by decide), hnow]
  · rw [State.raiseRange_carried (s := u) (by rw [hcfg, hh]) (by rw [hcg, hr]) (by rw [hch, hcfg]; exact hg),
      State.changeRange_ch, Tab.get_upd_self, State.changeRange_rung, hch]
    refine ⟨rfl, congrArg Bell.rung hbell, fun f hf => ?_⟩
    have hf' := State.changeRange_offers _ _ _ _ hf
    rw [State.updCh_bell, hbell] at hf'
    exact hf'
  · rw [State.raiseRange_bound (s := u) (by rw [hcfg, hh])]
    have hget : ((u.updCh c (finerAsked u.now)).ch.get c) = finerAsked u.now (s.ch.get c) := by rw [State.updCh_get, hch]
    refine ⟨(congrArg Channel.gain hget :), (congrArg Channel.pendFiner hget :), _, List.mem_append_right _ List.mem_cons_self, rfl,
      rfl, rfl⟩
  · rw [State.raiseRange_other true hj, hch]

end

/-- Settles O20. -/
theorem rangeChanges : Obligations.RangeChanges := by
  unfold Obligations.RangeChanges
  refine fun s c hal hm ha => ⟨fun hg => ?_, fun hg => ?_, fun hg hf hp => runs_rangeFiner hal hm ha hg hf hp rfl⟩
  · refine runs_whenAlive (f := overloadForced c) rfl hal ?_
    generalize hi : forcedFrom (s.ch.get c) = i
    rw [overloadForced_above (s := s.begin) hm ha hg hi, State.finish_now, State.finish_ch, State.finish_cg, State.updCg_now,
      State.updCg_ch, State.changeRange_now, State.changeRange_ch, State.dropRange_now, State.dropRange_ch, State.reach_ch,
      State.reach_now, Tab.get_upd_self, Tab.get_upd_self, State.updCg_get, State.changeRange_cg, State.dropRange_cg,
      State.reach_cg]
    refine ⟨fun a h => ?_, fun h => ?_, rfl, rfl, rfl, rfl, rfl, rfl, rfl, fun h => ?_, fun j hj => ?_⟩
    · rw [← hi, forcedFrom_of_some h]
      rfl
    · rw [← hi, forcedFrom_of_none h]
      exact Nat.max_eq_left (Nat.zero_le _)
    · exact Bool.or_eq_true_iff.mpr (.inr h)
    · rw [Tab.get_upd_other _ _ _ _ hj, Tab.get_upd_other _ _ _ _ hj]
      rfl
  · refine runs_whenAlive (f := overloadForced c) rfl hal ?_
    have hfix : rangeFixed s.cfg.active c.val (s.ch.get c) = true := by simp [rangeFixed, hg]
    rw [overloadForced_below (s := s.begin) hm hg, State.finish_ch, State.updCh_get]
    refine ⟨rfl, rfl, ?_, fun j hj => State.updCh_other _ _ _ hj⟩
    change (if true && !(s.ch.get c).overCounted && rangeFixed s.cfg.active c.val (s.ch.get c) then _ else _) = _
    rw [hfix]
    cases (s.ch.get c).overCounted <;> rfl

end Sys2Proof.Machine

/-! SUPPORT. The causes of a head, its disturbance and its rebases; with them O21 and O22 (R168, R171, R172, R181, R184, R190
to R192, R201, R249). -/

namespace Sys2Proof.Machine

-- one head
section
variable (s : State) (h : Fin 32)

@[simp] theorem State.updHead_get (f : Head → Head) : (s.updHead h f).head.get h = f (s.head.get h) := Tab.get_upd_self ..

theorem State.updHead_other {j : Fin 32} (f : Head → Head) (hj : j ≠ h) :
    (s.updHead h f).head.get j = s.head.get j := Tab.get_upd_other _ _ _ _ hj

@[simp] theorem State.noteHead_head : (s.noteHead h).head = s.head := (keeps_noteHead s h).same .head (by decide)
@[simp] theorem State.noteHead_hg : (s.noteHead h).hg = s.hg := (keeps_noteHead s h).same .hg (by decide)
@[simp] theorem State.noteHead_now : (s.noteHead h).now = s.now := (keeps_noteHead s h).same .now (by decide)
@[simp] theorem State.closeGroup_head : (s.closeGroup h).head = s.head := (keeps_closeGroup s h).same .head (by decide)

/-- A head's disturbance rests on its guard state and on its own causes (R190). -/
theorem headDisturbed_congr {s t : State} {h : Fin 32} (hc : t.cfg = s.cfg) (hg : t.hg = s.hg) (hh : t.head = s.head) :
    headDisturbed t h = headDisturbed s h := by
  simp only [headDisturbed, guardDisturbed, hc, hg, hh]

end

/-- What the end of the traversals of a head leaves of it. -/
structure BreaksOnly (x y : Head) : Prop where
  causes : y.causes = x.causes
  claimTie : y.claimTie = x.claimTie
  slots : ∀ i, x.slots.get i = none → y.slots.get i = none

theorem BreaksOnly.refl (x : Head) : BreaksOnly x x := ⟨rfl, rfl, fun _ => id⟩

theorem BreaksOnly.trans {x y z : Head} (h : BreaksOnly x y) (g : BreaksOnly y z) : BreaksOnly x z :=
  ⟨g.causes.trans h.causes, g.claimTie.trans h.claimTie, fun i hi => g.slots i (h.slots i hi)⟩

theorem breaksOnly_tryCapture (c : CfgMap) (h : Nat) (l : List CaptureSample) (hd : Head) :
    BreaksOnly hd (hd.tryCapture c h l) := by
  unfold Head.tryCapture
  split
  · dsimp only
    split
    · exact ⟨rfl, rfl, fun _ => id⟩
    · exact .refl hd
  · exact .refl hd

/-- A slot that is open is open after it is written. -/
theorem breaksOnly_putSlot {hd : Head} {i : Fin 2} {sl sl' : Slot} (h : hd.slots.get i = some sl) :
    BreaksOnly hd { hd with slots := hd.slots.put i (some sl') } := by
  refine ⟨rfl, rfl, fun j hj => ?_⟩
  by_cases e : j = i
  · subst e
    rw [h] at hj
    cases hj
  · exact (Tab.get_put_other _ _ _ _ e).trans hj

theorem breaksOnly_endCapture (c : CfgMap) (h : Nat) (i : Fin 2) (void : Bool) (hd : Head) :
    BreaksOnly hd (hd.endCapture c h i void) := by
  unfold Head.endCapture
  split
  next hs =>
    dsimp only
    split
    · exact breaksOnly_putSlot hs
    · exact (breaksOnly_putSlot hs).trans (breaksOnly_tryCapture ..)
  · exact .refl hd

theorem breaksOnly_emit (hd : Head) (v : VerdictRec) : BreaksOnly hd (hd.emit v) := ⟨rfl, rfl, fun _ => id⟩

theorem breaksOnly_breakSlot (x : WreCtx) (grid : Nat) (i : Fin 2) (hd : Head) : BreaksOnly hd (breakSlot x grid i hd) := by
  unfold breakSlot
  split
  · exact .refl hd
  next hs =>
    split
    · exact .refl hd
    · exact (breaksOnly_putSlot hs).trans ((breaksOnly_emit _ _).trans (breaksOnly_endCapture ..))

-- disturbance
section
variable (s : State) (h : Fin 32)

theorem breaksOnly_breakHead : BreaksOnly (s.head.get h) ((s.breakHead h).head.get h) := by
  unfold State.breakHead
  dsimp only
  rw [State.closeGroup_head, State.draw_head, State.draw_head, State.updHead_get]
  exact (breaksOnly_breakSlot ..).trans (breaksOnly_breakSlot ..)

theorem State.breakHead_other {j : Fin 32} (hj : j ≠ h) : (s.breakHead h).head.get j = s.head.get j := by
  unfold State.breakHead
  dsimp only
  rw [State.closeGroup_head, State.draw_head, State.draw_head, State.updHead_other _ _ _ hj]

theorem State.settleHead_other {j : Fin 32} (hj : j ≠ h) : (s.settleHead h).head.get j = s.head.get j :=
  State.updHead_other _ _ _ hj

/-- A head without an open slot settles with the causes that it has (R181). -/
theorem State.settleHead_causes (hs : anySlot (s.head.get h) = false) :
    ((s.settleHead h).head.get h).causes = (s.head.get h).causes ∧
      ((s.settleHead h).head.get h).claimTie = (s.head.get h).claimTie := by
  unfold State.settleHead
  dsimp only
  rw [State.updHead_get, hs]
  exact ⟨rfl, rfl⟩

section
variable {s h} {f : State → State}

/-- A change after which the head is disturbed at most ends its traversals. -/
theorem withDist_disturbed (hd : headDisturbed (f s) h = true) :
    BreaksOnly ((f s).head.get h) ((s.withDist h f).head.get h) := by
  have hn : headDisturbed ((f s).noteHead h) h = true :=
    (headDisturbed_congr ((keeps_noteHead _ h).same .cfg (by decide)) (by simp) (by simp)).trans hd
  have hh : ((f s).noteHead h).head = (f s).head := State.noteHead_head ..
  unfold State.withDist
  dsimp only
  rw [hn]
  split
  · rw [← hh]
    exact breaksOnly_breakHead ..
  · rw [if_neg (by simp), hh]
    exact .refl _

theorem withDist_other {j : Fin 32} (hj : j ≠ h) (hf : (f s).head.get j = s.head.get j) :
    (s.withDist h f).head.get j = s.head.get j := by
  unfold State.withDist
  dsimp only
  split
  · rw [State.breakHead_other _ _ hj, State.noteHead_head, hf]
  · split
    · rw [State.noteHead_head, State.settleHead_other _ _ hj, State.noteHead_head, hf]
    · rw [State.noteHead_head, hf]

end

/-- A raised cause stands, and slots that are closed stay so (R190, R191). -/
theorem raiseWre_head {f : WreCauses → WreCauses} (hf : ∀ k, anyCause (f k) = true) :
    ((s.raiseWre h f).head.get h).causes = f (s.head.get h).causes ∧
      ∀ i, (s.head.get h).slots.get i = none → ((s.raiseWre h f).head.get h).slots.get i = none := by
  obtain ⟨hc, -, hs⟩ := withDist_disturbed (s := s) (h := h) (f := fun s => s.updHead h (fun hd =>
    let k := f hd.causes
    { hd with causes := k, raised := hd.raised || k != hd.causes })) (by simp [headDisturbed, wreDisturbed, hf])
  rw [State.updHead_get] at hc hs
  exact ⟨hc, hs⟩

theorem State.raiseWre_other (f : WreCauses → WreCauses) {j : Fin 32} (hj : j ≠ h) :
    (s.raiseWre h f).head.get j = s.head.get j :=
  withDist_other hj (State.updHead_other _ _ _ hj)

end

-- the rows
section
variable {s : State} {h : Fin 32}

theorem anyCause_fitLost (k : WreCauses) : anyCause { k with fitLost := true } = true := by simp [anyCause]
theorem anyCause_overspeed (k : WreCauses) : anyCause { k with overspeed := true } = true := by simp [anyCause]

/-- A slot's head before FIT_LOST is judged (R171). -/
def State.slotClosed (s : State) (h : Fin 32) (i : Fin 2) (sl : Slot) : State :=
  ((s.updHead h (fun x => breakSlot (wreCtx s h false false s.now s.now 0) (gridOf s.power.bootAt s.now) i x)).draw.noteClosed
    h i sl).updHead h (fun x => { x with
      slots := x.slots.put i none, third := false
      closed := x.closed.put i (sl.trig.map (fun t => (t, sl.s))) })

theorem slotClose_of_done {i : Fin 2} {sl : Slot} (hs : (s.head.get h).slots.get i = some sl)
    (hd : slotDone s.cfg.active h.val (s.head.get h).lastKnownAt sl = true) : slotClose h i s =
      if regionIn sl.region then (s.slotClosed h i sl).raiseWre h (fun w => { w with fitLost := true })
      else s.slotClosed h i sl := by
  unfold slotClose
  dsimp only
  rw [hs]
  dsimp only
  rw [hd, if_pos rfl]
  rfl

theorem State.slotClosed_slots (i : Fin 2) (sl : Slot) : ((s.slotClosed h i sl).head.get h).slots.get i = none := by
  rw [State.slotClosed, State.updHead_get]
  exact Tab.get_put_self ..

theorem State.slotClosed_other (i : Fin 2) (sl : Slot) {j : Fin 32} (hj : j ≠ h) :
    (s.slotClosed h i sl).head.get j = s.head.get j := by
  rw [State.slotClosed, State.updHead_other _ _ _ hj,
    show (State.noteClosed _ h i sl).head = _ from (keeps_noteClosed ..).same .head (by decide), State.draw_head,
    State.updHead_other _ _ _ hj]

theorem slotClose_head {i : Fin 2} {sl : Slot} (hs : (s.head.get h).slots.get i = some sl)
    (hd : slotDone s.cfg.active h.val (s.head.get h).lastKnownAt sl = true) :
    ((slotClose h i s).head.get h).slots.get i = none ∧
      (regionIn sl.region = true → ((slotClose h i s).head.get h).causes.fitLost = true) ∧
      ∀ j, j ≠ h → (slotClose h i s).head.get j = s.head.get j := by
  rw [slotClose_of_done hs hd]
  cases hr : regionIn sl.region with
  | true =>
    rw [if_pos rfl]
    obtain ⟨hc, hn⟩ := raiseWre_head (s.slotClosed h i sl) h anyCause_fitLost
    refine ⟨hn i (State.slotClosed_slots i sl), fun _ => by rw [hc], fun j hj => ?_⟩
    rw [State.raiseWre_other _ _ _ hj, State.slotClosed_other i sl hj]
  | false =>
    rw [if_neg (by decide)]
    exact ⟨State.slotClosed_slots i sl, fun h => (nomatch h), fun j hj => State.slotClosed_other i sl hj⟩

theorem fitLost_of_due (hd : (∃ (i : Fin 2) (sl : Slot), (s.head.get h).slots.get i = some sl ∧ ms 1 ≤ sl.residRun) ∨
    (s.head.get h).third = true) : fitLost h s = s.raiseWre h (fun w => { w with fitLost := true }) := by
  unfold fitLost
  dsimp only
  refine if_pos ?_
  rcases hd with ⟨i, sl, hs, hr⟩ | hd
  · rw [Bool.or_eq_true, List.any_eq_true]
    refine .inl ⟨i, List.mem_finRange i, ?_⟩
    rw [hs]
    exact decide_eq_true hr
  · rw [hd, Bool.or_true]

theorem overspeed_of_due {i : Fin 2} {sl : Slot} (hs : (s.head.get h).slots.get i = some sl) (hr : ms 1 ≤ sl.speedRun) :
    overspeed h i s = s.raiseWre h (fun w => { w with overspeed := true }) := by
  unfold overspeed
  rw [hs]
  exact if_pos hr

theorem wreCauseClear_of_quiet {q i : Nat} (hq : (s.head.get h).quietFrom = some q)
    (hd : wreDisturbed (s.head.get h) = true) (hs : anySlot (s.head.get h) = false) (hi : q + sec 1 = i) :
    wreCauseClear h s =
      (s.reach i).withDist h (fun s => s.updHead h (fun x => { x with causes := {}, claimTie := false })) := by
  unfold wreCauseClear
  dsimp only
  rw [hq]
  dsimp only
  rw [hi, hd, hs]
  rfl

/-- The causes of a head without an open slot are cleared (R190, R249). -/
theorem withDist_cleared (hd : wreDisturbed (s.head.get h) = true) (hs : anySlot (s.head.get h) = false) :
    ((s.withDist h (fun s => s.updHead h (fun x => { x with causes := {}, claimTie := false }))).head.get h).causes = {} ∧
    ((s.withDist h (fun s => s.updHead h (fun x => { x with causes := {}, claimTie := false }))).head.get h).claimTie
      = false := by
  have hb : headDisturbed s h = true := by rw [headDisturbed, hd, Bool.or_true]
  have hset := State.settleHead_causes
    ((s.updHead h (fun x => { x with causes := {}, claimTie := false })).noteHead h) h
      (by rw [State.noteHead_head, State.updHead_get]; exact hs)
  rw [State.noteHead_head, State.updHead_get] at hset
  unfold State.withDist
  dsimp only
  rw [hb, Bool.not_true, Bool.and_false, if_neg Bool.false_ne_true]
  split
  · rw [State.noteHead_head]
    exact hset
  · rw [State.noteHead_head, State.updHead_get]
    exact ⟨rfl, rfl⟩

theorem keeps_withDist_now (f : State → State) (hf : (f s).now = s.now) : (s.withDist h f).now = s.now := by
  unfold State.withDist
  dsimp only
  split
  · rw [(keeps_breakHead _ h).same .now (by decide), State.noteHead_now, hf]
  · split
    · rw [State.noteHead_now, (keeps_settleHead _ h).same .now (by decide), State.noteHead_now, hf]
    · rw [State.noteHead_now, hf]

theorem runs_wreCauseClear (ha : s.alive = true) {q i : Nat} (hq : (s.head.get h).quietFrom = some q)
    (hd : wreDisturbed (s.head.get h) = true) (hs : anySlot (s.head.get h) = false) (hi : q + sec 1 = i) :
    Runs (.wreCauseClear h) s fun t => t.now = Nat.max s.now i ∧ (t.head.get h).causes = {} ∧
        (t.head.get h).claimTie = false ∧ ∀ j, j ≠ h → t.head.get j = s.head.get j := by
  refine runs_whenAlive (f := wreCauseClear h) rfl ha ?_
  rw [wreCauseClear_of_quiet (s := s.begin) hq hd hs hi, State.finish_now, State.finish_head]
  generalize hu : s.begin.reach i = u
  have hnow : u.now = Nat.max s.now i := by rw [← hu, State.reach_now, State.begin_now]
  have hhead : u.head = s.head := by rw [← hu, State.reach_head, State.begin_head]
  obtain ⟨h1, h2⟩ := withDist_cleared (s := u) (h := h) (by rw [hhead, hd]) (by rw [hhead, hs])
  refine ⟨(keeps_withDist_now _ rfl).trans hnow, h1, h2, fun j hj => ?_⟩
  rw [withDist_other hj (State.updHead_other _ _ _ hj), hhead]

end

/-- Settles O21. -/
theorem wheelRecognition : Obligations.WheelRecognition := by
  unfold Obligations.WheelRecognition
  refine fun s h ha => ⟨fun i sl hs hd => ?_, fun hd => ?_, fun i sl hs hr => ?_,
    fun q hq hd hs => runs_wreCauseClear ha hq hd hs rfl⟩
  · refine runs_whenAlive (f := slotClose h i) rfl ha ?_
    rw [State.finish_head]
    exact slotClose_head (s := s.begin) hs hd
  · refine runs_whenAlive (f := fitLost h) rfl ha ?_
    rw [fitLost_of_due (s := s.begin) hd, State.finish_head, (raiseWre_head s.begin h anyCause_fitLost).1]
    exact ⟨rfl, fun j hj => State.raiseWre_other _ _ _ hj⟩
  · refine runs_whenAlive (f := overspeed h i) rfl ha ?_
    rw [overspeed_of_due (s := s.begin) hs hr, State.finish_head, (raiseWre_head s.begin h anyCause_overspeed).1]
    exact ⟨rfl, fun j hj => State.raiseWre_other _ _ _ hj⟩

-- rebases and capture
section
variable {s : State} {h : Fin 32}

theorem State.reach_self : s.reach s.now = s := by
  unfold State.reach
  rw [if_neg (Nat.lt_irrefl _)]

/-- Free time that has passed already is reached at once (R192). -/
theorem State.reachFree_of_le {total : Nat} (ht : total ≤ freeTotal s h) : s.reachFree h total = s := by
  unfold State.reachFree
  rw [Nat.sub_eq_zero_of_le ht, Nat.add_zero, State.reach_self, ite_self]

theorem rebaseRequest_of_due (hd : headDefined s.cfg.active h.val = true) (hp : offerPending s .rebase h = false)
    (hs : ∀ p ∈ s.bell.spans, p.cls ≠ .rebase ∨ p.own ≠ h ∨ p.active = false) {due : Nat}
    (hi : (s.head.get h).rebaseMark + sec 1 = due) (hf : due ≤ freeTotal s h) : rebaseRequest h s =
      s.offer { cls := .rebase, head := h, ch := (countingOfHead s.cfg.active h.val).head?
                span := rebaseNs, offeredAt := s.now } := by
  have hn : s.bell.spans.any (fun p => p.cls == .rebase && p.own == h && p.active) = false := by
    rw [List.any_eq_false]
    intro p hp
    have := hs p hp
    simp only [Bool.and_eq_true, beq_iff_eq]
    grind
  unfold rebaseRequest
  dsimp only
  rw [hi, State.reachFree_of_le hf, if_pos hf, State.requestRebase, hd, hp, hn]
  rfl

theorem rebaseComplete_eq {r : RebaseAcc} {i : Nat} (hr : (s.head.get h).rebase = some r) (hi : r.startAt + ms 20 = i) :
    (rebaseComplete h s).now = Nat.max s.now i ∧ ((rebaseComplete h s).head.get h).rebase = none ∧
      ((rebaseComplete h s).head.get h).base = rebased s.cfg.active h.val r (s.head.get h).base ∧
      (∀ p ∈ (rebaseComplete h s).bell.spans, p.cls ≠ .rebase ∨ p.own ≠ h) ∧
      ∀ j, j ≠ h → (rebaseComplete h s).head.get j = s.head.get j := by
  unfold rebaseComplete
  rw [hr]
  dsimp only
  rw [rebaseNs, hi]
  generalize hu : s.reach i = u
  have hnow : u.now = Nat.max s.now i := by rw [← hu, State.reach_now]
  have hhead : u.head = s.head := by rw [← hu, State.reach_head]
  have hcfg : u.cfg = s.cfg := by rw [← hu, State.reach_cfg]
  refine ⟨hnow, ?_, ?_, fun p hp => ?_, fun j hj => ?_⟩
  · rw [State.updHead_get]
  · rw [State.updHead_get, hhead, hcfg]
  · have := (List.mem_filter.mp hp).2
    simp only [Bool.not_eq_true', Bool.and_eq_false_iff, beq_eq_false_iff_ne] at this
    exact this
  · exact (State.updHead_other _ _ _ hj).trans (by rw [hhead])

theorem objInfo_head (h : Fin 32) (sub : Nat) : objInfo (0x2100 + h.val) sub = if sub > 0xFF then none else headInfo sub := by
  have hn := h.isLt
  have h1 : ¬ 0x2100 + h.val < 0x2000 := by omega
  have h2 : ¬ 0x2100 + h.val = 0x2000 := by omega
  have h3 : within (0x2100 + h.val) 0x2100 0x211F = true := by simp [within]; omega
  simp [objInfo, h1, h2, h3]

theorem captureCmd_object (h : Fin 32) : LiveObject (0x2100 + h.val) 0x13 1 .commission .command false :=
  ⟨by omega, .inr rfl, by rw [objInfo_head]; rfl⟩

theorem State.liveWrite_head (s : State) (o : Origin) (h : Fin 32) (v : Nat) (data : List Byte) :
    s.liveWrite o (0x2100 + h.val) 0x13 v data = captureArm h v s := by
  have hn := h.isLt
  have h1 : ¬ 0x2100 + h.val = 0x1003 := by omega
  have h2 : ¬ 0x2100 + h.val = 0x2000 := by omega
  have h3 : within (0x2100 + h.val) 0x2100 0x211F = true := by simp [within]; omega
  have h4 : 0x2100 + h.val - 0x2100 = h.val := by omega
  unfold State.liveWrite
  rw [if_neg h1, if_neg (fun h => h2 h.1), if_pos h3, h4, finOf?, dif_pos hn]
  rfl

theorem runs_rebaseComplete (ha : s.alive = true) {r : RebaseAcc} {i : Nat} (hr : (s.head.get h).rebase = some r)
    (hi : r.startAt + ms 20 = i) :
    Runs (.rebaseComplete h) s fun t => t.now = Nat.max s.now i ∧ (t.head.get h).rebase = none ∧
      (t.head.get h).base = rebased s.cfg.active h.val r (s.head.get h).base ∧
      (∀ p ∈ t.bell.spans, p.cls ≠ .rebase ∨ p.own ≠ h) ∧ ∀ j, j ≠ h → t.head.get j = s.head.get j := by
  refine runs_whenAlive (f := rebaseComplete h) rfl ha ?_
  rw [State.finish_now, State.finish_head, State.finish_bell]
  exact rebaseComplete_eq (s := s.begin) hr hi

end

/-- Settles O22. -/
theorem rebases : Obligations.Rebases := by
  unfold Obligations.Rebases
  refine ⟨fun s h ha hd hp hs hf => ?_, fun s h r ha hr => runs_rebaseComplete ha hr rfl, fun s o h k x ha => ?_⟩
  · refine runs_whenAlive (f := rebaseRequest h) rfl ha ?_
    rw [rebaseRequest_of_due (s := s.begin) hd hp hs rfl hf, State.finish_bell, State.finish_now]
    exact ⟨_, rfl, rfl, rfl, rfl, rfl⟩
  · refine ha.runs_number rfl rfl (captureCmd_object h) (by decide) ?_ (by simp [stateRefused]) ?_
    · exact (show ∀ i : Fin 32, valueRefused (0x2100 + i.val) 0x13 1 = false by decide) h
    · rw [State.liveWrite_head]
      refine ⟨taken_of_keeps ha.holds (keeps_captureArm ..) (by decide), ?_⟩
      rw [State.finish_head, captureArm, if_pos rfl, State.updHead_get]
      exact ⟨rfl, rfl, fun j hj => State.updHead_other _ _ _ hj⟩

end Sys2Proof.Machine

/-! SUPPORT. The causes, the requests and the ends of the guard's checks; with them O23 and O24 (R134, R136, R137, R142, R144 to
R146, R148, R149, R159). -/

namespace Sys2Proof.Machine

-- steps over a list
/-- A fold meets the turn of a member, and what that turn gives stays. -/
theorem foldl_reaches {σ α : Type} {g : σ → α → σ} (R Q : σ → Prop) (hR : ∀ t a, R t → R (g t a)) {i : α}
    (hQ : ∀ t, R t → Q (g t i)) (hk : ∀ t a, R t → Q t → Q (g t a)) :
    ∀ (l : List α) (s : σ), R s → i ∈ l → Q (l.foldl g s) := by
  have stays : ∀ (l : List α) (s : σ), R s → Q s → Q (l.foldl g s) := by
    intro l
    induction l with
    | nil => exact fun _ _ hq => hq
    | cons a l ih => exact fun s hs hq => ih _ (hR s a hs) (hk s a hs hq)
  intro l
  induction l with
  | nil => exact fun _ _ hi => (nomatch hi)
  | cons a l ih =>
    intro s hs hi
    rcases List.mem_cons.mp hi with rfl | hi
    · exact stays l _ (hR s _ hs) (hQ s hs)
    · exact ih _ (hR s a hs) hi

/-- What no step over the list changes is as before. -/
theorem foldl_same {σ α β : Type} {g : σ → α → σ} (v : σ → β) :
    ∀ (l : List α) (s : σ), (∀ t, ∀ a ∈ l, v (g t a) = v t) → v (l.foldl g s) = v s := by
  intro l
  induction l with
  | nil => exact fun _ _ => rfl
  | cons a l ih =>
    intro s h
    rw [List.foldl_cons, ih _ fun t b hb => h t b (List.mem_cons_of_mem _ hb), h s a List.mem_cons_self]

-- the guard of one head
section
variable (s : State) (h : Fin 32)

@[simp] theorem State.updHg_get (f : HeadGuard → HeadGuard) : (s.updHg h f).hg.get h = f (s.hg.get h) := Tab.get_upd_self ..

theorem State.updHg_other {j : Fin 32} (f : HeadGuard → HeadGuard) (hj : j ≠ h) :
    (s.updHg h f).hg.get j = s.hg.get j := Tab.get_upd_other _ _ _ _ hj

@[simp] theorem State.withDist_hg (f : State → State) : (s.withDist h f).hg = (f s).hg := by
  unfold State.withDist
  dsimp only
  split
  · rw [(keeps_breakHead _ h).same .hg (by decide), State.noteHead_hg]
  · split
    · rw [State.noteHead_hg, (keeps_settleHead _ h).same .hg (by decide), State.noteHead_hg]
    · rw [State.noteHead_hg]

theorem State.setGuard_gs (g : GState) : ((s.setGuard h g).hg.get h).gs = g := by
  unfold State.setGuard
  rw [State.withDist_hg, State.updHg_get]

theorem State.setGuard_get (g : GState) : (s.setGuard h g).hg.get h =
    { s.hg.get h with gs := g, raised := (s.hg.get h).raised || (g != (s.hg.get h).gs && g != .inService) } := by
  unfold State.setGuard
  rw [State.withDist_hg, State.updHg_get]

theorem State.setGuard_other (g : GState) {j : Fin 32} (hj : j ≠ h) : (s.setGuard h g).hg.get j = s.hg.get j := by
  unfold State.setGuard
  rw [State.withDist_hg, State.updHg_other _ _ _ hj]

@[simp] theorem State.setGuard_cg (g : GState) : (s.setGuard h g).cg = s.cg := (keeps_setGuard s h g).same .cg (by decide)
@[simp] theorem State.setGuard_cfg (g : GState) : (s.setGuard h g).cfg = s.cfg :=
  (keeps_setGuard s h g).same .cfg (by decide)
@[simp] theorem State.setGuard_bell (g : GState) : (s.setGuard h g).bell = s.bell :=
  (keeps_setGuard s h g).same .bell (by decide)
@[simp] theorem State.setGuard_now (g : GState) : (s.setGuard h g).now = s.now :=
  (keeps_setGuard s h g).same .now (by decide)
@[simp] theorem State.requestCheck_hg : (s.requestCheck h).hg = s.hg := (keeps_requestCheck s h).same .hg (by decide)
@[simp] theorem State.requestCheck_cg : (s.requestCheck h).cg = s.cg := (keeps_requestCheck s h).same .cg (by decide)
@[simp] theorem State.requestCheck_cfg : (s.requestCheck h).cfg = s.cfg := (keeps_requestCheck s h).same .cfg (by decide)

/-- A head that may be checked asks for its check (R146). -/
theorem State.requestCheck_of (hd : headDefined s.cfg.active h.val = true) (hg : (s.hg.get h).gs ≠ .disturbed)
    (hp : offerPending s .check h = false) : s.requestCheck h =
      s.offer { cls := .check, head := h, ch := (chansOf s.cfg.active h.val).head?
                span := headCheckSpan s.cfg.active h.val, offeredAt := s.now } := by
  unfold State.requestCheck
  dsimp only
  rw [hd, hp, beq_eq_false_iff_ne.mpr hg]
  rfl

/-- No request adds a span. -/
theorem State.requestCheck_spans : (s.requestCheck h).bell.spans = s.bell.spans := by
  unfold State.requestCheck
  dsimp only
  split <;> rfl

end

/-- LOAD_FAULT is no part of the guard state (R151). -/
theorem State.judgeLoads_gs (s : State) (ch : Fin 64) (h : Fin 32) :
    ((s.judgeLoads ch).hg.get h).gs = (s.hg.get h).gs := by
  unfold State.judgeLoads
  refine foldl_same (fun u => (u.hg.get h).gs) _ s fun t a _ => ?_
  split
  · unfold State.judgeLoad
    dsimp only
    by_cases e : h = a
    · subst e
      rw [State.updHg_get]
    · rw [State.updHg_other _ _ _ e]
  · rfl

section
variable (s : State) (ch : Fin 64)

@[simp] theorem State.judgeLoads_cg : (s.judgeLoads ch).cg = s.cg := (keeps_judgeLoads s ch).same .cg (by decide)
@[simp] theorem State.judgeLoads_cfg : (s.judgeLoads ch).cfg = s.cfg := (keeps_judgeLoads s ch).same .cfg (by decide)

/-- A raised cause disturbs every head on which its channel counts (R149). -/
theorem State.causeRaised_gs {h : Fin 32} (hc : countingOf s.cfg.active h.val ch.val = true) :
    ((s.causeRaised ch).hg.get h).gs = .disturbed := by
  unfold State.causeRaised
  obtain ⟨u, hcfg, -, h2⟩ := foldl_allFin_at (view := fun (u : State) j => (u.hg.get j).gs) (g := fun acc (h : Fin 32) =>
      if countingOf acc.cfg.active h.val ch.val && (acc.hg.get h).gs != .disturbed
      then (acc.withdraw (fun o => o.cls == .check && o.head == h)).setGuard h .disturbed else acc)
    (fun u => u.cfg = s.cfg) (fun u i hu => by
      split
      · rw [State.setGuard_cfg]
        exact hu
      · exact hu) (fun u i j hj => by
      split
      · rw [State.setGuard_other _ _ _ hj]
        rfl
      · rfl) (State.judgeLoads_cfg s ch) h
  refine h2.trans ?_
  rw [hcfg, hc, Bool.true_and]
  split
  · exact State.setGuard_gs ..
  next hn => simpa using hn

@[simp] theorem State.causeRaised_cg : (s.causeRaised ch).cg = s.cg := (keeps_causeRaised s ch).same .cg (by decide)
@[simp] theorem State.causeDropped_cg : (s.causeDropped ch).cg = s.cg := (keeps_causeDropped s ch).same .cg (by decide)
@[simp] theorem State.causeDropped_cfg : (s.causeDropped ch).cfg = s.cfg := (keeps_causeDropped s ch).same .cfg (by decide)

/-- What `countingCause` rests on. -/
theorem countingCause_congr {s t : State} (hc : t.cfg = s.cfg) (hg : t.cg = s.cg) (h : Fin 32) :
    countingCause t h = countingCause s h := by
  simp only [countingCause, hc, hg]

/-- A dropped cause ends the disturbance of the heads on which none is left (R149). -/
theorem State.causeDropped_gs {h : Fin 32} (hc : countingOf s.cfg.active h.val ch.val = true)
    (hd : (s.hg.get h).gs = .disturbed) :
    ((s.causeDropped ch).hg.get h).gs = if countingCause s h then .disturbed else .awaitingCheck := by
  unfold State.causeDropped
  obtain ⟨u, ⟨hcfg, hcg⟩, h1, h2⟩ := foldl_allFin_at (view := fun (u : State) j => (u.hg.get j).gs)
    (g := fun acc (h : Fin 32) =>
      if countingOf acc.cfg.active h.val ch.val && (acc.hg.get h).gs == .disturbed && !countingCause acc h
      then (acc.setGuard h .awaitingCheck).requestCheck h else acc)
    (fun u => u.cfg = s.cfg ∧ u.cg = s.cg) (fun u i hu => by
      split
      · rw [State.requestCheck_cfg, State.requestCheck_cg, State.setGuard_cfg, State.setGuard_cg]
        exact hu
      · exact hu) (fun u i j hj => by
      split
      · rw [State.requestCheck_hg, State.setGuard_other _ _ _ hj]
      · rfl) ⟨State.judgeLoads_cfg s ch, State.judgeLoads_cg s ch⟩ h
  have hu : (u.hg.get h).gs = .disturbed := h1.trans ((State.judgeLoads_gs s ch h).trans hd)
  refine h2.trans ?_
  rw [hcfg, hc, hu, countingCause_congr hcfg hcg]
  cases countingCause s h with
  | true => exact hu
  | false =>
    rw [if_pos (by decide), State.requestCheck_hg]
    exact State.setGuard_gs ..

end

theorem causeFlag_setCause (b : Bool) (k : GuardCause) (g : ChGuard) : causeFlag (setCause b k g) k = b := by
  cases k <;> rfl

-- requests
section
variable (s : State) (h : Fin 32)

theorem checkRequestDue_of_due {due : Nat} (hd : headDefined s.cfg.active h.val = true)
    (hg : (s.hg.get h).gs ≠ .disturbed) (hp : offerPending s .check h = false)
    (hs : ∀ p ∈ s.bell.spans, p.cls ≠ .check ∨ p.own ≠ h ∨ p.active = false)
    (hi : (s.hg.get h).freeMark + testPeriodNs s.cfg.active = due) (hf : due ≤ freeTotal s h) :
    checkRequestDue h s = s.offer { cls := .check, head := h, ch := (chansOf s.cfg.active h.val).head?
                                    span := headCheckSpan s.cfg.active h.val, offeredAt := s.now } := by
  have hn : ownCheckRuns s h = false := by
    rw [ownCheckRuns, List.any_eq_false]
    intro p hp
    have := hs p hp
    simp only [Bool.and_eq_true, beq_iff_eq]
    grind
  unfold checkRequestDue
  dsimp only
  rw [hi, State.reachFree_of_le hf, decide_eq_true hf, hn, Bool.not_false, Bool.and_true, if_pos rfl,
    State.requestCheck_of s h hd hg hp]

theorem bitOf_two_pow (i j : Nat) : bitOf (2 ^ i) j = decide (i = j) := by
  rw [bitOf, ← Nat.testBit_two_pow, Nat.testBit_eq_decide_div_mod_eq]
  rfl

/-- A mask of one head asks for the check of that head alone (R146). -/
theorem checkNow_single : checkNow (2 ^ h.val) s = s.requestCheck h := by
  have skip : ∀ (l : List (Fin 32)) (t : State), h ∉ l →
      l.foldl (fun acc j => if bitOf (2 ^ h.val) j.val then acc.requestCheck j else acc) t = t := by
    intro l t hl
    refine foldl_same id l t fun u a ha => if_neg ?_
    rw [bitOf_two_pow, decide_eq_true_eq]
    exact fun e => hl (Fin.ext e ▸ ha)
  obtain ⟨l1, l2, hl⟩ := List.append_of_mem (List.mem_finRange h)
  have hnd : (l1 ++ h :: l2).Nodup := hl ▸ List.nodup_finRange 32
  obtain ⟨-, hnd2, hdis⟩ := List.nodup_append.mp hnd
  rw [checkNow, allFin, hl, List.foldl_append, skip l1 s fun m => hdis h m h List.mem_cons_self rfl, List.foldl_cons,
    if_pos (by rw [bitOf_two_pow]; simp)]
  exact skip l2 _ (List.nodup_cons.mp hnd2).1

theorem checkNow_object : LiveObject 0x2A00 0x3C 4 .maintain .command false := ⟨by decide, .inr rfl, by decide⟩

theorem testStarvedSet_eq {a i : Nat} (hd : headDefined s.cfg.active h.val = true)
    (ha : (s.hg.get h).checkedAt.or (s.hg.get h).sourcesOnAt = some a) (hi : a + sec 10 = i) :
    testStarvedSet h s = ((s.reach i).updHg h (fun x => { x with starved := true })).noteHead h := by
  unfold testStarvedSet
  dsimp only
  rw [ha]
  dsimp only
  rw [hd, if_pos rfl, hi]

end

-- a free channel
section
variable {s : State} {c : Fin 64}

theorem State.reach_of_le {i : Nat} (h : i ≤ s.now) : s.reach i = s := by
  unfold State.reach
  rw [if_neg (Nat.not_lt.mpr h)]

/-- A free channel that may start begins its injection with those that its source excites (R136, R137, R208). -/
theorem freeChannelCheckDue_started (hf : freeChecked s.cfg.active c = true) (hr : (s.cg.get c).checkRunning = false)
    (hd : (s.cg.get c).freeCheckFrom + testPeriodNs s.cfg.active ≤ s.now) (hs : startable s c = true) :
    freeChannelCheckDue c s =
      ((reachedChans s.cfg.active [c]).filter (startable s)).foldl (fun acc k => acc.inject false k) s := by
  unfold freeChannelCheckDue
  dsimp only
  rw [hf, hr, State.reach_of_le hd, hs]
  rfl

theorem freeChannelCheckDue_waits (hf : freeChecked s.cfg.active c = true) (hr : (s.cg.get c).checkRunning = false)
    (hd : (s.cg.get c).freeCheckFrom + testPeriodNs s.cfg.active ≤ s.now) (hs : startable s c = false) :
    freeChannelCheckDue c s = s.updCg c (fun g => { g with freeCheckFrom := s.now }) := by
  unfold freeChannelCheckDue
  dsimp only
  rw [hf, hr, State.reach_of_le hd, hs]
  rfl

theorem mem_reachedChans_self (hf : freeChecked s.cfg.active c = true) : c ∈ reachedChans s.cfg.active [c] := by
  have hb : chBridge6 s.cfg.active c.val = true := by
    simp only [freeChecked, Bool.and_eq_true] at hf
    exact hf.1.1
  refine List.mem_filter.mpr ⟨List.mem_finRange c, ?_⟩
  have hm : chMode s.cfg.active c.val ≠ 0 := by
    intro e
    simp [chBridge6, e] at hb
  simp [injectable, hm]

/-- An injected channel of a list of injections (R138). -/
theorem foldl_inject (l : List (Fin 64)) (hc : c ∈ l) :
    ((l.foldl (fun acc k => acc.inject false k) s).cg.get c).checkRunning = true ∧
    ((l.foldl (fun acc k => acc.inject false k) s).cg.get c).voided = false ∧
    ((l.foldl (fun acc k => acc.inject false k) s).ch.get c).injFrom = some s.now := by
  have hself (t : State) (ht : t.now = s.now) : ((t.inject false c).cg.get c).checkRunning = true ∧
      ((t.inject false c).cg.get c).voided = false ∧ ((t.inject false c).ch.get c).injFrom = some s.now := by
    have e1 : (t.inject false c).cg.get c = { t.cg.get c with checkRunning := true, voided := false } := Tab.get_upd_self ..
    have e2 : (t.inject false c).ch.get c =
      { t.ch.get c with injFrom := some t.now, injTo := some (t.now + injectionNs t.cfg.active c.val) } := Tab.get_upd_self ..
    rw [e1, e2, ht]
    exact ⟨rfl, rfl, rfl⟩
  refine foldl_reaches (g := fun (acc : State) k => acc.inject false k) (fun t => t.now = s.now)
    (fun t => (t.cg.get c).checkRunning = true ∧ (t.cg.get c).voided = false ∧ (t.ch.get c).injFrom = some s.now)
    (fun t a ht => ht) hself (fun t a ht hq => ?_) l s rfl hc
  by_cases e : c = a
  · exact e ▸ hself t ht
  · have e1 : (t.inject false a).cg.get c = t.cg.get c := Tab.get_upd_other _ _ _ _ e
    have e2 : (t.inject false a).ch.get c = t.ch.get c := Tab.get_upd_other _ _ _ _ e
    rw [e1, e2]
    exact hq

end

section
variable {s : State}

theorem runs_guardCauseRaised {c : Fin 64} {g : GuardCause} (ha : s.alive = true) (hm : monitorHolds s c g = true)
    (hf : causeFlag (s.cg.get c) g = false) : Runs (.guardCauseRaised c g) s fun t =>
      causeFlag (t.cg.get c) g = true ∧
      (∀ h : Fin 32, countingOf s.cfg.active h.val c.val = true → (t.hg.get h).gs = .disturbed) ∧
      ∀ j, j ≠ c → t.cg.get j = s.cg.get j := by
  refine runs_whenAlive (f := guardCauseRaised c g) rfl ha ?_
  have e : guardCauseRaised c g s.begin = (s.begin.updCg c (setCause true g)).causeRaised c := by
    refine if_pos ?_
    rw [show monitorHolds s.begin c g = true from hm, show causeFlag (s.begin.cg.get c) g = false from hf]
    rfl
  rw [e, State.finish_cg, State.finish_hg, State.causeRaised_cg]
  refine ⟨?_, fun h hc => State.causeRaised_gs _ c hc, fun j hj => State.updCg_other _ _ _ hj⟩
  rw [State.updCg_get, causeFlag_setCause]

theorem runs_guardCauseDropped {c : Fin 64} {g : GuardCause} (ha : s.alive = true) (hm : monitorHolds s c g = false)
    (hf : causeFlag (s.cg.get c) g = true) : Runs (.guardCauseDropped c g) s fun t =>
      causeFlag (t.cg.get c) g = false ∧ (∀ j, j ≠ c → t.cg.get j = s.cg.get j) ∧
      ∀ h : Fin 32, countingOf s.cfg.active h.val c.val = true → (s.hg.get h).gs = .disturbed →
        (t.hg.get h).gs = if countingCause t h then .disturbed else .awaitingCheck := by
  refine runs_whenAlive (f := guardCauseDropped c g) rfl ha ?_
  have e : guardCauseDropped c g s.begin = (s.begin.updCg c (setCause false g)).causeDropped c := by
    refine if_pos ?_
    rw [show monitorHolds s.begin c g = false from hm, show causeFlag (s.begin.cg.get c) g = true from hf]
    rfl
  rw [e]
  generalize hu : s.begin.updCg c (setCause false g) = u
  have hcg : u.cg = s.cg.upd c (setCause false g) := by rw [← hu]; rfl
  have hcfg : u.cfg = s.cfg := by rw [← hu]; rfl
  have hhg : u.hg = s.hg := by rw [← hu]; rfl
  rw [State.finish_cg, State.finish_hg, State.causeDropped_cg, hcg, Tab.get_upd_self]
  refine ⟨causeFlag_setCause .., fun j hj => Tab.get_upd_other _ _ _ _ hj, fun h hc hd => ?_⟩
  rw [State.causeDropped_gs u c (by rw [hcfg]; exact hc) (by rw [hhg]; exact hd),
    countingCause_congr (s := u) ((State.finish_cfg _).trans (State.causeDropped_cfg ..))
      ((State.finish_cg _).trans (State.causeDropped_cg ..))]

theorem runs_guardCause_unchanged {c : Fin 64} {g : GuardCause} (ha : s.alive = true)
    (hm : monitorHolds s c g = causeFlag (s.cg.get c) g) :
    Runs (.guardCauseRaised c g) s (fun t => t.cg = s.cg ∧ t.hg = s.hg) ∧
    Runs (.guardCauseDropped c g) s (fun t => t.cg = s.cg ∧ t.hg = s.hg) := by
  have hm' : monitorHolds s.begin c g = causeFlag (s.begin.cg.get c) g := hm
  constructor
  · refine runs_whenAlive (f := guardCauseRaised c g) rfl ha ?_
    rw [guardCauseRaised, hm', if_neg (by simp), State.finish_cg, State.finish_hg]
    exact ⟨rfl, rfl⟩
  · refine runs_whenAlive (f := guardCauseDropped c g) rfl ha ?_
    rw [guardCauseDropped, hm', if_neg (by simp), State.finish_cg, State.finish_hg]
    exact ⟨rfl, rfl⟩

theorem runs_testStarvedSet {h : Fin 32} {a i : Nat} (hal : s.alive = true) (hd : headDefined s.cfg.active h.val = true)
    (ha : (s.hg.get h).checkedAt.or (s.hg.get h).sourcesOnAt = some a) (hi : a + sec 10 = i) :
    Runs (.testStarvedSet h) s fun t => t.now = Nat.max s.now i ∧
      t.hg.get h = { s.hg.get h with starved := true } ∧ ∀ j, j ≠ h → t.hg.get j = s.hg.get j := by
  refine runs_whenAlive (f := testStarvedSet h) rfl hal ?_
  rw [testStarvedSet_eq s.begin h hd ha hi, State.finish_now, State.finish_hg, State.noteHead_now, State.noteHead_hg,
    State.updHg_get]
  generalize hu : s.begin.reach i = u
  have hnow : u.now = Nat.max s.now i := by rw [← hu, State.reach_now, State.begin_now]
  have hhg : u.hg = s.hg := by rw [← hu, State.reach_hg, State.begin_hg]
  refine ⟨hnow, by rw [hhg], fun j hj => ?_⟩
  rw [State.updHg_other _ _ _ hj, hhg]

end

/-- Settles O23. -/
theorem guardCausesAndRequests : Obligations.GuardCausesAndRequests := by
  unfold Obligations.GuardCausesAndRequests
  refine ⟨fun s c g ha => ⟨runs_guardCauseRaised ha, runs_guardCauseDropped ha, runs_guardCause_unchanged ha⟩,
    fun s h ha hd hg hp hs hf => ?_, fun s o h k x ha hd hg hp => ?_, fun s c ha hf hr hdue => ?_,
    fun s h a ha hd he => runs_testStarvedSet ha hd he rfl⟩
  · refine runs_whenAlive (f := checkRequestDue h) rfl ha ?_
    rw [checkRequestDue_of_due s.begin h hd hg hp hs rfl hf, State.finish_bell]
    exact ⟨_, rfl, rfl, rfl, rfl⟩
  · have hlt : 2 ^ h.val < 256 ^ 4 := Nat.lt_of_lt_of_eq (Nat.pow_lt_pow_right (a := 2) (by decide) h.isLt) (by decide)
    refine ha.runs_number rfl rfl checkNow_object hlt (by simp [valueRefused, within]) (by simp [stateRefused, within]) ?_
    rw [show (s.accepted k o 0x2A00 0x3C).liveWrite o 0x2A00 0x3C (2 ^ h.val) (leBytes 4 (2 ^ h.val)) =
      checkNow (2 ^ h.val) (s.accepted k o 0x2A00 0x3C) from rfl]
    refine ⟨taken_of_keeps ha.holds (keeps_checkNow ..) (by decide), ?_⟩
    rw [checkNow_single, State.requestCheck_of (s.accepted k o 0x2A00 0x3C) h hd hg hp, State.finish_hg, State.finish_bell]
    exact ⟨rfl, _, rfl, rfl, rfl⟩
  · refine runs_whenAlive (f := freeChannelCheckDue c) rfl ha ?_
    rw [State.finish_now, State.finish_cg, State.finish_ch]
    cases hs : startable s c with
    | true =>
      rw [freeChannelCheckDue_started (s := s.begin) hf hr hdue hs]
      refine ⟨foldl_same State.now _ _ fun t a _ => rfl, fun _ => foldl_inject _ ?_, fun h => (nomatch h)⟩
      exact List.mem_filter.mpr ⟨mem_reachedChans_self (s := s.begin) hf, hs⟩
    | false =>
      rw [freeChannelCheckDue_waits (s := s.begin) hf hr hdue hs]
      refine ⟨rfl, fun h => (nomatch h), fun _ => ?_⟩
      rw [State.updCg_get]
      exact ⟨hr, rfl⟩

-- the end of an injection
/-- What the end of an injection leaves in its channel's guard (R122, R145, R159). -/
def foundBy (now : Nat) (f : Finding) (r : CheckFields) (g : ChGuard) : ChGuard :=
  let g1 := { g with lastFinding := f, checkRunning := false, voided := false }
  if f == .void then g1
  else { g1 with lastComplete := f, checkCount := (g.checkCount + 1) % 65536
                 checkedAt := some now, result := r }

theorem foundBy_running (now : Nat) (f : Finding) (r : CheckFields) (g : ChGuard) :
    (foundBy now f r g).checkRunning = false ∧ (foundBy now f r g).lastFinding = f := by
  unfold foundBy
  dsimp only
  split <;> exact ⟨rfl, rfl⟩

/-- A complete check counts (R145). -/
theorem foundBy_complete {now : Nat} {f : Finding} {r : CheckFields} {g : ChGuard} (hf : f ≠ .void) :
    (foundBy now f r g).checkCount = (g.checkCount + 1) % 65536 ∧ (foundBy now f r g).lastComplete = f := by
  unfold foundBy
  dsimp only
  rw [if_neg (by simpa using hf)]
  exact ⟨rfl, rfl⟩

section
variable (s : State) (ch : Fin 64) (f : Finding) (r : CheckFields)

theorem State.takeFinding_cg : (s.takeFinding ch f r).cg = s.cg.upd ch (foundBy s.now f r) := by
  unfold State.takeFinding
  dsimp only
  split
  · rw [(keeps_resumeRange _ ch).same .cg (by decide), State.judgeLoads_cg]
    rfl
  · rw [(keeps_guardRecord _ ch).same .cg (by decide), (keeps_resumeRange _ ch).same .cg (by decide),
      State.judgeLoads_cg]
    rfl

@[simp] theorem State.takeFinding_now : (s.takeFinding ch f r).now = s.now :=
  (keeps_takeFinding s ch f r).same .now (by decide)
@[simp] theorem State.takeFinding_cfg : (s.takeFinding ch f r).cfg = s.cfg :=
  (keeps_takeFinding s ch f r).same .cfg (by decide)

theorem State.takeFinding_get : (s.takeFinding ch f r).cg.get ch = foundBy s.now f r (s.cg.get ch) := by
  rw [State.takeFinding_cg, Tab.get_upd_self]

theorem State.takeFinding_other {j : Fin 64} (hj : j ≠ ch) : (s.takeFinding ch f r).cg.get j = s.cg.get j := by
  rw [State.takeFinding_cg, Tab.get_upd_other _ _ _ _ hj]

/-- A finding leaves the guard states of the heads. -/
theorem State.takeFinding_gs (h : Fin 32) : ((s.takeFinding ch f r).hg.get h).gs = (s.hg.get h).gs := by
  have hr (u : State) : (u.resumeRange ch).hg = u.hg := (keeps_resumeRange u ch).same .hg (by decide)
  unfold State.takeFinding
  dsimp only
  split
  · rw [hr, State.judgeLoads_gs]
    rfl
  · rw [(keeps_guardRecord _ ch).same .hg (by decide), hr, State.judgeLoads_gs]
    rfl

end

/-- No finding rests on what is sent. -/
theorem channelFinding_reach (s : State) (i : Nat) (rs : List CheckMeas) (j : Fin 64) :
    channelFinding (s.begin.reach i) rs j = channelFinding { s with now := Nat.max s.now i } rs j := by
  have e : (s.begin.reach i) = { { s with now := (s.reach i).now } with sent := [] } := rfl
  rw [e, State.reach_now]
  rfl

/-- Nothing measured is VOID (R144). -/
theorem channelFinding_unmeasured {s : State} {rs : List CheckMeas} {j : Fin 64} (h : ∀ r ∈ rs, r.ch ≠ j) :
    (channelFinding s rs j).1 = .void := by
  have hn : rs.find? (fun r => r.ch == j) = none := List.find?_eq_none.mpr fun r hr => by simpa using h r hr
  unfold channelFinding
  dsimp only
  rw [hn]

-- the end of a free channel's check
section
variable {s : State} {c : Fin 64} {rs : List CheckMeas}

/-- The channels whose check ends with that of a free one: its own and its partner's (R136, R208). -/
def endingWith (s : State) (c : Fin 64) (a : Nat) : List (Fin 64) :=
  match partnerChan s.cfg.active c with
  | some p => if (s.cg.get p).checkRunning && (s.ch.get p).injFrom == some a && p != c then [c, p] else [c]
  | none => [c]

theorem mem_endingWith {a : Nat} {j : Fin 64} (hj : j = c ∨ (partnerChan s.cfg.active c = some j ∧
    (s.cg.get j).checkRunning = true ∧ (s.ch.get j).injFrom = some a)) : j ∈ endingWith s c a := by
  unfold endingWith
  rcases hj with rfl | ⟨hp, hr, ha⟩
  · split
    · split <;> exact List.mem_cons_self
    · exact List.mem_cons_self
  · rw [hp]
    dsimp only
    rw [hr, ha]
    by_cases e : j = c
    · simp [e]
    · simp [e]

theorem of_mem_endingWith {a : Nat} {j : Fin 64} (hj : j ∈ endingWith s c a) :
    j = c ∨ partnerChan s.cfg.active c = some j := by
  unfold endingWith at hj
  split at hj
  next p hp =>
    split at hj
    · rcases List.mem_cons.mp hj with rfl | hj
      · exact .inl rfl
      · exact .inr (by rw [hp, List.mem_singleton.mp hj])
    · exact .inl (List.mem_singleton.mp hj)
  · exact .inl (List.mem_singleton.mp hj)

theorem nodup_endingWith (s : State) (c : Fin 64) (a : Nat) : (endingWith s c a).Nodup := by
  unfold endingWith
  split
  · split
    next p _ h =>
      have : c ≠ p := fun e => by simp [e] at h
      simp [this]
    · exact List.nodup_cons.mpr ⟨List.not_mem_nil, List.nodup_nil⟩
  · exact List.nodup_cons.mpr ⟨List.not_mem_nil, List.nodup_nil⟩

/-- The findings of a list of channels, each taken once. -/
def State.takeFindings (s0 s : State) (rs : List CheckMeas) (l : List (Fin 64)) : State :=
  l.foldl (fun acc k => acc.takeFinding k (channelFinding s0 rs k).1 (channelFinding s0 rs k).2) s

theorem State.takeFindings_other (s0 : State) {l : List (Fin 64)} {j : Fin 64} (hj : j ∉ l) :
    (State.takeFindings s0 s rs l).cg.get j = s.cg.get j :=
  foldl_same (fun u => u.cg.get j) l s fun u _ ha => State.takeFinding_other u _ _ _ (ne_of_mem_of_not_mem ha hj).symm

theorem State.takeFindings_now (s0 : State) (l : List (Fin 64)) : (State.takeFindings s0 s rs l).now = s.now :=
  foldl_same State.now l s fun u _ _ => State.takeFinding_now u ..

theorem State.takeFindings_cfg (s0 : State) (l : List (Fin 64)) : (State.takeFindings s0 s rs l).cfg = s.cfg :=
  foldl_same State.cfg l s fun u _ _ => State.takeFinding_cfg u ..

theorem State.takeFindings_gs (s0 : State) (l : List (Fin 64)) (h : Fin 32) :
    ((State.takeFindings s0 s rs l).hg.get h).gs = (s.hg.get h).gs :=
  foldl_same (fun u => (u.hg.get h).gs) l s fun u _ _ => State.takeFinding_gs u ..

theorem State.takeFindings_get (s0 : State) {l : List (Fin 64)} (hl : l.Nodup) {j : Fin 64} (hj : j ∈ l) :
    (State.takeFindings s0 s rs l).cg.get j =
      foundBy s.now (channelFinding s0 rs j).1 (channelFinding s0 rs j).2 (s.cg.get j) := by
  obtain ⟨l1, l2, rfl⟩ := List.append_of_mem hj
  obtain ⟨-, hnd2, hdis⟩ := List.nodup_append.mp hl
  have h1 : j ∉ l1 := fun m => hdis j m j List.mem_cons_self rfl
  unfold State.takeFindings
  rw [List.foldl_append, List.foldl_cons]
  refine (State.takeFindings_other s0 (List.nodup_cons.mp hnd2).1).trans ?_
  rw [State.takeFinding_get]
  have e1 := State.takeFindings_other (s := s) (rs := rs) s0 h1
  have e2 := State.takeFindings_now (s := s) (rs := rs) s0 l1
  unfold State.takeFindings at e1 e2
  rw [e1, e2]

/-- Every channel of a list of findings has its own, once or more often. -/
theorem State.takeFindings_found (s0 : State) {l : List (Fin 64)} {j : Fin 64} (hj : j ∈ l) :
    ((State.takeFindings s0 s rs l).cg.get j).checkRunning = false ∧
    ((State.takeFindings s0 s rs l).cg.get j).lastFinding = (channelFinding s0 rs j).1 := by
  have hself (u : State) := foundBy_running u.now (channelFinding s0 rs j).1 (channelFinding s0 rs j).2 (u.cg.get j)
  refine foldl_reaches (g := fun (acc : State) k => acc.takeFinding k (channelFinding s0 rs k).1 (channelFinding s0 rs k).2)
    (fun _ => True) (fun t => (t.cg.get j).checkRunning = false ∧ (t.cg.get j).lastFinding = (channelFinding s0 rs j).1)
    (fun _ _ _ => trivial) (fun t _ => ?_) (fun t k _ hq => ?_) l s trivial hj
  · rw [State.takeFinding_get]
    exact hself t
  · by_cases e : j = k
    · subst e
      rw [State.takeFinding_get]
      exact hself t
    · rw [State.takeFinding_other _ _ _ _ e]
      exact hq

/-- The guards of the ending channels keep the instant for their next check (R136). -/
def State.freeFrom (s : State) (l : List (Fin 64)) : State :=
  l.foldl (fun acc k => acc.updCg k (fun g => { g with freeCheckFrom := acc.now })) s

theorem State.freeFrom_now (l : List (Fin 64)) : (s.freeFrom l).now = s.now := foldl_same State.now l s fun _ _ _ => rfl

theorem State.freeFrom_other {l : List (Fin 64)} {j : Fin 64} (hj : j ∉ l) : (s.freeFrom l).cg.get j = s.cg.get j :=
  foldl_same (fun u => u.cg.get j) l s fun u _ ha => State.updCg_other u _ _ (ne_of_mem_of_not_mem ha hj).symm

/-- The instant of the next check is no part of a finding. -/
theorem State.freeFrom_cg (l : List (Fin 64)) (j : Fin 64) :
    ∃ n, (s.freeFrom l).cg.get j = { s.cg.get j with freeCheckFrom := n } := by
  unfold State.freeFrom
  induction l generalizing s with
  | nil => exact ⟨_, rfl⟩
  | cons k l ih =>
    obtain ⟨n, hn⟩ := ih (s := s.updCg k (fun g => { g with freeCheckFrom := s.now }))
    rw [List.foldl_cons, hn]
    by_cases e : j = k
    · subst e
      rw [State.updCg_get]
      exact ⟨n, rfl⟩
    · rw [State.updCg_other _ _ _ e]
      exact ⟨n, rfl⟩

theorem guardCheckEnd_channel {a b : Nat} (hr : (s.cg.get c).checkRunning = true) (ha : (s.ch.get c).injFrom = some a)
    (hb : (s.ch.get c).injTo = some b) (hs : ∀ p ∈ s.bell.spans, p.cls ≠ .check ∨ p.active = false ∨ c ∉ p.chans) :
    guardCheckEnd (.channel c) rs s =
      (State.takeFindings (s.reach b) (s.reach b) rs (endingWith s c a)).freeFrom (endingWith s c a) := by
  have hn : s.bell.spans.any (fun p => p.cls == .check && p.active && p.chans.contains c) = false := by
    rw [List.any_eq_false]
    intro p hp
    have := hs p hp
    simp only [Bool.and_eq_true, beq_iff_eq, List.contains_iff_mem]
    grind
  unfold guardCheckEnd
  dsimp only
  rw [ha, hb]
  dsimp only
  rw [hr, hn]
  rfl

theorem guardCheckEnd_channel_post {a b : Nat} (hal : s.alive = true) (hr : (s.cg.get c).checkRunning = true)
    (ha : (s.ch.get c).injFrom = some a) (hb : (s.ch.get c).injTo = some b)
    (hs : ∀ p ∈ s.bell.spans, p.cls ≠ .check ∨ p.active = false ∨ c ∉ p.chans) :
    ∃ t, exec (.guardCheckEnd (.channel c) rs) s = .next t ∧ t.now = Nat.max s.now b ∧
      (∀ j, j = c ∨ (partnerChan s.cfg.active c = some j ∧ (s.cg.get j).checkRunning = true ∧
          (s.ch.get j).injFrom = some a) →
        (t.cg.get j).checkRunning = false ∧
        (t.cg.get j).lastFinding = (channelFinding { s with now := t.now } rs j).1 ∧
        ((t.cg.get j).lastFinding ≠ .void → (t.cg.get j).checkCount = ((s.cg.get j).checkCount + 1) % 65536 ∧
          (t.cg.get j).lastComplete = (t.cg.get j).lastFinding) ∧
        ((∀ r ∈ rs, r.ch ≠ j) → (t.cg.get j).lastFinding = .void)) ∧
      ∀ j, j ≠ c → partnerChan s.cfg.active c ≠ some j → t.cg.get j = s.cg.get j := by
  refine runs_whenAlive (f := guardCheckEnd (.channel c) rs) rfl hal ?_
  rw [guardCheckEnd_channel (s := s.begin) hr ha hb hs]
  rw [State.finish_now, State.finish_cg, State.freeFrom_now, State.takeFindings_now, State.reach_now, State.begin_now]
  refine ⟨rfl, fun j hj => ?_, fun j hc hp => ?_⟩
  · obtain ⟨n, hn⟩ := State.freeFrom_cg (s := State.takeFindings (s.begin.reach b) (s.begin.reach b) rs
      (endingWith s.begin c a)) (endingWith s.begin c a) j
    rw [hn, State.takeFindings_get _ (nodup_endingWith ..) (mem_endingWith (s := s.begin) hj), channelFinding_reach,
      State.reach_cg, State.begin_cg]
    obtain ⟨h1, h2⟩ := foundBy_running (s.begin.reach b).now
      (channelFinding { s with now := Nat.max s.now b } rs j).1 (channelFinding { s with now := Nat.max s.now b } rs j).2
      (s.cg.get j)
    refine ⟨h1, h2, fun hv => ?_, fun hm => ?_⟩
    · obtain ⟨h3, h4⟩ := foundBy_complete (now := (s.begin.reach b).now)
        (r := (channelFinding { s with now := Nat.max s.now b } rs j).2) (g := s.cg.get j) (fun e => hv (h2.trans e))
      exact ⟨h3, h4.trans h2.symm⟩
    · exact h2.trans (channelFinding_unmeasured hm)
  · have hj : j ∉ endingWith s.begin c a := fun m => (of_mem_endingWith m).elim hc hp
    rw [State.freeFrom_other hj, State.takeFindings_other _ hj, State.reach_cg, State.begin_cg]

end

-- the end of a head's check
section
variable (s : State) (h : Fin 32)

theorem State.headChecked_cg (complete failed : Bool) : (s.headChecked h complete failed).cg = s.cg :=
  (keeps_headChecked s h complete failed).same .cg (by decide)
theorem State.headChecked_now (complete failed : Bool) : (s.headChecked h complete failed).now = s.now :=
  (keeps_headChecked s h complete failed).same .now (by decide)

/-- No end of a check opens a span. -/
theorem State.headChecked_spans (complete failed : Bool) : (s.headChecked h complete failed).bell.spans = s.bell.spans := by
  have hn (u : State) : (u.noteHead h).bell = u.bell := (keeps_noteHead u h).same .bell (by decide)
  unfold State.headChecked
  dsimp only
  split
  · split
    · rw [hn]
      rfl
    · split
      · split
        · rw [State.setGuard_bell, hn]
          rfl
        · rw [hn]
          rfl
      · rw [State.setGuard_bell, hn]
        rfl
  · split
    · rfl
    · exact State.requestCheck_spans s h

/-- The head's own entries after a complete check (R148). -/
def State.checkDone (s : State) (h : Fin 32) : State :=
  (s.updHg h (fun x => { x with checkedAt := some s.now, freeMark := freeTotal s h, starved := false })).noteHead h

theorem State.checkDone_get : (s.checkDone h).hg.get h =
    { s.hg.get h with checkedAt := some s.now, freeMark := freeTotal s h, starved := false } := by
  rw [State.checkDone, State.noteHead_hg, State.updHg_get]

theorem State.headChecked_passed (hg : (s.hg.get h).gs ≠ .disturbed) :
    s.headChecked h true false = (s.checkDone h).setGuard h .inService := by
  unfold State.headChecked
  dsimp only
  rw [if_pos rfl, if_neg (by simpa using hg)]
  rfl

theorem State.headChecked_failed_of_inService (hg : (s.hg.get h).gs = .inService) :
    s.headChecked h true true = (s.checkDone h).setGuard h .awaitingCheck := by
  unfold State.headChecked
  rw [hg]
  rfl

theorem State.headChecked_failed_of_not_inService (hg : (s.hg.get h).gs ≠ .inService) :
    s.headChecked h true true = s.checkDone h := by
  unfold State.headChecked
  dsimp only
  rw [if_pos rfl, if_pos rfl, beq_eq_false_iff_ne.mpr hg]
  exact ite_self _

/-- A complete check that fails takes the head out of IN_SERVICE (R145, R149). -/
theorem State.headChecked_failed : ((s.headChecked h true true).hg.get h).gs =
      (if (s.hg.get h).gs = .inService then .awaitingCheck else (s.hg.get h).gs) ∧
    ((s.headChecked h true true).hg.get h).starved = false ∧
    ((s.headChecked h true true).hg.get h).checkedAt = some s.now := by
  by_cases hg : (s.hg.get h).gs = .inService
  · rw [State.headChecked_failed_of_inService s h hg, State.setGuard_get, State.checkDone_get, if_pos hg]
    exact ⟨rfl, rfl, rfl⟩
  · rw [State.headChecked_failed_of_not_inService s h hg, State.checkDone_get, if_neg hg]
    exact ⟨rfl, rfl, rfl⟩

theorem State.closeCheckSpan_spans : ∀ q ∈ (s.closeCheckSpan h).bell.spans, q.cls = .check → q.own = h → q.active = false := by
  intro q hq hc ho
  obtain ⟨p, -, rfl⟩ := List.mem_map.mp hq
  by_cases e : (p.cls == .check && p.own == h) = true
  · rw [if_pos e]
  · rw [if_neg e] at hc ho
    exact absurd (by rw [hc, ho]; simp) e

variable (chans : List (Fin 64)) (rs : List CheckMeas)

/-- Every counting channel of the head has a finding other than VOID (R145). -/
def checkComplete (s : State) (h : Fin 32) (chans : List (Fin 64)) (rs : List CheckMeas) : Bool :=
  headDefined s.cfg.active h.val && (countingOfHead s.cfg.active h.val).all (fun ch =>
    (chans.map (fun ch => (ch, channelFinding s rs ch))).any (fun x => x.1 == ch && x.2.1 != .void))

/-- A counting channel of the head has a FAIL (R145). -/
def checkFailed (s : State) (h : Fin 32) (chans : List (Fin 64)) (rs : List CheckMeas) : Bool :=
  (chans.map (fun ch => (ch, channelFinding s rs ch))).any (fun x =>
    (countingOfHead s.cfg.active h.val).contains x.1 && isFail x.2.1)

theorem State.endCheck_eq : s.endCheck h chans rs = ((State.takeFindings s s rs chans).closeCheckSpan h).headChecked h
    (checkComplete s h chans rs) (checkFailed s h chans rs) := by
  unfold State.endCheck State.takeFindings
  dsimp only
  rw [List.foldl_map]
  rfl

theorem checkComplete_iff : checkComplete s h chans rs = true ↔ headDefined s.cfg.active h.val = true ∧
    ∀ c ∈ countingOfHead s.cfg.active h.val, c ∈ chans ∧ (channelFinding s rs c).1 ≠ .void := by
  simp only [checkComplete, Bool.and_eq_true, List.all_eq_true, List.any_eq_true, List.mem_map, beq_iff_eq, bne_iff_ne]
  refine and_congr_right fun _ => forall₂_congr fun c _ => ⟨?_, fun ⟨hm, hv⟩ => ⟨_, ⟨c, hm, rfl⟩, rfl, hv⟩⟩
  rintro ⟨_, ⟨k, hm, rfl⟩, rfl, hv⟩
  exact ⟨hm, hv⟩

theorem checkFailed_iff : checkFailed s h chans rs = true ↔
    ∃ c ∈ countingOfHead s.cfg.active h.val, c ∈ chans ∧ isFail (channelFinding s rs c).1 = true := by
  simp only [checkFailed, Bool.and_eq_true, List.any_eq_true, List.mem_map, List.contains_iff_mem]
  constructor
  · rintro ⟨_, ⟨k, hm, rfl⟩, hc, hf⟩
    exact ⟨k, hc, hm, hf⟩
  · rintro ⟨c, hc, hm, hf⟩
    exact ⟨_, ⟨c, hm, rfl⟩, hc, hf⟩

theorem State.endCheck_cg : (s.endCheck h chans rs).cg = (State.takeFindings s s rs chans).cg := by
  rw [State.endCheck_eq, State.headChecked_cg]
  rfl

theorem State.endCheck_now : (s.endCheck h chans rs).now = s.now := by
  rw [State.endCheck_eq, State.headChecked_now]
  exact State.takeFindings_now s chans

theorem State.endCheck_spans : ∀ q ∈ (s.endCheck h chans rs).bell.spans, q.cls = .check → q.own = h → q.active = false := by
  rw [State.endCheck_eq, State.headChecked_spans]
  exact State.closeCheckSpan_spans _ h

variable {s h chans rs}

/-- A check that every counting channel passed puts the head into service (R149). -/
theorem State.endCheck_passed (hd : headDefined s.cfg.active h.val = true) (hg : (s.hg.get h).gs ≠ .disturbed)
    (hp : ∀ c ∈ countingOfHead s.cfg.active h.val, c ∈ chans ∧ (channelFinding s rs c).1 = .pass) :
    ((s.endCheck h chans rs).hg.get h).gs = .inService ∧ ((s.endCheck h chans rs).hg.get h).starved = false := by
  have hc : checkComplete s h chans rs = true := (checkComplete_iff ..).mpr
    ⟨hd, fun c hm => ⟨(hp c hm).1, by rw [(hp c hm).2]; decide⟩⟩
  have hf : checkFailed s h chans rs = false := by
    rw [Bool.eq_false_iff, ne_eq, checkFailed_iff]
    rintro ⟨c, hm, -, hf⟩
    rw [(hp c hm).2] at hf
    exact absurd hf (by decide)
  rw [State.endCheck_eq, hc, hf, State.headChecked_passed, State.setGuard_get, State.checkDone_get]
  · exact ⟨rfl, rfl⟩
  · rw [show ((State.takeFindings s s rs chans).closeCheckSpan h).hg = (State.takeFindings s s rs chans).hg from rfl,
      State.takeFindings_gs]
    exact hg

theorem State.endCheck_failed (hd : headDefined s.cfg.active h.val = true)
    (hp : ∀ c ∈ countingOfHead s.cfg.active h.val, c ∈ chans ∧ (channelFinding s rs c).1 ≠ .void)
    (hx : ∃ c ∈ countingOfHead s.cfg.active h.val, isFail (channelFinding s rs c).1 = true) :
    ((s.endCheck h chans rs).hg.get h).gs = (if (s.hg.get h).gs = .inService then .awaitingCheck else (s.hg.get h).gs) ∧
      ((s.endCheck h chans rs).hg.get h).starved = false ∧
      ((s.endCheck h chans rs).hg.get h).checkedAt = some s.now := by
  obtain ⟨c, hm, hx⟩ := hx
  have hc : checkComplete s h chans rs = true := (checkComplete_iff ..).mpr ⟨hd, hp⟩
  have hf : checkFailed s h chans rs = true := (checkFailed_iff ..).mpr ⟨c, hm, (hp c hm).1, hx⟩
  obtain ⟨h1, h2, h3⟩ := State.headChecked_failed ((State.takeFindings s s rs chans).closeCheckSpan h) h
  rw [State.endCheck_eq, hc, hf]
  refine ⟨h1.trans ?_, h2, h3.trans (congrArg some (State.takeFindings_now s chans))⟩
  rw [show ((State.takeFindings s s rs chans).closeCheckSpan h).hg = (State.takeFindings s s rs chans).hg from rfl,
    State.takeFindings_gs]

theorem guardCheckEnd_head {p : Span} (hp : s.bell.spans.find? (fun p => p.cls == .check && p.own == h && p.active) = some p) :
    guardCheckEnd (.head h) rs s = (s.reach p.injEnd).endCheck h p.chans rs := by
  unfold guardCheckEnd
  dsimp only
  rw [hp]

theorem guardCheckEnd_head_post {p : Span} (ha : s.alive = true)
    (hp : s.bell.spans.find? (fun p => p.cls == .check && p.own == h && p.active) = some p) :
    ∃ t, exec (.guardCheckEnd (.head h) rs) s = .next t ∧ t.now = Nat.max s.now p.injEnd ∧
      (∀ c ∈ p.chans, (t.cg.get c).checkRunning = false ∧
        (t.cg.get c).lastFinding = (channelFinding { s with now := t.now } rs c).1) ∧
      (∀ c, c ∉ p.chans → t.cg.get c = s.cg.get c) ∧
      (headDefined s.cfg.active h.val = true → (s.hg.get h).gs ≠ .disturbed →
        (∀ c ∈ countingOfHead s.cfg.active h.val, c ∈ p.chans ∧
          (channelFinding { s with now := t.now } rs c).1 = .pass) →
        (t.hg.get h).gs = .inService ∧ (t.hg.get h).starved = false) ∧
      (headDefined s.cfg.active h.val = true →
        (∀ c ∈ countingOfHead s.cfg.active h.val, c ∈ p.chans ∧
          (channelFinding { s with now := t.now } rs c).1 ≠ .void) →
        (∃ c ∈ countingOfHead s.cfg.active h.val, isFail (channelFinding { s with now := t.now } rs c).1 = true) →
        (t.hg.get h).gs = (if (s.hg.get h).gs = .inService then .awaitingCheck else (s.hg.get h).gs) ∧
        (t.hg.get h).starved = false ∧ (t.hg.get h).checkedAt = some t.now) ∧
      ∀ q ∈ t.bell.spans, q.cls = .check → q.own = h → q.active = false := by
  refine runs_whenAlive (f := guardCheckEnd (.head h) rs) rfl ha ?_
  rw [guardCheckEnd_head (s := s.begin) hp, State.finish_now, State.finish_cg, State.finish_hg, State.finish_bell,
    State.endCheck_now, State.endCheck_cg]
  have hfind := channelFinding_reach s p.injEnd rs
  generalize hu : s.begin.reach p.injEnd = u at hfind
  have hnow : u.now = Nat.max s.now p.injEnd := by rw [← hu, State.reach_now, State.begin_now]
  have hcg : u.cg = s.cg := by rw [← hu, State.reach_cg, State.begin_cg]
  have hcfg : u.cfg = s.cfg := by rw [← hu, State.reach_cfg, State.begin_cfg]
  have hhg : u.hg = s.hg := by rw [← hu, State.reach_hg, State.begin_hg]
  rw [hnow]
  refine ⟨rfl, fun c hc => ?_, fun c hc => ?_, fun hd hg hq => ?_, fun hd hq hx => ?_, State.endCheck_spans u h p.chans rs⟩
  · rw [← hfind]
    exact State.takeFindings_found u hc
  · rw [State.takeFindings_other u hc, hcg]
  · refine State.endCheck_passed (by rwa [hcfg]) (by rwa [hhg]) ?_
    rw [hcfg]
    exact fun c hc => ⟨(hq c hc).1, by rw [hfind]; exact (hq c hc).2⟩
  · rw [← hhg, ← hnow]
    refine State.endCheck_failed (by rwa [hcfg]) ?_ ?_
    · rw [hcfg]
      exact fun c hc => ⟨(hq c hc).1, by rw [hfind]; exact (hq c hc).2⟩
    · rw [hcfg]
      obtain ⟨c, hc, hx⟩ := hx
      exact ⟨c, hc, by rw [hfind]; exact hx⟩

end

/-- Settles O24. -/
theorem guardCheckEnds : Obligations.GuardCheckEnds := by
  unfold Obligations.GuardCheckEnds
  exact ⟨fun s c rs a b hal hr ha hb hs => guardCheckEnd_channel_post hal hr ha hb hs,
    fun s h rs p ha hp => guardCheckEnd_head_post ha hp⟩

end Sys2Proof.Machine

/-! SUPPORT. The entries of the tracker and its timers; with them O25, O26 and O27 (R247 to R252, R254, R256, R257, R261, R264,
R265). -/

namespace Sys2Proof.Machine

-- entries
section
variable (s : State) (i : Fin 128)

@[simp] theorem State.updEntry_get (f : Entry → Entry) : (s.updEntry i f).trk.entries.get i = f (s.trk.entries.get i) :=
  Tab.get_upd_self ..

theorem State.updEntry_other {j : Fin 128} (f : Entry → Entry) (hj : j ≠ i) :
    (s.updEntry i f).trk.entries.get j = s.trk.entries.get j := Tab.get_upd_other _ _ _ _ hj

@[simp] theorem State.freeEntry_get : (s.freeEntry i).trk.entries.get i = {} := State.updEntry_get ..

theorem State.freeEntry_other {j : Fin 128} (hj : j ≠ i) : (s.freeEntry i).trk.entries.get j = s.trk.entries.get j :=
  State.updEntry_other _ _ _ hj

@[simp] theorem State.noteRoom_entries : s.noteRoom.trk.entries = s.trk.entries := rfl
@[simp] theorem State.noteRoom_counts : s.noteRoom.trk.counts = s.trk.counts := rfl
@[simp] theorem State.noteRoom_full : s.noteRoom.trk.full = s.trk.full := rfl
@[simp] theorem State.noteRoom_tally : s.noteRoom.tally = s.tally := rfl
@[simp] theorem State.toTally_trk (x : TallyItem) : (s.toTally x).trk = s.trk := rfl
theorem State.mem_toTally (x : TallyItem) : x ∈ (s.toTally x).tally.inbox := List.mem_append_right _ List.mem_cons_self

end

/-- The parts of the tracker that groups, claims, residues and axle numbers leave. -/
structure TrackSame (s t : State) : Prop where
  entries : t.trk.entries = s.trk.entries
  counts : t.trk.counts = s.trk.counts
  full : t.trk.full = s.trk.full

theorem TrackSame.refl (s : State) : TrackSame s s := ⟨rfl, rfl, rfl⟩
theorem TrackSame.of_trk {s t : State} (h : t.trk = s.trk) : TrackSame s t := by
  refine ⟨?_, ?_, ?_⟩ <;> rw [h]
theorem TrackSame.trans {s t u : State} (h : TrackSame s t) (g : TrackSame t u) : TrackSame s u :=
  ⟨g.entries.trans h.entries, g.counts.trans h.counts, g.full.trans h.full⟩

section
variable (s : State) (h : Fin 32)

theorem trackSame_closeGroup : TrackSame s (s.closeGroup h) := by
  unfold State.closeGroup
  split <;> exact ⟨rfl, rfl, rfl⟩

theorem trackSame_joinGroup (neg : Bool) (m : GroupMember) : TrackSame s (s.joinGroup h neg m).1 := by
  unfold State.joinGroup
  dsimp only
  split
  · exact ⟨rfl, rfl, rfl⟩
  · split
    · exact ⟨rfl, rfl, rfl⟩
    · exact (trackSame_closeGroup s h).trans ⟨rfl, rfl, rfl⟩

theorem trackSame_joinResidue (i : Fin 128) : TrackSame s (s.joinResidue i) := by
  unfold State.joinResidue
  dsimp only
  split
  · exact .refl s
  · split <;> exact ⟨rfl, rfl, rfl⟩

theorem trackSame_withDist (f : State → State) : TrackSame (f s) (s.withDist h f) := by
  have hn (u : State) : TrackSame u (u.noteHead h) := .of_trk ((keeps_noteHead u h).same .trk (by decide))
  unfold State.withDist
  dsimp only
  split
  · unfold State.breakHead
    dsimp only
    exact (hn _).trans ((TrackSame.of_trk (by rw [State.draw_trk, State.draw_trk]; rfl)).trans (trackSame_closeGroup _ h))
  · split
    · exact (hn _).trans (((TrackSame.of_trk ((keeps_settleHead _ h).same .trk (by decide)))).trans (hn _))
    · exact hn _

theorem trackSame_raiseClaimTie : TrackSame s (s.raiseClaimTie h) := by
  unfold State.raiseClaimTie
  exact .trans (by exact ⟨rfl, rfl, rfl⟩) (trackSame_withDist s h _)

end

-- the entry of a trigger
/-- What matching an entry to a predecessor leaves of it and of the tracker's counts. -/
structure EntryStays (i : Fin 128) (s t : State) : Prop where
  st : (t.trk.entries.get i).st = (s.trk.entries.get i).st
  head : (t.trk.entries.get i).head = (s.trk.entries.get i).head
  neg : (t.trk.entries.get i).neg = (s.trk.entries.get i).neg
  tRef : (t.trk.entries.get i).tRef = (s.trk.entries.get i).tRef
  openedAt : (t.trk.entries.get i).openedAt = (s.trk.entries.get i).openedAt
  opened : t.trk.counts.opened = s.trk.counts.opened
  early : t.trk.counts.releasedEarly = s.trk.counts.releasedEarly
  full : t.trk.full = s.trk.full

section
variable {i : Fin 128} {s t u : State}

theorem EntryStays.refl (i : Fin 128) (s : State) : EntryStays i s s := ⟨rfl, rfl, rfl, rfl, rfl, rfl, rfl, rfl⟩

theorem EntryStays.trans (h : EntryStays i s t) (g : EntryStays i t u) : EntryStays i s u where
  st := g.st.trans h.st
  head := g.head.trans h.head
  neg := g.neg.trans h.neg
  tRef := g.tRef.trans h.tRef
  openedAt := g.openedAt.trans h.openedAt
  opened := g.opened.trans h.opened
  early := g.early.trans h.early
  full := g.full.trans h.full

theorem TrackSame.entryStays (h : TrackSame s t) (i : Fin 128) : EntryStays i s t := by
  obtain ⟨he, hc, hf⟩ := h
  constructor <;> first | rw [he] | rw [hc] | exact hf

/-- A change of another entry. -/
theorem entryStays_updEntry_other {j : Fin 128} (f : Entry → Entry) (hj : i ≠ j) : EntryStays i s (s.updEntry j f) := by
  constructor <;> first | rw [State.updEntry_other _ _ _ hj] | rfl

/-- A change of an entry's links or number. -/
theorem entryStays_updEntry {j : Fin 128} {f : Entry → Entry} (hf : ∀ e, (f e).st = e.st ∧ (f e).head = e.head ∧
    (f e).neg = e.neg ∧ (f e).tRef = e.tRef ∧ (f e).openedAt = e.openedAt) : EntryStays i s (s.updEntry j f) := by
  by_cases hj : i = j
  · subst hj
    obtain ⟨h1, h2, h3, h4, h5⟩ := hf (s.trk.entries.get i)
    constructor <;> first | (rw [State.updEntry_get]; assumption) | rfl
  · exact entryStays_updEntry_other f hj

theorem entryStays_linkPred {e p : Fin 128} (hp : i ≠ p) (d : Rat) (time : Nat) : EntryStays i s (s.linkPred e p d time) :=
  (entryStays_updEntry_other (fun x => { x with st := .atHead, link := some e }) hp).trans
    ((entryStays_updEntry (j := e) (f := fun x => { x with
      link := some p, axleId := (s.trk.entries.get p).axleId, newAxle := false }) fun _ => ⟨rfl, rfl, rfl, rfl, rfl⟩).trans
    (TrackSame.entryStays (by exact ⟨rfl, rfl, rfl⟩) i))

theorem entryStays_unlinkPred {e p : Fin 128} (hp : i ≠ p) : EntryStays i s (s.unlinkPred e p) :=
  (entryStays_updEntry_other (fun x => { x with st := if x.halted then .parked else .running, link := none }) hp).trans
    ((entryStays_updEntry (j := e) (f := fun x => { x with link := none, axleId := 0, newAxle := true })
      fun _ => ⟨rfl, rfl, rfl, rfl, rfl⟩).trans (TrackSame.entryStays (by exact ⟨rfl, rfl, rfl⟩) i))

theorem entryStays_updTrack {f : TrackCounts → TrackCounts} (ho : (f s.trk.counts).opened = s.trk.counts.opened)
    (he : (f s.trk.counts).releasedEarly = s.trk.counts.releasedEarly) : EntryStays i s (s.updTrack f) :=
  ⟨rfl, rfl, rfl, rfl, rfl, ho, he, rfl⟩

end

/-- A fold that picks among the members with a distance picks one that has one. -/
theorem bestCandidate_dist {s : State} {h : Fin 32} {neg : Bool} {time : Nat} {excl : List (Fin 128)} {p : Fin 128} {d : Rat}
    (hb : bestCandidate s h neg time excl = some (p, d)) : candidateDist s h neg time p = some d := by
  unfold bestCandidate at hb
  refine List.foldlRecOn (motive := fun acc => ∀ p d, acc = some (p, d) → candidateDist s h neg time p = some d)
    (allFin 128) _ (by simp) (fun acc hacc i _ => ?_) p d hb
  intro p d hd
  split at hd
  · exact hacc p d hd
  · split at hd
    · exact hacc p d hd
    next di hi =>
      split at hd
      · cases hd
        exact hi
      · split at hd
        · cases hd
          exact hi
        · exact hacc p d hd

/-- No PROVISIONAL entry is a predecessor (R248). -/
theorem not_provisional_of_candidateDist {s : State} {h : Fin 32} {neg : Bool} {time : Nat} {p : Fin 128} {d : Rat}
    (hc : candidateDist s h neg time p = some d) : (s.trk.entries.get p).st ≠ .provisional := by
  intro hp
  have hn : predState s time p = false := by
    unfold predState
    rw [hp]
    rfl
  unfold candidateDist at hc
  dsimp only at hc
  rw [hn] at hc
  split at hc
  · exact nomatch hc
  · exact nomatch hc

/-- Matching leaves what a PROVISIONAL entry is (R248, R249). -/
theorem entryStays_matchEntry (n : Nat) {i : Fin 128} {s : State} (e : Fin 128) (excl : List (Fin 128))
    (hi : (s.trk.entries.get i).st = .provisional) : EntryStays i s (matchEntry n s e excl) := by
  induction n generalizing s e excl with
  | zero => exact .refl i s
  | succ n ih =>
    unfold matchEntry
    dsimp only
    split
    · exact .refl i s
    next p d hb =>
      have hp : i ≠ p := fun hip => not_provisional_of_candidateDist (bestCandidate_dist hb) (hip ▸ hi)
      split
      · exact entryStays_linkPred hp ..
      next k _ =>
        have hu : EntryStays i s (s.unlinkPred k.entry p) := entryStays_unlinkPred hp
        split
        · have hl := hu.trans (entryStays_linkPred (e := e) hp d (s.trk.entries.get e).tRef)
          exact hl.trans (ih _ _ (hl.st.trans hi))
        · split
          · exact ih _ _ hi
          · exact hu.trans ((entryStays_updTrack rfl rfl).trans
              (((trackSame_raiseClaimTie _ _).entryStays i).trans ((trackSame_raiseClaimTie _ _).entryStays i)))

theorem entryStays_numberAxles (i : Fin 128) (s : State) : EntryStays i s s.numberAxles := by
  unfold State.numberAxles
  refine List.foldlRecOn (motive := EntryStays i s) (allFin 128) _ (.refl i s) fun acc hacc j _ => hacc.trans ?_
  dsimp only
  split
  · exact (entryStays_updEntry (j := j) (f := fun x => { x with axleId := acc.trk.nextAxle, newAxle := true })
      fun _ => ⟨rfl, rfl, rfl, rfl, rfl⟩).trans (TrackSame.entryStays (by exact ⟨rfl, rfl, rfl⟩) i)
  · exact .refl i acc

-- the choice of an entry
section
variable {s : State}

theorem takeEntry_free {i : Fin 128} (hi : (s.trk.entries.get i).st = .free) :
    ∃ j, (s.trk.entries.get j).st = .free ∧ s.takeEntry = (s, some j) := by
  have hs : ((allFin 128).find? (fun i => (s.trk.entries.get i).st == .free)).isSome :=
    List.find?_isSome.mpr ⟨i, List.mem_finRange i, by rw [hi]; rfl⟩
  obtain ⟨j, hj⟩ := Option.isSome_iff_exists.mp hs
  refine ⟨j, by simpa using List.find?_some hj, ?_⟩
  unfold State.takeEntry
  rw [hj]

theorem find_free_none (hf : ∀ i, (s.trk.entries.get i).st ≠ .free) :
    (allFin 128).find? (fun i => (s.trk.entries.get i).st == .free) = none :=
  List.find?_eq_none.mpr fun i _ => by simpa using hf i

theorem oldestParked_parked {j : Fin 128} (hj : oldestParked s = some j) : (s.trk.entries.get j).st = .parked := by
  unfold oldestParked at hj
  refine List.foldlRecOn (motive := fun acc => ∀ j, acc = some j → (s.trk.entries.get j).st = .parked)
    (allFin 128) _ (by simp) (fun acc hacc i _ => ?_) j hj
  intro j hj
  dsimp only at hj
  split at hj
  next hp =>
    split at hj
    · cases hj
      exact beq_iff_eq.mp hp
    · split at hj
      · cases hj
        exact beq_iff_eq.mp hp
      · exact hacc _ hj
  · exact hacc j hj

theorem oldestParked_isSome {i : Fin 128} (hi : (s.trk.entries.get i).st = .parked) : (oldestParked s).isSome = true := by
  unfold oldestParked
  refine foldl_reaches (fun _ => True) (fun acc : Option (Fin 128) => acc.isSome = true) (fun _ _ _ => trivial) (i := i)
    (fun acc _ => ?_) (fun acc j _ hacc => ?_) (allFin 128) none trivial (List.mem_finRange i)
  · dsimp only
    rw [hi, if_pos (by decide)]
    split
    · rfl
    · split <;> rfl
  · dsimp only
    split
    · split
      · rfl
      · split <;> rfl
    · exact hacc

/-- The longest PARKED entry is evicted when none is FREE (R250). -/
theorem takeEntry_parked (hf : ∀ i, (s.trk.entries.get i).st ≠ .free) {i : Fin 128}
    (hi : (s.trk.entries.get i).st = .parked) : ∃ j, (s.trk.entries.get j).st = .parked ∧ s.takeEntry =
      (((s.joinResidue j).freeEntry j).updTrack (fun t => { t with releasedEarly := satInc32 t.releasedEarly }), some j) := by
  obtain ⟨j, hj⟩ := Option.isSome_iff_exists.mp (oldestParked_isSome hi)
  refine ⟨j, oldestParked_parked hj, ?_⟩
  unfold State.takeEntry
  rw [find_free_none hf]
  dsimp only
  rw [hj]

theorem takeEntry_none (hf : ∀ i, (s.trk.entries.get i).st ≠ .free ∧ (s.trk.entries.get i).st ≠ .parked) :
    s.takeEntry = (s, none) := by
  have hn : oldestParked s = none := by
    rw [← Option.not_isSome_iff_eq_none]
    intro hs
    obtain ⟨j, hj⟩ := Option.isSome_iff_exists.mp hs
    exact (hf j).2 (oldestParked_parked hj)
  unfold State.takeEntry
  rw [find_free_none fun i => (hf i).1]
  dsimp only
  rw [hn]

end

-- a trigger
section
variable {s : State} {h : Fin 32} {neg : Bool} {g : Nat}

/-- The state of a trigger before its entry is taken: its message is gone and the claims of other instants with it (R249). -/
def State.triggered (s : State) (h : Fin 32) (neg : Bool) (g : Nat) : State :=
  let s0 := s.updHead h (fun x => { x with out := dropMsg (.trigger neg g) x.out })
  { s0 with trk := { s0.trk with claims := s0.trk.claims.filter (fun k => k.time == g) } }

theorem trackSame_triggered (s : State) (h : Fin 32) (neg : Bool) (g : Nat) : TrackSame s (s.triggered h neg g) :=
  ⟨rfl, rfl, rfl⟩

/-- The entry that a trigger opens (R247). -/
def State.openEntry (s : State) (h : Fin 32) (neg : Bool) (g : Nat) (i : Fin 128) : State :=
  let c := s.cfg.active
  let e : Entry :=
    { st := .provisional, head := h, neg := neg, tRef := g, openedAt := s.now
      sideASec := sideSection c h.val false, sideBSec := sideSection c h.val true
      slot := (slotOfTrigger s h g).1, lastS := (slotOfTrigger s h g).2 }
  (s.updEntry i (fun _ => e)).updTrack (fun t => { t with opened := satInc32 t.opened })

/-- What follows the opening of an entry: its predecessor, its number, Tally (R246, R248). -/
def State.entryOpened (s : State) (c : CfgMap) (h : Fin 32) (neg : Bool) (i : Fin 128) : State :=
  ((matchEntry 64 s i []).numberAxles.toTally
    (.opened (sideSection c h.val neg) (sideSection c h.val (!neg)))).noteRoom

theorem triggerEvent_taken (hd : headDefined s.cfg.active h.val = true) (hb : beforeActivation s g = false) {u : State}
    {i : Fin 128} (ht : (s.triggered h neg g).takeEntry = (u, some i)) (hc : u.cfg = s.cfg) :
    triggerEvent h neg g s = (u.openEntry h neg g i).entryOpened s.cfg.active h neg i := by
  unfold triggerEvent
  dsimp only
  rw [hd, hb, Bool.not_true, Bool.or_false, if_neg (by decide)]
  unfold State.triggered at ht
  dsimp only at ht
  rw [ht]
  dsimp only
  unfold State.openEntry State.entryOpened
  dsimp only
  rw [hc]

theorem triggerEvent_full (hd : headDefined s.cfg.active h.val = true) (hb : beforeActivation s g = false)
    (ht : (s.triggered h neg g).takeEntry = (s.triggered h neg g, none)) :
    triggerEvent h neg g s =
      { s.triggered h neg g with trk := { (s.triggered h neg g).trk with full := true } } := by
  unfold triggerEvent
  dsimp only
  rw [hd, hb, Bool.not_true, Bool.or_false, if_neg (by decide)]
  unfold State.triggered at ht ⊢
  dsimp only at ht
  rw [ht]

/-- An opened entry stays PROVISIONAL on its head through the matching. -/
theorem entryOpened_entry (u : State) (c : CfgMap) (i : Fin 128) :
    let t := (u.openEntry h neg g i).entryOpened c h neg i
    (t.trk.entries.get i).st = .provisional ∧ (t.trk.entries.get i).head = h ∧ (t.trk.entries.get i).neg = neg ∧
      (t.trk.entries.get i).tRef = g ∧ (t.trk.entries.get i).openedAt = u.now ∧
      t.trk.counts.opened = satInc32 u.trk.counts.opened ∧ t.trk.counts.releasedEarly = u.trk.counts.releasedEarly ∧
      t.trk.full = u.trk.full ∧
      TallyItem.opened (sideSection c h.val neg) (sideSection c h.val (!neg)) ∈ t.tally.inbox := by
  generalize hv : u.openEntry h neg g i = v
  have hi : v.trk.entries.get i = 
      { st := .provisional, head := h, neg := neg, tRef := g, openedAt := u.now
        sideASec := sideSection u.cfg.active h.val false, sideBSec := sideSection u.cfg.active h.val true
        slot := (slotOfTrigger u h g).1, lastS := (slotOfTrigger u h g).2 } := by
    rw [← hv]
    exact State.updEntry_get ..
  have h1 : v.trk.counts.opened = satInc32 u.trk.counts.opened := by rw [← hv]; rfl
  have h2 : v.trk.counts.releasedEarly = u.trk.counts.releasedEarly := by rw [← hv]; rfl
  have h3 : v.trk.full = u.trk.full := by rw [← hv]; rfl
  have hs := (entryStays_matchEntry 64 (i := i) (s := v) i [] (by rw [hi])).trans (entryStays_numberAxles i _)
  unfold State.entryOpened
  generalize (matchEntry 64 v i []).numberAxles = w at hs ⊢
  refine ⟨hs.st.trans (by rw [hi]), hs.head.trans (by rw [hi]), hs.neg.trans (by rw [hi]), hs.tRef.trans (by rw [hi]),
    hs.openedAt.trans (by rw [hi]), hs.opened.trans h1, hs.early.trans h2, hs.full.trans h3, State.mem_toTally ..⟩

end

/-- Settles O25. -/
theorem triggerOpensEntry : Obligations.TriggerOpensEntry := by
  unfold Obligations.TriggerOpensEntry
  refine fun s h neg g ha hd hb => ⟨fun hf => ?_, fun hf hp => ?_, fun hf => ?_⟩
  all_goals
    refine runs_whenAlive (f := triggerEvent h neg g) rfl ha ?_
    rw [State.finish_trk]
  · obtain ⟨i, hi⟩ := hf
    obtain ⟨j, hj, ht⟩ := takeEntry_free (s := s.begin.triggered h neg g) hi
    have hn : (triggerEvent h neg g s.begin).now = s.now := (keeps_triggerEvent h neg g s.begin).same .now (by decide)
    rw [State.finish_now, State.finish_tally, hn, triggerEvent_taken (s := s.begin) hd hb ht rfl]
    obtain ⟨h1, h2, h3, h4, h5, h6, -, -, h9⟩ := entryOpened_entry (h := h) (neg := neg) (g := g)
      (s.begin.triggered h neg g) s.begin.cfg.active j
    exact ⟨h6, rfl, ⟨j, hj, h1, h2, h3, h4, h5⟩, h9⟩
  · obtain ⟨i, hi⟩ := hp
    obtain ⟨j, hj, ht⟩ := takeEntry_parked (s := s.begin.triggered h neg g) hf hi
    have hr := trackSame_joinResidue (s.begin.triggered h neg g) j
    rw [triggerEvent_taken (s := s.begin) hd hb ht ((keeps_joinResidue _ j).same .cfg (by decide))]
    obtain ⟨h1, h2, -, h4, -, h6, h7, h8, -⟩ := entryOpened_entry (h := h) (neg := neg) (g := g)
      ((((s.begin.triggered h neg g).joinResidue j).freeEntry j).updTrack
        (fun t => { t with releasedEarly := satInc32 t.releasedEarly })) s.begin.cfg.active j
    refine ⟨h6.trans (congrArg (fun c : TrackCounts => satInc32 c.opened) hr.counts :),
      h7.trans (congrArg (fun c : TrackCounts => satInc32 c.releasedEarly) hr.counts :), h8.trans hr.full, j, hj, h1, h2, h4⟩
  · have ht := takeEntry_none (s := s.begin.triggered h neg g) hf
    rw [State.finish_tally, triggerEvent_full (s := s.begin) hd hb ht]
    exact ⟨rfl, rfl, rfl, rfl⟩

-- verdicts
section
variable (s : State) (h : Fin 32) (v : VerdictRec) (i : Fin 128)

theorem State.takeVerdict_trk : (s.takeVerdict h v).trk = s.trk := rfl
theorem State.takeVerdict_cfg : (s.takeVerdict h v).cfg = s.cfg := rfl

theorem entryOfVerdict_provisional {s : State} {h : Fin 32} {v : VerdictRec} {i : Fin 128}
    (hv : entryOfVerdict s h v = some i) : (s.trk.entries.get i).st = .provisional := by
  unfold entryOfVerdict at hv
  split at hv
  · exact nomatch hv
  · have := List.find?_some hv
    simp only [Bool.and_eq_true, beq_iff_eq] at this
    exact this.1.1

theorem traversalVerdict_entry {s : State} {h : Fin 32} {v : VerdictRec} {i : Fin 128}
    (hd : headDefined s.cfg.active h.val = true) (he : entryOfVerdict s h v = some i) :
    traversalVerdict h v s = (if isFull v.verdict then (s.takeVerdict h v).confirmEntry h v i
      else (s.takeVerdict h v).refuteEntry h v i).noteRoom := by
  unfold traversalVerdict
  dsimp only
  rw [hd, Bool.not_true, if_neg (by decide), show entryOfVerdict (s.takeVerdict h v) h v = some i from he]

theorem traversalVerdict_none {s : State} {h : Fin 32} {v : VerdictRec}
    (hd : headDefined s.cfg.active h.val = true) (he : entryOfVerdict s h v = none) (hf : isFull v.verdict = true) :
    traversalVerdict h v s = (s.takeVerdict h v).confirmOnly h v := by
  unfold traversalVerdict
  dsimp only
  rw [hd, Bool.not_true, if_neg (by decide), show entryOfVerdict (s.takeVerdict h v) h v = none from he]
  exact if_pos hf

/-- The predecessor of a PROVISIONAL entry is another one. -/
theorem ne_of_predOf {s : State} {i p : Fin 128} (hi : (s.trk.entries.get i).st = .provisional)
    (hp : predOf s (s.trk.entries.get i) = some p) : i ≠ p := by
  rintro rfl
  have := (Option.filter_eq_some_iff.mp hp).2
  rw [hi] at this
  exact absurd this (by decide)

/-- A window's advance moves its edges alone (R256). -/
theorem Entry.advance_fields (c : CfgMap) (now : Nat) (e : Entry) : (e.advance c now).st = e.st ∧
    (e.advance c now).sec = e.sec ∧ (e.advance c now).head = e.head ∧ (e.advance c now).speed = e.speed := by
  unfold Entry.advance
  split
  · split <;> exact ⟨rfl, rfl, rfl, rfl⟩
  · split <;> exact ⟨rfl, rfl, rfl, rfl⟩
  · exact ⟨rfl, rfl, rfl, rfl⟩

/-- The state of a confirmation before its entry runs on: the group is joined and the predecessor freed (R254, R261). -/
def State.confirming (s : State) (h : Fin 32) (v : VerdictRec) (i : Fin 128) : State × Nat :=
  let e := s.trk.entries.get i
  let m : GroupMember := { exitTime := v.exitTime, exitSpeed := v.exitSpeed, load := v.load
                           signature := v.signature, axleId := e.axleId }
  let j := s.joinGroup h (v.verdict == .fullNeg) m
  (match predOf s e with
    | some p => j.1.freeEntry p
    | none => j.1, j.2)

theorem State.confirming_counts : (s.confirming h v i).1.trk.counts = s.trk.counts := by
  unfold State.confirming
  dsimp only
  split
  · exact (trackSame_joinGroup ..).counts
  · exact (trackSame_joinGroup ..).counts

/-- An entry after its confirmation (R254, R256). -/
def State.confirmedEntryOf (s : State) (h : Fin 32) (v : VerdictRec) (i : Fin 128) : State :=
  let c := s.cfg.active
  let neg := v.verdict == .fullNeg
  let k := s.confirming h v i
  match sideSection c h.val (!neg) with
  | some n => k.1.updEntry i (fun x => startWindow k.1 h n (exitRel c h.val neg) neg v.exitSpeed v.exitTime
      { x with load := v.load.or ((predOf s (s.trk.entries.get i)).bind (fun p => (s.trk.entries.get p).load))
               group := k.2, taken := false })
  | none => k.1.freeEntry i

theorem State.confirmEntry_eq : s.confirmEntry h v i =
    ((s.confirmedEntryOf h v i).updTrack (fun t => { t with confirmed := satInc32 t.confirmed })).toTally
      (.confirmed h v (some i) (s.trk.entries.get i).axleId (s.confirming h v i).2
        (sideSection s.cfg.active h.val (v.verdict == .fullNeg))
        (sideSection s.cfg.active h.val (v.verdict != .fullNeg))) := rfl

theorem State.confirmedEntryOf_counts : (s.confirmedEntryOf h v i).trk.counts = s.trk.counts := by
  unfold State.confirmedEntryOf
  dsimp only
  split
  · exact State.confirming_counts s h v i
  · exact State.confirming_counts s h v i

theorem State.confirmedEntryOf_running {n : Fin 48}
    (hn : sideSection s.cfg.active h.val (v.verdict != .fullNeg) = some n) :
    ((s.confirmedEntryOf h v i).trk.entries.get i).st = .running ∧
    ((s.confirmedEntryOf h v i).trk.entries.get i).sec = some n ∧
    ((s.confirmedEntryOf h v i).trk.entries.get i).head = h ∧
    ((s.confirmedEntryOf h v i).trk.entries.get i).speed = v.exitSpeed := by
  unfold State.confirmedEntryOf
  dsimp only
  rw [show sideSection s.cfg.active h.val (!(v.verdict == .fullNeg)) = some n from hn]
  dsimp only
  rw [State.updEntry_get]
  exact Entry.advance_fields ..

theorem State.confirmedEntryOf_free (hn : sideSection s.cfg.active h.val (v.verdict != .fullNeg) = none) :
    ((s.confirmedEntryOf h v i).trk.entries.get i).st = .free := by
  unfold State.confirmedEntryOf
  dsimp only
  rw [show sideSection s.cfg.active h.val (!(v.verdict == .fullNeg)) = none from hn]
  dsimp only
  rw [State.freeEntry_get]

/-- The predecessor of a refuted entry runs on (R251). -/
def State.refuting (s : State) (h : Fin 32) (v : VerdictRec) (i : Fin 128) : State :=
  let e := s.trk.entries.get i
  let rel := refutedRel s h v e
  let neg : Bool := decide (v.exitSpeed < 0) || (v.exitSpeed == 0 && decide (2 * rel ≤ (headD s.cfg.active h.val : Int)))
  match predOf s e with
  | some p => (match (s.trk.entries.get p).sec with
    | some n => s.updEntry p (startWindow s h n rel neg v.exitSpeed v.exitTime)
    | none => s)
  | none => s

theorem State.refuting_counts : (s.refuting h v i).trk.counts = s.trk.counts := by
  unfold State.refuting
  dsimp only
  split
  · split <;> rfl
  · rfl

theorem State.refuteEntry_eq : s.refuteEntry h v i =
    (((s.refuting h v i).freeEntry i).updTrack (fun t => { t with refutedVerdict := satInc32 t.refutedVerdict })).toTally
      (.refuted h (verdictFlags v) 0 i (s.trk.entries.get i).axleId (entryFrom (s.trk.entries.get i))
        (entryTo (s.trk.entries.get i)) (s.trk.entries.get i).tRef v.exitTime v.dither v.exitSpeed true) := rfl

end

/-- Settles O26. -/
theorem verdictSettlesEntry : Obligations.VerdictSettlesEntry := by
  unfold Obligations.VerdictSettlesEntry
  refine fun s h v ha hd => ⟨fun i he hf => ?_, fun he hf => ?_, fun i he hf => ?_⟩
  all_goals
    refine runs_whenAlive (f := traversalVerdict h v) rfl ha ?_
    rw [State.finish_trk]
  · rw [State.finish_tally, traversalVerdict_entry (s := s.begin) hd he, if_pos hf, State.confirmEntry_eq]
    have hc := State.confirmedEntryOf_counts (s.begin.takeVerdict h v) h v i
    exact ⟨(congrArg (fun c : TrackCounts => satInc32 c.confirmed) hc :),
      fun n hn => State.confirmedEntryOf_running (s.begin.takeVerdict h v) h v i hn,
      fun hn => State.confirmedEntryOf_free (s.begin.takeVerdict h v) h v i hn, _, State.mem_toTally ..⟩
  · rw [State.finish_tally, traversalVerdict_none (s := s.begin) hd he hf]
    have hj := trackSame_joinGroup (s.begin.takeVerdict h v) h (v.verdict == .fullNeg)
      { exitTime := v.exitTime, exitSpeed := v.exitSpeed, load := v.load, signature := v.signature, axleId := 0 }
    exact ⟨(congrArg (fun c : TrackCounts => satInc32 c.confirmedOnly) hj.counts :), hj.entries, _, State.mem_toTally ..⟩
  · rw [traversalVerdict_entry (s := s.begin) hd he, if_neg (by rw [hf]; decide), State.refuteEntry_eq]
    have hc := State.refuting_counts (s.begin.takeVerdict h v) h v i
    exact ⟨(congrArg (fun c : TrackCounts => satInc32 c.refutedVerdict) hc :),
      congrArg Entry.st (State.freeEntry_get ((s.begin.takeVerdict h v).refuting h v i) i),
      (congrArg (fun c : TrackCounts => c.confirmed) hc :)⟩

-- timers
section
variable {s : State}

/-- GROUP_GAP over a member's speed, in steps of the grid (R261). -/
theorem groupUntil_left {g : Group} {m : GroupMember} (hm : g.members.getLast? = some m) (c : CfgMap) :
    (groupUntil c g - (m.exitTime : Rat)) * gridNs =
      (groupGap c : Rat) / 16 / ((Nat.max m.exitSpeed.natAbs 100 : Nat) : Rat) * 1000000000 := by
  unfold groupUntil
  rw [hm]
  dsimp only
  rw [show ((gridNs : Nat) : Rat) = 20000 from rfl]
  grind

theorem groupTimeout_last {h : Fin 32} {g : Group} {m : GroupMember} (hg : s.trk.groups.get h = some g)
    (hm : g.members.getLast? = some m) {k : Nat}
    (hk : ((groupGap s.cfg.active : Rat) / 16 / ((Nat.max m.exitSpeed.natAbs 100 : Nat) : Rat) * 1000000000).ceil.toNat -
      gridSince (gridTime s) m.exitTime * 20000 = k) : groupTimeout h s = (s.reach (s.now + k)).closeGroup h := by
  unfold groupTimeout
  rw [hg]
  dsimp only
  rw [hm]
  dsimp only
  rw [groupUntil_left hm, gridNs, hk]

theorem groupTimeout_empty {h : Fin 32} {g : Group} (hg : s.trk.groups.get h = some g) (hm : g.members.getLast? = none) :
    groupTimeout h s = s.closeGroup h := by
  unfold groupTimeout
  rw [hg]
  dsimp only
  rw [hm]

/-- A closed group is published and told to Tally (R261). -/
theorem closeGroup_closed {h : Fin 32} {g : Group} (hg : s.trk.groups.get h = some g) :
    (s.closeGroup h).trk.groups.get h = none ∧ (s.closeGroup h).trk.lastGroup = groupInfo h g ∧
      TallyItem.group (groupInfo h g) ∈ (s.closeGroup h).tally.inbox ∧
      ∀ j, j ≠ h → (s.closeGroup h).trk.groups.get j = s.trk.groups.get j := by
  unfold State.closeGroup
  rw [hg]
  exact ⟨Tab.get_put_self .., rfl, State.mem_toTally .., fun j hj => Tab.get_put_other _ _ _ _ hj⟩

theorem runs_groupGapTimeout {h : Fin 32} {g : Group} (ha : s.alive = true) (hg : s.trk.groups.get h = some g) :
    Runs (.groupGapTimeout h) s fun t =>
      (∀ m, g.members.getLast? = some m → t.now = s.now +
        (((groupGap s.cfg.active : Rat) / 16 / ((Nat.max m.exitSpeed.natAbs 100 : Nat) : Rat) * 1000000000).ceil.toNat -
          gridSince (gridTime s) m.exitTime * 20000)) ∧
      t.trk.groups.get h = none ∧ t.trk.lastGroup = groupInfo h g ∧ TallyItem.group (groupInfo h g) ∈ t.tally.inbox ∧
      ∀ j, j ≠ h → t.trk.groups.get j = s.trk.groups.get j := by
  refine runs_whenAlive (f := groupTimeout h) rfl ha ?_
  rw [State.finish_now, State.finish_trk, State.finish_tally]
  cases hm : g.members.getLast? with
  | none =>
    rw [groupTimeout_empty (s := s.begin) hg hm]
    exact ⟨fun _ h => (nomatch h), closeGroup_closed (s := s.begin) hg⟩
  | some m =>
    generalize hk : ((groupGap s.cfg.active : Rat) / 16 / ((Nat.max m.exitSpeed.natAbs 100 : Nat) : Rat) *
      1000000000).ceil.toNat - gridSince (gridTime s) m.exitTime * 20000 = k
    rw [groupTimeout_last (s := s.begin) hg hm hk]
    generalize hu : s.begin.reach (s.begin.now + k) = u
    have hnow : u.now = s.now + k := by
      rw [← hu, State.reach_now, State.begin_now]
      exact Nat.max_eq_right (Nat.le_add_right _ _)
    have htrk : u.trk = s.trk := by rw [← hu, State.reach_trk, State.begin_trk]
    refine ⟨fun m' hm' => ?_, ?_⟩
    · cases hm'
      exact ((keeps_closeGroup u h).same .now (by decide)).trans (hnow.trans (by rw [hk]))
    · rw [← htrk]
      exact closeGroup_closed (by rw [htrk, hg])

/-- Every entry moves on at a step of the grid (R256). -/
theorem trackerWindowUpdate_eq {t : Nat} (ht : nextStep s.power.bootAt s.now s.trk.stepAt = t) :
    (trackerWindowUpdate s).trk = { s.trk with stepAt := t, entries := Vector.map (stepEntry (s.reach t)) s.trk.entries } ∧
      (trackerWindowUpdate s).now = Nat.max s.now t := by
  unfold trackerWindowUpdate
  dsimp only
  rw [ht]
  constructor
  · refine (foldl_same State.trk _ _ fun u a _ => ?_).trans rfl
    split <;> rfl
  · refine (foldl_same State.now _ _ fun u a _ => ?_).trans (State.reach_now s t)
    split <;> rfl

theorem stepEntry_congr {s t : State} (hc : t.cfg = s.cfg) (hn : t.now = s.now) (e : Entry) :
    stepEntry t e = stepEntry s e := by
  simp only [stepEntry, hc, hn]

theorem runs_trackerWindowUpdate (ha : s.alive = true) : Runs .trackerWindowUpdate s (fun t =>
    t.trk.stepAt = nextStep s.power.bootAt s.now s.trk.stepAt ∧ t.now = Nat.max s.now t.trk.stepAt ∧
      ∀ i, t.trk.entries.get i = stepEntry { s with now := t.now } (s.trk.entries.get i)) := by
  refine runs_whenAlive (f := trackerWindowUpdate) rfl ha ?_
  generalize ht : nextStep s.power.bootAt s.now s.trk.stepAt = t
  obtain ⟨h1, h2⟩ := trackerWindowUpdate_eq (s := s.begin) ht
  rw [State.finish_trk, State.finish_now, h1, h2]
  refine ⟨rfl, rfl, fun i => ?_⟩
  refine (Tab.get_map _ _ i).trans ?_
  rw [State.begin_trk]
  refine stepEntry_congr ?_ ?_ _
  · rw [State.reach_cfg, State.begin_cfg]
  · rw [State.reach_now, State.begin_now]

theorem predictionFailed_eq {i : Fin 128} {a : Nat} (hf : failInstant s.cfg.active (s.trk.entries.get i) = some a) :
    (predictionFailed i s).trk.entries.get i = {} ∧
      (predictionFailed i s).trk.counts.refutedPrediction = satInc32 s.trk.counts.refutedPrediction ∧
      (∀ j, j ≠ i → (predictionFailed i s).trk.entries.get j = s.trk.entries.get j) ∧
      (predictionFailed i s).now = Nat.max s.now a := by
  unfold predictionFailed
  dsimp only
  rw [hf]
  dsimp only
  have hr := trackSame_joinResidue (s.reach a) i
  rw [State.noteRoom_entries, State.noteRoom_counts, State.toTally_trk]
  refine ⟨State.freeEntry_get ((s.reach a).joinResidue i) i,
    (congrArg (fun c : TrackCounts => satInc32 c.refutedPrediction) hr.counts :), fun j hj => ?_, ?_⟩
  · refine (State.freeEntry_other ((s.reach a).joinResidue i) i hj).trans ?_
    rw [hr.entries, State.reach_trk]
  · have hn : ((s.reach a).joinResidue i).now = (s.reach a).now := (keeps_joinResidue (s.reach a) i).same .now (by decide)
    rw [State.reach_now] at hn
    rw [(keeps_noteRoom _).same .now (by decide)]
    exact hn

theorem trackerFullClear_eq {a i : Nat} (hr : s.trk.roomFrom = some a) (hf : s.trk.full = true) (hi : a + sec 1 = i) :
    trackerFullClear s = { s.reach i with trk := { (s.reach i).trk with full := false } } := by
  unfold trackerFullClear
  rw [hr]
  dsimp only
  rw [hf, if_pos rfl, hi]

theorem runs_trackerFullClear {a i : Nat} (ha : s.alive = true) (hr : s.trk.roomFrom = some a) (hf : s.trk.full = true)
    (hi : a + sec 1 = i) :
    Runs .trackerFullClear s fun t => t.now = Nat.max s.now i ∧ t.trk = { s.trk with full := false } := by
  refine runs_whenAlive (f := trackerFullClear) rfl ha ?_
  rw [trackerFullClear_eq (s := s.begin) hr hf hi, State.finish_now, State.finish_trk]
  exact ⟨State.reach_now s.begin i, by rw [State.reach_trk, State.begin_trk]⟩

end

/-- Settles O27. -/
theorem trackerTimers : Obligations.TrackerTimers := by
  unfold Obligations.TrackerTimers
  refine fun s ha => ⟨fun h g hg => runs_groupGapTimeout ha hg, runs_trackerWindowUpdate ha, fun i a hf => ?_,
    fun a hr hf => runs_trackerFullClear ha hr hf rfl⟩
  refine runs_whenAlive (f := predictionFailed i) rfl ha ?_
  obtain ⟨h1, h2, h3, h4⟩ := predictionFailed_eq (s := s.begin) hf
  rw [State.finish_now, State.finish_trk]
  exact ⟨h4, h1, h2, h3⟩

end Sys2Proof.Machine

/-! SUPPORT. The CAN ports: NMT, error states, links, heartbeats and the frames that they send; with them O47 and O48 (R397, R399 to
R401, R404, R406, R414, R424, R430, R488). -/

namespace Sys2Proof.Machine

-- the two CAN ports
theorem canIdx_inj {p q : CanPort} (h : canIdx q = canIdx p) : q = p := by
  cases p <;> cases q <;> first | rfl | exact absurd h (by decide)

section
variable (s : State) (p : CanPort)

@[simp] theorem State.updCan_can (f : CanState → CanState) : (s.updCan p f).net.can = s.net.can.upd (canIdx p) f := rfl
theorem State.updCan_get (f : CanState → CanState) :
    (s.updCan p f).net.can.get (canIdx p) = f (s.net.can.get (canIdx p)) := Tab.get_upd_self ..
theorem State.updCan_other {q : CanPort} (f : CanState → CanState) (hq : q ≠ p) :
    (s.updCan p f).net.can.get (canIdx q) = s.net.can.get (canIdx q) :=
  Tab.get_upd_other _ _ _ _ fun h => hq (canIdx_inj h)

@[simp] theorem State.portEvent_can (code : Nat) (q : PortId) (x : Option CanPort) :
    (s.portEvent code q x).net.can = s.net.can := (keeps_portEvent s code q x).same .can (by decide)
@[simp] theorem State.bootUp_can : (s.bootUp p).net.can = s.net.can := (keeps_bootUp s p).same .can (by decide)
@[simp] theorem State.endCanSessions_can : (s.endCanSessions p).net.can = s.net.can :=
  (keeps_endCanSessions s p).same .can (by decide)

end

/-- A frame with a valid COB-ID is sent (R397). -/
theorem mem_sendCan {s : State} {p : CanPort} {cob : Nat} (data : List Byte) (h : bitOf cob 31 = false) :
    Msg.can p (cob % 2 ^ 11) (canFd s.cfg.active p) data ∈ (s.sendCan p cob data).sent := by
  unfold State.sendCan State.sendFrame
  rw [h, if_neg (by decide)]
  exact List.mem_append_right _ List.mem_cons_self

theorem heartbeatCob_valid (c : CfgMap) (p : CanPort) : bitOf (heartbeatCob c p) 31 = false := by
  have h : canNode c p < 256 := Nat.mod_lt _ (by decide)
  have hd : heartbeatCob c p / 2 ^ 31 = 0 := Nat.div_eq_of_lt (by unfold heartbeatCob; omega)
  unfold bitOf
  rw [hd]
  rfl

/-- The boot-up message of an enabled port on its bus (R399). -/
theorem mem_bootUp {s : State} {p : CanPort} (h : canSends s p (fun _ => true) = true) :
    Msg.can p (heartbeatCob s.cfg.active p % 2 ^ 11) (canFd s.cfg.active p) [0#8] ∈ (s.bootUp p).sent := by
  unfold State.bootUp
  rw [h, if_pos rfl]
  exact mem_sendCan _ (heartbeatCob_valid ..)

-- the end of a port's sessions
section
variable (s : State)

theorem State.endSession_get (k : Fin 4) : (s.endSession k).net.sessions.get k = none := by
  unfold State.endSession
  split
  next h => exact h
  · exact Tab.get_put_self ..

theorem State.endSession_other {k j : Fin 4} (hj : j ≠ k) :
    (s.endSession k).net.sessions.get j = s.net.sessions.get j := by
  unfold State.endSession
  split
  · rfl
  next x _ =>
    have h : ((s.sessionRecord x 3).dropSession x.origin).net.sessions = s.net.sessions :=
      (((keeps_dropSession (s.sessionRecord x 3) x.origin).same .sessions (by decide)).1).trans
        ((keeps_sessionRecord s x 3).same .sessions (by decide)).1
    exact (Tab.get_put_other _ _ _ _ hj).trans (by rw [h])

/-- A port's sessions end and the others stay (R401). -/
theorem State.endCanSessions_get (p : CanPort) {k : Fin 4} {x : Session} (h : s.net.sessions.get k = some x) :
    (s.endCanSessions p).net.sessions.get k = if x.port = canPortId p then none else some x := by
  obtain ⟨u, -, h1, h2⟩ := foldl_allFin_at (view := fun (u : State) k => u.net.sessions.get k)
    (g := fun acc k => match acc.net.sessions.get k with
      | some x => if x.port == canPortId p then acc.endSession k else acc
      | none => acc) (fun _ => True) (fun _ _ _ => trivial) (fun u i j hj => by
      split
      · split
        · exact State.endSession_other _ hj
        · rfl
      · rfl) (s := s) trivial k
  have hu : u.net.sessions.get k = some x := h1.trans h
  refine h2.trans ?_
  rw [hu]
  dsimp only
  by_cases hp : x.port = canPortId p
  · rw [if_pos (beq_iff_eq.mpr hp), if_pos hp, State.endSession_get]
  · rw [if_neg (by simpa using hp), if_neg hp, hu]

end

-- NMT
section
variable {s : State} {p : CanPort}

theorem canTakes_serving (h : canTakes s p = true) : s.serving = true := by
  simp only [canTakes, Bool.and_eq_true] at h
  exact h.1.1

/-- What an NMT Reset Communication leaves before the boot-up message (R397, R400). -/
def State.nmtReset (s : State) (p : CanPort) : State :=
  let x := s.net.can.get (canIdx p)
  let s1 := (s.endCanSessions p).updCan p freshCan
  let s2 : State := { s1 with net := { s1.net with rpdoAt := s1.net.rpdoAt.filter (fun e => e.1 != canPortId p) } }
  if x.bus != .busOff then s2 else if x.recessive then s2.busRejoin p
    else s2.updCan p (fun y => { y with rejoin := true })

theorem nmtResetCommunication_eq (p : CanPort) (s : State) : nmtResetCommunication p s = (s.nmtReset p).bootUp p := rfl

/-- The CAN controller of a port after an NMT Reset Communication. -/
def canReset (x : CanState) : CanState :=
  if x.bus != .busOff then freshCan x
  else if x.recessive then { freshCan x with bus := .active, recessive := false, rejoin := false }
  else { freshCan x with rejoin := true }

theorem State.busRejoin_can (s : State) (p : CanPort) : (s.busRejoin p).net.can =
    s.net.can.upd (canIdx p) (fun x => { x with bus := .active, recessive := false, rejoin := false }) := by
  rw [State.busRejoin, State.portEvent_can]
  rfl

theorem State.nmtReset_can (s : State) (p : CanPort) :
    (s.nmtReset p).net.can.get (canIdx p) = canReset (s.net.can.get (canIdx p)) ∧
    ∀ q, q ≠ p → (s.nmtReset p).net.can.get (canIdx q) = s.net.can.get (canIdx q) := by
  have hcan := State.endCanSessions_can s p
  have hi {q : CanPort} (hq : q ≠ p) : canIdx q ≠ canIdx p := fun h => hq (canIdx_inj h)
  unfold State.nmtReset canReset
  dsimp only
  generalize s.endCanSessions p = u at hcan
  have hself : (u.updCan p freshCan).net.can.get (canIdx p) = freshCan (s.net.can.get (canIdx p)) := by
    rw [State.updCan_get, hcan]
  have hother {q : CanPort} (hq : q ≠ p) : (u.updCan p freshCan).net.can.get (canIdx q) = s.net.can.get (canIdx q) := by
    rw [State.updCan_other _ _ _ hq, hcan]
  split
  · exact ⟨hself, fun q hq => hother hq⟩
  · split
    · rw [State.busRejoin_can]
      refine ⟨?_, fun q hq => ?_⟩
      · rw [Tab.get_upd_self]
        exact congrArg (fun x : CanState => { x with bus := .active, recessive := false, rejoin := false }) hself
      · rw [Tab.get_upd_other _ _ _ _ (hi hq)]
        exact hother hq
    · refine ⟨?_, fun q hq => ?_⟩
      · rw [State.updCan_get]
        exact congrArg (fun x : CanState => { x with rejoin := true }) hself
      · rw [State.updCan_other _ _ _ hq]
        exact hother hq

theorem State.nmtReset_sessions (s : State) (p : CanPort) :
    (s.nmtReset p).net.sessions = (s.endCanSessions p).net.sessions := by
  unfold State.nmtReset
  dsimp only
  split
  · rfl
  · split
    · exact ((keeps_busRejoin _ p).same .sessions (by decide)).1
    · rfl

theorem State.nmtReset_cfg (s : State) (p : CanPort) : (s.nmtReset p).cfg = s.cfg := by
  have hc : (s.endCanSessions p).cfg = s.cfg := (keeps_endCanSessions s p).same .cfg (by decide)
  unfold State.nmtReset
  dsimp only
  generalize s.endCanSessions p = u at hc
  split
  · exact hc
  · split
    · rw [(keeps_busRejoin _ p).same .cfg (by decide)]
      exact hc
    · exact hc

end

/-- Settles O47. -/
theorem networkManagement : Obligations.NetworkManagement := by
  unfold Obligations.NetworkManagement
  refine fun s p => ⟨fun ht => ⟨fun ha => ?_, fun hs => ?_, ?_, ?_⟩, fun hs he => ?_⟩
  · refine runs_guarded (b := fun s => canTakes s p) (f := nmtStart p) rfl ht ?_
    rw [nmtStart, if_pos (by exact ha), State.finish_net_can]
    rfl
  · refine runs_guarded (b := fun s => canTakes s p) (f := nmtStart p) rfl ht ?_
    have ha : s.begin.alive = false := by simp [State.alive, State.begin, hs]
    rw [nmtStart, ha, if_neg (by decide), State.finish_net_can]
    rfl
  · refine runs_guarded (b := fun s => canTakes s p) (f := fun s => s.setNmt p .preop) rfl ht ?_
    rw [State.finish_net_can]
    rfl
  · refine runs_guarded (b := fun s => canTakes s p) (f := nmtStop p) rfl ht ?_
    rw [State.finish_net_can, State.finish_net_sessions, nmtStop, State.endCanSessions_can]
    exact ⟨rfl, fun k x hx => State.endCanSessions_get (s.begin.setNmt p .stopped) p hx⟩
  · refine runs_guarded (b := fun s => s.serving && canEnabled s.cfg.active p) (f := nmtResetCommunication p) rfl
      (by rw [State.begin_cfg, he, Bool.and_true]; exact hs) ?_
    obtain ⟨h1, h2⟩ := State.nmtReset_can s.begin p
    rw [State.finish_net_can, State.finish_net_sessions, nmtResetCommunication_eq, State.bootUp_can, h1,
      ((keeps_bootUp _ p).same .sessions (by decide)).1, State.nmtReset_sessions]
    refine ⟨?_, ?_, fun hb hr => ?_, h2, fun k x hx => State.endCanSessions_get s.begin p hx, fun hb => ?_⟩
    · unfold canReset
      split
      · rfl
      · split <;> rfl
    · cases hb : (s.net.can.get (canIdx p)).bus <;> cases hr : (s.net.can.get (canIdx p)).recessive <;>
        simp [canReset, State.begin, hb, hr, freshCan]
    · simp [canReset, State.begin, hb, hr]
    · refine (grows_finish _).mem ?_
      have hc := State.nmtReset_cfg s.begin p
      have hm := mem_bootUp (s := s.begin.nmtReset p) (p := p) (by
        rw [canSends, hc, h1]
        simp only [State.begin_cfg, he, Bool.true_and, Bool.and_true, bne_iff_ne]
        exact hb)
      rw [hc] at hm
      exact hm

-- emergencies
/-- The emergency of a port's event goes out on the other CAN port (R397, R406). -/
theorem mem_portEvent {s : State} {p q : CanPort} {code : Nat} (hq : q ≠ p)
    (hs : canSends s q (fun n => n == .preop || n == .operational) = true)
    (hv : bitOf (cobOn s.cfg.active q 0x1014 0 0x80) 31 = false) : ∃ d : List Byte,
      Msg.can q (cobOn s.cfg.active q 0x1014 0 0x80 % 2 ^ 11) (canFd s.cfg.active q) d ∈
        (s.portEvent code (canPortId p) (some p)).sent ∧ d.take 2 = leBytes 2 code := by
  unfold State.portEvent State.emergency
  extract_lets a body s1 s2
  have h1 : s1 = s.sendCan q (cobOn s.cfg.active q 0x1014 0 0x80) body := by
    cases p <;> cases q
    · exact absurd rfl hq
    · simp [s1, bothCan, hs]
    · simp [s1, bothCan, hs]
    · exact absurd rfl hq
  have h2 : Grows s1 s2 := .foldl (fun acc p => by
    split
    · exact grows_sendDatagram ..
    · exact .refl acc) _ _
  refine ⟨body, Grows.mem (s := s1) ?_ (h1 ▸ mem_sendCan body hv), ?_⟩
  · refine h2.trans ?_
    split
    · exact .refl _
    · exact .of_eq rfl
  · simp only [body, List.append_assoc]
    exact List.take_left' (length_leBytes 2 code)

-- error states, links and heartbeats
section
variable {s : State} {p : CanPort}

theorem canErrorPassive_of_ne {off : Bool} (h : (s.net.can.get (canIdx p)).bus ≠ (if off then .busOff else .passive)) :
    canErrorPassive p off s = (s.updCan p (fun x =>
        { x with bus := if off then .busOff else .passive, recessive := false, rejoin := false })).portEvent
      (if off then Config.toBusOff.toNat else 0x8120) (canPortId p) (some p) := by
  unfold canErrorPassive
  dsimp only
  exact if_neg h

theorem runs_canErrorPassive {off : Bool} (ht : canTakes s p = true)
    (h : (s.net.can.get (canIdx p)).bus ≠ (if off then .busOff else .passive)) :
    Runs (.canErrorPassive p off) s fun t =>
      t.net.can = s.net.can.upd (canIdx p) (fun x =>
        { x with bus := if off then .busOff else .passive, recessive := false, rejoin := false }) ∧
      ∀ q, q ≠ p → canSends s q (fun n => n == .preop || n == .operational) = true →
        bitOf (cobOn s.cfg.active q 0x1014 0 0x80) 31 = false → ∃ d : List Byte,
          Msg.can q (cobOn s.cfg.active q 0x1014 0 0x80 % 2 ^ 11) (canFd s.cfg.active q) d ∈ t.sent ∧
          d.take 2 = leBytes 2 (if off then Config.toBusOff.toNat else 0x8120) := by
  refine runs_guarded (b := fun s => canTakes s p) (f := canErrorPassive p off) rfl ht ?_
  rw [canErrorPassive_of_ne (s := s.begin) h, State.finish_net_can, State.portEvent_can]
  refine ⟨rfl, fun q hq hs hv => ?_⟩
  have hsent := hs
  rw [canSends, ← State.updCan_other s p (fun x =>
    { x with bus := if off then .busOff else .passive, recessive := false, rejoin := false }) hq] at hsent
  obtain ⟨d, hm, hd⟩ := mem_portEvent (s := s.begin.updCan p (fun x =>
    { x with bus := if off then .busOff else .passive, recessive := false, rejoin := false })) (p := p)
    (code := if off then Config.toBusOff.toNat else 0x8120) hq hsent hv
  exact ⟨d, (grows_finish _).mem hm, hd⟩

theorem runs_canErrorActive (ht : canTakes s p = true) (h : (s.net.can.get (canIdx p)).bus = .passive) :
    Runs (.canErrorActive p) s fun t => t.net.can = s.net.can.upd (canIdx p) (fun x => { x with bus := .active }) := by
  refine runs_guarded (b := fun s => canTakes s p) (f := canErrorActive p) rfl ht ?_
  unfold canErrorActive
  rw [if_pos (by exact h), State.finish_net_can, State.portEvent_can]
  rfl

theorem runs_busOffRecovery (hs : s.serving = true) (he : canEnabled s.cfg.active p = true)
    (h : (s.net.can.get (canIdx p)).bus = .busOff) : Runs (.busOffRecovery p) s fun t =>
      (canAutoRecover s.cfg.active p = true ∨ (s.net.can.get (canIdx p)).rejoin = true →
        (t.net.can.get (canIdx p)).bus = .active) ∧
      (canAutoRecover s.cfg.active p = false → (s.net.can.get (canIdx p)).rejoin = false →
        (t.net.can.get (canIdx p)).bus = .busOff ∧ (t.net.can.get (canIdx p)).recessive = true) := by
  refine runs_guarded (b := fun s => s.serving && canEnabled s.cfg.active p) (f := busOffRecovery p) rfl
    (by rw [State.begin_cfg, he, Bool.and_true]; exact hs) ?_
  rw [State.finish_net_can]
  unfold busOffRecovery
  dsimp only
  rw [if_pos (by exact h)]
  refine ⟨fun hr => ?_, fun ha hr => ?_⟩
  · rw [if_pos (by simpa [Bool.or_eq_true] using hr), State.busRejoin_can, Tab.get_upd_self]
  · rw [if_neg (by simp [State.begin, ha, hr]), State.updCan_get]
    exact ⟨h, rfl⟩

theorem State.updPort_get (s : State) (p : PortId) (f : PortState → PortState) :
    (s.updPort p f).net.ports.get (portIdx p) = f (s.net.ports.get (portIdx p)) := Tab.get_upd_self ..

/-- Reports leave a port's link (R388). -/
theorem finish_link (s : State) (k : Fin 5) : ((State.finish s).net.ports.get k).linkUp = (s.net.ports.get k).linkUp ∧
    ((State.finish s).net.ports.get k).beacon = (s.net.ports.get k).beacon ∧
    ((State.finish s).net.ports.get k).hbAt = (s.net.ports.get k).hbAt ∧
    ((State.finish s).net.ports.get k).lostRxAt = (s.net.ports.get k).lostRxAt :=
  have h := State.finish_ports s k
  ⟨(congrArg PortState.linkUp h :), (congrArg PortState.beacon h :), (congrArg PortState.hbAt h :), (congrArg PortState.lostRxAt h :)⟩

theorem runs_ethLink (hs : s.serving = true) (e : EthPort) :
    Runs (.ethLinkDown e false) s (fun t => (t.net.ports.get (portIdx (ethPortId e))).linkUp = false ∧
      (t.net.ports.get (portIdx (ethPortId e))).beacon = false) ∧
    Runs (.ethLinkDown e true) s (fun t => (t.net.ports.get (portIdx (ethPortId e))).linkUp =
        (s.net.ports.get (portIdx (ethPortId e))).linkUp ∧
      (t.net.ports.get (portIdx (ethPortId e))).beacon = false) ∧
    Runs (.ethLinkUp e) s (fun t => (t.net.ports.get (portIdx (ethPortId e))).linkUp = true ∧
      (t.net.ports.get (portIdx (ethPortId e))).beacon = true) := by
  refine ⟨runs_guarded (b := State.serving) (f := fun s => s.linkDown e false) rfl hs ?_,
    runs_guarded (b := State.serving) (f := fun s => s.linkDown e true) rfl hs ?_,
    runs_guarded (b := State.serving) (f := fun s => s.linkReturns e) rfl hs ?_⟩
  all_goals
    obtain ⟨h1, h2, -, -⟩ := finish_link _ (portIdx (ethPortId e))
    rw [h1, h2]
  · rw [State.linkDown, State.updPort_get]
    exact ⟨Bool.and_false _, rfl⟩
  · rw [State.linkDown, State.updPort_get]
    exact ⟨Bool.and_true _, rfl⟩
  · rw [State.linkReturns, State.updPort_get]
    exact ⟨rfl, rfl⟩

/-- A consumer entry when a heartbeat is received (R404). -/
def hbStep (c : CfgMap) (now node : Nat) (x : CanState) (e : Fin 4) : CanState :=
  if hbNode c e.val = node ∧ hbTime c e.val ≠ 0
  then { x with hbAt := x.hbAt.put e (some now), hbMiss := x.hbMiss.put e false } else x

theorem hbStep_other (c : CfgMap) (now node : Nat) (x : CanState) {e j : Fin 4} (hj : j ≠ e) :
    (hbStep c now node x e).hbAt.get j = x.hbAt.get j ∧ (hbStep c now node x e).hbMiss.get j = x.hbMiss.get j := by
  unfold hbStep
  split
  · exact ⟨Tab.get_put_other _ _ _ _ hj, Tab.get_put_other _ _ _ _ hj⟩
  · exact ⟨rfl, rfl⟩

theorem heartbeatReceived_can (s : State) (p : CanPort) (node : Nat) :
    (heartbeatReceived p node s).net.can.get (canIdx p) =
      (allFin 4).foldl (hbStep s.cfg.active s.now node) (s.net.can.get (canIdx p)) := State.updCan_get ..

theorem runs_heartbeatReceived {node : Nat} (ht : canTakes s p = true) (e : Fin 4) :
    Runs (.heartbeatReceived p node) s fun t =>
      (hbNode s.cfg.active e.val = node ∧ hbTime s.cfg.active e.val ≠ 0 →
        (t.net.can.get (canIdx p)).hbAt.get e = some s.now ∧ (t.net.can.get (canIdx p)).hbMiss.get e = false) ∧
      (hbNode s.cfg.active e.val ≠ node ∨ hbTime s.cfg.active e.val = 0 →
        (t.net.can.get (canIdx p)).hbAt.get e = (s.net.can.get (canIdx p)).hbAt.get e ∧
        (t.net.can.get (canIdx p)).hbMiss.get e = (s.net.can.get (canIdx p)).hbMiss.get e) := by
  refine runs_guarded (b := fun s => canTakes s p) (f := heartbeatReceived p node) rfl ht ?_
  obtain ⟨u, -, h1, h2⟩ := foldl_allFin_at (view := fun (x : CanState) e => (x.hbAt.get e, x.hbMiss.get e))
    (g := hbStep s.begin.cfg.active s.begin.now node) (fun _ => True) (fun _ _ _ => trivial)
    (fun x i j hj => Prod.ext (hbStep_other _ _ _ x hj).1 (hbStep_other _ _ _ x hj).2)
    (s := s.begin.net.can.get (canIdx p)) trivial e
  obtain ⟨ha, hm⟩ := Prod.ext_iff.mp h1
  obtain ⟨ha2, hm2⟩ := Prod.ext_iff.mp h2
  dsimp only at ha hm ha2 hm2
  rw [State.finish_net_can, heartbeatReceived_can, ha2, hm2]
  refine ⟨fun hy => ?_, fun hn => ?_⟩
  · rw [hbStep, if_pos (by exact hy)]
    exact ⟨Tab.get_put_self .., Tab.get_put_self ..⟩
  · rw [hbStep, if_neg (by exact fun hy => hn.elim (fun h => h hy.1) (fun h => hy.2 h))]
    exact ⟨ha, hm⟩

theorem runs_hbConsumerMiss {e : Fin 4} {a i : Nat} (hs : s.serving = true)
    (h : (s.net.can.get (canIdx p)).hbAt.get e = some a) (hi : a + ms (hbTime s.cfg.active e.val) = i) :
    Runs (.hbConsumerMiss p e) s fun t => t.now = Nat.max s.now i ∧
      (t.net.can.get (canIdx p)).hbMiss.get e = true ∧ (t.net.can.get (canIdx p)).hbAt.get e = none := by
  refine runs_guarded (b := State.serving) (f := hbConsumerMiss p e) rfl hs ?_
  have hx : hbConsumerMiss p e s.begin = ((s.begin.reach i).updCan p (fun x =>
      { x with hbMiss := x.hbMiss.put e true, hbAt := x.hbAt.put e none })).portEvent 0x8130 (canPortId p) none := by
    unfold hbConsumerMiss
    rw [show (s.begin.net.can.get (canIdx p)).hbAt.get e = some a from h]
    dsimp only
    rw [State.begin_cfg, hi]
  rw [hx, State.finish_now, State.finish_net_can, State.portEvent_can, State.updCan_get,
    (keeps_portEvent _ _ _ _).same .now (by decide)]
  exact ⟨State.reach_now s.begin i, Tab.get_put_self .., Tab.get_put_self ..⟩

theorem heartbeatSend_eq {q : PortId} {i : Nat} (he : portEnabled s.cfg.active q = true)
    (hm : heartbeatMs s.cfg.active q ≠ 0)
    (hi : (s.net.ports.get (portIdx q)).hbAt + ms (heartbeatMs s.cfg.active q) = i) :
    heartbeatSend q s = ((s.reach i).updPort q (fun x => { x with hbAt := (s.reach i).now })).sendHeartbeat q := by
  unfold heartbeatSend
  rw [he, Bool.true_and, if_pos (by simpa using hm), hi]

/-- A datagram that is sent on an Ethernet port (R408). -/
theorem mem_sendDatagram {q : PortId} {dst : Option Nat} {typ session status ref : Nat} {body : List Byte}
    (he : portEnabled s.cfg.active q = true) (hq : isEth q = true) :
    ∃ d : Datagram, Msg.datagram q d ∈ (s.sendDatagram q dst typ session status ref body).sent ∧ d.typ = typ ∧
      d.dest = dst := by
  have hc : isCan q = false := by cases q <;> first | rfl | exact absurd hq (by decide)
  have hp : (q == .spi) = false := by cases q <;> first | rfl | exact absurd hq (by decide)
  unfold State.sendDatagram
  rw [he, hc, if_pos (show (true && !false) = true from rfl)]
  dsimp only
  rw [hp, if_neg (by decide)]
  exact ⟨_, List.mem_append_right _ List.mem_cons_self, rfl, rfl⟩

theorem mem_sendHeartbeat_can (h : canSends s p (fun _ => true) = true) :
    Msg.can p (heartbeatCob s.cfg.active p % 2 ^ 11) (canFd s.cfg.active p)
      (leBytes 1 (nmtCode (s.net.can.get (canIdx p)).nmt)) ∈ (s.sendHeartbeat (canPortId p)).sent := by
  have hid (u : State) : Grows u (u.sendIdentity p) := by
    unfold State.sendIdentity
    dsimp only
    split
    · exact grows_sendCan ..
    · exact (grows_sendCan ..).trans (grows_sendCan ..)
  have hs : s.sendHeartbeat (canPortId p) = (s.sendCan p (heartbeatCob s.cfg.active p)
      (leBytes 1 (nmtCode (s.net.can.get (canIdx p)).nmt))).sendIdentity p := by
    cases p <;> exact if_pos h
  rw [hs]
  exact (hid _).mem (mem_sendCan _ (heartbeatCob_valid ..))

theorem runs_heartbeatSend {q : PortId} {i : Nat} (hs : s.serving = true) (he : portEnabled s.cfg.active q = true)
    (hm : heartbeatMs s.cfg.active q ≠ 0)
    (hi : (s.net.ports.get (portIdx q)).hbAt + ms (heartbeatMs s.cfg.active q) = i) :
    Runs (.heartbeatSend q) s fun t => t.now = Nat.max s.now i ∧ (t.net.ports.get (portIdx q)).hbAt = t.now ∧
      (isEth q = true → ∃ d : Datagram, Msg.datagram q d ∈ t.sent ∧ d.typ = 0x91 ∧ d.dest = none) ∧
      ∀ r, q = canPortId r → canSends s r (fun _ => true) = true →
        Msg.can r (heartbeatCob s.cfg.active r % 2 ^ 11) (canFd s.cfg.active r)
          (leBytes 1 (nmtCode (s.net.can.get (canIdx r)).nmt)) ∈ t.sent := by
  refine runs_guarded (b := State.serving) (f := heartbeatSend q) rfl hs ?_
  rw [heartbeatSend_eq (s := s.begin) he hm hi]
  generalize hu : (s.begin.reach i).updPort q (fun x => { x with hbAt := (s.begin.reach i).now }) = u
  have hnow : u.now = Nat.max s.now i := by rw [← hu]; exact State.reach_now s.begin i
  have hhb : (u.net.ports.get (portIdx q)).hbAt = Nat.max s.now i := by
    rw [← hu, State.updPort_get]
    exact State.reach_now s.begin i
  have hcfg : u.cfg = s.cfg := by rw [← hu]; exact State.reach_cfg s.begin i
  have hcan : u.net.can = s.net.can := by rw [← hu]; exact (congrArg Net.can (State.reach_net s.begin i) :)
  have hports := (keeps_sendHeartbeat u q).same .ports (by decide) (portIdx q)
  have hnow2 : (u.sendHeartbeat q).now = u.now := (keeps_sendHeartbeat u q).same .now (by decide)
  rw [State.finish_now, (finish_link _ (portIdx q)).2.2.1, hnow2, hnow]
  refine ⟨rfl, (congrArg PortState.hbAt hports).trans hhb, fun hq => ?_, fun r hr hsend => (grows_finish _).mem ?_⟩
  · obtain ⟨d, hd, h1, h2⟩ := mem_sendDatagram (s := u) (q := q) (dst := none) (typ := 0x91) (session := 0) (status := 0)
      (ref := 0) (body := heartbeatBody u) (by rw [hcfg]; exact he) hq
    refine ⟨d, (grows_finish _).mem ?_, h1, h2⟩
    cases q <;> first | exact hd | exact absurd hq (by decide)
  · subst hr
    have h := mem_sendHeartbeat_can (s := u) (p := r) (by rw [canSends, hcfg, hcan]; exact hsend)
    rwa [hcfg, hcan] at h

end

/-- Settles O48. -/
theorem portStates : Obligations.PortStates := by
  unfold Obligations.PortStates
  exact ⟨fun s p => ⟨fun off ht h => runs_canErrorPassive ht h, runs_canErrorActive,
      runs_busOffRecovery, fun hs e => runs_ethLink hs e⟩,
    fun s => ⟨fun p node e ht => runs_heartbeatReceived ht e, fun p e a hs h => runs_hbConsumerMiss hs h rfl,
      fun q hs he hm => runs_heartbeatSend hs he hm rfl⟩⟩

end Sys2Proof.Machine

/-! SUPPORT. Process data in and out, and the SRDOs; with them O49 (R375, R378, R403, R405, R413, R420, R430). -/

namespace Sys2Proof.Machine

-- data received
section
variable {s : State}

/-- The writes that received data spell (R378, R403). -/
def rpdoWrites (c : CfgMap) (p : PortId) (n : Nat) (data : List Byte) : List HeldWrite :=
  (splitMap (mapEntries c (0x1600 + n)) data).map
    (fun w => { by_ := ⟨p, 0⟩, pos := 0, index := w.1, sub := w.2.1, data := w.2.2 })

theorem State.takeRpdo_of_fits (p : PortId) {n : Nat} {data : List Byte} (hv : bitOf (cfgGet s.cfg.active (0x1400 + n) 1) 31 = false)
    (hn : n < 8) (hl : mapBytes (mapEntries s.cfg.active (0x1600 + n)) ≤ data.length) :
    (s.takeRpdo p n data).net.held = s.net.held ++ rpdoWrites s.cfg.active p n data ∧
      (p, n, s.now) ∈ (s.takeRpdo p n data).net.rpdoAt ∧ (s.takeRpdo p n data).net.ports = s.net.ports := by
  have h : (!bitOf (cfgGet s.cfg.active (0x1400 + n) 1) 31 && decide (n < 8) &&
      decide (mapBytes (mapEntries s.cfg.active (0x1600 + n)) ≤ data.length)) = true := by
    rw [hv, decide_eq_true hn, decide_eq_true hl]
    rfl
  unfold State.takeRpdo
  dsimp only
  rw [if_pos h]
  exact ⟨rfl, List.mem_cons_self, rfl⟩

theorem runs_rpdoReceived_operational {p : CanPort} {n : Fin 8} {data : List Byte} (ha : s.alive = true)
    (ht : canTakes s p = true) (ho : (s.net.can.get (canIdx p)).nmt = .operational)
    (hv : bitOf (cfgGet s.cfg.active (0x1400 + n.val) 1) 31 = false)
    (hl : mapBytes (mapEntries s.cfg.active (0x1600 + n.val)) ≤ data.length) :
    Runs (.rpdoReceived p n data) s fun t =>
      t.net.held = s.net.held ++ rpdoWrites s.cfg.active (canPortId p) n.val data ∧
        (canPortId p, n.val, s.now) ∈ t.net.rpdoAt := by
  refine runs_guarded (b := fun s => s.alive && canTakes s p) (f := rpdoReceived p n data) rfl
    (by rw [Bool.and_eq_true]; exact ⟨ha, ht⟩) ?_
  rw [rpdoReceived, if_pos (by exact ho), State.finish_net_held, State.finish_net_rpdoAt]
  obtain ⟨h1, h2, -⟩ := State.takeRpdo_of_fits (s := s.begin) (canPortId p) hv n.isLt hl
  exact ⟨h1, h2⟩

theorem runs_rpdoReceived_ignored {p : CanPort} {n : Fin 8} {data : List Byte} (ha : s.alive = true)
    (ht : canTakes s p = true) (ho : (s.net.can.get (canIdx p)).nmt ≠ .operational) :
    Runs (.rpdoReceived p n data) s fun t => t.net.held = s.net.held ∧ t.net.rpdoAt = s.net.rpdoAt := by
  refine runs_guarded (b := fun s => s.alive && canTakes s p) (f := rpdoReceived p n data) rfl
    (by rw [Bool.and_eq_true]; exact ⟨ha, ht⟩) ?_
  rw [rpdoReceived, if_neg (by exact ho), State.finish_net_held, State.finish_net_rpdoAt]
  exact ⟨rfl, rfl⟩

/-- Reports leave what a port keeps beside the SEQ of its device stream (R388). -/
theorem quiet_of_keeps {l : List Part} {t : State} (h : Keeps l s t) (hl : Part.ports ∉ l) (k : Fin 5) :
    (t.net.ports.get k).quiet = (s.net.ports.get k).quiet := h.same .ports hl k

/-- What two ports share when they differ in the SEQ of their device streams alone. -/
theorem quiet_fields {x y : PortState} (h : x.quiet = y.quiet) :
    x.seq.pdExpect = y.seq.pdExpect ∧ x.lostRxAt = y.lostRxAt :=
  ⟨(congrArg (fun x : PortState => x.seq.pdExpect) h :), (congrArg PortState.lostRxAt h :)⟩

theorem State.lostRx_port (p : PortId) :
    ((s.lostRx p).net.ports.get (portIdx p)).quiet = { s.net.ports.get (portIdx p) with lostRxAt := some s.now }.quiet := by
  have h := quiet_of_keeps (keeps_portEvent (s.updPort p (fun x => { x with lostRxAt := some s.now })) 0x8250 p none)
    (by decide) (portIdx p)
  rw [State.updPort_get] at h
  exact h

/-- A gap of the host's process data sets LOST_RX (R413, R420). -/
theorem State.hostPd_port (p : PortId) (seq : Nat) :
    ((s.hostPd p seq).net.ports.get (portIdx p)).seq.pdExpect = (seq + 1) % 65536 ∧
    ((s.hostPd p seq).net.ports.get (portIdx p)).lostRxAt =
      if (s.net.ports.get (portIdx p)).seq.pdExpect = seq then (s.net.ports.get (portIdx p)).lostRxAt else some s.now := by
  unfold State.hostPd
  dsimp only
  by_cases hg : (s.net.ports.get (portIdx p)).seq.pdExpect = seq
  · rw [if_neg (by simpa using hg), if_pos hg, State.updPort_get]
    exact ⟨rfl, rfl⟩
  · have h := State.lostRx_port (s := s.updPort p (fun x => { x with seq := { x.seq with pdExpect := (seq + 1) % 65536 } })) p
    rw [State.updPort_get] at h
    rw [if_pos (by simpa using hg), if_neg hg]
    exact quiet_fields h

theorem pdHost_eq {p : EthPort} {f : EthLink} {seq : Nat} {n : Fin 8} {data : List Byte} (he : ethEnabled s.cfg.active p = true)
    (hr : ethPdRx s.cfg.active p = true) (hf : frameTaken s.cfg.active p f = true) :
    pdHost p f seq [⟨n.val + 1, data⟩] s = (s.hostPd (ethPortId p) seq).takeRpdo (ethPortId p) n.val data := by
  unfold pdHost
  rw [he, hr, hf]
  rfl

theorem runs_pdHost {p : EthPort} {f : EthLink} {seq : Nat} {n : Fin 8} {data : List Byte} (ha : s.alive = true)
    (he : ethEnabled s.cfg.active p = true) (hr : ethPdRx s.cfg.active p = true) (hf : frameTaken s.cfg.active p f = true)
    (hv : bitOf (cfgGet s.cfg.active (0x1400 + n.val) 1) 31 = false)
    (hl : mapBytes (mapEntries s.cfg.active (0x1600 + n.val)) ≤ data.length) :
    Runs (.pdHost p f seq [⟨n.val + 1, data⟩]) s fun t =>
      t.net.held = s.net.held ++ rpdoWrites s.cfg.active (ethPortId p) n.val data ∧
      (t.net.ports.get (portIdx (ethPortId p))).seq.pdExpect = (seq + 1) % 65536 ∧
      (t.net.ports.get (portIdx (ethPortId p))).lostRxAt =
        if (s.net.ports.get (portIdx (ethPortId p))).seq.pdExpect = seq
        then (s.net.ports.get (portIdx (ethPortId p))).lostRxAt else some s.now := by
  refine runs_whenAlive (f := pdHost p f seq [⟨n.val + 1, data⟩]) rfl ha ?_
  rw [pdHost_eq (s := s.begin) he hr hf, State.finish_net_held]
  have hk := keeps_hostPd s.begin (ethPortId p) seq
  have hcfg : (s.begin.hostPd (ethPortId p) seq).cfg = s.cfg := hk.same .cfg (by decide)
  have hheld : (s.begin.hostPd (ethPortId p) seq).net.held = s.net.held := hk.same .held (by decide)
  obtain ⟨h1, -, h3⟩ := State.takeRpdo_of_fits (s := s.begin.hostPd (ethPortId p) seq) (ethPortId p) (n := n.val)
    (data := data) (by rw [hcfg]; exact hv) n.isLt (by rw [hcfg]; exact hl)
  obtain ⟨h4, h5⟩ := State.hostPd_port (s := s.begin) (ethPortId p) seq
  have hq := quiet_of_keeps (keeps_finish ((s.begin.hostPd (ethPortId p) seq).takeRpdo (ethPortId p) n.val data)) (by decide)
    (portIdx (ethPortId p))
  rw [h3] at hq
  obtain ⟨h6, h7⟩ := quiet_fields hq
  exact ⟨h1.trans (by rw [hheld, hcfg]), h6.trans h4, h7.trans h5⟩

theorem runs_rpdoTimeout {p : PortId} {n : Fin 8} {a i : Nat} (ha : s.alive = true)
    (hf : s.net.rpdoAt.find? (fun e => e.1 == p && e.2.1 == n.val) = some (p, n.val, a))
    (ht : cfgGet s.cfg.active (0x1400 + n.val) 5 ≠ 0) (hi : a + ms (cfgGet s.cfg.active (0x1400 + n.val) 5) = i) :
    Runs (.rpdoTimeout p n) s fun t => t.now = Nat.max s.now i ∧ (t.net.ports.get (portIdx p)).lostRxAt = some t.now := by
  refine runs_whenAlive (f := rpdoTimeout p n) rfl ha ?_
  generalize hu : ({ s.begin.reach i with net := { (s.begin.reach i).net with
    rpdoAt := (s.begin.reach i).net.rpdoAt.filter (fun x => !(x.1 == p && x.2.1 == n.val)) } } : State) = u
  have hx : rpdoTimeout p n s.begin = u.lostRx p := by
    unfold rpdoTimeout
    rw [State.begin_net, hf]
    dsimp only
    rw [State.begin_cfg, if_neg ht, hi]
    exact congrArg (fun u => State.lostRx u p) hu
  have hnow : u.now = Nat.max s.now i := by
    rw [← hu]
    exact State.reach_now s.begin i
  have hl : (u.lostRx p).now = u.now := (keeps_portEvent _ _ p none).same .now (by decide)
  have hp := State.lostRx_port (s := u) p
  rw [hx, State.finish_now, hl, hnow, (finish_link _ (portIdx p)).2.2.2]
  exact ⟨rfl, (quiet_fields hp).2.trans (congrArg some hnow)⟩

theorem runs_lostRxExpiry {p : PortId} {a i : Nat} (ha : s.alive = true)
    (hl : (s.net.ports.get (portIdx p)).lostRxAt = some a) (hi : a + sec 1 = i) :
    Runs (.lostRxExpiry p) s fun t => t.now = Nat.max s.now i ∧ (t.net.ports.get (portIdx p)).lostRxAt = none := by
  refine runs_guarded (b := State.serving) (f := lostRxExpiry p) rfl (State.serving_of_alive ha) ?_
  have hx : lostRxExpiry p s.begin = (s.begin.reach i).updPort p (fun x => { x with lostRxAt := none }) := by
    unfold lostRxExpiry
    rw [State.begin_net, hl]
    dsimp only
    rw [hi]
  rw [hx, State.finish_now, (finish_link _ (portIdx p)).2.2.2, State.updPort_get]
  exact ⟨State.reach_now s.begin i, rfl⟩

end

-- data sent
/-- The latest sending noted (R403). -/
theorem sentOf_noteSent (l : List (Nat × Nat × List Byte)) (n t : Nat) (d : List Byte) :
    sentOf (noteSent l n t d) n = some (t, d) := by
  unfold sentOf noteSent
  rw [List.find?_cons_of_pos (by simp)]
  rfl

/-- Sends on the two CAN ports in turn: each port that sends has its message (R403, R405). -/
theorem mem_bothCan {b : State → CanPort → Bool} {f : State → CanPort → State} {m : CanPort → Msg} {s : State}
    (hg : ∀ u p, Grows u (f u p)) (hb : ∀ p q, b (f s p) q = b s q) (hm : ∀ p, m p ∈ (f s p).sent)
    (hm2 : ∀ p q, m p ∈ (f (f s q) p).sent) (q : CanPort) (hq : b s q = true) :
    m q ∈ (bothCan.foldl (fun acc p => if b acc p then f acc p else acc) s).sent := by
  unfold bothCan
  rw [List.foldl_cons, List.foldl_cons, List.foldl_nil]
  cases q with
  | a =>
    rw [if_pos hq]
    split
    · exact (hg _ _).mem (hm .a)
    · exact hm .a
  | b =>
    by_cases ha : b s .a = true
    · rw [if_pos ha, if_pos ((hb .a .b).trans hq)]
      exact hm2 .b .a
    · rw [if_neg ha, if_pos hq]
      exact hm .b

theorem State.sendFrame_same (s : State) (p : CanPort) (cob : Nat) (fd : Bool) (d : List Byte) :
    (s.sendFrame p cob fd d).cfg = s.cfg ∧ (s.sendFrame p cob fd d).net = s.net ∧ (s.sendFrame p cob fd d).now = s.now := by
  unfold State.sendFrame
  split <;> exact ⟨rfl, rfl, rfl⟩

theorem canSends_congr {s t : State} (hc : t.cfg = s.cfg) (hn : t.net.can = s.net.can) (p : CanPort) (f : Nmt → Bool) :
    canSends t p f = canSends s p f := by
  simp only [canSends, hc, hn]

theorem grows_sendFrame (s : State) (p : CanPort) (cob : Nat) (fd : Bool) (d : List Byte) : Grows s (s.sendFrame p cob fd d) := by
  unfold State.sendFrame
  split
  · exact .refl s
  · exact grows_say ..

theorem mem_sendFrame (s : State) (p : CanPort) {cob : Nat} (fd : Bool) (d : List Byte) (h : bitOf cob 31 = false) :
    Msg.can p (cob % 2 ^ 11) fd d ∈ (s.sendFrame p cob fd d).sent := by
  unfold State.sendFrame
  rw [h, if_neg (by decide)]
  exact List.mem_append_right _ List.mem_cons_self

section
variable {s : State}

/-- A single TPDO goes out on each port in Operational, and is noted (R403). -/
theorem sendTpdos_single (n : Nat) (d : List Byte) (hv : bitOf (tpdoCob s.cfg.active n) 31 = false) :
    sentOf (s.sendTpdos [(n, d)]).net.tpdoSent n = some (s.now, d) ∧ (s.sendTpdos [(n, d)]).now = s.now ∧
      ∀ q, canSends s q (fun x => x == .operational) = true →
        Msg.can q (tpdoCob s.cfg.active n % 2 ^ 11) (canFd s.cfg.active q) d ∈ (s.sendTpdos [(n, d)]).sent := by
  unfold State.sendTpdos
  extract_lets s1 s2
  have hs1 : s1 = bothCan.foldl (fun a p =>
    if canSends a p (fun n => n == .operational) then a.sendCan p (tpdoCob a.cfg.active n) d else a) s := rfl
  have h2 : Grows s1 s2 := .foldl (fun acc p => by
    dsimp only
    split
    · exact .refl acc
    · exact grows_sendDatagram ..) _ _
  have hn1 : s1.now = s.now := foldl_same State.now _ _ fun u e _ =>
    foldl_same State.now _ _ fun v p _ => by
      split
      · exact (State.sendFrame_same ..).2.2
      · rfl
  have hn2 : s2.now = s1.now := foldl_same State.now _ _ fun u p _ => by
    dsimp only
    split
    · rfl
    · exact (keeps_sendDatagram ..).same .now (by decide)
  refine ⟨?_, hn2.trans hn1, fun q hq => h2.mem ?_⟩
  · rw [← hn1, ← hn2]
    exact sentOf_noteSent ..
  · rw [hs1]
    refine mem_bothCan (b := fun a p => canSends a p (fun n => n == .operational))
      (f := fun a p => a.sendCan p (tpdoCob a.cfg.active n) d)
      (m := fun q => Msg.can q (tpdoCob s.cfg.active n % 2 ^ 11) (canFd s.cfg.active q) d)
      (fun u p => grows_sendCan ..) (fun p r => ?_) (fun p => mem_sendCan d hv) (fun p r => ?_) q hq
    · obtain ⟨h1, h2, -⟩ := State.sendFrame_same s p (tpdoCob s.cfg.active n) (canFd s.cfg.active p) d
      exact canSends_congr h1 (by exact congrArg Net.can h2) r _
    · obtain ⟨h1, -, -⟩ := State.sendFrame_same s r (tpdoCob s.cfg.active n) (canFd s.cfg.active r) d
      have hm := mem_sendCan (s := s.sendCan r (tpdoCob s.cfg.active n) d) (p := p) (cob := tpdoCob s.cfg.active n) d hv
      rw [show (s.sendCan r (tpdoCob s.cfg.active n) d).cfg = s.cfg from h1] at hm
      rw [show (s.sendCan r (tpdoCob s.cfg.active n) d).cfg = s.cfg from h1]
      exact hm

theorem runs_tpdoEventTimer {m : Fin 16} {i : Nat} (ha : s.alive = true) (ho : tpdoOn s.cfg.active m.val = true)
    (he : tpdoEventDriven s.cfg.active m.val = true) (ht : tpdoTimer s.cfg.active m.val ≠ 0)
    (hi : sentAt s s.net.tpdoSent m.val + Nat.max (ms (tpdoTimer s.cfg.active m.val)) (tpdoInhibit s.cfg.active m.val) = i) :
    Runs (.tpdoEventTimer m) s fun t => t.now = Nat.max s.now i ∧
      ∃ d, sentOf t.net.tpdoSent m.val = some (t.now, d) ∧
        ∀ q, canSends s q (fun x => x == .operational) = true →
          Msg.can q (tpdoCob s.cfg.active m.val % 2 ^ 11) (canFd s.cfg.active q) d ∈ t.sent := by
  refine runs_whenAlive (f := tpdoEventTimer m) rfl ha ?_
  have hx : tpdoEventTimer m s.begin = (s.begin.reach i).sendTpdos [(m.val, tpdoData (s.begin.reach i) m.val)] := by
    unfold tpdoEventTimer
    dsimp only
    rw [State.begin_cfg, ho, he, Bool.true_and, Bool.true_and, if_pos (by simpa using ht),
      show sentAt s.begin s.begin.net.tpdoSent m.val + Nat.max (ms (tpdoTimer s.cfg.active m.val))
        (tpdoInhibit s.cfg.active m.val) = i from hi]
  rw [hx]
  generalize hu : s.begin.reach i = u
  have hnow : u.now = Nat.max s.now i := by rw [← hu, State.reach_now, State.begin_now]
  have hcfg : u.cfg = s.cfg := by rw [← hu, State.reach_cfg, State.begin_cfg]
  have hcan : u.net.can = s.net.can := by rw [← hu, State.reach_net, State.begin_net]
  obtain ⟨h1, h2, h3⟩ := sendTpdos_single (s := u) m.val (tpdoData u m.val) (by rw [hcfg]; simpa [tpdoOn] using ho)
  rw [State.finish_now, State.finish_net_tpdoSent, h2]
  refine ⟨hnow, _, h1, fun q hq => (grows_finish _).mem ?_⟩
  have hm := h3 q (by rw [canSends_congr hcfg hcan]; exact hq)
  rwa [hcfg] at hm

theorem srdoPeriod_bounds (c : CfgMap) (n : Nat) : 2 ≤ srdoPeriod c n ∧ srdoPeriod c n ≤ 1000 := by
  exact ⟨Nat.le_max_left .., Nat.max_le.mpr ⟨by decide, Nat.min_le_left ..⟩⟩

/-- An SRDO goes out, normal and inverted, on each of its ports, and is noted (R405). -/
theorem sendSrdo_sent (n : Nat) : sentOf (s.sendSrdo n).net.srdoSent n = some (s.now, (srdoData s n).1) ∧
    (s.sendSrdo n).now = s.now ∧ ∀ q, srdoPort s q = true → bitOf (srdoVal s.cfg.active n 5) 31 = false →
      Msg.can q (srdoVal s.cfg.active n 5 % 2 ^ 11) false (srdoData s n).1 ∈ (s.sendSrdo n).sent := by
  unfold State.sendSrdo
  extract_lets c d s1
  have hsame (u : State) (p : CanPort) : ((u.sendFrame p (srdoVal c n 5) false d.1).sendFrame p (srdoVal c n 6) false d.2).cfg = u.cfg ∧
      ((u.sendFrame p (srdoVal c n 5) false d.1).sendFrame p (srdoVal c n 6) false d.2).net = u.net ∧
      ((u.sendFrame p (srdoVal c n 5) false d.1).sendFrame p (srdoVal c n 6) false d.2).now = u.now := by
    obtain ⟨a1, a2, a3⟩ := State.sendFrame_same u p (srdoVal c n 5) false d.1
    obtain ⟨b1, b2, b3⟩ := State.sendFrame_same (u.sendFrame p (srdoVal c n 5) false d.1) p (srdoVal c n 6) false d.2
    exact ⟨b1.trans a1, b2.trans a2, b3.trans a3⟩
  have hn1 : s1.now = s.now := foldl_same State.now _ _ fun u p _ => by
    split
    · exact (hsame u p).2.2
    · rfl
  refine ⟨?_, hn1, fun q hq hv => ?_⟩
  · rw [← hn1]
    exact sentOf_noteSent ..
  · exact mem_bothCan (b := srdoPort)
      (f := fun acc p => (acc.sendFrame p (srdoVal c n 5) false d.1).sendFrame p (srdoVal c n 6) false d.2)
      (m := fun q => Msg.can q (srdoVal c n 5 % 2 ^ 11) false d.1)
      (fun u p => (grows_sendFrame ..).trans (grows_sendFrame ..))
      (fun p r => by
        obtain ⟨h1, h2, -⟩ := hsame s p
        simp only [srdoPort, canSends, h1, h2])
      (fun p => (grows_sendFrame ..).mem (mem_sendFrame _ p _ _ hv))
      (fun p r => (grows_sendFrame ..).mem (mem_sendFrame _ p _ _ hv)) q hq

theorem srdoRefresh_valid {n : Fin 8} {i : Nat} (ho : srdoOn s.cfg.active n.val = true) (hv : srdoValid s.cfg.active n.val = true)
    (hi : sentAt s s.net.srdoSent n.val + ms (srdoPeriod s.cfg.active n.val) = i) :
    srdoRefresh n s = (s.reach i).sendSrdo n.val := by
  unfold srdoRefresh
  dsimp only
  rw [ho, hv, hi]
  rfl

theorem srdoRefresh_invalid {n : Fin 8} {i : Nat} (ho : srdoOn s.cfg.active n.val = true)
    (hv : srdoValid s.cfg.active n.val = false)
    (hi : sentAt s s.net.srdoSent n.val + ms (srdoPeriod s.cfg.active n.val) = i) :
    (srdoRefresh n s).now = (s.reach i).now ∧
      (srdoRefresh n s).net.srdoSent = noteSent (s.reach i).net.srdoSent n.val (s.reach i).now [] := by
  unfold srdoRefresh
  dsimp only
  rw [ho, hv, hi, if_pos rfl, if_neg (by decide)]
  split
  · exact ⟨(keeps_emergency _ _ _ none).same .now (by decide), ((keeps_emergency _ _ _ none).same .pdo (by decide)).2.2⟩
  · exact ⟨rfl, rfl⟩

theorem runs_srdoRefresh {n : Fin 8} {i : Nat} (ha : s.alive = true) (ho : srdoOn s.cfg.active n.val = true)
    (hi : sentAt s s.net.srdoSent n.val + ms (srdoPeriod s.cfg.active n.val) = i) :
    Runs (.srdoRefresh n) s fun t => t.now = Nat.max s.now i ∧
      2 ≤ srdoPeriod s.cfg.active n.val ∧ srdoPeriod s.cfg.active n.val ≤ 1000 ∧
      ∃ d, sentOf t.net.srdoSent n.val = some (t.now, d) ∧ (srdoValid s.cfg.active n.val = false → d = []) ∧
        (srdoValid s.cfg.active n.val = true → ∀ q, srdoPort s q = true →
          bitOf (srdoVal s.cfg.active n.val 5) 31 = false →
          Msg.can q (srdoVal s.cfg.active n.val 5 % 2 ^ 11) false d ∈ t.sent) := by
  refine runs_whenAlive (f := srdoRefresh n) rfl ha ?_
  obtain ⟨hb1, hb2⟩ := srdoPeriod_bounds s.cfg.active n.val
  have hnow : (s.begin.reach i).now = Nat.max s.now i := by rw [State.reach_now, State.begin_now]
  rw [State.finish_now, State.finish_net_srdoSent]
  cases hv : srdoValid s.cfg.active n.val with
  | false =>
    obtain ⟨h1, h2⟩ := srdoRefresh_invalid (s := s.begin) ho hv hi
    rw [h1, h2]
    exact ⟨hnow, hb1, hb2, [], sentOf_noteSent .., fun _ => rfl, fun h => (nomatch h)⟩
  | true =>
    rw [srdoRefresh_valid (s := s.begin) ho hv hi]
    generalize hu : s.begin.reach i = u at hnow ⊢
    have hcfg : u.cfg = s.cfg := by rw [← hu, State.reach_cfg, State.begin_cfg]
    have hcan : u.net.can = s.net.can := by rw [← hu, State.reach_net, State.begin_net]
    obtain ⟨h1, h2, h3⟩ := sendSrdo_sent (s := u) n.val
    rw [h2]
    refine ⟨hnow, hb1, hb2, _, h1, fun h => (nomatch h), fun _ q hq hc => (grows_finish _).mem ?_⟩
    have hm := h3 q (by rw [srdoPort, hcfg, canSends_congr hcfg hcan]; exact hq) (by rw [hcfg]; exact hc)
    rwa [hcfg] at hm

end

/-- Settles O49. -/
theorem processData : Obligations.ProcessData := by
  unfold Obligations.ProcessData
  exact fun s n ha => ⟨fun p data ht => ⟨runs_rpdoReceived_operational ha ht, runs_rpdoReceived_ignored ha ht⟩,
    fun p f seq data he hr hf hv hl => runs_pdHost ha he hr hf hv hl, fun p a hf ht => runs_rpdoTimeout ha hf ht rfl,
    fun p a hl => runs_lostRxExpiry ha hl rfl, fun m ho he ht => runs_tpdoEventTimer ha ho he ht rfl,
    fun ho => runs_srdoRefresh ha ho rfl⟩

end Sys2Proof.Machine

/-! SUPPORT. SDO requests; with them O50 (R373, R374, R376, R378, R379, R407, R503). -/

namespace Sys2Proof.Machine

-- reads
section
variable (s : State)

/-- What a read answers does not rest on the failures of the eMMC (R376, R480). -/
theorem objBytes_windowRead (x : Option Session) {i sub : Nat} (h : i = 0x2800 ∧ (sub = 0x09 ∨ sub = 0x0F)) :
    objBytes s.windowRead x i sub = objBytes s x i sub := by
  unfold State.windowRead
  split
  · rfl
  · obtain ⟨rfl, rfl | rfl⟩ := h
    · unfold objBytes
      rfl
    · unfold objBytes
      rfl

theorem State.windowRead_sessions : s.windowRead.net.sessions = s.net.sessions :=
  ((keeps_windowRead s).same .sessions (by decide)).1

theorem readObject_refused {k : Fin 4} {i sub : Nat} (h : readCheck s i sub ≠ 0) :
    s.readObject k i sub = (s, readCheck s i sub, []) := by
  unfold State.readObject
  dsimp only
  rw [if_pos h]

/-- A read of a present object other than AUTH_CHALLENGE (R376, R475). -/
theorem readObject_granted {k : Fin 4} {i sub : Nat} (h : readCheck s i sub = 0) (hc : ¬(i = 0x2B00 ∧ sub = 0x0E)) :
    (s.readObject k i sub).1.net.sessions = s.net.sessions ∧ (s.readObject k i sub).2.1 = 0 ∧
      (s.readObject k i sub).2.2 = objBytes s (s.net.sessions.get k) i sub := by
  unfold State.readObject
  dsimp only
  rw [if_neg (by simpa using h), if_neg hc]
  dsimp only
  split
  next hw =>
    rw [State.windowRead_sessions]
    exact ⟨rfl, rfl, objBytes_windowRead s _ hw⟩
  · exact ⟨rfl, rfl, rfl⟩

theorem receiptAbort_congr {s t : State} (hp : t.power = s.power) (x : Session) (now : Nat) (i sub : Nat) (d : List Byte) :
    receiptAbort t (some { x with lastAt := now }) i sub d = receiptAbort s (some x) i sub d := by
  unfold receiptAbort State.stopped
  rw [hp]
  rfl

end

-- the channel of a request
section
variable {s : State} {p : CanPort} {k j : Fin 4} {i sub : Nat}

theorem mem_sdoAnswer (u : State) (p : CanPort) (k : Fin 4) (i sub a : Nat) (d : List Byte) :
    Msg.sdo p k (sdoResponseCob u.cfg.active p k) i sub a d ∈ (u.sdoAnswer p k i sub a d).sent :=
  List.mem_append_right _ List.mem_cons_self

theorem sdoRead_refused (h : readCheck s i sub ≠ 0) :
    s.sdoRead p k j i sub = s.abortXfer p k i sub (readCheck s i sub) := by
  unfold State.sdoRead
  dsimp only
  rw [readObject_refused s h, if_pos h]

/-- The answer of a read that is granted: expedited, or its size (R407). -/
theorem sdoRead_granted (h : readCheck s i sub = 0) (hc : ¬(i = 0x2B00 ∧ sub = 0x0E)) :
    (s.sdoRead p k j i sub).net.sessions = s.net.sessions ∧
    ((objBytes s (s.net.sessions.get j) i sub).length ≤ expeditedMax s.cfg.active p →
      Msg.sdo p k (sdoResponseCob s.cfg.active p k) i sub 0 (objBytes s (s.net.sessions.get j) i sub) ∈
        (s.sdoRead p k j i sub).sent) ∧
    (expeditedMax s.cfg.active p < (objBytes s (s.net.sessions.get j) i sub).length →
      Msg.sdo p k (sdoResponseCob s.cfg.active p k) i sub 0 (leBytes 4 (objBytes s (s.net.sessions.get j) i sub).length) ∈
        (s.sdoRead p k j i sub).sent) := by
  obtain ⟨h1, h2, h3⟩ := readObject_granted (k := j) s h hc
  have hcfg : (s.readObject j i sub).1.cfg = s.cfg := (keeps_readObject s j i sub).same .cfg (by decide)
  unfold State.sdoRead
  dsimp only
  rw [if_neg (by simpa using h2), h3]
  by_cases hl : (objBytes s (s.net.sessions.get j) i sub).length ≤ expeditedMax s.cfg.active p
  · rw [if_pos hl]
    refine ⟨h1, fun _ => ?_, fun hn => absurd hl (Nat.not_le.mpr hn)⟩
    rw [← hcfg]
    exact mem_sdoAnswer ..
  · rw [if_neg hl]
    refine ⟨h1, fun hn => absurd hn hl, fun _ => ?_⟩
    rw [← hcfg]
    exact mem_sdoAnswer ..

/-- A write that passes its receipt is held (R378). -/
theorem sdoWrite_held {x : Session} {data : List Byte} (hx : s.net.sessions.get j = some x)
    (hs : isSessionObject i sub = false) (ha : receiptAbort s (some x) i sub data = 0) :
    (s.sdoWrite p k j i sub data).net.held =
      s.net.held ++ [{ by_ := x.origin, pos := 0, index := i, sub := sub, data := data }] := by
  unfold State.sdoWrite State.receive
  rw [hx]
  dsimp only
  rw [ha, hs, if_neg (by simp), if_neg (by decide)]

theorem sdoWrite_refused {x : Session} {data : List Byte} (hx : s.net.sessions.get j = some x)
    (ha : receiptAbort s (some x) i sub data ≠ 0) :
    (s.sdoWrite p k j i sub data).net.held = s.net.held ∧
      Msg.sdo p k (sdoResponseCob s.cfg.active p k) i sub (receiptAbort s (some x) i sub data) [] ∈
        (s.sdoWrite p k j i sub data).sent := by
  have hr (a : Nat) : (s.receiptRefusal i sub data a).net.held = s.net.held ∧
      (s.receiptRefusal i sub data a).cfg.active = s.cfg.active := by
    unfold State.receiptRefusal
    split <;> exact ⟨rfl, rfl⟩
  unfold State.sdoWrite State.receive
  rw [hx]
  dsimp only
  rw [if_pos ha]
  dsimp only
  rw [if_neg (fun h => ha h.1), ← (hr (receiptAbort s (some x) i sub data)).2]
  exact ⟨(hr _).1, mem_sdoAnswer ..⟩

theorem sdoRequest_own {r : SdoReq} (hc : channelSession s k = some (p, j)) :
    sdoRequest p k r s = (s.touch j).sdoServe p k j r := by
  unfold sdoRequest
  dsimp only
  rw [hc]
  exact if_pos rfl

theorem sdoRequest_noSlot (hc : channelSession s k = none) (hf : freeSession s = none) :
    sdoRequest p k (.read i sub) s = s.refuseSession.sdoAnswer p k i sub abortNoSlot [] := by
  unfold sdoRequest
  dsimp only
  rw [hc]
  dsimp only
  rw [if_neg (by simp), hf]
  rfl

theorem sdoRequest_opens {r : SdoReq} (hc : channelSession s k = none) (hr : r ≠ .abort) (hf : freeSession s = some j) :
    sdoRequest p k r s = (s.openChannel p k j).sdoServe p k j r := by
  unfold sdoRequest
  dsimp only
  rw [hc]
  dsimp only
  rw [if_neg hr, hf]

theorem runs_sdoRead_own {x : Session} (hv : sdoServed s p k = true) (hc : channelSession s k = some (p, j))
    (hx : s.net.sessions.get j = some x) :
    (readCheck s i sub ≠ 0 → Runs (.sdoRequest p k (.read i sub)) s fun t =>
      Msg.sdo p k (sdoResponseCob s.cfg.active p k) i sub (readCheck s i sub) [] ∈ t.sent) ∧
    (readCheck s i sub = 0 → ¬(i = 0x2B00 ∧ sub = 0x0E) → Runs (.sdoRequest p k (.read i sub)) s fun t =>
      t.net.sessions.get j = some { x with lastAt := s.now } ∧ ∃ d,
        (d.length ≤ expeditedMax s.cfg.active p → Msg.sdo p k (sdoResponseCob s.cfg.active p k) i sub 0 d ∈ t.sent) ∧
        (expeditedMax s.cfg.active p < d.length →
          Msg.sdo p k (sdoResponseCob s.cfg.active p k) i sub 0 (leBytes 4 d.length) ∈ t.sent) ∧
        d = objBytes (s.begin.touch j) (some { x with lastAt := s.now }) i sub) := by
  have ht := State.touch_get (s := s.begin) hx
  have hcheck : readCheck (s.begin.touch j) i sub = readCheck s i sub := rfl
  refine ⟨fun hr => ?_, fun hr hn => ?_⟩
  all_goals
    refine runs_guarded (b := fun s => sdoServed s p k) (f := sdoRequest p k (.read i sub)) rfl hv ?_
    rw [sdoRequest_own (s := s.begin) hc, State.sdoServe]
  · rw [sdoRead_refused (by rw [hcheck]; exact hr), hcheck]
    exact (grows_finish _).mem (mem_sdoAnswer ..)
  · obtain ⟨h1, h2, h3⟩ := sdoRead_granted (s := s.begin.touch j) (p := p) (k := k) (j := j) (by rw [hcheck]; exact hr) hn
    rw [ht] at h2 h3
    rw [State.finish_net_sessions, h1]
    exact ⟨ht, _, fun hl => (grows_finish _).mem (h2 hl), fun hl => (grows_finish _).mem (h3 hl), rfl⟩

theorem runs_sdoWrite_own {x : Session} {data : List Byte} (hv : sdoServed s p k = true)
    (hc : channelSession s k = some (p, j)) (hx : s.net.sessions.get j = some x) (hs : isSessionObject i sub = false) :
    (receiptAbort s (some x) i sub data = 0 → Runs (.sdoRequest p k (.write i sub data)) s fun t =>
      t.net.held = s.net.held ++ [{ by_ := x.origin, pos := 0, index := i, sub := sub, data := data }]) ∧
    (receiptAbort s (some x) i sub data ≠ 0 → Runs (.sdoRequest p k (.write i sub data)) s fun t =>
      Msg.sdo p k (sdoResponseCob s.cfg.active p k) i sub (receiptAbort s (some x) i sub data) [] ∈ t.sent ∧
      t.net.held = s.net.held) := by
  have ht : ((s.begin.touch j).putXfer k none).net.sessions.get j = some { x with lastAt := s.now } :=
    State.touch_get (s := s.begin) hx
  have ha : receiptAbort ((s.begin.touch j).putXfer k none) (some { x with lastAt := s.now }) i sub data =
      receiptAbort s (some x) i sub data := receiptAbort_congr rfl x s.now i sub data
  refine ⟨fun hr => ?_, fun hr => ?_⟩
  all_goals
    refine runs_guarded (b := fun s => sdoServed s p k) (f := sdoRequest p k (.write i sub data)) rfl hv ?_
    rw [sdoRequest_own (s := s.begin) hc, State.sdoServe, State.finish_net_held]
  · have h := sdoWrite_held (p := p) (k := k) ht hs (ha.trans hr)
    exact h
  · obtain ⟨h1, h2⟩ := sdoWrite_refused (p := p) (k := k) ht (by rw [ha]; exact hr)
    rw [ha] at h2
    exact ⟨(grows_finish _).mem h2, h1⟩

theorem runs_sdoRead_first (hv : sdoServed s p k = true) (hc : channelSession s k = none) :
    (freeSession s = none → Runs (.sdoRequest p k (.read i sub)) s fun t =>
      Msg.sdo p k (sdoResponseCob s.cfg.active p k) i sub abortNoSlot [] ∈ t.sent ∧ t.net.sessions = s.net.sessions ∧
      t.net.sessionsRefused = satInc32 s.net.sessionsRefused) ∧
    (∀ j, freeSession s = some j → ¬(i = 0x2B00 ∧ sub = 0x0E) → Runs (.sdoRequest p k (.read i sub)) s fun t =>
      t.net.sessions.get j = some { port := canPortId p, number := k.val + 1, peer := 0, lastAt := s.now } ∧
      ∀ n, n ≠ j → t.net.sessions.get n = s.net.sessions.get n) := by
  refine ⟨fun hf => ?_, fun j hf hn => ?_⟩
  all_goals refine runs_guarded (b := fun s => sdoServed s p k) (f := sdoRequest p k (.read i sub)) rfl hv ?_
  · rw [sdoRequest_noSlot (s := s.begin) hc hf, State.finish_net_sessions, State.finish_net_sessionsRefused]
    exact ⟨(grows_finish _).mem (mem_sdoAnswer ..), rfl, rfl⟩
  · rw [sdoRequest_opens (s := s.begin) hc (by simp) hf, State.sdoServe, State.finish_net_sessions]
    have ho : (s.begin.openChannel p k j).net.sessions = s.net.sessions.put j
        (some { port := canPortId p, number := k.val + 1, peer := 0, lastAt := s.now }) := rfl
    have hr : ((s.begin.openChannel p k j).sdoRead p k j i sub).net.sessions =
        (s.begin.openChannel p k j).net.sessions := by
      by_cases h : readCheck (s.begin.openChannel p k j) i sub = 0
      · exact (sdoRead_granted h hn).1
      · rw [sdoRead_refused h]
        rfl
    rw [hr, ho]
    exact ⟨Tab.get_put_self .., fun n hnj => Tab.get_put_other _ _ _ _ hnj⟩

theorem runs_sdoSegmentTimeout {x : SdoXfer} {t0 : Nat} (hs : s.serving = true) (hx : s.net.xfer.get k = some x)
    (hi : x.lastAt + sec 1 = t0) :
    Runs (.sdoSegmentTimeout k) s fun t => t.now = Nat.max s.now t0 ∧ t.net.xfer.get k = none ∧
      Msg.sdo x.port k (sdoResponseCob s.cfg.active x.port k) x.index x.sub 0x05040000 [] ∈ t.sent ∧
      ∀ j, j ≠ k → t.net.xfer.get j = s.net.xfer.get j := by
  refine runs_guarded (b := State.serving) (f := sdoSegmentTimeout k) rfl hs ?_
  have he : sdoSegmentTimeout k s.begin = (s.begin.reach t0).abortXfer x.port k x.index x.sub 0x05040000 := by
    unfold sdoSegmentTimeout
    rw [State.begin_net, hx]
    dsimp only
    rw [hi]
  rw [he, State.finish_now, State.finish_net_xfer]
  generalize hu : s.begin.reach t0 = u
  have hnow : u.now = Nat.max s.now t0 := by rw [← hu, State.reach_now, State.begin_now]
  have hnet : u.net = s.net := by rw [← hu, State.reach_net, State.begin_net]
  have hcfg : u.cfg = s.cfg := by rw [← hu, State.reach_cfg, State.begin_cfg]
  refine ⟨hnow, Tab.get_put_self .., (grows_finish _).mem ?_, fun j hj => ?_⟩
  · rw [← hcfg]
    exact mem_sdoAnswer (u.putXfer k none) ..
  · exact (Tab.get_put_other _ _ _ _ hj).trans (by rw [hnet])

end

/-- Settles O50. -/
theorem sdoTransfers : Obligations.SdoTransfers := by
  unfold Obligations.SdoTransfers
  exact ⟨fun s p k i sub hv => ⟨fun j x hc hx => ⟨(runs_sdoRead_own hv hc hx).1, (runs_sdoRead_own hv hc hx).2,
      fun data hs => runs_sdoWrite_own hv hc hx hs⟩, fun hc => runs_sdoRead_first hv hc⟩,
    fun s k x hs hx => runs_sdoSegmentTimeout hs hx rfl⟩

end Sys2Proof.Machine

/-! SUPPORT. Reads of READ_WINDOW, DUMP_WINDOW and AUTH_CHALLENGE on a device whose kept values name these objects; with them
O54, O59 and O60 are refuted (R428, R475, R488, R495). -/

namespace Sys2Proof.Machine

/-- ALARMS that are all told already are told no more, and without an error there is no error reset (R406, R489). -/
theorem finish_sent_of_told {s : State} (hl : s.net.emcy.lastAlarms = 2 ^ 21 - 1) (ha : s.net.emcy.active = false) :
    s.finish.sent = s.sent := by
  have hbits : ∀ i ∈ List.range 21, bitOf s.net.emcy.lastAlarms i = true := by
    rw [hl]
    decide
  have hj : (s.judgeBits (alarms s) s.net.emcy.lastAlarms).sent = s.sent ∧
      (s.judgeBits (alarms s) s.net.emcy.lastAlarms).net.emcy.active = s.net.emcy.active := by
    unfold State.judgeBits
    split
    · exact ⟨rfl, rfl⟩
    · dsimp only
      have hskip (u : State) : (List.range 21).foldl (fun acc i =>
          if bitOf (alarms s) i && !bitOf s.net.emcy.lastAlarms i then acc.emergencyBit i else acc) u = u :=
        foldl_same id _ u fun v i hi => by rw [hbits i hi, Bool.not_true, Bool.and_false, if_neg (by decide)]
      rw [hskip]
      exact ⟨rfl, rfl⟩
  obtain ⟨hsent, hact⟩ := hj
  unfold State.finish State.judgeAlarms
  dsimp only
  generalize s.judgeBits (alarms s) s.net.emcy.lastAlarms = u at hsent hact
  split
  · split
    · exact hsent
    · rw [hact, ha, Bool.false_and, if_neg (by decide)]
      exact hsent
  · rfl

/-- A read row of a served session that its object grants is answered with the object's bytes (R376). -/
theorem State.rowRead_granted {s : State} {o : Origin} {k : Fin 4} {x : Session} {i sub : Nat} (h : Served s o k x)
    (hr : readCheck (s.touch k) i sub = 0) (hc : ¬(i = 0x2B00 ∧ sub = 0x0E)) : (s.rowRead o i sub).sent =
      s.sent ++ [.value o i sub (objBytes (s.touch k) (some { x with lastAt := s.now }) i sub)] := by
  obtain ⟨hv, hk, hx, hi⟩ := h
  obtain ⟨-, h2, h3⟩ := readObject_granted (k := k) (s.touch k) hr hc
  have hsent : ((s.touch k).readObject k i sub).1.sent = s.sent :=
    (keeps_readObject (s.touch k) k i sub).same .sent (by decide)
  rw [State.touch_get hx] at h3
  unfold State.rowRead
  rw [hv, if_pos rfl, hk]
  dsimp only
  rw [hx, Option.any_some, hi, if_neg (by decide), if_neg (by simpa using h2), h3]
  exact congrArg (· ++ _) hsent

/-- A read of AUTH_CHALLENGE while a challenge is valid is answered with the object's bytes too (R428). -/
theorem State.rowRead_challenge {s : State} {o : Origin} {k : Fin 4} {x : Session} (h : Served s o k x)
    (hr : readCheck (s.touch k) 0x2B00 0x0E = 0) (hc : challengeValid (s.touch k) { x with lastAt := s.now } = true) :
    (s.rowRead o 0x2B00 0x0E).sent =
      s.sent ++ [.value o 0x2B00 0x0E (objBytes (s.touch k) (some { x with lastAt := s.now }) 0x2B00 0x0E)] ∧
    (s.rowRead o 0x2B00 0x0E).net.sessions = (s.touch k).net.sessions := by
  obtain ⟨hv, hk, hx, hi⟩ := h
  have hi' : (s.touch k).issueChallenge k = s.touch k := by
    unfold State.issueChallenge
    rw [State.touch_get hx]
    exact if_pos hc
  have hro : (s.touch k).readObject k 0x2B00 0x0E =
      (s.touch k, 0, objBytes (s.touch k) (some { x with lastAt := s.now }) 0x2B00 0x0E) := by
    unfold State.readObject
    dsimp only
    rw [if_neg (by simpa using hr), if_pos ⟨rfl, rfl⟩, hi', State.touch_get hx]
  unfold State.rowRead
  rw [hv, if_pos rfl, hk]
  dsimp only
  rw [hx, Option.any_some, hi, if_neg (by decide), hro]
  exact ⟨rfl, rfl⟩

/-- The session that reads, on SPI, with the challenge 0. -/
def windowReader : Session := { port := .spi, number := 1, peer := 0, lastAt := 0, challenge := some (0, 0) }

/-- A device with one session and an open book, whose kept values hold 1 for READ_WINDOW, DUMP_WINDOW and AUTH_CHALLENGE. -/
def frozenWindow (phase : Phase) : State :=
  { State.reset with
    power := { State.reset.power with phase := phase }
    twin := { State.reset.twin with frozen := [(cfgKey 0x2800 0x0F, 1), (cfgKey 0x2800 0x09, 1), (cfgKey 0x2B00 0x0E, 1)] }
    recd := { State.reset.recd with st := .ready }
    net := { State.reset.net with
      emcy := { State.reset.net.emcy with lastAlarms := 2 ^ 21 - 1 }
      sessions := State.reset.net.sessions.put 0 (some windowReader) } }

/-- All of its ALARMS are told. -/
theorem frozenWindow_told {phase : Phase} {u : State} (h : u.net.emcy = (frozenWindow phase).net.emcy) :
    u.finish.sent = u.sent := finish_sent_of_told (by rw [h]; rfl) (by rw [h]; rfl)

/-- The one message of a read of a window there carries the kept value. -/
theorem frozenWindow_sent {phase : Phase} {sub : Nat} (hs : Served (frozenWindow phase).begin ⟨.spi, 1⟩ 0 windowReader)
    (hsub : sub = 0x09 ∨ sub = 0x0F) : ((frozenWindow phase).begin.rowRead ⟨.spi, 1⟩ 0x2800 sub).finish.sent =
      [.value ⟨.spi, 1⟩ 0x2800 sub (leBytes 512 1)] := by
  have hk := keeps_rowRead (frozenWindow phase).begin ⟨.spi, 1⟩ 0x2800 sub
  have he : ((frozenWindow phase).begin.rowRead ⟨.spi, 1⟩ 0x2800 sub).net.emcy = (frozenWindow phase).net.emcy :=
    hk.same .emcy (by decide)
  rw [frozenWindow_told he]
  rcases hsub with rfl | rfl
  · exact State.rowRead_granted hs (by cases phase <;> rfl) (by decide)
  · exact State.rowRead_granted hs (by cases phase <;> rfl) (by decide)

/-- The value 1 is no string of zeros. -/
theorem leBytes_one_ne {n : Nat} {l : List Byte} (hl : l.head? = some 0#8) : leBytes (n + 1) 1 ≠ l := by
  intro h
  have h0 := congrArg List.head? h
  rw [hl, leBytes, List.head?_cons] at h0
  exact absurd h0 (by decide)

/-- Refutes O54: where the kept values name AUTH_CHALLENGE, a read of it answers the kept value and not the challenge that the
session holds. -/
theorem not_sessionEndAndAuthorisation : ¬ Obligations.SessionEndAndAuthorisation := by
  unfold Obligations.SessionEndAndAuthorisation
  rintro ⟨-, -, h⟩
  obtain ⟨-, -, hc, -⟩ := h (frozenWindow .running) ⟨.spi, 1⟩ 0 windowReader
  obtain ⟨t, ht, c, a, hm, -, hv, -⟩ := hc ⟨rfl, rfl, rfl, rfl, rfl, by decide⟩
  cases ht
  have hs : Served (frozenWindow .running).begin ⟨.spi, 1⟩ 0 windowReader := ⟨rfl, rfl, rfl, rfl⟩
  have hk := keeps_rowRead (frozenWindow .running).begin ⟨.spi, 1⟩ 0x2B00 0x0E
  have hsent := (frozenWindow_told (hk.same .emcy (by decide))).trans (State.rowRead_challenge hs rfl (by decide)).1
  have hx := hv (by decide)
  cases hx
  rw [hsent] at hm
  have hm' := List.mem_singleton.mp hm
  injection hm' with _ _ _ hd
  exact leBytes_one_ne (n := 15) rfl hd.symm

/-- Refutes O59: where the kept values name READ_WINDOW, a read of it answers the kept value and not the sector of the
record. -/
theorem not_recorderCommands : ¬ Obligations.RecorderCommands := by
  unfold Obligations.RecorderCommands
  rintro ⟨-, -, -, -, h⟩
  obtain ⟨t, ht, hm⟩ := (h (frozenWindow .running) ⟨.spi, 1⟩ 0 windowReader).2 ⟨rfl, rfl, rfl, rfl, rfl, by decide⟩
  cases ht
  rw [frozenWindow_sent ⟨rfl, rfl, rfl, rfl⟩ (.inl rfl), List.mem_singleton] at hm
  refine leBytes_one_ne (n := 511) ?_ (by injection hm with _ _ _ hd; exact hd.symm)
  unfold readWindow
  rw [if_neg (by decide), show (512 : Nat) = 511 + 1 from rfl, memRead, List.head?_cons]
  rfl

/-- Refutes O60: where the kept values of a stopped device name DUMP_WINDOW, a read of it answers the kept value and not the
bytes of the dump. -/
theorem not_dumpWindowReads : ¬ Obligations.DumpWindowReads := by
  unfold Obligations.DumpWindowReads
  intro h
  obtain ⟨-, hd, -⟩ := h (frozenWindow .stopped) ⟨.spi, 1⟩ 0 windowReader ⟨rfl, rfl, rfl, rfl⟩
  obtain ⟨t, ht, -, -, d, hm, -, hb⟩ := hd (by decide)
  cases ht
  rw [frozenWindow_sent ⟨rfl, rfl, rfl, rfl⟩ (.inr rfl), List.mem_singleton] at hm
  cases hm
  refine leBytes_one_ne (n := 511) ?_ (hb rfl)
  rw [show (512 : Nat) = 511 + 1 from rfl, List.range_succ_eq_map]
  rfl

end Sys2Proof.Machine

/-! SUPPORT. Receipt and judgement of held writes; with them O51 (R375, R378 to R381, R392). -/

namespace Sys2Proof.Machine

-- receipt
section
variable {s : State} {o : Origin} {i sub : Nat} {data : List Byte} {k : Fin 4} {x : Session}

/-- A write row changes its session's time before its receipt, and no more (R424). -/
theorem receiptAbort_touch (s : State) (k : Fin 4) (x : Session) (i sub : Nat) (data : List Byte) :
    receiptAbort (s.begin.touch k) (some x) i sub data = receiptAbort s (some x) i sub data := by
  unfold receiptAbort State.stopped
  rfl

theorem State.rowReceive_idle (h : Served s o k x) : s.rowReceive o i sub data = (s.touch k).takeWrite k x i sub data := by
  obtain ⟨hv, hk, hx, hi⟩ := h
  simp [State.rowReceive, hv, hk, hx, hi]

theorem State.takeWrite_refused (ho : x.origin = o) (h : receiptAbort s (some x) i sub data ≠ 0)
    (hi : ¬(i = 0x2900 ∧ sub = 0x0B)) :
    (s.takeWrite k x i sub data).1 = s.answer o i sub (receiptAbort s (some x) i sub data) := by
  have hr : s.receiptRefusal i sub data (receiptAbort s (some x) i sub data) = s := if_neg fun h => hi ⟨h.1, h.2.1⟩
  rw [State.takeWrite, if_pos h, hr, ho]

theorem State.takeWrite_held (ho : x.origin = o) (h : receiptAbort s (some x) i sub data = 0)
    (hi : isSessionObject i sub = false) :
    (s.takeWrite k x i sub data).1 =
      { s with net := { s.net with held := s.net.held ++ [rowHeld o i sub data] } } := by
  rw [State.takeWrite, if_neg (by rw [h]; decide), hi, ho]
  rfl

theorem served_of_asks {c : Instr} {l : Level} (h : Asks c s o l k x) : Served s.begin o k x :=
  ⟨State.serving_of_alive h.alive, h.slot, h.holds, h.idle⟩

theorem runs_genericWrite_refused {c : Instr} {l : Level} (h : Asks c s o l k x)
    (ha : receiptAbort s (some x) i sub data ≠ 0) (hi : ¬(i = 0x2900 ∧ sub = 0x0B)) :
    Runs (.genericWrite o i sub data) s fun t =>
      Msg.answer o i sub (receiptAbort s (some x) i sub data) ∈ t.sent ∧ Keeps (.sessions :: reports) s t := by
  refine runs_of_run (f := fun s => (s.rowReceive o i sub data).1) rfl ?_
  have ht := receiptAbort_touch s k x i sub data
  have hr := State.takeWrite_refused (s := s.begin.touch k) (k := k) (data := data) (origin_of_sessionSlot h.slot h.holds)
    (by rw [ht]; exact ha) hi
  rw [State.rowReceive_idle (served_of_asks h), hr, ht]
  exact ⟨(grows_finish _).mem (by simp [State.answer]),
    ((((keeps_begin s).mono rfl).trans ((keeps_touch _ k).mono rfl)).trans ((keeps_answer ..).mono rfl)).trans
      ((keeps_finish _).mono rfl)⟩

theorem runs_genericWrite_held {c : Instr} {l : Level} (h : Asks c s o l k x)
    (ha : receiptAbort s (some x) i sub data = 0) (hi : isSessionObject i sub = false) :
    Runs (.genericWrite o i sub data) s fun t =>
      t.net.held = s.net.held ++ [rowHeld o i sub data] ∧ Keeps ([.sessions, .held] ++ reports) s t := by
  refine runs_of_run (f := fun s => (s.rowReceive o i sub data).1) rfl ?_
  have ht := receiptAbort_touch s k x i sub data
  have hr := State.takeWrite_held (s := s.begin.touch k) (k := k) (data := data) (origin_of_sessionSlot h.slot h.holds)
    (by rw [ht]; exact ha) hi
  rw [State.rowReceive_idle (served_of_asks h), hr]
  refine ⟨?_, ((((keeps_begin s).mono rfl).trans ((keeps_touch _ k).mono rfl)).trans
    ((keeps_set_net_held ..).mono rfl)).trans ((keeps_finish _).mono rfl)⟩
  rw [State.finish_net_held]
  rfl

/-- A request of a session of which a write is held is answered OUTSTANDING (R381). -/
def ToldOutstanding (s : State) (o : Origin) (i sub : Nat) (t : State) : Prop :=
  Msg.outstanding o i sub ∈ t.sent ∧ Keeps (.sessions :: reports) s t

theorem toldOutstanding (s : State) (o : Origin) (k : Fin 4) (i sub : Nat) :
    ToldOutstanding s o i sub ((s.begin.touch k).say (.outstanding o i sub)).finish :=
  ⟨(grows_finish _).mem (by simp), ((((keeps_begin s).mono rfl).trans ((keeps_touch _ k).mono rfl)).trans
    ((keeps_say ..).mono rfl)).trans ((keeps_finish _).mono rfl)⟩

theorem runs_genericWrite_outstanding (hv : s.serving = true) (hk : sessionSlot s o = some k)
    (hx : s.net.sessions.get k = some x) (ho : outstanding s x = true) :
    Runs (.genericWrite o i sub data) s (ToldOutstanding s o i sub) := by
  refine runs_of_run (f := fun s => (s.rowReceive o i sub data).1) rfl ?_
  have h : (s.begin.rowReceive o i sub data).1 = (s.begin.touch k).say (.outstanding o i sub) := by
    have hv' : s.begin.serving = true := hv
    have hk' : sessionSlot s.begin o = some k := hk
    have hx' : s.begin.net.sessions.get k = some x := hx
    have ho' : outstanding s.begin x = true := ho
    simp only [State.rowReceive, hv', hk', hx', ho', if_true]
  rw [h]
  exact toldOutstanding s o k i sub

theorem State.rowRead_outstanding (hv : s.serving = true) (hk : sessionSlot s o = some k)
    (hx : s.net.sessions.get k = some x) (ho : outstanding s x = true) :
    s.rowRead o i sub = (s.touch k).say (.outstanding o i sub) := by
  simp only [State.rowRead, hv, hk, hx, Option.any_some, ho, if_true]

theorem runs_rowRead_outstanding {c : Instr} (hc : exec c s = run s fun s => s.rowRead o i sub) (hv : s.serving = true)
    (hk : sessionSlot s o = some k) (hx : s.net.sessions.get k = some x) (ho : outstanding s x = true) :
    Runs c s (ToldOutstanding s o i sub) := by
  refine runs_of_run (f := fun s => s.rowRead o i sub) hc ?_
  rw [State.rowRead_outstanding (s := s.begin) hv hk hx ho]
  exact toldOutstanding s o k i sub

end

-- what a judgement rests on
theorem judgeAbort_congr {s t : State} (hc : t.cfg = s.cfg) (ht : t.tally = s.tally) (hr : t.recd.steady = s.recd.steady)
    (i sub v : Nat) : judgeAbort t i sub v = judgeAbort s i sub v := by
  have h1 : t.recd.st = s.recd.st := (congrArg Recorder.st hr :)
  have h2 : t.recd.job = s.recd.job := (congrArg Recorder.job hr :)
  have h3 : t.recd.cardW = s.recd.cardW := (congrArg Recorder.cardW hr :)
  have hw : windowTooSmall t = windowTooSmall s := by simp only [windowTooSmall, h3, hc]
  have hrec (v : Nat) : recCmdRefused t v = recCmdRefused s v := by simp only [recCmdRefused, h1, h2, hw]
  have hres (n : Fin 48) (v : Nat) : restoreRefused t n v = restoreRefused s n v := by simp only [restoreRefused, hc, ht]
  have hcmd (v : Nat) : cfgCmdRefused t v = cfgCmdRefused s v := by simp only [cfgCmdRefused, cfgBusy, shadowValid, hc]
  have hep (v : Nat) : epochRefused t v = epochRefused s v := by simp only [epochRefused, cfgBusy, shadowValid, hc]
  have hst : stateRefused t i sub v = stateRefused s i sub v := by simp only [stateRefused, hrec, hres, hcmd, hep]
  have hl : cfgLocked t = cfgLocked s := by simp only [cfgLocked, cfgBusy, hc]
  unfold judgeAbort
  rw [hst, hl]

theorem heldAbort_row {w : HeldWrite} (hw : w.row = true) (s : State) :
    heldAbort s w = judgeAbort s w.index w.sub (ofLe w.data) := by
  have hp : w.isPd = false := by rw [HeldWrite.isPd, hw]; rfl
  unfold heldAbort
  rw [hp]
  rfl

theorem heldAbort_row_congr {w : HeldWrite} (hw : w.row = true) {l : List Part} {s t : State} (h : Keeps l s t)
    (hl : misses [.cfg, .tally, .recd] l = true) : heldAbort t w = heldAbort s w := by
  have same (p : Part) (hp : p ∈ [Part.cfg, .tally, .recd]) : p.same s t :=
    h.same p (by simpa using List.all_eq_true.mp hl p hp)
  rw [heldAbort_row hw, heldAbort_row hw]
  exact judgeAbort_congr (same .cfg (by simp)) (same .tally (by simp)) (same .recd (by simp)) _ _ _

/-- A staged object has no further check than the lock (R379, R443). -/
theorem judgeAbort_staged {i sub : Nat} {ob : ObjInfo} (hi : objInfo i sub = some ob) (hc : ob.cls = .staged) (s : State)
    (v : Nat) : judgeAbort s i sub v = if cfgLocked s = true then abortLocked else 0 := by
  have hn : stateRefused s i sub v = false := by
    unfold stateRefused
    have other {k m : Nat} {info : ObjInfo} (hk : objInfo k m = some info) (hcls : info.cls ≠ .staged) :
        ¬ (i == k && sub == m) = true := by
      intro he
      obtain ⟨h5, h6⟩ := Bool.and_eq_true_iff.mp he
      rw [beq_iff_eq.mp h5, beq_iff_eq.mp h6, hk] at hi
      cases hi
      exact hcls hc
    have hr : ¬ (within i 0x2200 0x222F && sub == 0x0B) = true := by
      intro he
      simp only [Bool.and_eq_true, beq_iff_eq, within, decide_eq_true_eq] at he
      obtain ⟨⟨h5, h6⟩, rfl⟩ := he
      obtain ⟨n, rfl⟩ : ∃ n : Fin 48, i = 0x2200 + n.val := ⟨⟨i - 0x2200, by omega⟩, by simp only; omega⟩
      rw [(restoreCmd_object n).info] at hi
      cases hi
      exact nomatch hc
    rw [if_neg hr, if_neg (other rfl (by decide)), if_neg (other rfl (by decide)), if_neg (other rfl (by decide))]
  unfold judgeAbort
  rw [hi]
  dsimp only
  rw [hn, hc]
  rfl

-- what a judgement does with the write of a row
section
variable {s : State} {w : HeldWrite} (hw : w.row = true)
include hw

theorem State.answerHeld_row (a : Nat) : s.answerHeld w a = s.say (.answer w.by_ w.index w.sub a) := if_pos hw

theorem State.grantWrite_row (ha : s.alive = true) (h0 : heldAbort s w = 0) :
    s.grantWrite w = (s.say (.answer w.by_ w.index w.sub 0)).applyWrite w.by_ w.index w.sub w.data := by
  unfold State.grantWrite
  dsimp only
  rw [if_pos ha, if_neg (by rw [h0]; decide), State.answerHeld_row hw]

theorem State.refuseWrite_row {a : Nat} (ha : a ≠ abortState) :
    s.refuseWrite w a = s.say (.answer w.by_ w.index w.sub a) := by
  have hp : w.isPd = false := by rw [HeldWrite.isPd, hw]; rfl
  unfold State.refuseWrite State.judgeRefusal State.dropHeld
  rw [if_neg ha, hp]
  exact State.answerHeld_row hw a

theorem State.refuseBusy_row :
    s.refuseBusy w = (s.countBusy w.by_.port).say (.answer w.by_ w.index w.sub abortBusy) := by
  have hp : w.isPd = false := by rw [HeldWrite.isPd, hw]; rfl
  unfold State.refuseBusy
  rw [hp]
  exact State.refuseWrite_row hw (by decide)

end

theorem busy_of_keeps {l : List Part} {s t : State} (h : Keeps l s t) (hl : Part.ports ∉ l) (k : Fin 5) :
    (t.net.ports.get k).busy = (s.net.ports.get k).busy := (congrArg PortState.busy (h.same .ports hl k) :)

section
variable {s : State} {w : HeldWrite} (hw : w.row = true)
include hw

theorem State.grantWrite_row_says (ha : s.alive = true) (h0 : heldAbort s w = 0) :
    (s.grantWrite w).sent = s.sent ++ [.answer w.by_ w.index w.sub 0] ∧
      ∀ k, ((s.grantWrite w).net.ports.get k).busy = (s.net.ports.get k).busy := by
  rw [State.grantWrite_row hw ha h0]
  have hk := keeps_applyWrite (s.say (.answer w.by_ w.index w.sub 0)) w.by_ w.index w.sub w.data
  exact ⟨hk.same .sent (by decide), fun k => busy_of_keeps hk (by decide) k⟩

theorem State.refuseBusy_row_says :
    (s.refuseBusy w).sent = s.sent ++ [.answer w.by_ w.index w.sub abortBusy] ∧
      ((s.refuseBusy w).net.ports.get (portIdx w.by_.port)).busy =
        satInc32 (s.net.ports.get (portIdx w.by_.port)).busy ∧ (s.refuseBusy w).alive = s.alive := by
  rw [State.refuseBusy_row hw]
  refine ⟨rfl, ?_, rfl⟩
  exact congrArg PortState.busy (State.updPort_get (s := s) w.by_.port _)

/-- A refusal as busy leaves the checks of another row as they were. -/
theorem State.refuseBusy_row_abort {v : HeldWrite} (hv : v.row = true) : heldAbort (s.refuseBusy w) v = heldAbort s v := by
  rw [State.refuseBusy_row hw]
  exact heldAbort_row_congr hv (((keeps_countBusy s w.by_.port).mono rfl).trans
    ((keeps_say (s.countBusy w.by_.port) (.answer w.by_ w.index w.sub abortBusy)).mono (b := [.ports, .stream, .sent]) rfl)) rfl

end

-- the judgement of all held writes
/-- Two writes to one object that pass their checks: the one that R380 prefers is applied. -/
theorem State.judgePart_pair {s : State} {a b : HeldWrite} (h1 : heldAbort s a = 0) (h2 : heldAbort s b = 0)
    (hi : a.index = b.index) (hs : a.sub = b.sub) :
    s.judgePart [(a, 0), (b, 1)] = if portRank s.cfg.active b.by_.port < portRank s.cfg.active a.by_.port
      then (s.refuseBusy a).grantWrite b else (s.grantWrite a).refuseBusy b := by
  have hok : List.filter (fun w => heldAbort s w.1 == 0) [(a, 0), (b, 1)] = [(a, 0), (b, 1)] := by simp [h1, h2]
  unfold State.judgePart
  rw [hok]
  by_cases hr : portRank s.cfg.active b.by_.port < portRank s.cfg.active a.by_.port
  · have h3 : ¬portRank s.cfg.active a.by_.port < portRank s.cfg.active b.by_.port := by omega
    have h4 : portRank s.cfg.active a.by_.port ≠ portRank s.cfg.active b.by_.port := by omega
    simp [h1, h2, beats, hi, hs, hr, h3, h4]
  · by_cases h3 : portRank s.cfg.active a.by_.port = portRank s.cfg.active b.by_.port
    · simp [h1, h2, beats, hi, hs, h3]
    · have h4 : portRank s.cfg.active a.by_.port < portRank s.cfg.active b.by_.port := by omega
      simp [h1, h2, beats, hi, hs, hr, h4, Ne.symm h3]

theorem heldStaged_of_hibernate {w : HeldWrite} (h : heldHibernate w = true) : heldStaged w = false := by
  simp only [heldHibernate, Bool.and_eq_true, beq_iff_eq] at h
  unfold heldStaged
  rw [h.1, h.2]
  rfl

/-- Held writes to one object are judged together (R380). -/
theorem State.judgeAll_alike {s : State} {i sub : Nat} (h : ∀ w ∈ s.net.held, w.index = i ∧ w.sub = sub) :
    s.judgeAll = ({ s with net := { s.net with held := [] } } : State).judgePart s.net.held.zipIdx := by
  have hm (w : HeldWrite × Nat) (hw : w ∈ s.net.held.zipIdx) : w.1.index = i ∧ w.1.sub = sub :=
    h w.1 (List.fst_mem_of_mem_zipIdx hw)
  have hs (w : HeldWrite × Nat) (hw : w ∈ s.net.held.zipIdx) :
      heldStaged w.1 = heldStaged { by_ := ⟨.spi, 0⟩, pos := 0, index := i, sub := sub, data := [] } := by
    unfold heldStaged
    rw [(hm w hw).1, (hm w hw).2]
  have hh (w : HeldWrite × Nat) (hw : w ∈ s.net.held.zipIdx) : heldHibernate w.1 = (i == 0x2000 && sub == 0x18) := by
    unfold heldHibernate
    rw [(hm w hw).1, (hm w hw).2]
  unfold State.judgeAll
  generalize hstg : heldStaged { by_ := ⟨.spi, 0⟩, pos := 0, index := i, sub := sub, data := [] } = g at hs
  generalize hhib : (i == 0x2000 && sub == 0x18) = e at hh
  dsimp only
  have hpart (f : HeldWrite × Nat → Bool) (b : Bool) (hf : ∀ w ∈ s.net.held.zipIdx, f w = b) :
      s.net.held.zipIdx.filter f = if b = true then s.net.held.zipIdx else [] := by
    cases b
    · exact List.filter_eq_nil_iff.mpr fun w hw => by rw [hf w hw]; decide
    · exact List.filter_eq_self.mpr hf
  rw [hpart _ g hs, hpart _ (!g && !e) (fun w hw => by rw [hs w hw, hh w hw]), hpart _ e hh]
  cases g
  · cases e <;> rfl
  · cases e
    · rfl
    · have hx := heldStaged_of_hibernate (w := { by_ := ⟨.spi, 0⟩, pos := 0, index := i, sub := sub, data := [] }) hhib
      rw [hstg] at hx
      exact nomatch hx

/-- Judging leaves nothing new held, and the tick instant as it was. -/
def Judged (s t : State) : Prop := (s.net.held = [] → t.net.held = []) ∧ t.engine.tickAt = s.engine.tickAt

theorem Judged.of_keeps {l : List Part} {s t : State} (h : Keeps l s t) (hl : misses [.held, .engine] l = true) : Judged s t := by
  have same (p : Part) (hp : p ∈ [Part.held, .engine]) : p.same s t :=
    h.same p (by simpa using List.all_eq_true.mp hl p hp)
  have hh : t.net.held = s.net.held := same .held (by simp)
  have he : t.engine = s.engine := same .engine (by simp)
  exact ⟨fun h0 => hh.trans h0, congrArg Engine.tickAt he⟩

theorem Judged.trans {s t u : State} (h : Judged s t) (k : Judged t u) : Judged s u :=
  ⟨fun h0 => k.1 (h.1 h0), k.2.trans h.2⟩

theorem Judged.ite {c : Prop} [Decidable c] {s a b : State} (ha : Judged s a) (hb : Judged s b) :
    Judged s (if c then a else b) := by
  split
  · exact ha
  · exact hb

theorem Judged.refl (s : State) : Judged s s := ⟨id, rfl⟩

theorem judged_endSession (s : State) (k : Fin 4) : Judged s (s.endSession k) := by
  unfold State.endSession
  split
  · exact .refl s
  · next x _ =>
    have hd : Judged (s.sessionRecord x 3) ((s.sessionRecord x 3).dropSession x.origin) := by
      have ha : Judged (s.sessionRecord x 3) ((s.sessionRecord x 3).armLost x.origin) := .of_keeps (keeps_armLost _ _) rfl
      exact ⟨fun h0 => congrArg (List.filter _) (ha.1 h0), ha.2⟩
    exact (Judged.of_keeps (keeps_sessionRecord s x 3) rfl).trans (hd.trans (.of_keeps (keeps_putSession _ k none) rfl))

theorem judged_closeRequest (s : State) (k : Fin 4) : Judged s (s.closeRequest k) := by
  unfold State.closeRequest
  split
  · exact .refl s
  · next r _ =>
    dsimp only
    have ha : Judged s ((s.updSession k (fun x => { x with request := none })).respond k 0x04 r.seq (writeBody r.items)) :=
      (Judged.of_keeps (keeps_updSession ..) rfl).trans (.of_keeps (keeps_respond ..) rfl)
    exact .ite (.ite (ha.trans (judged_endSession _ k)) ha) (.refl s)

theorem judged_answerHeld (s : State) (w : HeldWrite) (a : Nat) : Judged s (s.answerHeld w a) := by
  unfold State.answerHeld
  refine .ite (.of_keeps (keeps_say ..) rfl) (.ite (.refl s) ?_)
  split
  · exact .of_keeps (keeps_sdoAnswer ..) rfl
  · split
    · exact (Judged.of_keeps (keeps_updSession ..) rfl).trans (judged_closeRequest _ _)
    · exact .refl s

theorem judged_refuseWrite (s : State) (w : HeldWrite) (a : Nat) : Judged s (s.refuseWrite w a) := by
  unfold State.refuseWrite State.dropHeld
  exact (Judged.of_keeps (keeps_judgeRefusal ..) rfl).trans
    (Judged.trans (.ite (.of_keeps (keeps_countBusy ..) rfl) (.refl _)) (judged_answerHeld _ w a))

theorem judged_refuseBusy (s : State) (w : HeldWrite) : Judged s (s.refuseBusy w) := by
  unfold State.refuseBusy
  exact Judged.trans (.ite (.refl s) (.of_keeps (keeps_countBusy ..) rfl)) (judged_refuseWrite _ w _)

theorem judged_liveWrite (s : State) (o : Origin) (i sub v : Nat) (data : List Byte) :
    Judged s (s.liveWrite o i sub v data) := by
  unfold State.liveWrite
  refine .ite (.of_keeps (keeps_clearHistory s) rfl) <| .ite (.of_keeps (keeps_enterHibernate s 0 (some o)) rfl) <|
    .ite (.of_keeps (Keeps.elim (.refl _ s) fun k => keeps_captureArm k v s) rfl) <|
    .ite (.of_keeps (Keeps.elim (.refl _ s) fun n => keeps_sectionWrite s o n sub v) rfl) <|
    .ite (.of_keeps (keeps_permitWrite s o sub v) rfl) <| .ite ⟨id, rfl⟩ <|
    .ite (.of_keeps (keeps_terminalWrite s sub v) rfl) <|
    .ite (.ite (.of_keeps (keeps_correlateWrite s o v) rfl) (.of_keeps (keeps_recCommand s o v) rfl)) <|
    .ite (.of_keeps (keeps_cfgWrite s sub v data) rfl) <|
    .ite (.ite (.of_keeps (keeps_stopTestWrite s) rfl) (.of_keeps (keeps_checkNow v s) rfl)) <|
    .ite (.of_keeps (keeps_installKey s v) rfl) (.refl s)

theorem judged_grantWrite (s : State) (w : HeldWrite) : Judged s (s.grantWrite w) := by
  have hw (u : State) : Judged u (u.applyWrite w.by_ w.index w.sub w.data) := by
    unfold State.applyWrite
    split
    · exact .refl u
    · exact .ite (.of_keeps (keeps_stage ..) rfl) (judged_liveWrite ..)
  unfold State.grantWrite
  dsimp only
  exact .ite (.ite (judged_refuseWrite s w _) ((judged_answerHeld s w 0).trans (hw _))) (.refl s)

theorem judged_judgePart (s : State) (ws : List (HeldWrite × Nat)) : Judged s (s.judgePart ws) := by
  unfold State.judgePart
  extract_lets ok
  refine List.foldlRecOn ws _ (.refl s) fun acc hacc w _ => ?_
  dsimp only
  exact .ite (hacc.trans (judged_refuseWrite ..))
    (.ite (hacc.trans (judged_refuseBusy ..)) (hacc.trans (judged_grantWrite ..)))

theorem judgeAll_judged (s : State) : s.judgeAll.net.held = [] ∧ s.judgeAll.engine.tickAt = s.engine.tickAt := by
  have h : Judged ({ s with net := { s.net with held := [] } } : State) s.judgeAll :=
    ((judged_judgePart _ _).trans (judged_judgePart _ _)).trans (judged_judgePart _ _)
  exact ⟨h.1 rfl, h.2⟩

-- FB_VALUE of a law
section
variable (l : Fin 16)

theorem objInfo_fbValue : objInfo (0x2501 + l.val) 0x1D = some { size := 4, access := .rw, cls := .live } := by
  revert l
  decide

theorem valueRefused_fbValue (v : Nat) : valueRefused (0x2501 + l.val) 0x1D v = false := by
  have h : engineValueBad (0x2501 + l.val) 0x1D v = false := by simp [engineValueBad, within]
  simp [valueRefused, h]

/-- Process data of four bytes pass every check there (R375, R379). -/
theorem heldAbort_fbValue {s : State} (ha : s.alive = true) (p : PortId) {data : List Byte} (hl : data.length = 4) :
    heldAbort s { by_ := ⟨p, 0⟩, pos := 0, index := 0x2501 + l.val, sub := 0x1D, data := data } = 0 := by
  have hs : s.stopped = false := State.stopped_of_alive ha
  have h2 : stateRefused s (0x2501 + l.val) 0x1D (ofLe data) = false := by simp [stateRefused]
  simp [heldAbort, HeldWrite.isPd, receiptAbort, judgeAbort, objInfo_fbValue, hs, hl, sizeAbort, valueAbort,
    valueRefused_fbValue, mapAbort_of_le (i := 0x2501 + l.val) (by omega), h2]

theorem State.applyWrite_fbValue (s : State) (o : Origin) (data : List Byte) :
    (s.applyWrite o (0x2501 + l.val) 0x1D data).engine.waiting =
      s.engine.waiting ++ [⟨0x2501 + l.val, 0x1D, ofLe data, s.net.pdSeq + 1⟩] := by
  have hn := l.isLt
  have h1 : ¬ 0x2501 + l.val = 0x1003 := by omega
  have h2 : ¬ 0x2501 + l.val = 0x2000 := by omega
  have h3 : within (0x2501 + l.val) 0x2100 0x211F = false := by simp [within]; omega
  have h4 : within (0x2501 + l.val) 0x2200 0x222F = false := by simp [within]; omega
  have h5 : ¬ 0x2501 + l.val = 0x2300 := by omega
  have h6 : within (0x2501 + l.val) 0x2500 0x2510 = true := by simp [within]; omega
  have h7 : maskValue (0x2501 + l.val) 0x1D (ofLe data) = ofLe data := by
    have hk : keepMask (0x2501 + l.val) 0x1D = none := by
      revert l
      decide
    rw [maskValue, hk]
  unfold State.applyWrite
  rw [objInfo_fbValue]
  dsimp only
  rw [if_neg (by decide)]
  unfold State.liveWrite
  rw [if_neg h1, if_neg (fun h => h2 h.1), h3, h4, if_neg (by decide), if_neg (by decide), if_neg h5, if_pos h6]
  exact congrArg (fun v => s.engine.waiting ++ [⟨0x2501 + l.val, 0x1D, v, s.net.pdSeq + 1⟩]) h7

end

-- the instant of a judgement
/-- The instant of a judgement: a tick instant, with the held writes taken. -/
def State.atTick (s : State) : State :=
  { s.begin.tickInstant (timerTicks s) with net := { (s.begin.tickInstant (timerTicks s)).net with held := [] } }

theorem keeps_atTick (s : State) : Keeps [.now, .engine, .tickInst, .held, .sent] s s.atTick :=
  (((keeps_begin s).mono rfl).trans ((keeps_tickInstant _ (timerTicks s)).mono rfl)).trans ((keeps_set_net_held _ []).mono rfl)

theorem State.tickInstant_now (s : State) (b : Bool) {i : Nat} (hi : s.engine.tickAt + tickNs s.cfg.active = i) :
    (s.tickInstant b).now = if b then Nat.max s.now i else s.now := by
  unfold State.tickInstant
  rw [hi]
  cases b
  · rfl
  · exact State.reach_now s i

theorem State.alive_atTick {s : State} (ha : s.alive = true) (he : entered (s.tickInstant (timerTicks s)) = false) :
    s.atTick.alive = true := by
  have hp : s.atTick.power.phase = s.power.phase :=
    congrArg Power.phase ((keeps_atTick s).same .power (by decide) : s.atTick.power = s.power)
  have h : entered s.atTick = false := by
    generalize hi : s.engine.tickAt + tickNs s.cfg.active = i at *
    have hq : s.atTick.power = (s.tickInstant (timerTicks s)).power :=
      ((keeps_atTick s).same .power (by decide) : s.atTick.power = s.power).trans
        ((keeps_tickInstant s _).same .power (by decide) : (s.tickInstant (timerTicks s)).power = s.power).symm
    have hn : s.atTick.now = (s.tickInstant (timerTicks s)).now :=
      (State.tickInstant_now s.begin (timerTicks s) hi).trans (State.tickInstant_now s (timerTicks s) hi).symm
    have hw : s.atTick.twin = (s.tickInstant (timerTicks s)).twin :=
      ((keeps_atTick s).same .twin (by decide) : s.atTick.twin = s.twin).trans
        ((keeps_tickInstant s _).same .twin (by decide) : (s.tickInstant (timerTicks s)).twin = s.twin).symm
    unfold entered State.goingDown at he ⊢
    rw [hq, hn, hw]
    exact he
  rw [State.alive, Bool.and_eq_true] at ha ⊢
  rw [hp, h]
  exact ⟨ha.1, rfl⟩

section
variable {s : State} (ha : s.alive = true)
include ha

theorem runs_writeJudgement {post : State → Prop} (h : post (s.begin.tickInstant (timerTicks s)).judgeAll.finish) :
    Runs .writeJudgement s post := runs_whenAlive (f := writeJudgement) rfl ha h

/-- The held writes to one object are judged together at the tick instant (R380). -/
theorem runs_writeJudgement_alike {post : State → Prop} {i sub : Nat} (hw : ∀ w ∈ s.net.held, w.index = i ∧ w.sub = sub)
    (h : post (s.atTick.judgePart s.net.held.zipIdx).finish) : Runs .writeJudgement s post := by
  refine runs_writeJudgement ha ?_
  have hh : (s.begin.tickInstant (timerTicks s)).net.held = s.net.held :=
    (keeps_tickInstant s.begin (timerTicks s)).same .held (by decide)
  rw [State.judgeAll_alike (i := i) (sub := sub) (by rw [hh]; exact hw), hh]
  exact h

theorem runs_writeJudgement_one {post : State → Prop} {w : HeldWrite} (hw : s.net.held = [w])
    (h : post (if heldAbort s.atTick w ≠ 0 then s.atTick.refuseWrite w (heldAbort s.atTick w) else s.atTick.grantWrite w).finish) :
    Runs .writeJudgement s post := by
  refine runs_writeJudgement_alike ha (i := w.index) (sub := w.sub) (fun v hv => ?_) ?_
  · rw [hw, List.mem_singleton] at hv
    rw [hv]
    exact ⟨rfl, rfl⟩
  · rw [hw]
    exact (judgePart_one s.atTick w).symm ▸ h

theorem runs_writeJudgement_instant {i : Nat} (hi : s.engine.tickAt + tickNs s.cfg.active = i) :
    Runs .writeJudgement s fun t => t.net.held = [] ∧ t.net.pdSeq = s.net.pdSeq + 1 ∧ t.net.tickOpen = true ∧
      t.engine.tickAt = t.now ∧ t.now = (if timerTicks s then Nat.max s.now i else s.now) := by
  refine runs_writeJudgement ha ?_
  generalize hu : s.begin.tickInstant (timerTicks s) = u
  have hnow : u.now = if timerTicks s then Nat.max s.now i else s.now := by
    rw [← hu]
    exact State.tickInstant_now s.begin (timerTicks s) hi
  have htick : u.engine.tickAt = u.now ∧ u.net.tickOpen = true := by
    rw [← hu]
    unfold State.tickInstant
    cases timerTicks s <;> exact ⟨rfl, rfl⟩
  have hseq : u.net.pdSeq = s.net.pdSeq + 1 := by
    rw [← hu]
    unfold State.tickInstant
    cases timerTicks s <;> rfl
  obtain ⟨h1, h2⟩ := judgeAll_judged u
  have hk : Keeps _ u u.judgeAll.finish := (keeps_judgeAll u).trans ((keeps_finish _).mono rfl)
  have hn : u.judgeAll.finish.now = u.now := hk.same .now (by decide)
  have ht : u.judgeAll.finish.net.pdSeq = u.net.pdSeq ∧ u.judgeAll.finish.net.tickOpen = u.net.tickOpen :=
    hk.same .tickInst (by decide)
  rw [State.finish_net_held, h1, ht.1, ht.2, hseq, htick.2, hn, hnow, State.finish_engine, h2, htick.1, hnow]
  exact ⟨rfl, rfl, rfl, rfl, rfl⟩

section
variable (he : entered (s.tickInstant (timerTicks s)) = false)
include he

/-- A staged write of a row goes into the staged configuration, or is refused while that is locked (R370, R443). -/
theorem runs_writeJudgement_staged {w : HeldWrite} {ob : ObjInfo} (hw : w.row = true) (hi : objInfo w.index w.sub = some ob)
    (hc : ob.inCfg = true) (hs : ob.cls = .staged) (hh : s.net.held = [w]) :
    (cfgLocked s = false → Runs .writeJudgement s fun t => Msg.answer w.by_ w.index w.sub 0 ∈ t.sent ∧
      t.cfg = { s.cfg with staged := cfgSet s.cfg.staged w.index w.sub (heldValue w.index w.sub (ofLe w.data)) }) ∧
    (cfgLocked s = true → Runs .writeJudgement s fun t => Msg.answer w.by_ w.index w.sub abortLocked ∈ t.sent ∧
      t.cfg = s.cfg) := by
  have hcfg : s.atTick.cfg = s.cfg := (keeps_atTick s).same .cfg (by decide)
  have hj : heldAbort s.atTick w = if cfgLocked s = true then abortLocked else 0 := by
    rw [heldAbort_row hw, judgeAbort_staged hi hs]
    unfold cfgLocked cfgBusy
    rw [hcfg]
  refine ⟨fun hl => ?_, fun hl => ?_⟩
  all_goals
    rw [hl] at hj
    refine runs_writeJudgement_one ha hh ?_
  · have h0 : heldAbort s.atTick w = 0 := hj
    rw [if_neg (by rw [h0]; decide), State.grantWrite_row hw (State.alive_atTick ha he) h0]
    unfold State.applyWrite
    rw [hi]
    dsimp only
    rw [if_pos (by rw [hc, hs]; rfl), State.finish_cfg]
    refine ⟨(grows_finish _).mem (by simp [State.stage]), ?_⟩
    unfold State.stage
    exact congrArg (fun c : Cfg => { c with staged := cfgSet c.staged w.index w.sub (heldValue w.index w.sub (ofLe w.data)) }) hcfg
  · have h0 : heldAbort s.atTick w = abortLocked := hj
    rw [if_pos (by rw [h0]; decide), h0, State.refuseWrite_row hw (by decide), State.finish_cfg]
    exact ⟨(grows_finish _).mem (by simp), hcfg⟩

/-- Of two writes of rows to one object the one that R380 prefers is applied, and the other one is refused as busy. -/
theorem runs_writeJudgement_pair {a b won lost : HeldWrite} (hh : s.net.held = [a, b]) (hra : a.row = true)
    (hrb : b.row = true) (hi : a.index = b.index) (hs : a.sub = b.sub) (h0a : heldAbort s a = 0) (h0b : heldAbort s b = 0)
    (hwon : if portRank s.cfg.active b.by_.port < portRank s.cfg.active a.by_.port then won = b ∧ lost = a
      else won = a ∧ lost = b) : Runs .writeJudgement s fun t =>
      Msg.answer won.by_ won.index won.sub 0 ∈ t.sent ∧ Msg.answer lost.by_ lost.index lost.sub abortBusy ∈ t.sent ∧
      (t.net.ports.get (portIdx lost.by_.port)).busy = satInc32 (s.net.ports.get (portIdx lost.by_.port)).busy := by
  refine runs_writeJudgement_alike ha (i := b.index) (sub := b.sub) (fun w hw => ?_) ?_
  · rw [hh] at hw
    simp only [List.mem_cons, List.not_mem_nil, or_false] at hw
    obtain rfl | rfl := hw
    · exact ⟨hi, hs⟩
    · exact ⟨rfl, rfl⟩
  have hk := keeps_atTick s
  have hcfg : s.atTick.cfg = s.cfg := hk.same .cfg (by decide)
  have hal := State.alive_atTick ha he
  have h1 : heldAbort s.atTick a = 0 := (heldAbort_row_congr hra hk rfl).trans h0a
  have h2 : heldAbort s.atTick b = 0 := (heldAbort_row_congr hrb hk rfl).trans h0b
  rw [hh, List.zipIdx_cons, List.zipIdx_cons, List.zipIdx_nil, State.judgePart_pair h1 h2 hi hs, hcfg]
  have hports (k : Fin 5) : (s.atTick.net.ports.get k).busy = (s.net.ports.get k).busy :=
    busy_of_keeps hk (by decide) k
  generalize s.atTick = u at *
  by_cases hr : portRank s.cfg.active b.by_.port < portRank s.cfg.active a.by_.port
  · rw [if_pos hr] at hwon ⊢
    obtain ⟨rfl, rfl⟩ := hwon
    obtain ⟨hs1, hb1, ha1⟩ := State.refuseBusy_row_says (s := u) hra
    have h3 : heldAbort (u.refuseBusy lost) won = 0 := (State.refuseBusy_row_abort hra hrb).trans h2
    obtain ⟨hs2, hb2⟩ := State.grantWrite_row_says hrb (ha1.trans hal) h3
    refine ⟨(grows_finish _).mem ?_, (grows_finish _).mem ?_, ?_⟩
    · rw [hs2]
      simp
    · rw [hs2, hs1]
      simp
    · rw [busy_of_keeps (keeps_finish _) (by decide), hb2, hb1, hports]
  · rw [if_neg hr] at hwon ⊢
    obtain ⟨rfl, rfl⟩ := hwon
    obtain ⟨hs1, hb1⟩ := State.grantWrite_row_says hra hal h1
    obtain ⟨hs2, hb2, -⟩ := State.refuseBusy_row_says (s := u.grantWrite won) hrb
    refine ⟨(grows_finish _).mem ?_, (grows_finish _).mem ?_, ?_⟩
    · rw [hs2, hs1]
      simp
    · rw [hs2]
      simp
    · rw [busy_of_keeps (keeps_finish _) (by decide), hb2, hb1, hports]

/-- A law's FB_VALUE from process data waits for the next tick (R315, R375). -/
theorem runs_writeJudgement_fbValue {p : PortId} {l : Fin 16} {data : List Byte} (hl : data.length = 4)
    (hh : s.net.held = [{ by_ := ⟨p, 0⟩, pos := 0, index := 0x2501 + l.val, sub := 0x1D, data := data }]) :
    Runs .writeJudgement s fun t =>
      t.engine.waiting = s.engine.waiting ++ [⟨0x2501 + l.val, 0x1D, ofLe data, s.net.pdSeq + 2⟩] := by
  refine runs_writeJudgement_one ha hh ?_
  have hal := State.alive_atTick ha he
  have hw : s.atTick.engine.waiting = s.engine.waiting ∧ s.atTick.net.pdSeq = s.net.pdSeq + 1 := by
    unfold State.atTick State.tickInstant
    cases timerTicks s <;> exact ⟨rfl, rfl⟩
  generalize s.atTick = u at *
  have h0 : heldAbort u { by_ := ⟨p, 0⟩, pos := 0, index := 0x2501 + l.val, sub := 0x1D, data := data } = 0 :=
    heldAbort_fbValue l hal p hl
  rw [if_neg (by rw [h0]; decide), State.finish_engine]
  unfold State.grantWrite
  dsimp only
  rw [if_pos hal, if_neg (by rw [h0]; decide)]
  have hans : u.answerHeld { by_ := ⟨p, 0⟩, pos := 0, index := 0x2501 + l.val, sub := 0x1D, data := data } 0 = u := rfl
  rw [hans, State.applyWrite_fbValue, hw.1, hw.2]

end

end

/-- Settles O51: receipt, OUTSTANDING and the judgement of held writes (R375, R378 to R381, R392, R403). -/
theorem writesAndJudgement : Obligations.WritesAndJudgement := by
  unfold Obligations.WritesAndJudgement
  refine ⟨fun s o i sub data k x h => ⟨fun h0 hi => runs_genericWrite_refused h h0 hi, fun h0 hi => runs_genericWrite_held h h0 hi⟩,
    fun s o k x hv hk hx ho => ⟨fun i sub data => runs_genericWrite_outstanding hv hk hx ho,
      runs_rowRead_outstanding rfl hv hk hx ho, runs_rowRead_outstanding rfl hv hk hx ho,
      runs_rowRead_outstanding rfl hv hk hx ho⟩,
    fun s o i sub data ob ha hi hc hs he hh => runs_writeJudgement_staged ha he rfl hi hc hs hh,
    fun s a b won lost ha he hh hra hrb hi hs h0a h0b hw => runs_writeJudgement_pair ha he hh hra hrb hi hs h0a h0b hw,
    fun s ha _ => ?_⟩
  obtain ⟨t, ht, h1, h2, h3, h4, h5⟩ := runs_writeJudgement_instant ha rfl
  refine ⟨t, ht, h1, h2, h3, h4, h5, fun p l data hl he hh => ?_⟩
  obtain ⟨u, hu, hw⟩ := runs_writeJudgement_fbValue ha he hl hh
  have htu : t = u := Host.Outcome.next.inj (ht.symm.trans hu)
  exact htu ▸ hw

end Sys2Proof.Machine

/-! SUPPORT. Malformed datagrams and SPI frames; with them O53 (R408 to R410, R417, R418). -/

namespace Sys2Proof.Machine

-- the checksum of a frame
theorem crcShift_lt {poly : Nat} (hp : poly < 2 ^ 32) : ∀ (n : Nat) {c : Nat}, c < 2 ^ 32 → crcShift poly n c < 2 ^ 32
  | 0, _, h => h
  | n + 1, c, h => by
    have hc : c / 2 < 2 ^ 32 := by omega
    unfold crcShift
    split
    · exact crcShift_lt hp n (Nat.xor_lt_two_pow hc hp)
    · exact crcShift_lt hp n hc

theorem crcRun_lt {poly c : Nat} (hp : poly < 2 ^ 32) (hc : c < 2 ^ 32) (bs : List Byte) : crcRun poly c bs < 2 ^ 32 := by
  unfold crcRun
  refine List.foldlRecOn (motive := fun c => c < 2 ^ 32) bs _ hc fun c hc b _ =>
    crcShift_lt hp 8 (Nat.xor_lt_two_pow hc ?_)
  exact Nat.lt_trans b.isLt (by decide)

theorem crc32c_lt (bs : List Byte) : crc32c bs < 2 ^ 32 :=
  Nat.xor_lt_two_pow (crcRun_lt (by decide) (by decide) bs) (by decide)

/-- Bytes followed by their CRC-32C hold (R417). -/
theorem crcOk_append (b : List Byte) : crcOk (b ++ leBytes 4 (crc32c b)) = true := by
  have hl : (leBytes 4 (crc32c b)).length = 4 := length_leBytes 4 _
  have hn : (b ++ leBytes 4 (crc32c b)).length - 4 = b.length := by rw [List.length_append, hl]; omega
  have h4 : ofLe (leBytes 4 (crc32c b)) = crc32c b := ofLe_leBytes_of_lt (Nat.lt_of_lt_of_le (crc32c_lt b) (by decide))
  unfold crcOk
  rw [hn, List.drop_left, List.take_left, h4, List.length_append, hl]
  simp

-- malformed datagrams
section
variable {s : State} {h : Hdr}

/-- Datagrams are taken on a port that sends them (R409). -/
theorem portEnabled_of_takes (ht : takesDatagrams s h = true) : portEnabled s.cfg.active h.port = true := by
  unfold takesDatagrams at ht
  simp only [Bool.and_eq_true] at ht
  exact ht.1.2

/-- A datagram that goes out at once on ETA or ETB (R408). -/
theorem State.sendDatagram_eth {p : PortId} {dst : Option Nat} {typ session status ref : Nat} {body : List Byte}
    (he : portEnabled s.cfg.active p = true) (hq : isEth p = true) :
    Msg.datagram p (nextDatagram s p dst typ session status ref body) ∈
      (s.sendDatagram p dst typ session status ref body).sent := by
  have hc : isCan p = false := by cases p <;> first | rfl | exact absurd hq (by decide)
  have hp : (p == .spi) = false := by cases p <;> first | rfl | exact absurd hq (by decide)
  unfold State.sendDatagram
  rw [he, hc, if_pos (show (true && !false) = true from rfl)]
  dsimp only
  rw [hp, if_neg (by decide)]
  exact List.mem_append_right _ List.mem_cons_self

/-- The STATUS that answers a malformed datagram (R410). -/
def malformedStatus (m : Malformation) : Nat := if m = .badVersion then 4 else 3

theorem malformed_eq (ht : takesDatagrams s h = true) (typ : Nat) (m : Malformation) :
    malformed h typ m s = if m = .tooShort then s else s.reply h typ h.session (malformedStatus m) [] := by
  unfold malformed
  rw [if_pos ht]
  cases m <;> rfl

theorem runs_malformedDatagram (ht : takesDatagrams s h = true) (typ : Nat) (m : Malformation) :
    Runs (.malformedDatagram h typ m) s fun t =>
      Keeps reports s t ∧ (isEth h.port = true → m ≠ .tooShort → ∃ d : Datagram, Msg.datagram h.port d ∈ t.sent ∧
        d.status = (if m = .badVersion then 4 else 3) ∧ d.typ = typ % 128 + 128 ∧ d.ref = h.seq ∧
        d.dest = some h.peer) := by
  refine runs_of_run (f := fun s => malformed h typ m s) rfl ?_
  have ht' : takesDatagrams s.begin h = true := ht
  rw [malformed_eq ht']
  by_cases hm : m = .tooShort
  · rw [if_pos hm]
    exact ⟨((keeps_begin s).mono rfl).trans ((keeps_finish _).mono rfl), fun _ hn => absurd hm hn⟩
  · rw [if_neg hm]
    refine ⟨(((keeps_begin s).mono rfl).trans ((keeps_reply ..).mono rfl)).trans ((keeps_finish _).mono rfl),
      fun he _ => ⟨_, (grows_finish _).mem (State.sendDatagram_eth (portEnabled_of_takes ht') he), rfl, rfl, rfl, ?_⟩⟩
    exact if_pos he

end

-- SPI frames
section
variable {s : State}

/-- A discarded host frame counts (R417, R422). -/
theorem State.spiCrcError_finish :
    (s.spiCrcError.finish.net.ports.get (portIdx .spi)).seq.crcErrors =
      satInc 255 (s.net.ports.get (portIdx .spi)).seq.crcErrors := by
  have h : (s.spiCrcError.finish.net.ports.get (portIdx .spi)).seq.crcErrors =
      (s.spiCrcError.net.ports.get (portIdx .spi)).seq.crcErrors :=
    (congrArg (fun x : PortState => x.seq.crcErrors) (State.finish_ports s.spiCrcError (portIdx .spi)) :)
  rw [h]
  exact congrArg (fun x : PortState => x.seq.crcErrors) (State.updPort_get s .spi _)

theorem runs_spiFrameCrcError (hs : s.serving = true) : Runs .spiFrameCrcError s fun t =>
    (t.net.ports.get (portIdx .spi)).seq.crcErrors = satInc 255 (s.net.ports.get (portIdx .spi)).seq.crcErrors :=
  runs_guarded (b := State.serving) (f := State.spiCrcError) rfl hs (State.spiCrcError_finish (s := s.begin))

theorem runs_spiFrameReceived_preamble {bytes : List Byte} (hs : s.serving = true) (h0 : ofLe (bytes.take 1) ≠ 0)
    (h1 : ofLe (bytes.take 1) ≠ 0xA5) : Runs (.spiFrameReceived bytes) s fun t =>
    (t.net.ports.get (portIdx .spi)).seq.crcErrors = satInc 255 (s.net.ports.get (portIdx .spi)).seq.crcErrors := by
  refine runs_guarded (b := State.serving) (f := spiFrame bytes) rfl hs ?_
  rw [spiFrame, if_neg h0, if_pos h1]
  exact State.spiCrcError_finish (s := s.begin)

/-- The bytes of a NOP frame before its CRC. -/
def spiNopBody (session seq : Nat) : List Byte :=
  [0xA5#8, 1#8, 5#8] ++ leBytes 1 session ++ [0#8] ++ leBytes 2 seq ++ List.replicate 6 0#8

theorem takeDatagram_nop {session seq : Nat} (h1 : session < 256) (h2 : seq < 65536) (s : State) :
    s.takeDatagram ((spiNopBody session seq).drop 1) = nopRequest { port := .spi, session := session, seq := seq } s := by
  have hsess : ofLe (leBytes 1 session) = session := ofLe_leBytes_byte h1
  have hseq : ofLe (leBytes 2 seq) = seq := ofLe_leBytes_of_lt h2
  generalize hb : (spiNopBody session seq).drop 1 = bs
  have h3 : ofLe (bs.take 1) = 1 := by rw [← hb]; rfl
  have h4 : ofLe ((bs.drop 1).take 1) = 5 := by rw [← hb]; rfl
  have h5 : ofLe ((bs.drop 2).take 1) = session := by rw [← hb]; exact hsess
  have h6 : ofLe ((bs.drop 4).take 2) = seq := by rw [← hb]; exact hseq
  have h7 : bs.drop 12 = [] := by rw [← hb]; rfl
  unfold State.takeDatagram
  rw [h3, h4, h5, h6, h7]
  rfl

theorem spiFrame_spiNop {session seq : Nat} (h1 : session < 256) (h2 : seq < 65536) (s : State) :
    spiFrame (spiNop session seq) s = nopRequest { port := .spi, session := session, seq := seq } s := by
  have hb : spiNop session seq = spiNopBody session seq ++ leBytes 4 (crc32c (spiNopBody session seq)) := rfl
  have hok := crcOk_append (spiNopBody session seq)
  rw [hb]
  generalize hc : leBytes 4 (crc32c (spiNopBody session seq)) = c at *
  have hl : c.length = 4 := by rw [← hc]; exact length_leBytes 4 _
  obtain ⟨c0, c1, c2, c3, rfl⟩ : ∃ c0 c1 c2 c3, c = [c0, c1, c2, c3] := by
    match c, hl with
    | [c0, c1, c2, c3], _ => exact ⟨c0, c1, c2, c3, rfl⟩
  generalize hf : spiNopBody session seq ++ [c0, c1, c2, c3] = f at *
  have hpre : ofLe (f.take 1) = 0xA5 := by rw [← hf]; rfl
  have hlen : f.length = 17 := by rw [← hf]; rfl
  have hn : ofLe ((f.drop 9).take 2) = 0 := by rw [← hf]; rfl
  have htake : f.take 17 = f := List.take_of_length_le (Nat.le_of_eq hlen)
  have hbody : (f.take 13).drop 1 = (spiNopBody session seq).drop 1 := by rw [← hf]; rfl
  unfold spiFrame
  rw [if_neg (by rw [hpre]; decide), if_neg (by rw [hpre]; decide), if_neg (by rw [hlen]; decide)]
  dsimp only
  rw [hn, if_neg (by rw [hlen]; decide), htake, if_pos hok, hbody]
  exact takeDatagram_nop h1 h2 s

theorem exec_spiNop {session seq : Nat} (h1 : session < 256) (h2 : seq < 65536) (hs : s.serving = true) :
    ∃ t, exec (.spiFrameReceived (spiNop session seq)) s = .next t ∧
      exec (.nopRequest { port := .spi, session := session, seq := seq }) s = .next t := by
  refine ⟨(nopRequest { port := .spi, session := session, seq := seq } s.begin).finish, ?_, rfl⟩
  show Host.Outcome.next (s.begin.guarded s.begin.serving (spiFrame (spiNop session seq))).finish = _
  rw [State.guarded, if_pos (by exact hs), spiFrame_spiNop h1 h2]

-- the SPI queue
/-- Frames are added at the end of the SPI queue, as R418 lets them. -/
def Pushes (s t : State) : Prop := ∃ q : List Datagram, t.net.spiQueue = q.foldl spiPush s.net.spiQueue

theorem Pushes.refl (s : State) : Pushes s s := ⟨[], rfl⟩

theorem Pushes.trans {s t u : State} (h : Pushes s t) (k : Pushes t u) : Pushes s u := by
  obtain ⟨p, hp⟩ := h
  obtain ⟨q, hq⟩ := k
  exact ⟨p ++ q, by rw [hq, hp, List.foldl_append]⟩

theorem Pushes.of_eq {s t : State} (h : t.net.spiQueue = s.net.spiQueue) : Pushes s t := ⟨[], h⟩

theorem Pushes.foldl {α : Type} {f : State → α → State} (h : ∀ u a, Pushes u (f u a)) (s : State) (l : List α) :
    Pushes s (l.foldl f s) := List.foldlRecOn (motive := Pushes s) l f (.refl s) fun acc hacc a _ => hacc.trans (h acc a)

theorem Pushes.ite {c : Prop} [Decidable c] {s a b : State} (ha : Pushes s a) (hb : Pushes s b) :
    Pushes s (if c then a else b) := by
  split
  · exact ha
  · exact hb

theorem pushes_sendDatagram (s : State) (p : PortId) (dst : Option Nat) (typ session status ref : Nat) (body : List Byte) :
    Pushes s (s.sendDatagram p dst typ session status ref body) := by
  unfold State.sendDatagram
  exact .ite (.ite ⟨[nextDatagram s p dst typ session status ref body], rfl⟩ (.of_eq rfl)) (.refl s)

theorem pushes_emergency (s : State) (code source : Nat) (except : Option CanPort) :
    Pushes s (s.emergency code source except) := by
  unfold State.emergency
  have hcan (u : State) (p : CanPort) (cob : Nat) (d : List Byte) : Pushes u (u.sendCan p cob d) := by
    unfold State.sendCan State.sendFrame
    exact .ite (.refl u) (.of_eq rfl)
  extract_lets a body s1 s2
  have h1 : Pushes s s1 := by
    refine Pushes.foldl (fun u p => ?_) s bothCan
    exact .ite (hcan u p _ _) (.refl u)
  have h2 : Pushes s1 s2 := by
    refine Pushes.foldl (fun u p => ?_) s1 dataPorts
    exact .ite (pushes_sendDatagram u p ..) (.refl u)
  exact .ite (h1.trans h2) ((h1.trans h2).trans (.of_eq rfl))

theorem pushes_finish (s : State) : Pushes s s.finish := by
  have hbit (u : State) (i : Nat) : Pushes u (u.emergencyBit i) := by
    unfold State.emergencyBit
    exact .ite ((pushes_emergency u _ _ none).trans (.of_eq rfl)) (.refl u)
  have hbits (a b : Nat) : Pushes s (s.judgeBits a b) := by
    unfold State.judgeBits
    dsimp only
    refine .ite (.refl s) ?_
    generalize hr : s.record 0x06 (leBytes 4 b ++ leBytes 4 a) = r
    have h1 : Pushes s r := .of_eq (by rw [← hr]; exact ((keeps_record s _ _).same .stream (by decide)).1)
    refine (h1.trans (.of_eq rfl)).trans (Pushes.foldl (fun u i => ?_) _ (List.range 21))
    exact .ite (hbit u i) (.refl u)
  unfold State.finish State.judgeAlarms
  refine .ite ?_ (.refl s)
  dsimp only
  have h1 := hbits (alarms s) s.net.emcy.lastAlarms
  generalize s.judgeBits (alarms s) s.net.emcy.lastAlarms = u at h1
  have h2 := pushes_emergency u 0 0xFF none
  generalize u.emergency 0 0xFF none = v at h2
  exact .ite (h1.trans (.of_eq rfl)) (.ite (h1.trans (h2.trans (.of_eq rfl))) h1)

/-- A frame clocked out has been sent, with the TICK of that instant; the others stay queued (R408, R417, R420). -/
theorem runs_spiFrameDelivered (hs : s.serving = true) {d : Datagram} {rest : List Datagram}
    (hq : s.net.spiQueue = d :: rest) : Runs .spiFrameDelivered s fun t =>
      Msg.datagram .spi { d with tick := s.net.pdSeq % 65536 } ∈ t.sent ∧
      Msg.spiFrame (deviceFrame { d with tick := s.net.pdSeq % 65536 }) ∈ t.sent ∧
      ∃ q : List Datagram, t.net.spiQueue = q.foldl spiPush rest := by
  refine runs_guarded (b := State.serving) (f := spiDelivered) rfl hs ?_
  unfold spiDelivered
  rw [State.begin_net, hq]
  dsimp only
  generalize hu : (allFin 4).foldl _ _ = u
  have hqueue : u.net.spiQueue = rest := by
    rw [← hu]
    exact ((Keeps.foldl_mem (allFin 4) (fun u k _ => keeps_updSession u k _) _).same .stream (by decide)).1
  refine ⟨(grows_finish _).mem (by simp), (grows_finish _).mem (by simp), ?_⟩
  obtain ⟨q, hf⟩ := pushes_finish ((u.say (.datagram .spi { d with tick := s.net.pdSeq % 65536 })).say
    (.spiFrame (deviceFrame { d with tick := s.net.pdSeq % 65536 })))
  exact ⟨q, hf.trans (congrArg (q.foldl spiPush) hqueue)⟩

end

/-- Settles O53: malformed datagrams, and the frames of the SPI port (R408 to R410, R417, R418). -/
theorem framesAndMalformed : Obligations.FramesAndMalformed := by
  unfold Obligations.FramesAndMalformed
  exact ⟨fun s h typ m ht => runs_malformedDatagram ht typ m,
    fun s hs => ⟨runs_spiFrameCrcError hs, fun bytes h0 h1 => runs_spiFrameReceived_preamble hs h0 h1,
      fun session seq h1 h2 => exec_spiNop h1 h2 hs, fun d rest hq => runs_spiFrameDelivered hs hq⟩⟩

end Sys2Proof.Machine

/-! SUPPORT. A WRITE after one that left parts in the transfer buffer; with it O52 (R381, R412, R504). -/

namespace Sys2Proof.Machine

/-- A session on SPI whose last WRITE left a part in the transfer buffer (R412, R504). -/
def partWriter : Session := { port := .spi, number := 1, peer := 0, lastAt := 0, level := .operate, upPos := [0] }

/-- A running device with this session alone. -/
def partDevice : State :=
  { State.reset with
    power := { State.reset.power with phase := .running }
    net := { State.reset.net with sessions := State.reset.net.sessions.put 0 (some partWriter) } }

/-- Its next request. -/
def partHdr : Hdr := { port := .spi, session := 1, seq := 0 }

/-- A WRITE forgets which positions the parts of the request before had (R504). -/
theorem partDevice_upPos :
    ((writeRequest partHdr [⟨0x2300, 0x33, 0, 2, [0#8, 0#8]⟩] partDevice.begin).net.sessions.get 0).map (fun y => y.upPos) =
      some [] := by
  decide

theorem next_of_writeItems {h : Hdr} {items : List WriteItem} {s t : State} (ht : exec (.writeItems h items) s = .next t) :
    t = (writeRequest h items s.begin).finish := by
  cases ht
  rfl

/-- Refutes O52: a WRITE whose item is held forgets the positions that the parts of an earlier request had, and so changes
more of its session than the statement says. -/
theorem not_sessionRequests : ¬ Obligations.SessionRequests := by
  unfold Obligations.SessionRequests
  intro h
  obtain ⟨-, -, -, -, hk⟩ := h partDevice partHdr rfl
  obtain ⟨-, hidle, -⟩ := hk 0 partWriter rfl rfl
  obtain ⟨-, -, -, hw⟩ := hidle rfl rfl
  obtain ⟨t, ht, -, hs⟩ := (hw 0x2300 0x33 [0#8, 0#8] rfl).2 (by decide)
  rw [next_of_writeItems ht, State.finish_net_sessions] at hs
  have hpos := congrArg (Option.map fun y : Session => y.upPos) hs
  exact absurd (partDevice_upPos.symm.trans hpos) (by decide)

end Sys2Proof.Machine

/-! SUPPORT. The rows of the configuration store; with them O56 (R390, R439 to R445, R449, R450). -/

namespace Sys2Proof.Machine

-- the objects
theorem cfgCmd_object : LiveObject 0x2900 0x07 2 .commission .command false := ⟨by decide, .inr rfl, by decide⟩
theorem expected_object : LiveObject 0x2900 0x06 8 .commission .live false := ⟨by decide, .inl rfl, by decide⟩
theorem epoch_object : LiveObject 0x2900 0x08 4 .commission .live false := ⟨by decide, .inl rfl, by decide⟩

theorem State.liveWrite_cfg (s : State) (o : Origin) (sub v : Nat) (data : List Byte) :
    s.liveWrite o 0x2900 sub v data = s.cfgWrite sub v data := rfl

theorem stateRefused_cfgCmd (s : State) (v : Nat) : stateRefused s 0x2900 0x07 v = cfgCmdRefused s v := rfl
theorem stateRefused_epoch (s : State) (v : Nat) : stateRefused s 0x2900 0x08 v = epochRefused s v := rfl

/-- The commands of CFG_CMD, with their codes (R441). -/
def IsCfgCmd (o : Origin) (c : Instr) (v : Nat) : Prop :=
  (c = .cfgCheck o ∧ v = cmdCheck) ∨ (c = .cfgDiscard o ∧ v = cmdDiscard) ∨ (c = .cfgStore o ∧ v = cmdStore) ∨
    (c = .cfgActivate o ∧ v = cmdActivate) ∨ (c = .cfgAdopt o ∧ v = cmdAdopt) ∨
    (c = .cfgLoadShadow o ∧ v = cmdLoadShadow)

theorem IsCfgCmd.row {o : Origin} {c : Instr} {v : Nat} (h : IsCfgCmd o c v) (s : State) :
    exec c s = run s (fun s => s.rowWrite o 0x2900 0x07 (leBytes 2 v)) ∧ rowObject c = some (0x2900, 0x07) ∧
      v < 256 ^ 2 ∧ valueRefused 0x2900 0x07 v = false := by
  obtain ⟨rfl, rfl⟩ | ⟨rfl, rfl⟩ | ⟨rfl, rfl⟩ | ⟨rfl, rfl⟩ | ⟨rfl, rfl⟩ | ⟨rfl, rfl⟩ := h <;>
    exact ⟨rfl, rfl, by decide, rfl⟩

section
variable {s : State} {o : Origin} {k : Fin 4} {x : Session} {c : Instr} {v : Nat}

/-- A command of CFG_CMD that the store takes (R441). -/
theorem Asks.runs_cfgCmd (h : Asks c s o .commission k x) (hc : IsCfgCmd o c v) (hr : cfgCmdRefused s v = false) :
    Runs c s fun t => Taken s t o 0x2900 7 k x ∧ t.cfg = ((s.accepted k o 0x2900 7).cfgCommand v).cfg := by
  obtain ⟨he, hrow, hlt, hv⟩ := hc.row s
  refine h.runs_number he hrow cfgCmd_object hlt hv hr ?_
  rw [State.liveWrite_cfg]
  exact ⟨taken_of_keeps h.holds (keeps_cfgWrite ..) (by decide), State.finish_cfg _⟩

/-- Without a command and without an epoch three conditions are left (R441). -/
theorem cfgCmdRefused_idle (hj : s.cfg.job = none) (he : s.cfg.epoch = none) (v : Nat) :
    cfgCmdRefused s v = ((v == cmdActivate && !shadowValid s) || (v == cmdAdopt && s.cfg.staged != s.cfg.active) ||
      (v == cmdLoadShadow && shadowFault s.cfg != (0, 0))) := by
  simp only [cfgCmdRefused, cfgBusy, hj, he, Option.isSome_none, Bool.false_or]

/-- A command that the store refuses leaves the configuration, but for what LOAD_SHADOW reports (R441). -/
theorem Asks.runs_cfgCmd_refused (h : Asks c s o .commission k x) (hc : IsCfgCmd o c v) (hr : cfgCmdRefused s v = true) :
    Runs c s fun t => Msg.answer o 0x2900 7 abortState ∈ t.sent ∧ t.cfg = { s.cfg with result := t.cfg.result } := by
  obtain ⟨he, hrow, hlt, hv⟩ := hc.row s
  refine h.runs_stateRefused he hrow cfgCmd_object hlt hv hr ?_
  refine ⟨(grows_finish _).mem (by simp [State.answer]), ?_⟩
  rw [State.finish_cfg]
  unfold State.judgeRefusal State.cfgCmdRefusal
  rw [if_pos rfl, if_pos ⟨rfl, rfl⟩]
  dsimp only
  split <;> rfl

theorem runs_cfgCommands (hj : s.cfg.job = none) (he : s.cfg.epoch = none) :
    (Asks (.cfgCheck o) s o .commission k x → Runs (.cfgCheck o) s fun t => Taken s t o 0x2900 7 k x ∧
      t.cfg = { s.cfg with job := some .check, jobCopy := s.cfg.staged }) ∧
    (Asks (.cfgDiscard o) s o .commission k x → Runs (.cfgDiscard o) s fun t => Taken s t o 0x2900 7 k x ∧
      t.cfg = { s.cfg with staged := s.cfg.active, lastFailed := false }) ∧
    (Asks (.cfgStore o) s o .commission k x → Runs (.cfgStore o) s fun t => Taken s t o 0x2900 7 k x ∧
      t.cfg = { s.cfg with job := some .store, jobCopy := s.cfg.staged }) ∧
    (shadowValid s = true → Asks (.cfgActivate o) s o .commission k x →
      Runs (.cfgActivate o) s fun t => Taken s t o 0x2900 7 k x ∧
        t.cfg = { s.cfg with job := some .activation, how := 0, lastEpoch := 0 }) ∧
    (s.cfg.staged = s.cfg.active → Asks (.cfgAdopt o) s o .commission k x → Runs (.cfgAdopt o) s fun t =>
      Taken s t o 0x2900 7 k x ∧ t.cfg = { s.cfg with
        job := some .adopt, staged := withLive s.cfg.staged s.engine.live
        jobCopy := withLive s.cfg.staged s.engine.live }) ∧
    (∀ b, bankOf s.cfg (inactiveBank s.cfg) = some b → bankGood b = true → imageCheck b.image = (0, 0) →
      Asks (.cfgLoadShadow o) s o .commission k x → Runs (.cfgLoadShadow o) s fun t =>
        Taken s t o 0x2900 7 k x ∧ t.cfg = { s.cfg with
          staged := imageCfg b.image, shadow := some (imageCfg b.image), lastFailed := false, result := (0, 0) }) := by
  have hidle := cfgCmdRefused_idle hj he
  refine ⟨fun h => h.runs_cfgCmd (.inl ⟨rfl, rfl⟩) (hidle _), fun h => h.runs_cfgCmd (.inr (.inl ⟨rfl, rfl⟩)) (hidle _),
    fun h => h.runs_cfgCmd (.inr (.inr (.inl ⟨rfl, rfl⟩))) (hidle _),
    fun hs h => h.runs_cfgCmd (.inr (.inr (.inr (.inl ⟨rfl, rfl⟩)))) ?_,
    fun hs h => h.runs_cfgCmd (.inr (.inr (.inr (.inr (.inl ⟨rfl, rfl⟩))))) ?_, fun b hb hg hi h => ?_⟩
  · rw [hidle, hs]
    rfl
  · rw [hidle, hs]
    simp [cmdAdopt, cmdActivate, cmdLoadShadow]
  · have hf : shadowFault s.cfg = (0, 0) := by
      unfold shadowFault
      rw [hb]
      dsimp only
      rw [if_pos hg, hi]
    obtain ⟨t, ht, htk, hcfg⟩ := h.runs_cfgCmd (.inr (.inr (.inr (.inr (.inr ⟨rfl, rfl⟩))))) (by rw [hidle, hf]; rfl)
    refine ⟨t, ht, htk, hcfg.trans ?_⟩
    have hb' : bankOf (s.accepted k o 0x2900 7).cfg (inactiveBank (s.accepted k o 0x2900 7).cfg) = some b := hb
    unfold State.cfgCommand
    rw [if_neg (by decide), if_neg (by decide), if_neg (by decide), if_neg (by decide), if_neg (by decide), if_pos rfl]
    dsimp only
    rw [hb']
    rfl

-- EXPECTED_DIGEST and ACTIVATION_EPOCH
theorem Asks.runs_expectedDigest (h : Asks (.expectedDigestWrite o v) s o .commission k x) (hv : v < 2 ^ 64) :
    Runs (.expectedDigestWrite o v) s fun t =>
      Taken s t o 0x2900 6 k x ∧ t.cfg = { s.cfg with expected := v } := by
  refine h.runs_number rfl rfl expected_object hv rfl rfl ?_
  rw [State.liveWrite_cfg]
  exact ⟨taken_of_keeps h.holds (keeps_cfgWrite ..) (by decide), State.finish_cfg _⟩

/-- A value of ACTIVATION_EPOCH that the store takes (R450). -/
theorem Asks.runs_epoch (h : Asks c s o .commission k x)
    (hc : exec c s = run s (fun s => s.rowWrite o 0x2900 0x08 (leBytes 4 v))) (hrow : rowObject c = some (0x2900, 0x08))
    (hv : v ≤ 240) (hr : epochRefused s v = false) :
    Runs c s fun t => Taken s t o 0x2900 8 k x ∧ t.cfg = ((s.accepted k o 0x2900 8).epochWrite v).cfg := by
  have hval : valueRefused 0x2900 0x08 v = false := decide_eq_false (by omega)
  refine h.runs_number hc hrow epoch_object (by omega) hval hr ?_
  rw [State.liveWrite_cfg]
  exact ⟨taken_of_keeps h.holds (keeps_cfgWrite ..) (by decide), State.finish_cfg _⟩

theorem Asks.runs_epochArm (h : Asks (.epochArm o v) s o .commission k x) (h1 : 1 ≤ v) (hv : v ≤ 240) :
    (epochRefused s v = false → Runs (.epochArm o v) s fun t => Taken s t o 0x2900 8 k x ∧
      t.cfg = { s.cfg with epoch := some v, epochLate := false }) ∧
    (epochRefused s v = true → Runs (.epochArm o v) s fun t => Msg.answer o 0x2900 8 abortState ∈ t.sent ∧
      t.cfg = s.cfg) := by
  refine ⟨fun hr => ?_, fun hr => ?_⟩
  · obtain ⟨t, ht, htk, hcfg⟩ := h.runs_epoch rfl rfl hv hr
    refine ⟨t, ht, htk, hcfg.trans ?_⟩
    rw [State.epochWrite, if_neg (by omega)]
    rfl
  · have hval : valueRefused 0x2900 0x08 v = false := decide_eq_false (by omega)
    exact h.runs_stateRefused rfl rfl epoch_object (by omega) hval hr
      ⟨(grows_finish _).mem (by simp [State.answer]), State.finish_cfg _⟩

theorem Asks.runs_epochDisarm (h : Asks (.epochDisarm o 0) s o .commission k x) (hj : s.cfg.job ≠ some .activation) :
    Runs (.epochDisarm o 0) s fun t => Taken s t o 0x2900 8 k x ∧ t.cfg = { s.cfg with epoch := none } :=
  h.runs_epoch rfl rfl (by decide) (by simpa [epochRefused] using hj)

-- CFG_IMAGE
theorem objInfo_image : objInfo 0x2900 0x0B =
    some { size := 65536, varLen := true, access := .rwa .commission, cls := .staged } := rfl

section
variable {image : List Byte}

/-- The checks of CFG_IMAGE at receipt come down to its structure (R379, R440). -/
theorem receiptAbort_image {u : State} (hs : u.stopped = false) (hl : levelCode .commission ≤ levelCode x.level)
    (h1 : 1 ≤ image.length) (h2 : image.length ≤ 65536) :
    receiptAbort u (some x) 0x2900 0x0B image = if imageCheck image = (0, 0) then 0 else abortValue := by
  have hsize : sizeAbort { size := 65536, varLen := true, access := .rwa .commission, cls := .staged } image.length = 0 := by
    unfold sizeAbort
    dsimp only
    rw [if_neg (Nat.not_lt.mpr h2), if_pos rfl, if_neg (Nat.not_lt.mpr h1)]
  have hlev : levelAbort { size := 65536, varLen := true, access := .rwa .commission, cls := .staged } x = 0 :=
    if_neg (Nat.not_lt.mpr hl)
  unfold receiptAbort
  rw [objInfo_image]
  dsimp only
  rw [if_neg (by decide), hs, if_neg (by decide), hlev, if_neg (by decide), hsize, if_neg (by decide)]
  rfl

theorem judgeAbort_image (u : State) (v : Nat) :
    judgeAbort u 0x2900 0x0B v = if cfgLocked u = true then abortLocked else 0 := judgeAbort_staged objInfo_image rfl u v

theorem Asks.runs_cfgImage (h : Asks (.cfgImageWrite o image) s o .commission k x) (h1 : 1 ≤ image.length)
    (h2 : image.length ≤ 65536) :
    (imageCheck image = (0, 0) → cfgLocked s = false → Runs (.cfgImageWrite o image) s fun t =>
      Taken s t o 0x2900 0x0B k x ∧ t.cfg = { s.cfg with staged := imageCfg image, result := (0, 0) }) ∧
    (imageCheck image = (0, 0) → cfgLocked s = true → Runs (.cfgImageWrite o image) s fun t =>
      Msg.answer o 0x2900 0x0B abortLocked ∈ t.sent ∧ t.cfg = s.cfg) ∧
    (imageCheck image ≠ (0, 0) → Runs (.cfgImageWrite o image) s fun t =>
      Msg.answer o 0x2900 0x0B abortValue ∈ t.sent ∧
      t.cfg = { s.cfg with result := imageCheck image, lastFailed := true }) := by
  have hra := receiptAbort_image (State.stopped_of_alive (s := s.begin.touch k) h.alive) h.level h1 h2
  have hja := judgeAbort_image (s.begin.touch k) (ofLe image)
  refine ⟨fun hi hl => ?_, fun hi hl => ?_, fun hi => ?_⟩
  all_goals refine runs_of_run (f := fun s => s.rowWrite o 0x2900 0x0B image) rfl ?_
  · have hal : s.begin.alive = true := h.alive
    have hl' : cfgLocked (s.begin.touch k) = false := hl
    rw [State.rowWrite_granted h.served_begin rfl (h.held_begin rfl) (by rw [hra, if_pos hi]) (by rw [hja, hl']; rfl) hal]
    have ha : ((s.begin.touch k).answer o 0x2900 0x0B 0).applyWrite o 0x2900 0x0B image =
        (s.accepted k o 0x2900 0x0B).cfgWrite 0x0B (ofLe image) image := rfl
    rw [ha]
    exact ⟨taken_of_keeps h.holds (keeps_cfgWrite ..) (by decide), State.finish_cfg _⟩
  · have hl' : cfgLocked (s.begin.touch k) = true := hl
    rw [State.rowWrite_refusedState h.served_begin rfl (h.held_begin rfl) (by rw [hra, if_pos hi]) (a := abortLocked)
      (by rw [hja, hl']; rfl) (by decide), State.judgeRefusal, if_neg (by decide)]
    exact ⟨(grows_finish _).mem (by simp [State.answer]), State.finish_cfg _⟩
  · rw [State.rowWrite_refused h.served_begin (a := abortValue) (by rw [hra, if_neg hi]) (by decide)]
    exact ⟨(grows_finish _).mem (by simp [State.answer]), State.finish_cfg _⟩

end

end

/-- Settles O56: the rows of the configuration store (R390, R439 to R445, R449, R450). -/
theorem configurationCommands : Obligations.ConfigurationCommands := by
  unfold Obligations.ConfigurationCommands
  exact fun s o k x => ⟨fun hj he => runs_cfgCommands hj he, fun c v hc hr h => h.runs_cfgCmd_refused hc hr,
    fun image h1 h2 h => h.runs_cfgImage h1 h2, fun v hv h => h.runs_expectedDigest hv,
    fun v h1 hv h => h.runs_epochArm h1 hv, fun hj h => h.runs_epochDisarm hj⟩

end Sys2Proof.Machine

/-! SUPPORT. The ends of the commands of the configuration store; with them O57 (R230, R251, R277, R287, R320, R347, R434,
R435, R439, R441, R444, R445, R447). -/

namespace Sys2Proof.Machine

-- the banks
theorem bankOf_putBank_other (g : Cfg) (k : Bool) (b : Option Bank) : bankOf (putBank g k b) (!k) = bankOf g (!k) := by
  cases k <;> rfl

/-- What a write of a bank leaves (R433). -/
theorem putBank_keeps (g : Cfg) (k : Bool) (b : Option Bank) : (putBank g k b).activeBank = g.activeBank ∧
    (putBank g k b).job = g.job ∧ (putBank g k b).active = g.active := by
  cases k <;> exact ⟨rfl, rfl, rfl⟩

theorem storeBank_keeps (g : Cfg) (m : CfgMap) (ok : Bool) : (storeBank g m ok).job = g.job ∧
    (storeBank g m ok).active = g.active ∧ (storeBank g m ok).activeBank = g.activeBank ∧
    bankOf (storeBank g m ok) (!inactiveBank g) = bankOf g (!inactiveBank g) ∧
    bankOf (storeBank g m ok) (inactiveBank g) =
      some (if ok then freshBank g m else { freshBank g m with headerOk := false }) := by
  obtain ⟨h1, h2, h3⟩ := putBank_keeps g (inactiveBank g)
    (some (if ok then freshBank g m else { freshBank g m with headerOk := false }))
  exact ⟨h2, h3, h1, bankOf_putBank_other .., bankOf_putBank ..⟩

/-- Programming ACT_COUNT leaves which bank is active, and the GENERATION of the bank (R435). -/
theorem programBank_keeps (g : Cfg) : (programBank g).activeBank = g.activeBank ∧
    readGen (bankOf (programBank g) (inactiveBank g)) = readGen (bankOf g (inactiveBank g)) := by
  unfold programBank
  split
  · next b hb =>
    rw [bankOf_putBank, hb]
    exact ⟨(putBank_keeps ..).1, rfl⟩
  · exact ⟨rfl, rfl⟩

theorem inactiveBank_congr {g g' : Cfg} (h : g'.activeBank = g.activeBank) : inactiveBank g' = inactiveBank g := by
  unfold inactiveBank
  rw [h]

/-- What a stored bank holds (R434, R437). -/
theorem freshBank_fields (g : Cfg) (m : CfgMap) : (freshBank g m).generation = nextGen g ∧ (freshBank g m).act = none ∧
    (freshBank g m).image = imageOf m ∧ (freshBank g m).digest = cfgDigest m := by
  simp only [freshBank, and_self]

theorem freshBank_checkWord (g : Cfg) (m : CfgMap) : (freshBank g m).checkWord = bankCrc (freshBank g m) := by
  unfold freshBank bankCrc bankHead
  rfl

/-- The store after the check of the copy that a command works on (R441). -/
def Cfg.judged (g : Cfg) : Cfg := { g with job := none, result := cfgCheckOf g.jobCopy }

section
variable {s : State} (ha : s.alive = true)
include ha

-- CHECK and STORE
theorem runs_cfgCheckDone (hj : s.cfg.job = some .check) : Runs .cfgCheckDone s fun t => t.cfg = { s.cfg with
    job := none, result := cfgCheckOf s.cfg.jobCopy, lastFailed := (cfgCheckOf s.cfg.jobCopy).1 != 0 } := by
  refine runs_whenAlive (f := cfgCheckDone) rfl ha ?_
  rw [cfgCheckDone, if_pos (by exact hj)]
  exact State.finish_cfg _

theorem cfgStoreDone_passed (ok : Bool) (hj : s.cfg.job = some .store) (hr : (cfgCheckOf s.cfg.jobCopy).1 = 0) :
    Runs (.cfgStoreDone ok) s fun t => t.cfg = { storeBank s.cfg.judged s.cfg.jobCopy ok with lastFailed := !ok } := by
  refine runs_whenAlive (f := cfgStoreDone ok) rfl ha ?_
  rw [cfgStoreDone, if_pos (by exact hj)]
  dsimp only
  rw [if_pos (by exact hr)]
  exact State.finish_cfg _

theorem runs_cfgStoreDone_failed (ok : Bool) (hj : s.cfg.job = some .store) (hr : (cfgCheckOf s.cfg.jobCopy).1 ≠ 0) :
    Runs (.cfgStoreDone ok) s fun t => t.cfg = { s.cfg with
      job := none, result := cfgCheckOf s.cfg.jobCopy, lastFailed := true } := by
  refine runs_whenAlive (f := cfgStoreDone ok) rfl ha ?_
  rw [cfgStoreDone, if_pos (by exact hj)]
  dsimp only
  rw [if_neg (by exact hr)]
  exact State.finish_cfg _

theorem runs_cfgStoreDone_stored (hj : s.cfg.job = some .store) (hr : (cfgCheckOf s.cfg.jobCopy).1 = 0) :
    Runs (.cfgStoreDone true) s fun t => t.cfg.job = none ∧
      t.cfg.lastFailed = false ∧ t.cfg.shadow = some s.cfg.jobCopy ∧ t.cfg.active = s.cfg.active ∧
      bankOf t.cfg (!inactiveBank s.cfg) = bankOf s.cfg (!inactiveBank s.cfg) ∧
      ∃ b, bankOf t.cfg (inactiveBank s.cfg) = some b ∧ b.generation = nextGen s.cfg ∧ b.act = none ∧
        b.image = imageOf s.cfg.jobCopy ∧ b.digest = cfgDigest s.cfg.jobCopy ∧ b.checkWord = bankCrc b := by
  obtain ⟨t, ht, hc⟩ := cfgStoreDone_passed ha true hj hr
  obtain ⟨h1, h2, -, h4, h5⟩ := storeBank_keeps s.cfg.judged s.cfg.jobCopy true
  refine ⟨t, ht, ?_⟩
  dsimp only
  rw [hc]
  obtain ⟨f1, f2, f3, f4⟩ := freshBank_fields s.cfg.judged s.cfg.jobCopy
  exact ⟨h1, rfl, rfl, h2, h4, _, h5, f1, f2, f3, f4, freshBank_checkWord ..⟩

theorem runs_cfgStoreDone_torn (hj : s.cfg.job = some .store) (hr : (cfgCheckOf s.cfg.jobCopy).1 = 0) :
    Runs (.cfgStoreDone false) s fun t => t.cfg.job = none ∧
      t.cfg.lastFailed = true ∧ t.cfg.shadow = none ∧ t.cfg.active = s.cfg.active ∧
      bankOf t.cfg (!inactiveBank s.cfg) = bankOf s.cfg (!inactiveBank s.cfg) := by
  obtain ⟨t, ht, hc⟩ := cfgStoreDone_passed ha false hj hr
  obtain ⟨h1, h2, -, h4, -⟩ := storeBank_keeps s.cfg.judged s.cfg.jobCopy false
  refine ⟨t, ht, ?_⟩
  dsimp only
  rw [hc]
  exact ⟨h1, rfl, rfl, h2, h4⟩

-- ADOPT
theorem runs_cfgAdoptDone_adopted {i : Nat} (hi : s.tally.startAt + ms 1 = i) (hj : s.cfg.job = some .adopt)
    (hr : (cfgCheckOf s.cfg.jobCopy).1 = 0) : Runs (.cfgAdoptDone true) s fun t =>
      t.now = Nat.max s.now i ∧ t.cfg.job = none ∧ t.cfg.active = s.cfg.jobCopy ∧
      t.cfg.generation = nextGen s.cfg ∧ t.cfg.activeBank = some (inactiveBank s.cfg) ∧ t.sect = s.sect ∧
      t.cfg.defaulted = s.cfg.defaulted ∧ t.cfg.defaultCause = s.cfg.defaultCause ∧
      t.permits = s.permits ∧ t.engine = s.engine := by
  refine runs_whenAlive (f := cfgAdoptDone true) rfl ha ?_
  obtain ⟨-, -, h3, -, h5⟩ := storeBank_keeps s.cfg.judged s.cfg.jobCopy true
  generalize hg : storeBank s.cfg.judged s.cfg.jobCopy true = g at h3 h5
  have hin : inactiveBank g = inactiveBank s.cfg := inactiveBank_congr h3
  obtain ⟨hp1, hp2⟩ := programBank_keeps g
  have hin' : inactiveBank (programBank g) = inactiveBank s.cfg := (inactiveBank_congr hp1).trans hin
  have hgen : readGen (bankOf (programBank g) (inactiveBank s.cfg)) = nextGen s.cfg := by
    rw [← hin, hp2, hin]
    exact congrArg readGen h5
  rw [cfgAdoptDone, if_pos (by exact hj)]
  dsimp only
  rw [if_pos (by exact ⟨hr, rfl⟩), State.begin_tally, hi]
  have hfin (v : State) : Keeps reports v (v.configRecord 3 0).finish :=
    ((keeps_configRecord v 3 0).mono rfl).trans ((keeps_finish _).mono rfl)
  have hcfg (v : State) : (v.configRecord 3 0).finish.cfg = v.cfg := (hfin v).same .cfg (by decide)
  have hnow (v : State) : (v.configRecord 3 0).finish.now = v.now := (hfin v).same .now (by decide)
  have hsect (v : State) : (v.configRecord 3 0).finish.sect = v.sect := (hfin v).same .sect (by decide)
  have hper (v : State) : (v.configRecord 3 0).finish.permits = v.permits := (hfin v).same .permits (by decide)
  have heng (v : State) : (v.configRecord 3 0).finish.engine = v.engine := (hfin v).same .engine (by decide)
  rw [hcfg, hnow, hsect, hper, heng]
  have hsw : switchBank (programBank (storeBank s.cfg.judged s.cfg.jobCopy true)) s.cfg.jobCopy =
      switchBank (programBank g) s.cfg.jobCopy := by rw [hg]
  have h1 : (switchBank (programBank g) s.cfg.jobCopy).generation = nextGen s.cfg := by
    rw [← hgen, ← hin']
    rfl
  have h2 : (switchBank (programBank g) s.cfg.jobCopy).activeBank = some (inactiveBank s.cfg) := by
    rw [← hin']
    rfl
  rw [← hsw] at h1 h2
  exact ⟨State.reach_now s.begin i, rfl, rfl, h1, h2, rfl, rfl, rfl, rfl, rfl⟩

theorem runs_cfgAdoptDone_failed (ok : Bool) (hj : s.cfg.job = some .adopt)
    (hr : (cfgCheckOf s.cfg.jobCopy).1 ≠ 0 ∨ ok = false) : Runs (.cfgAdoptDone ok) s fun t => t.cfg.job = none ∧
      t.cfg.lastFailed = true ∧ t.cfg.active = s.cfg.active ∧ t.cfg.staged = s.cfg.active ∧ t.now = s.now := by
  refine runs_whenAlive (f := cfgAdoptDone ok) rfl ha ?_
  rw [cfgAdoptDone, if_pos (by exact hj)]
  dsimp only
  rw [if_neg (by
    rintro ⟨h0, h1⟩
    exact hr.elim (fun h => h h0) (fun h => absurd (h.symm.trans h1) (by decide))), State.finish_cfg, State.finish_now]
  obtain ⟨h1, h2, -⟩ := storeBank_keeps s.cfg.judged s.cfg.jobCopy false
  by_cases h0 : (cfgCheckOf s.cfg.jobCopy).1 = 0
  · rw [if_pos (by exact h0)]
    exact ⟨h1, rfl, h2, h2, rfl⟩
  · rw [if_neg (by exact h0)]
    exact ⟨rfl, rfl, rfl, rfl, rfl⟩

/-- An activation whose ACT_COUNT cannot be programmed changes nothing (R444). -/
theorem runs_activationEffect_failed (hj : s.cfg.job = some .activation) : Runs (.activationEffect false) s fun t =>
    t.cfg = { s.cfg with job := none, lastFailed := true } ∧ t.sect = s.sect ∧ t.permits = s.permits := by
  refine runs_whenAlive (f := activationEffect false) rfl ha ?_
  rw [activationEffect, if_pos (by exact hj)]
  exact ⟨State.finish_cfg _, State.finish_sect _, State.finish_permits _⟩

end

-- the effects of an activation
section
variable (s : State)

/-- What an activation does from the sensors to the guard (R86, R123, R149). -/
def State.activateSensors (old : CfgMap) : State :=
  (((allFin 64).foldl (fun acc k => acc.excActivate old k)
    ((allFin 64).foldl (fun acc ch => acc.channelActivate old ch) (s.wreActivate old).bellActivate)).switchSense).guardActivate

theorem activateAll_eq (old : CfgMap) : s.activateAll old =
    (s.activateSensors old).trackerActivate.tallyActivate.permitActivate.engineActivate := rfl

theorem keeps_activateSensors (old : CfgMap) :
    Keeps [.fresh, .term, .src, .ch, .cg, .hg, .head, .bell, .tally, .trk] s (s.activateSensors old) := by
  have h1 : Keeps [.fresh, .term, .src, .ch, .cg, .hg, .head, .bell, .tally, .trk] s (s.wreActivate old).bellActivate :=
    ((keeps_wreActivate old s).mono rfl).trans ((keeps_bellActivate _).mono rfl)
  have h2 (u : State) : Keeps [.fresh, .term, .src, .ch, .cg, .hg, .head, .bell, .tally, .trk] u
      ((allFin 64).foldl (fun acc ch => acc.channelActivate old ch) u) :=
    Keeps.foldl_mem _ (fun acc ch _ => (keeps_channelActivate acc old ch).mono rfl) u
  have h3 (u : State) : Keeps [.fresh, .term, .src, .ch, .cg, .hg, .head, .bell, .tally, .trk] u
      ((allFin 64).foldl (fun acc k => acc.excActivate old k) u) :=
    Keeps.foldl_mem _ (fun acc k _ => (keeps_excActivate acc old k).mono rfl) u
  exact (((h1.trans (h2 _)).trans (h3 _)).trans ((keeps_switchSense _).mono rfl)).trans ((keeps_guardActivate _).mono rfl)

/-- Every tracker entry becomes FREE (R251). -/
theorem State.trackerActivate_free (i : Fin 128) : (s.trackerActivate.trk.entries.get i).st = .free := by
  have h : s.trackerActivate.trk.entries = Tab.all {} := rfl
  rw [h, Tab.get_all]

/-- What an activation does to a section (R230). -/
def State.startSection (acc : State) (n : Fin 48) : State :=
  (if (acc.sect.get n).rstate == .pending then acc.endRequest n .withdrawn 0 none else acc).updSect n
    (sectionStart (secUsed acc.cfg.active n.val) causeActivation)

theorem State.startSection_other (u : State) {i j : Fin 48} (h : j ≠ i) :
    (u.startSection i).sect.get j = u.sect.get j := by
  unfold State.startSection
  rw [State.updSect_get_other _ _ h]
  split
  · have hk := (keeps_restoreEvent (u.updSect i (fun x => { x with rstate := .withdrawn, reason := 0, reqBy := none })) i none).same
      .sect (by decide)
    exact (congrArg (fun t : Tab 48 Section => t.get j) hk).trans (State.updSect_get_other _ _ h)
  · rfl

theorem State.startSection_self (u : State) (i : Fin 48) :
    ((u.startSection i).sect.get i).st = .disturbed ∧ ((u.startSection i).sect.get i).count = 0 := by
  unfold State.startSection
  rw [State.updSect_get_self]
  exact ⟨rfl, rfl⟩

theorem State.tallyActivate_folds :
    s.tallyActivate.sect = ((allFin 48).foldl State.startSection (s.tally.restoreIn.foldl State.takeRestore s)).sect := by
  unfold State.tallyActivate
  generalize s.tally.restoreIn.foldl State.takeRestore s = u
  generalize allFin 48 = l
  rfl

/-- Every section becomes DISTURBED and empty (R230). -/
theorem State.tallyActivate_sect (n : Fin 48) :
    (s.tallyActivate.sect.get n).st = .disturbed ∧ (s.tallyActivate.sect.get n).count = 0 := by
  rw [State.tallyActivate_folds]
  obtain ⟨u, -, -, hg⟩ := foldl_allFin_at (view := fun (u : State) n => u.sect.get n) (g := State.startSection)
    (fun _ => True) (fun _ _ _ => trivial) (fun u i j h => u.startSection_other h)
    (s := s.tally.restoreIn.foldl State.takeRestore s) trivial n
  rw [hg]
  exact u.startSection_self n

/-- The lock-out causes of every permit that is not assigned are gone (R287). -/
theorem State.permitActivate_po (p : Fin 16) : s.permitActivate.permits.po.get p =
    permitUnlocked (permitAssigned s.cfg.active p.val) (s.permits.po.get p) := by
  have hh (u : State) (w : PermitWrite) : (u.holdPermit w).permits = u.permits := (keeps_holdPermit u w).same .permits (by decide)
  unfold State.permitActivate
  rw [hh]
  unfold State.unlockUnassigned
  refine foldl_allFin (view := fun (u : State) p => u.permits.po.get p)
    (g := fun acc p => acc.updPermit p (permitUnlocked (permitAssigned acc.cfg.active p.val)))
    (F := fun p x => permitUnlocked (permitAssigned s.cfg.active p.val) x) (fun acc : State => acc.cfg = s.cfg)
    (fun acc i h => h) (fun acc i h => ?_) (fun acc i j h => ?_) rfl p
  · rw [h, State.updPermit_self]
  · exact State.updPermit_other _ _ h

/-- The window in which a write of a permit retires rests on the clock and on the latest window compared (R343, R347). -/
theorem retireWindow_congr {s t : State} (hn : t.now = s.now) (hl : t.twin.lockAt = s.twin.lockAt)
    (hw : t.twin.window = s.twin.window) : retireWindow t = retireWindow s := by
  unfold retireWindow
  rw [hn, hl, hw]

/-- The writes that set every assigned permit DROPPING are held for the Reeve (R277, R347). -/
theorem State.permitActivate_held (h : s.twin.stopLatch = false) : s.permitActivate.twin =
    { s.twin with held := s.twin.held ++ [(retireWindow s, .activation (assignedMask s.cfg.active))] } := by
  have hk := keeps_unlockUnassigned s
  have ht : s.unlockUnassigned.twin = s.twin := hk.same .twin (by decide)
  have hn : s.unlockUnassigned.now = s.now := hk.same .now (by decide)
  have hw : retireWindow s.unlockUnassigned = retireWindow s := retireWindow_congr hn (by rw [ht]) (by rw [ht])
  unfold State.permitActivate State.holdPermit
  rw [if_neg (by rw [ht, h]; decide), hw, ht]

theorem State.permitActivate_window : s.permitActivate.twin.lockAt = s.twin.lockAt ∧
    s.permitActivate.twin.window = s.twin.window := by
  have ht : s.unlockUnassigned.twin = s.twin := (keeps_unlockUnassigned s).same .twin (by decide)
  rw [← ht]
  unfold State.permitActivate State.holdPermit
  split <;> exact ⟨rfl, rfl⟩

theorem assignedMask_bit (c : CfgMap) (p : Fin 16) : (assignedMask c).getLsbD p.val = permitAssigned c p.val := by
  unfold assignedMask
  rw [BitVec.getLsbD_ofNat, testBit_mapBits, decide_eq_true p.isLt]
  rfl

/-- The engine fades (R320). -/
theorem fadeNow_mode (e : Engine) : (fadeNow e).mode = if e.mode = .off then .off else .fade := by
  unfold fadeNow
  cases h : e.mode <;> simp [h]

theorem State.engineActivate_engine : s.engineActivate.engine.live = engineLive s.cfg.active ∧
    s.engineActivate.engine.mode = if s.engine.mode = .off then .off else .fade := by
  have h : s.engineActivate.engine = { fadeNow s.engine with
      live := engineLive s.cfg.active, initDue := BitVec.allOnes 16, residues := Tab.all {}, syncAt := s.now } := by
    unfold State.engineActivate State.engineRecord
    dsimp only
    split <;> rfl
  rw [h]
  exact ⟨rfl, fadeNow_mode s.engine⟩

/-- What an activation leaves of the configuration in force (R230, R251, R277, R287, R320, R347, R444). -/
structure Activated (t : State) : Prop where
  now : t.now = s.now
  cfg : t.cfg = s.cfg
  sect : ∀ n, (t.sect.get n).st = .disturbed ∧ (t.sect.get n).count = 0
  permits : ∀ p : Fin 16,
    t.permits.po.get p = permitUnlocked (permitAssigned s.cfg.active p.val) (s.permits.po.get p)
  held : s.twin.stopLatch = false →
    t.twin.held = s.twin.held ++ [(retireWindow s, .activation (assignedMask s.cfg.active))]
  window : t.twin.lockAt = s.twin.lockAt ∧ t.twin.window = s.twin.window
  trk : ∀ i, (t.trk.entries.get i).st = .free
  live : t.engine.live = engineLive s.cfg.active
  mode : t.engine.mode = if s.engine.mode = .off then .off else .fade

theorem activated_activateAll (old : CfgMap) : Activated s (s.activateAll old) := by
  have hall := keeps_activateAll s old
  rw [activateAll_eq] at hall ⊢
  have h0 := keeps_activateSensors s old
  generalize s.activateSensors old = a at *
  have h1 : Keeps [.fresh, .term, .src, .ch, .cg, .hg, .head, .bell, .tally, .trk] s a.trackerActivate :=
    h0.trans ((keeps_trackerActivate a).mono rfl)
  have hf := a.trackerActivate_free
  generalize a.trackerActivate = b at *
  have h2 : Keeps [.fresh, .term, .src, .ch, .cg, .hg, .head, .bell, .tally, .trk, .sect] s b.tallyActivate :=
    (h1.mono rfl).trans ((keeps_tallyActivate b).mono rfl)
  have hs := b.tallyActivate_sect
  have hb : b.tallyActivate.trk = b.trk := (keeps_tallyActivate b).same .trk (by decide)
  generalize b.tallyActivate = c at *
  have hcfg : c.cfg = s.cfg := h2.same .cfg (by decide)
  have hper : c.permits = s.permits := h2.same .permits (by decide)
  have htwin : c.twin = s.twin := h2.same .twin (by decide)
  have heng : c.engine = s.engine := h2.same .engine (by decide)
  have hpo := c.permitActivate_po
  have hheld := c.permitActivate_held
  have hpw := c.permitActivate_window
  have hk := keeps_permitActivate c
  have hwin : retireWindow c = retireWindow s := retireWindow_congr (h2.same .now (by decide)) (by rw [htwin]) (by rw [htwin])
  generalize c.permitActivate = d at *
  have hsect : d.sect = c.sect := hk.same .sect (by decide)
  have htrk : d.trk = c.trk := hk.same .trk (by decide)
  have hcfg' : d.cfg = s.cfg := (hk.same .cfg (by decide) : d.cfg = c.cfg).trans hcfg
  have heng' : d.engine = s.engine := (hk.same .engine (by decide) : d.engine = c.engine).trans heng
  have he := keeps_engineActivate d
  obtain ⟨hlive, hmode⟩ := d.engineActivate_engine
  refine ⟨hall.same .now (by decide), hall.same .cfg (by decide), fun n => ?_, fun p => ?_, fun hl => ?_, ?_,
    fun i => ?_, ?_, ?_⟩
  · rw [(he.same .sect (by decide) : d.engineActivate.sect = d.sect), hsect]
    exact hs n
  · rw [(he.same .permits (by decide) : d.engineActivate.permits = d.permits), hpo, hcfg, hper]
  · have hl' : c.twin.stopLatch = false := by rw [htwin, hl]
    rw [(he.same .twin (by decide) : d.engineActivate.twin = d.twin), hheld hl', hcfg, htwin, hwin]
  · rw [(he.same .twin (by decide) : d.engineActivate.twin = d.twin), hpw.1, hpw.2, htwin]
    exact ⟨rfl, rfl⟩
  · rw [(he.same .trk (by decide) : d.engineActivate.trk = d.trk), htrk, hb]
    exact hf i
  · rw [hlive, hcfg']
  · rw [hmode, heng']

end

section
variable {s : State} (ha : s.alive = true)
include ha

theorem runs_activationEffect_done {i : Nat} (hi : s.tally.startAt + ms 1 = i) (hj : s.cfg.job = some .activation) :
    Runs (.activationEffect true) s fun t =>
      t.now = Nat.max s.now i ∧ t.cfg.job = none ∧ t.cfg.active = s.cfg.staged ∧
      t.cfg.activeBank = some (inactiveBank s.cfg) ∧ t.cfg.liveEdit = false ∧ t.cfg.defaulted = false ∧
      (∀ n, (t.sect.get n).st = .disturbed ∧ (t.sect.get n).count = 0) ∧
      (∀ p : Fin 16, (permitAssigned s.cfg.staged p.val = true → t.permits.po.get p = s.permits.po.get p) ∧
        (permitAssigned s.cfg.staged p.val = false → t.permits.po.get p =
          { s.permits.po.get p with lock := 0#4, shownLock := 0, rbBy := 0#16 })) ∧
      (s.twin.stopLatch = false → ∃ m : BitVec 16, (∀ p : Fin 16, m.getLsbD p.val = permitAssigned s.cfg.staged p.val) ∧
        t.twin.held = s.twin.held ++ [(retireWindow t, .activation m)]) ∧
      (∀ i, (t.trk.entries.get i).st = .free) ∧ t.engine.live = engineLive s.cfg.staged ∧
      t.engine.mode = (if s.engine.mode = .off then .off else .fade) := by
  refine runs_whenAlive (f := activationEffect true) rfl ha ?_
  rw [activationEffect, if_pos (by exact hj)]
  dsimp only
  rw [if_pos rfl, State.begin_tally, hi]
  have hbank : (switchBank (programBank s.cfg) s.cfg.staged).activeBank = some (inactiveBank s.cfg) :=
    congrArg some (inactiveBank_congr (programBank_keeps s.cfg).1)
  generalize hv : ({ s.begin.reach i with cfg := { switchBank (programBank (s.begin.reach i).cfg) (s.begin.reach i).cfg.staged with
    liveEdit := false, activeAt := (s.begin.reach i).now } } : State) = v
  have hnow : v.now = Nat.max s.now i := by
    rw [← hv]
    exact State.reach_now s.begin i
  have hcfg : v.cfg.job = none ∧ v.cfg.active = s.cfg.staged ∧ v.cfg.activeBank = some (inactiveBank s.cfg) ∧
      v.cfg.liveEdit = false ∧ v.cfg.defaulted = false := by
    rw [← hv]
    exact ⟨rfl, rfl, hbank, rfl, rfl⟩
  have hsame : v.permits = s.permits ∧ v.twin = s.twin ∧ v.engine = s.engine := by
    rw [← hv]
    exact ⟨rfl, rfl, rfl⟩
  generalize hw : v.configRecord _ _ = w
  have hrec : Keeps [.log] v w := hw ▸ keeps_configRecord ..
  have hwcfg : w.cfg = v.cfg := hrec.same .cfg (by decide)
  have hwnow : w.now = v.now := hrec.same .now (by decide)
  have hwper : w.permits = s.permits := (hrec.same .permits (by decide) : w.permits = v.permits).trans hsame.1
  have hwtwin : w.twin = s.twin := (hrec.same .twin (by decide) : w.twin = v.twin).trans hsame.2.1
  have hweng : w.engine = s.engine := (hrec.same .engine (by decide) : w.engine = v.engine).trans hsame.2.2
  have hact : w.cfg.active = s.cfg.staged := by rw [hwcfg, hcfg.2.1]
  have hall := activated_activateAll w (s.begin.reach i).cfg.active
  generalize w.activateAll (s.begin.reach i).cfg.active = x at hall
  obtain ⟨h1, h2, h3, h4, h5, h6, h7, h8, h9⟩ := hall
  have hf := keeps_finish x
  have hfx : retireWindow x.finish = retireWindow w := by
    have ht : x.finish.twin = x.twin := hf.same .twin (by decide)
    exact retireWindow_congr ((State.finish_now x).trans h1) (by rw [ht, h6.1]) (by rw [ht, h6.2])
  rw [hwper, hact] at h4
  rw [hwtwin, hact] at h5
  rw [State.finish_now, State.finish_cfg, State.finish_sect, State.finish_permits, State.finish_engine, h1, h2, hwnow, hwcfg,
    hfx, (hf.same .twin (by decide) : x.finish.twin = x.twin), (hf.same .trk (by decide) : x.finish.trk = x.trk), h8, h9,
    hact, hweng]
  refine ⟨hnow, hcfg.1, hcfg.2.1, hcfg.2.2.1, hcfg.2.2.2.1, hcfg.2.2.2.2, h3, fun p => ⟨fun hp => ?_, fun hp => ?_⟩,
    fun hl => ⟨_, assignedMask_bit s.cfg.staged, h5 hl⟩, h7, rfl, rfl⟩
  · rw [h4 p, hp]
    rfl
  · rw [h4 p, hp]
    rfl

end

/-- Settles O57: the ends of the commands of the configuration store (R434, R435, R439, R441, R444, R445, R447). -/
theorem configurationCompletions : Obligations.ConfigurationCompletions := by
  unfold Obligations.ConfigurationCompletions
  exact fun s ha => ⟨fun hj => runs_cfgCheckDone ha hj,
    fun hj => ⟨fun hr => runs_cfgStoreDone_stored ha hj hr, fun hr => runs_cfgStoreDone_torn ha hj hr,
      fun ok hr => runs_cfgStoreDone_failed ha ok hj hr⟩,
    fun hj => runs_activationEffect_failed ha hj, fun hj => runs_activationEffect_done ha rfl hj,
    fun hj => ⟨fun hr => runs_cfgAdoptDone_adopted ha rfl hj hr, fun ok hr => runs_cfgAdoptDone_failed ha ok hj hr⟩⟩

end Sys2Proof.Machine

/-! SUPPORT. What creating a record leaves of the queue and of the sector write in progress; what a sector write leaves of the
eMMC; identifying the eMMC; with them O58 (R53, R454 to R458, R464, R466, R467, R470, R480, R481). -/

namespace Sys2Proof.Machine

-- creating records
/-- Records join the end of the queue, and a sector write in progress, or one that may not start, stays as it is (R466,
R467). -/
structure Adds (x : RecCtx) (r t : Recorder) : Prop where
  queue : r.queue <+: t.queue
  writing : 0 < r.writing ∨ x.shut = true → t.writing = r.writing

theorem Adds.refl (x : RecCtx) (r : Recorder) : Adds x r r := ⟨List.prefix_refl _, fun _ => rfl⟩

theorem Adds.trans {x : RecCtx} {r t u : Recorder} (h : Adds x r t) (k : Adds x t u) : Adds x r u := by
  refine ⟨h.queue.trans k.queue, fun hw => ?_⟩
  have h1 := h.writing hw
  exact (k.writing (by rw [h1]; exact hw)).trans h1

theorem Adds.ite {x : RecCtx} {c : Prop} [Decidable c] {r a b : Recorder} (ha : Adds x r a) (hb : Adds x r b) :
    Adds x r (if c then a else b) := by
  split
  · exact ha
  · exact hb

/-- What leaves queue and write as they are. -/
theorem Adds.of_eq {x : RecCtx} {r t : Recorder} (hq : t.queue = r.queue) (hw : t.writing = r.writing) : Adds x r t :=
  ⟨⟨[], by rw [List.append_nil, hq]⟩, fun _ => hw⟩

section
variable (x : RecCtx) (r : Recorder)

theorem adds_recAppend (typ : Nat) (p : List Byte) : Adds x r (recAppend x r typ p) := ⟨⟨_, rfl⟩, fun _ => rfl⟩

theorem adds_recLose (time : Nat) : Adds x r (recLose x time r) := .of_eq rfl rfl

theorem adds_recSealed : Adds x r (recSealed x r) := by
  unfold recSealed recSeal
  exact .ite ((adds_recAppend x r 0x0C _).trans (.of_eq rfl rfl)) (.refl x r)

theorem adds_recNumber (typ : Nat) (p : List Byte) : Adds x r (recNumber x r typ p) := by
  unfold recNumber
  exact .ite ((adds_recSealed x r).trans (adds_recLose ..)) ((adds_recSealed x r).trans (adds_recAppend ..))

theorem adds_recPut (typ : Nat) (p : List Byte) : Adds x r (recPut x r typ p) := by
  unfold recPut
  exact .ite (.ite ((adds_recSealed x r).trans (adds_recLose ..)) ((adds_recSealed x r).trans (adds_recNumber ..)))
    ⟨⟨_, rfl⟩, fun _ => rfl⟩

theorem adds_recGap : Adds x r (recGap x r) := by
  unfold recGap
  exact .ite (.refl x r) ((adds_recPut x r 0x0A _).trans (.of_eq rfl rfl))

/-- No sector write starts while one is in progress or none may start (R53, R467). -/
theorem adds_recKick : Adds x r (recKick x r) := by
  refine ⟨?_, fun hw => ?_⟩
  · unfold recKick
    split <;> exact List.prefix_refl _
  · have hm : mayWrite x r = false := by
      obtain hw | hw := hw
      · simp [mayWrite, Nat.ne_of_gt hw]
      · simp [mayWrite, hw]
    rw [recKick, hm]
    rfl

theorem adds_recCreate (typ : Nat) (p : List Byte) : Adds x r (recCreate x r typ p) := by
  unfold recCreate
  have h0 : Adds x r { r with lastRecordAt := x.now } := .of_eq rfl rfl
  exact .ite (.refl x r) (.ite (h0.trans (adds_recLose ..))
    (((h0.trans (adds_recGap ..)).trans (adds_recPut ..)).trans (adds_recKick ..)))

end

-- the judgement of ALARMS and the recorder
/-- Two recorders that agree in both of their halves are the same. -/
theorem Recorder.eq_of_parts {a b : Recorder} (hs : a.steady = b.steady) (hj : a.journal = b.journal) : a = b := by
  cases a
  cases b
  simp only [Recorder.steady, Recorder.journal, Recorder.mk.injEq] at hs hj
  simp only [Recorder.mk.injEq, hs, hj, and_self]

theorem recd_of_keeps {l : List Part} {s t : State} (h : Keeps l s t) (hl : misses [.recd, .log] l = true) :
    t.recd = s.recd := by
  have same (p : Part) (hp : p ∈ [Part.recd, .log]) : p.same s t :=
    h.same p (by simpa using List.all_eq_true.mp hl p hp)
  exact Recorder.eq_of_parts (same .recd (by simp)) (same .log (by simp))

/-- The end of a command leaves the recorder, or creates one record there (R388, R406, R465). -/
theorem State.finish_recd (s : State) : s.finish.recd = s.recd ∨ ∃ p, s.finish.recd = recCreate (recCtx s) s.recd 0x06 p := by
  have hbits (a b : Nat) : (s.judgeBits a b).recd = s.recd ∨ ∃ p, (s.judgeBits a b).recd = recCreate (recCtx s) s.recd 0x06 p := by
    unfold State.judgeBits
    split
    · exact .inl rfl
    · exact .inr ⟨_, recd_of_keeps (keeps_bits _ a b _) (by decide)⟩
  unfold State.finish State.judgeAlarms
  split
  · dsimp only
    have h := hbits (alarms s) s.net.emcy.lastAlarms
    generalize s.judgeBits (alarms s) s.net.emcy.lastAlarms = u at h
    split
    · exact h
    · split
      · have he : (u.emergency 0 0xFF none).recd = u.recd := recd_of_keeps (keeps_emergency u 0 0xFF none) (by decide)
        exact he ▸ h
      · exact h
  · exact .inl rfl

theorem State.finish_adds (s : State) : Adds (recCtx s) s.recd s.finish.recd := by
  obtain h | ⟨p, h⟩ := s.finish_recd
  · rw [h]
    exact .refl _ _
  · rw [h]
    exact adds_recCreate ..

-- the bytes of a sector
theorem memRead_eq_map (m : List Host.Cell) (base n : Nat) :
    memRead m base n = (List.range n).map (fun i => memGet m (base + i)) := by
  induction n generalizing base with
  | zero => rfl
  | succ n ih =>
    rw [memRead, ih, List.range_succ_eq_map, List.map_cons, List.map_map]
    congr 1
    refine List.map_congr_left fun i _ => ?_
    rw [Function.comp_apply, Nat.succ_eq_add_one]
    congr 1
    omega

/-- Read after write of a whole block. -/
theorem memRead_memWrite {m : List Host.Cell} (base : Nat) (bs : List Byte) (w : Memory.wf m = true) :
    memRead (memWrite m base bs) base bs.length = bs := by
  rw [memRead_eq_map]
  refine List.ext_getElem (by simp) fun i h1 h2 => ?_
  rw [List.getElem_map, List.getElem_range, memGet_memWrite_inside base bs i h2 w]

theorem length_memRead (m : List Host.Cell) (base n : Nat) : (memRead m base n).length = n := by
  rw [memRead_eq_map, List.length_map, List.length_range]

-- a recorder that takes records
/-- The oldest record that waits has no number yet (R466). -/
def Recorder.waits (r : Recorder) : Bool := r.queue.head?.any (fun q => q.number.isNone)

/-- What the room in the queue rests on: how many records wait, whether the first has a number, and the next number
(R467, R468). -/
structure Counts (r : Recorder) (n next : Nat) (w : Bool) (o : Nat) : Prop where
  length : r.queue.length = n
  next_ : r.next = next
  waits : r.waits = w
  written : openWritten r = if w then next % 8 else o

theorem counts (r : Recorder) : Counts r r.queue.length r.next r.waits (openWritten r) := by
  refine ⟨rfl, rfl, rfl, ?_⟩
  unfold Recorder.waits openWritten
  cases r.queue with
  | nil => rfl
  | cons q qs => cases h : q.number <;> simp [h]

section
variable {x : RecCtx} {r : Recorder} {n next : Nat} {w : Bool} {o : Nat} (h : Counts r n next w o)
include h

theorem Counts.count : recCount r = n + if w then next % 8 else o := by rw [recCount, h.length, h.written]

theorem Counts.append {t : Recorder} {q : Rec} (hq : t.queue = r.queue ++ [q]) (hn : q.number = some next)
    (ht : t.next = next + 1) : Counts t (n + 1) (next + 1) w o := by
  obtain ⟨h1, h2, h3, h4⟩ := h
  refine ⟨by rw [hq, List.length_append, h1]; rfl, ht, ?_, ?_⟩
  · rw [← h3]
    unfold Recorder.waits
    rw [hq]
    cases r.queue with
    | nil => simp [hn]
    | cons a as => rfl
  · unfold Recorder.waits at h3
    unfold openWritten at h4 ⊢
    rw [hq, ht]
    cases hr : r.queue with
    | nil =>
      rw [hr] at h3 h4
      subst h3
      dsimp only at h4
      rw [List.nil_append]
      dsimp only
      rw [hn, ← h2]
      exact h4
    | cons a as =>
      rw [hr] at h3 h4
      dsimp only at h4
      rw [List.cons_append]
      dsimp only
      cases ha : a.number with
      | none =>
        have hw : w = true := by rw [← h3]; simp [ha]
        rw [hw]
        rfl
      | some m =>
        have hw : w = false := by rw [← h3]; simp [ha]
        rw [ha, hw] at h4
        rw [hw]
        exact h4

theorem Counts.recAppend (typ : Nat) (p : List Byte) : Counts (recAppend x r typ p) (n + 1) (next + 1) w o :=
  h.append rfl (by rw [h.next_]) (by rw [← h.next_]; rfl)

/-- A SEAL joins only where the next number asks for one (R474). -/
theorem Counts.recSealed (he : r.exhausted = false) : Counts (recSealed x r)
    (if next % 64 = 63 then n + 1 else n) (if next % 64 = 63 then next + 1 else next) w o := by
  unfold Machine.recSealed
  rw [he, h.next_]
  by_cases hs : next % 64 = 63
  · rw [if_pos hs, if_pos hs, if_pos (by simp [hs])]
    exact h.append (q := { number := some r.next, time := x.time, cycle := r.powerCycles, typ := 0x0C, payload := _, createdAt := x.now })
      rfl (by rw [h.next_]) (by rw [← h.next_]; rfl)
  · rw [if_neg hs, if_neg hs, if_neg (by simp [hs])]
    exact h

end

theorem recSealed_flags (x : RecCtx) {r : Recorder} (he : r.exhausted = false) (hn : r.next + 1 < 0xFFFFFFFF) :
    (recSealed x r).exhausted = false ∧ (recSealed x r).lossAt = r.lossAt := by
  unfold recSealed
  split
  · refine ⟨?_, rfl⟩
    show (r.exhausted || decide (r.next + 1 ≥ 0xFFFFFFFF)) = false
    rw [he, decide_eq_false (by omega)]
    rfl
  · exact ⟨he, rfl⟩

/-- After a SEAL the next number asks for none. -/
theorem recSealed_again (x : RecCtx) {r : Recorder} (he : r.exhausted = false) :
    recSealed x (recSealed x r) = recSealed x r := by
  by_cases hs : r.next % 64 = 63
  · have hn : (recSealed x r).next % 64 ≠ 63 := by
      rw [((counts r).recSealed he).next_, if_pos hs]
      omega
    rw [recSealed, if_neg (by simp [hn])]
  · have hr : recSealed x r = r := if_neg (by simp [hs])
    rw [hr, hr]

/-- A record is queued: with room for it and its SEAL it is not lost (R468, R473). -/
theorem recPut_numbered {x : RecCtx} {r : Recorder} (typ : Nat) (p : List Byte) (hb : numbering r = true)
    (he : r.exhausted = false) (hn : r.next + 1 < 0xFFFFFFFF) (hc : recCount (recSealed x r) < recCap) :
    recPut x r typ p = recAppend x (recSealed x r) typ p := by
  obtain ⟨h1, -⟩ := recSealed_flags x he hn
  unfold recPut
  rw [if_pos hb]
  dsimp only
  rw [if_neg (by omega), recNumber, recSealed_again x he]
  rw [if_neg (by rw [h1]; decide)]

/-- Whether records get their numbers at once rests on what creating a record leaves (R466). -/
theorem numbering_congr {r t : Recorder} (h : t.steady = r.steady) : numbering t = numbering r := by
  have h1 : t.opened = r.opened := (congrArg Recorder.opened h :)
  have h2 : t.st = r.st := (congrArg Recorder.st h :)
  have h3 : t.job = r.job := (congrArg Recorder.job h :)
  unfold numbering
  rw [h1, h2, h3]

/-- A record of a type is among those that wait, created now, and no loss has been noted (R465, R468). -/
structure Queued (x : RecCtx) (r : Recorder) (typ : Nat) (t : Recorder) : Prop where
  loss : t.lossAt = r.lossAt
  mem : ∃ q ∈ t.queue, q.typ = typ ∧ q.createdAt = x.now

theorem recPut_queued {x : RecCtx} {r : Recorder} (typ : Nat) (p : List Byte) (he : r.exhausted = false)
    (hn : r.next + 1 < 0xFFFFFFFF) (hc : numbering r = true → recCount (recSealed x r) < recCap) :
    Queued x r typ (recPut x r typ p) := by
  cases hb : numbering r with
  | true =>
    rw [recPut_numbered typ p hb he hn (hc hb)]
    exact ⟨(recSealed_flags x he hn).2, _, List.mem_append_right _ List.mem_cons_self, rfl, rfl⟩
  | false =>
    rw [recPut, if_neg (by rw [hb]; decide)]
    exact ⟨rfl, _, List.mem_append_right _ List.mem_cons_self, rfl, rfl⟩

/-- With room for three records the GAP record before a new one leaves room for that (R468). -/
theorem recGap_room {x : RecCtx} {r : Recorder} (he : r.exhausted = false) (hn : r.next + 8 < 0xFFFFFFFF)
    (hc : recCount r + 3 ≤ recCap) : (recGap x r).exhausted = false ∧ (recGap x r).next + 1 < 0xFFFFFFFF ∧
      (recGap x r).lossAt = r.lossAt ∧ (numbering r = true → recCount (recSealed x (recGap x r)) < recCap) := by
  have hk := counts r
  have hks := hk.recSealed (x := x) he
  have hcount := hk.count
  have hs1 := hks.count
  have hfirst : recCount (recSealed x r) < recCap := by
    rw [hs1]
    rw [hcount] at hc
    unfold recCap at hc ⊢
    generalize r.waits = w at hc ⊢
    cases w <;> simp only [reduceIte, Bool.false_eq_true] at hc ⊢ <;> (repeat' split) <;> omega
  unfold recGap
  by_cases hl : r.lost = 0
  · rw [if_pos hl]
    exact ⟨he, by omega, rfl, fun _ => hfirst⟩
  · rw [if_neg hl]
    generalize leBytes 4 r.lost ++ leBytes 6 r.lostFirst ++ leBytes 6 r.lostLast = p
    cases hb : numbering r with
    | false =>
      rw [recPut, if_neg (by rw [hb]; decide)]
      exact ⟨he, by exact (by omega : r.next + 1 < 0xFFFFFFFF), rfl, fun h => absurd h (by decide)⟩
    | true =>
      rw [recPut_numbered 0x0A p hb he (by omega) hfirst]
      obtain ⟨hf1, hf2⟩ := recSealed_flags x he (by omega : r.next + 1 < 0xFFFFFFFF)
      have hnext := hks.next_
      generalize recSealed x r = u at *
      have hka := hks.append (t := { recAppend x u 0x0A p with lost := 0 }) rfl (congrArg some hks.next_)
        (congrArg (· + 1) hks.next_)
      have hea : ({ recAppend x u 0x0A p with lost := 0 } : Recorder).exhausted = false := by
        show (u.exhausted || decide (u.next + 1 ≥ 0xFFFFFFFF)) = false
        rw [hf1, hnext, decide_eq_false (by split <;> omega)]
        rfl
      have hkb := hka.recSealed (x := x) hea
      refine ⟨hea, ?_, hf2, fun _ => ?_⟩
      · rw [hka.next_]
        split <;> omega
      · rw [hkb.count]
        rw [hcount] at hc
        unfold recCap at hc ⊢
        generalize r.waits = w at hc ⊢
        cases w <;> simp only [reduceIte, Bool.false_eq_true] at hc ⊢ <;> (repeat' split) <;> omega

/-- A recorder with room and numbers takes a record (R465, R468, R473). -/
theorem recCreate_queued {x : RecCtx} {r : Recorder} (typ : Nat) (p : List Byte) (hs : r.stopped = false)
    (he : r.exhausted = false) (hn : r.next + 8 < 0xFFFFFFFF) (hc : recCount r + 3 ≤ recCap) :
    Queued x r typ (recCreate x r typ p) := by
  unfold recCreate
  rw [if_neg (by rw [hs]; decide)]
  dsimp only
  have hroom : ¬((({ r with lastRecordAt := x.now } : Recorder).exhausted || decide
      (recCount { r with lastRecordAt := x.now } + (if r.lost = 0 then 1 else 2) > recCap)) = true) := by
    have hc' : recCount ({ r with lastRecordAt := x.now } : Recorder) + 3 ≤ recCap := hc
    rw [Bool.or_eq_true, not_or, decide_eq_true_eq]
    exact ⟨by rw [show ({ r with lastRecordAt := x.now } : Recorder).exhausted = false from he]; decide, by split <;> omega⟩
  rw [if_neg hroom]
  obtain ⟨h1, h2, h3, h4⟩ := recGap_room (x := x) (r := { r with lastRecordAt := x.now }) he hn hc
  have hst := recGap_steady x { r with lastRecordAt := x.now }
  generalize recGap x { r with lastRecordAt := x.now } = g at *
  have hq := recPut_queued (x := x) typ p h1 h2 (fun hb => h4 ((numbering_congr hst).symm.trans hb))
  generalize recPut x g typ p = u at *
  obtain ⟨hl, hm⟩ := hq
  have hkick : (recKick x u).lossAt = u.lossAt ∧ (recKick x u).queue = u.queue := by
    unfold recKick
    split <;> exact ⟨rfl, rfl⟩
  exact ⟨hkick.1.trans (hl.trans h3), by rw [hkick.2]; exact hm⟩

-- sector writes
theorem batchLen_pos {q : Rec} {qs : List Rec} {n : Nat} (h : q.number = some n) : 0 < batchLen (q :: qs) (n / 8) := by
  unfold batchLen
  rw [h]
  simp

/-- A sector that is due has a record to write (R467). -/
theorem recBatch_pos {r : Recorder} {b : Bool} {d : Nat} (h : flushDue b r = some d) : 0 < recBatch r := by
  unfold flushDue at h
  unfold recBatch
  cases hq : r.queue with
  | nil => rw [hq] at h; exact nomatch h
  | cons q qs =>
    rw [hq] at h
    dsimp only at h ⊢
    cases hn : q.number with
    | none => rw [hn] at h; exact nomatch h
    | some n => exact batchLen_pos hn

section
variable {s : State}

theorem runs_sectorFlushDue {d : Nat} (hs : s.serving = true) (hd : flushDue s.goingDown s.recd = some d)
    (ho : s.recd.opened = true) (hr : s.recd.st = .ready) (hw : s.recd.writing = 0) (ha : s.recd.asleep = false)
    (hf : flushAbandoned (s.reach d) = false) : Runs .sectorFlushDue s fun t =>
      t.now = Nat.max s.now d ∧ t.recd.writing = recBatch s.recd ∧ 0 < t.recd.writing := by
  refine runs_guarded (b := State.serving) (f := sectorFlushDue) rfl hs ?_
  have hm : mayWrite (recCtx (s.begin.reach d)) s.begin.recd = true := by
    have hf' : (recCtx (s.begin.reach d)).shut = false := hf
    have hrec : s.begin.recd = s.recd := rfl
    rw [mayWrite, hf', hrec, ho, hr, hw, ha]
    rfl
  have hd' : flushDue s.begin.goingDown s.begin.recd = some d := hd
  unfold sectorFlushDue
  rw [hd']
  dsimp only
  rw [if_pos hm]
  have hpos : 0 < recBatch s.recd := recBatch_pos hd
  have hadd := ((s.begin.reach d).updRec (fun r => { r with writing := recBatch r })).finish_adds
  have hwr := hadd.writing (.inl hpos)
  rw [State.finish_now, hwr]
  exact ⟨State.reach_now s.begin d, rfl, hpos⟩

theorem State.dumpReady_keeps : s.dumpReady.recd.queue = s.recd.queue ∧ s.dumpReady.recd.failures = s.recd.failures ∧
    s.dumpReady.emmc = s.emmc := by
  unfold State.dumpReady
  split <;> exact ⟨rfl, rfl, rfl⟩

theorem State.emmcSleep_keeps : s.emmcSleep.recd.queue = s.recd.queue ∧ s.emmcSleep.recd.failures = s.recd.failures ∧
    s.emmcSleep.emmc = s.emmc := by
  unfold State.emmcSleep
  split <;> exact ⟨rfl, rfl, rfl⟩

section
variable {l : Label} {q : Rec} {rest : List Rec} {n : Nat} (hl : s.recd.label = some l) (hq : s.recd.queue = q :: rest)
  (hn : q.number = some n)
include hl hq hn

theorem sectorCommands_eq (hw : 0 < s.recd.writing) : sectorCommands s = [.setBlockCount true 1,
    .writeMultiple (64 * recSlot l (n - n % 8) / 512)
      (sectorBytes s.emmc (64 * recSlot l (n - n % 8)) (n % 8) (s.recd.queue.take s.recd.writing))] := by
  unfold sectorCommands
  rw [hl, hq]
  dsimp only
  rw [if_neg (Nat.ne_of_gt hw), hn]
  rfl

/-- The sector goes to its place, and its records leave the queue (R456, R467). -/
theorem State.sectorStored_keeps : s.sectorStored.emmc = memWrite s.emmc (64 * recSlot l (n - n % 8))
      (sectorBytes s.emmc (64 * recSlot l (n - n % 8)) (n % 8) (s.recd.queue.take s.recd.writing)) ∧
    s.sectorStored.recd.queue = s.recd.queue.drop s.recd.writing ∧ s.sectorStored.recd.failures = 0 := by
  unfold State.sectorStored
  rw [hl, hq]
  dsimp only
  rw [hn]
  refine ⟨rfl, ?_, rfl⟩
  show List.drop s.recd.writing s.recd.queue = _
  rw [hq]

theorem runs_sectorWriteDone_stored (hs : s.serving = true) (hr : s.recd.st = .ready) (hw : 0 < s.recd.writing)
    (hf : flushAbandoned s = false) (hm : Memory.wf s.emmc = true) : Runs (.sectorWriteDone true) s fun t =>
      memRead t.emmc (64 * recSlot l (n - n % 8)) (sectorBytes s.emmc (64 * recSlot l (n - n % 8)) (n % 8)
          (s.recd.queue.take s.recd.writing)).length
        = sectorBytes s.emmc (64 * recSlot l (n - n % 8)) (n % 8) (s.recd.queue.take s.recd.writing) ∧
      (∀ a, a < 64 * recSlot l (n - n % 8) ∨ 64 * recSlot l (n - n % 8) + (sectorBytes s.emmc
          (64 * recSlot l (n - n % 8)) (n % 8) (s.recd.queue.take s.recd.writing)).length ≤ a →
        memGet t.emmc a = memGet s.emmc a) ∧
      s.recd.queue.drop s.recd.writing <+: t.recd.queue ∧ t.recd.failures = 0 := by
  refine runs_guarded (b := State.serving) (f := sectorWriteDone true) rfl hs ?_
  have hf' : flushAbandoned s.begin = false := hf
  obtain ⟨h1, h2, h3⟩ := State.sectorStored_keeps (s := s.begin) hl hq hn
  rw [sectorWriteDone, hf', if_neg (by decide), if_pos rfl,
    if_pos (by rw [Bool.and_eq_true, decide_eq_true_eq, beq_iff_eq]; exact ⟨hw, hr⟩)]
  generalize hv : s.begin.sectorStored.updRec (fun r => recKick (recCtx s.begin) r) = v
  have hve : v.emmc = memWrite s.emmc (64 * recSlot l (n - n % 8))
      (sectorBytes s.emmc (64 * recSlot l (n - n % 8)) (n % 8) (s.recd.queue.take s.recd.writing)) := by
    rw [← hv]
    exact h1
  have hvq : v.recd.queue = s.recd.queue.drop s.recd.writing := by
    have hk : (recKick (recCtx s.begin) s.begin.sectorStored.recd).queue = s.begin.sectorStored.recd.queue := by
      unfold recKick
      split <;> rfl
    rw [← hv]
    exact hk.trans h2
  have hvf : v.recd.failures = 0 := by
    rw [← hv]
    exact (recKick_failures ..).trans h3
  obtain ⟨hd1, hd2, hd3⟩ := State.dumpReady_keeps (s := v)
  obtain ⟨he1, he2, he3⟩ := State.emmcSleep_keeps (s := v.dumpReady)
  have hadd := v.dumpReady.emmcSleep.finish_adds.queue
  rw [State.finish_emmc, State.finish_recd_failures, he2, hd2, he3, hd3, hve]
  rw [he1, hd1, hvq] at hadd
  exact ⟨memRead_memWrite _ _ hm, fun a h => memGet_memWrite_outside _ _ a h hm, hadd, hvf⟩

end

/-- What a failed write or read leaves (R480). -/
theorem sectorFailed_counts (now : Nat) (r : Recorder) :
    (r.failures < 2 → (sectorFailed now r).failures = r.failures + 1 ∧ (sectorFailed now r).st = r.st) ∧
    (2 ≤ r.failures → (sectorFailed now r).st = .failed ∧ (sectorFailed now r).errors = satInc32 r.errors ∧
      (sectorFailed now r).failedAt = now) := by
  unfold sectorFailed
  refine ⟨fun h => ?_, fun h => ?_⟩
  · rw [if_pos h]
    exact ⟨rfl, rfl⟩
  · rw [if_neg (by omega)]
    exact ⟨rfl, rfl, rfl⟩

theorem runs_sectorFailed {c : Instr} (hs : s.serving = true) (hf : flushAbandoned s = false)
    (hc : (c = .sectorWriteDone false ∧ emmcWrites s.recd = true) ∨ (c = .sectorBusyTimeout ∧ emmcUsed s.recd.st = true)) :
    Runs c s fun t => t.emmc = s.emmc ∧
      (s.recd.failures < 2 → t.recd.failures = s.recd.failures + 1 ∧ t.recd.st = s.recd.st) ∧
      (2 ≤ s.recd.failures → t.recd.st = .failed ∧ t.recd.errors = satInc32 s.recd.errors ∧ t.recd.failedAt = s.now) := by
  have hf' : flushAbandoned s.begin = false := hf
  have hpost : (s.begin.updRec (sectorFailed s.begin.now)).finish.emmc = s.emmc ∧
      (s.recd.failures < 2 → (s.begin.updRec (sectorFailed s.begin.now)).finish.recd.failures = s.recd.failures + 1 ∧
        (s.begin.updRec (sectorFailed s.begin.now)).finish.recd.st = s.recd.st) ∧
      (2 ≤ s.recd.failures → (s.begin.updRec (sectorFailed s.begin.now)).finish.recd.st = .failed ∧
        (s.begin.updRec (sectorFailed s.begin.now)).finish.recd.errors = satInc32 s.recd.errors ∧
        (s.begin.updRec (sectorFailed s.begin.now)).finish.recd.failedAt = s.now) := by
    rw [State.finish_emmc, State.finish_recd_failures, State.finish_recd_st, State.finish_recd_errors,
      State.finish_recd_failedAt]
    exact ⟨rfl, sectorFailed_counts s.now s.recd⟩
  obtain ⟨rfl, hw⟩ | ⟨rfl, hu⟩ := hc
  · refine runs_guarded (b := State.serving) (f := sectorWriteDone false) rfl hs ?_
    rw [sectorWriteDone, hf', if_neg (by decide), if_neg (by decide), if_pos (by exact hw)]
    exact hpost
  · refine runs_guarded (b := State.serving) (f := sectorBusyTimeout) rfl hs ?_
    rw [sectorBusyTimeout, hf', if_pos (by rw [Bool.and_eq_true]; exact ⟨hu, rfl⟩)]
    exact hpost

/-- After a HIBERNATE entry has given up the eMMC the end of a write does nothing (R53). -/
theorem runs_sectorWriteDone_abandoned (ok : Bool) (hf : flushAbandoned s = true) : Runs (.sectorWriteDone ok) s fun t =>
    t.emmc = s.emmc ∧ t.recd.writing = s.recd.writing := by
  refine runs_of_run (f := fun s => s.guarded s.serving (sectorWriteDone ok)) rfl ?_
  have hg : s.begin.guarded s.begin.serving (sectorWriteDone ok) = s.begin := by
    unfold State.guarded
    split
    · exact if_pos hf
    · rfl
  rw [hg, State.finish_emmc]
  exact ⟨rfl, s.begin.finish_adds.writing (.inr hf)⟩

-- the timers of the recorder
theorem runs_timeRecordDue {i : Nat} (ha : s.alive = true) (hi : s.recd.lastRecordAt + sec 60 = i) :
    Runs .timeRecordDue s fun t => t.now = Nat.max s.now i ∧
      (Roomy s → ∃ q ∈ t.recd.queue, q.typ = 0x09 ∧ q.createdAt = t.now) := by
  refine runs_whenAlive (f := timeRecordDue) rfl ha ?_
  unfold timeRecordDue
  have hi' : s.begin.recd.lastRecordAt + sec 60 = i := hi
  rw [hi']
  dsimp only
  generalize hp : leBytes 4 (gridTime (s.begin.reach i)) ++ leBytes 4 (s.begin.reach i).engine.tickSeq ++
    leBytes 4 (s.begin.reach i).tally.cycles = p
  have hn : ((s.begin.reach i).record 0x09 p).finish.now = Nat.max s.now i := by
    rw [State.finish_now]
    exact State.reach_now s.begin i
  refine ⟨hn, fun ⟨h1, h2, h3, h4⟩ => ?_⟩
  obtain ⟨q, hq, ht, hc⟩ := (recCreate_queued (x := recCtx (s.begin.reach i)) (r := s.recd) 0x09 p h1 h2 h3 h4).mem
  refine ⟨q, ((s.begin.reach i).record 0x09 p).finish_adds.queue.subset hq, ht, hc.trans ?_⟩
  rw [hn]
  exact State.reach_now s.begin i

theorem runs_lossHoldExpiry {a i : Nat} (hs : s.serving = true) (hl : s.recd.lossAt = some a) (hr : Roomy s)
    (hi : a + sec 10 = i) : Runs .lossHoldExpiry s fun t => t.now = Nat.max s.now i ∧ t.recd.lossAt = none := by
  refine runs_guarded (b := State.serving) (f := lossHoldExpiry) rfl hs ?_
  have hl' : s.begin.recd.lossAt = some a := hl
  unfold lossHoldExpiry
  rw [hl']
  dsimp only
  rw [hi, State.finish_now]
  refine ⟨State.reach_now s.begin i, ?_⟩
  obtain ⟨h1, h2, h3, h4⟩ := hr
  obtain h | ⟨p, h⟩ := ((s.begin.reach i).updRec (fun r => { r with lossAt := none })).finish_recd
  · rw [h]
    rfl
  · rw [h]
    exact (recCreate_queued (r := { s.recd with lossAt := none }) 0x06 p h1 h2 h3 h4).loss

end

-- identifying the eMMC
/-- Two recorders differ at most in what creating a record changes, and no transfer has failed between (R480). -/
structure Settled (r t : Recorder) : Prop where
  steady : t.steady = r.steady
  failures : t.failures = r.failures

theorem Settled.trans {r t u : Recorder} (h : Settled r t) (k : Settled t u) : Settled r u :=
  ⟨k.steady.trans h.steady, k.failures.trans h.failures⟩

theorem Settled.ite {c : Prop} [Decidable c] {r a b : Recorder} (ha : Settled r a) (hb : Settled r b) :
    Settled r (if c then a else b) := by
  split
  · exact ha
  · exact hb

theorem settled_recRenumber (x : RecCtx) (r : Recorder) (q : Rec) : Settled r (recRenumber x r q) := by
  have h : Settled r (if recCount r ≥ recCap then r else recSealed x r) :=
    .ite ⟨rfl, rfl⟩ ⟨recSealed_steady x r, recSealed_failures x r⟩
  unfold recRenumber
  dsimp only
  generalize (if recCount r ≥ recCap then r else recSealed x r) = u at h
  exact .ite (h.trans ⟨rfl, rfl⟩) (h.trans ⟨rfl, rfl⟩)

theorem settled_recDrain (x : RecCtx) (first : Bool) (r : Recorder) : Settled r (recDrain x first r) := by
  have hfold (l : List Rec) (f : Rec → Rec) (r : Recorder) : Settled r (l.foldl (fun acc q => recRenumber x acc (f q)) r) :=
    List.foldlRecOn (motive := Settled r) l _ ⟨rfl, rfl⟩ fun acc hacc q _ => hacc.trans (settled_recRenumber ..)
  have hlost : Settled r (if (first && decide (0 < r.lost)) = true then
      { r with lostFirst := completedTime r r.lostFirst, lostLast := completedTime r r.lostLast } else r) :=
    .ite ⟨rfl, rfl⟩ ⟨rfl, rfl⟩
  unfold recDrain
  dsimp only
  generalize (if (first && decide (0 < r.lost)) = true then
    { r with lostFirst := completedTime r r.lostFirst, lostLast := completedTime r r.lostLast } else r : Recorder) = r0 at hlost
  have h1 : Settled r { r0 with queue := r.queue.filter (fun q => q.number.isSome) } := hlost.trans ⟨rfl, rfl⟩
  exact (h1.trans (hfold _ (fun q => if first then completedRec r q else q) _)).trans ⟨recKick_steady .., recKick_failures ..⟩

section
variable (s : State) (l : Label)

/-- A record that the opening writes. -/
theorem settled_openingRecord (x : RecCtx) (r : Recorder) (typ : Nat) (p : List Byte) (t : Nat) :
    Settled r { recNumber x r typ p with lastRecordAt := t } :=
  Settled.trans (t := recNumber x r typ p) ⟨recNumber_steady x r typ p, recNumber_failures x r typ p⟩ ⟨rfl, rfl⟩

theorem State.openBook_settled :
    Settled { openedWith s.emmc l s.recd with dump := dumpRead s.recd.dump } (s.openBook l).recd ∧
      (s.openBook l).emmc = s.emmc := by
  unfold State.openBook
  dsimp only
  generalize hs1 : s.updRec (fun r => { openedWith s.emmc l r with dump := dumpRead r.dump }) = s1
  have h1 : s1.recd = { openedWith s.emmc l s.recd with dump := dumpRead s.recd.dump } ∧ s1.emmc = s.emmc := by
    rw [← hs1]
    exact ⟨rfl, rfl⟩
  generalize bootFields s1 _ = b
  generalize hs2 : (s1.updRec (fun r => { r with queue := [] })).updRec (fun r => _) = s2
  have h2 : Settled s1.recd s2.recd ∧ s2.emmc = s1.emmc := by
    rw [← hs2]
    exact ⟨Settled.trans (t := { s1.recd with queue := [] }) ⟨rfl, rfl⟩ (settled_openingRecord ..), rfl⟩
  have hend (u : State) (w : List Rec) (h : Settled s1.recd u.recd) :
      Settled s1.recd (recDrain (recCtx u) true { u.recd with queue := u.recd.queue ++ w }) :=
    (h.trans (u := { u.recd with queue := u.recd.queue ++ w }) ⟨rfl, rfl⟩).trans (settled_recDrain ..)
  have htaint (t : Nat) (x : RecCtx) (p : List Byte) :
      Settled s1.recd { recNumber x s2.recd 0x03 p with lastRecordAt := t } := h2.1.trans (settled_openingRecord ..)
  rw [← h1.1]
  split
  · exact ⟨hend (s2.updRec _) _ (htaint ..), h2.2.trans h1.2⟩
  · exact ⟨hend s2 _ h2.1, h2.2.trans h1.2⟩

theorem State.reopenBook_settled : Settled { s.recd with st := .ready, label := some l } (s.reopenBook l).recd ∧
    (s.reopenBook l).emmc = s.emmc := ⟨settled_recDrain .., rfl⟩

end

theorem length_labelCopy (m : List Host.Cell) (b : Bool) :
    (if b then memRead m 0 512 else memRead m 512 512).length = 512 := by
  cases b <;> exact length_memRead ..

/-- Repairing a label sector leaves the area from sector 2 on (R459). -/
theorem memGet_putLabels {m : List Host.Cell} {bs : List Byte} {a : Nat} (hm : Memory.wf m = true) (hl : bs.length = 512)
    (ha : 1024 ≤ a) : memGet (putLabels m bs) a = memGet m a := by
  unfold putLabels
  rw [memGet_memWrite_outside 512 bs a (.inr (by omega)) (memWrite_wf 0 bs hm),
    memGet_memWrite_outside 0 bs a (.inr (by omega)) hm]

/-- What the end of a command or the sleep of the eMMC leaves of an identified eMMC. -/
theorem Identified.of_same {s v t : State} {card : CardFacts} (h : Identified s v card) (hst : t.recd.st = v.recd.st)
    (hl : t.recd.label = v.recd.label) (ho : t.recd.opened = v.recd.opened) (hw : t.recd.cardW = v.recd.cardW)
    (hf : t.recd.failures = v.recd.failures) (he : t.emmc = v.emmc) : Identified s t card := by
  unfold Identified at h ⊢
  rw [hst, hl, ho, hw, hf, he]
  exact h

section
variable {s : State} {card : CardFacts}

/-- What identifying notes of the eMMC (R454, R470, R480). -/
def State.bookKept (s : State) (card : CardFacts) (st : BookState) (l : Option Label) : State :=
  s.updRec (fun r => { r with st := st, label := l, bus4 := card.answers && card.bus4, hs52 := card.answers && card.hs52
                              cacheOff := card.answers && card.suitable && card.cache, asleep := false
                              cardW := if card.answers then windowOf card else 0, failedAt := s.now, writing := 0, failures := 0 })

/-- A label sector that does not hold the label gets it (R459). -/
def State.repairLabels (s : State) : State :=
  if (labels s.emmc).1.isSome && (labels s.emmc).2.isSome then s
  else { s with emmc := putLabels s.emmc (if (labels s.emmc).1.isSome then memRead s.emmc 0 512 else memRead s.emmc 512 512) }

theorem State.identify_noCard (h : card.answers = false) : s.identify card = s.bookKept card .noCard none := by
  unfold State.identify
  exact if_pos (by rw [h]; rfl)

section
variable (ha : card.answers = true)
include ha

theorem State.identify_unsuitable (h : card.suitable = false) : s.identify card = s.bookKept card .unsuitable none := by
  unfold State.identify
  extract_lets keep two
  rw [if_neg (by rw [ha]; decide), if_pos (by rw [h]; rfl)]
  rfl

section
variable (hs : card.suitable = true)
include hs

theorem State.identify_noBook (h : (labels s.emmc).1.or (labels s.emmc).2 = none) :
    s.identify card = s.bookKept card .noBook none := by
  unfold State.identify
  extract_lets keep two
  rw [if_neg (by rw [ha]; decide), if_neg (by rw [hs]; decide), show two.1.or two.2 = none from h]
  rfl

theorem State.identify_label {l : Label} (h : (labels s.emmc).1.or (labels s.emmc).2 = some l) :
    s.identify card = if l.serial != Config.serial.toNat then s.bookKept card .foreign (some l)
      else if s.recd.opened then (s.bookKept card .opening (some l)).repairLabels.reopenBook l
      else (s.bookKept card .opening (some l)).repairLabels.openBook l := by
  unfold State.identify
  extract_lets keep two
  rw [if_neg (by rw [ha]; decide), if_neg (by rw [hs]; decide), show two.1.or two.2 = some l from h]
  rfl

end

end

theorem State.repairLabels_keeps (u : State) : u.repairLabels.recd = u.recd ∧
    (Memory.wf u.emmc = true → ∀ a, 1024 ≤ a → memGet u.repairLabels.emmc a = memGet u.emmc a) := by
  unfold State.repairLabels
  split
  · exact ⟨rfl, fun _ _ _ => rfl⟩
  · exact ⟨rfl, fun hm a ha => memGet_putLabels hm (length_labelCopy ..) ha⟩

/-- A book whose label the device wrote is open, and only the label sectors have changed (R459, R470). -/
theorem State.identify_found {l : Label} (ha : card.answers = true) (hs : card.suitable = true)
    (hl : (labels s.emmc).1.or (labels s.emmc).2 = some l) (hser : l.serial = Config.serial.toNat)
    (hm : Memory.wf s.emmc = true) : (s.identify card).recd.st = .ready ∧ (s.identify card).recd.opened = true ∧
      (s.identify card).recd.label = some l ∧ (s.identify card).recd.cardW = windowOf card ∧
      (s.identify card).recd.failures = 0 ∧ (s.identify card).recd.rstAt = s.recd.rstAt ∧
      ∀ a, 1024 ≤ a → memGet (s.identify card).emmc a = memGet s.emmc a := by
  rw [State.identify_label ha hs hl, if_neg (by rw [hser, bne_self_eq_false]; decide)]
  obtain ⟨hr, hmem⟩ := (s.bookKept card .opening (some l)).repairLabels_keeps
  generalize (s.bookKept card .opening (some l)).repairLabels = u at *
  have hcard : u.recd.cardW = windowOf card := by
    rw [hr]
    exact if_pos ha
  have hfail : u.recd.failures = 0 := by rw [hr]; rfl
  have hrst : u.recd.rstAt = s.recd.rstAt := by rw [hr]; rfl
  have hopen : u.recd.opened = s.recd.opened := by rw [hr]; rfl
  have hmem' : ∀ a, 1024 ≤ a → memGet u.emmc a = memGet s.emmc a := hmem hm
  cases ho : s.recd.opened with
  | true =>
    rw [if_pos rfl]
    obtain ⟨⟨h1, h2⟩, h3⟩ := u.reopenBook_settled l
    refine ⟨(congrArg Recorder.st h1 :), ((congrArg Recorder.opened h1 :)).trans (hopen.trans ho), (congrArg Recorder.label h1 :),
      ((congrArg Recorder.cardW h1 :)).trans hcard, h2.trans hfail, ((congrArg Recorder.rstAt h1 :)).trans hrst, fun a ha => ?_⟩
    rw [h3]
    exact hmem' a ha
  | false =>
    rw [if_neg (by decide)]
    obtain ⟨⟨h1, h2⟩, h3⟩ := u.openBook_settled l
    refine ⟨(congrArg Recorder.st h1 :), (congrArg Recorder.opened h1 :), (congrArg Recorder.label h1 :),
      ((congrArg Recorder.cardW h1 :)).trans hcard, h2.trans hfail, ((congrArg Recorder.rstAt h1 :)).trans hrst, fun a ha => ?_⟩
    rw [h3]
    exact hmem' a ha

theorem identified_identify (hm : Memory.wf s.emmc = true) :
    Identified s (s.identify card) card ∧ (s.identify card).recd.rstAt = s.recd.rstAt := by
  have hw (st : BookState) (l : Option Label) : card.answers = true → (s.bookKept card st l).recd.cardW = windowOf card :=
    fun h => if_pos h
  cases ha : card.answers with
  | false =>
    rw [State.identify_noCard ha]
    exact ⟨⟨fun _ => ⟨rfl, rfl⟩, fun h => absurd (ha.symm.trans h) (by decide), fun h => absurd (ha.symm.trans h) (by decide),
      hw _ _, rfl⟩, rfl⟩
  | true =>
    have hna : card.answers ≠ false := by rw [ha]; decide
    cases hs : card.suitable with
    | false =>
      rw [State.identify_unsuitable ha hs]
      exact ⟨⟨fun h => absurd h hna, fun _ _ => ⟨rfl, rfl⟩, fun _ h => absurd (hs.symm.trans h) (by decide), hw _ _, rfl⟩, rfl⟩
    | true =>
      have hns : card.suitable ≠ false := by rw [hs]; decide
      cases hl : (labels s.emmc).1.or (labels s.emmc).2 with
      | none =>
        rw [State.identify_noBook ha hs hl]
        exact ⟨⟨fun h => absurd h hna, fun _ h => absurd h hns, fun _ _ => ⟨fun _ => ⟨rfl, rfl⟩,
          fun l h => absurd (hl.symm.trans h) (by simp)⟩, hw _ _, rfl⟩, rfl⟩
      | some l =>
        by_cases hser : l.serial = Config.serial.toNat
        · obtain ⟨h1, h2, h3, h4, h5, h6, h7⟩ := State.identify_found ha hs hl hser hm
          refine ⟨⟨fun h => absurd h hna, fun _ h => absurd h hns, fun _ _ => ⟨fun h => absurd (hl.symm.trans h) (by simp),
            fun k hk => ?_⟩, fun _ => h4, h5⟩, h6⟩
          cases hl.symm.trans hk
          exact ⟨h3, fun hne => absurd hser hne, fun _ => ⟨h1, h2, h7⟩⟩
        · rw [State.identify_label ha hs hl, if_pos (by rw [bne_iff_ne]; exact hser)]
          refine ⟨⟨fun h => absurd h hna, fun _ h => absurd h hns, fun _ _ => ⟨fun h => absurd (hl.symm.trans h) (by simp),
            fun k hk => ?_⟩, hw _ _, rfl⟩, rfl⟩
          cases hl.symm.trans hk
          exact ⟨rfl, fun _ => ⟨rfl, rfl⟩, fun he => absurd he hser⟩

/-- Opening the eMMC, to the end of the command (R454, R455, R470). -/
theorem identified_openCard (hm : Memory.wf s.emmc = true) (hf : flushAbandoned s = false) :
    Identified s (s.openCard card).finish card ∧ (s.openCard card).finish.recd.rstAt = s.recd.rstAt ∧
      (s.openCard card).finish.now = s.now := by
  obtain ⟨hi, hr⟩ := identified_identify (card := card) hm
  have hn : (s.identify card).now = s.now := (keeps_identify s card).same .now (by decide)
  have hsleep (v : State) : v.emmcSleep.recd.st = v.recd.st ∧ v.emmcSleep.recd.label = v.recd.label ∧
      v.emmcSleep.recd.opened = v.recd.opened ∧ v.emmcSleep.recd.cardW = v.recd.cardW ∧
      v.emmcSleep.recd.rstAt = v.recd.rstAt ∧ v.emmcSleep.now = v.now := by
    unfold State.emmcSleep
    split <;> exact ⟨rfl, rfl, rfl, rfl, rfl, rfl⟩
  unfold State.openCard
  rw [hf, if_neg (by decide)]
  obtain ⟨h1, h2, h3, h4, h5, h6⟩ := hsleep (s.identify card)
  obtain ⟨-, h7, h8⟩ := State.emmcSleep_keeps (s := s.identify card)
  refine ⟨hi.of_same ?_ ?_ ?_ ?_ ?_ ?_, ?_, ?_⟩
  · rw [State.finish_recd_st, h1]
  · rw [State.finish_recd_label, h2]
  · rw [State.finish_recd_opened, h3]
  · rw [State.finish_recd_cardW, h4]
  · rw [State.finish_recd_failures, h7]
  · rw [State.finish_emmc, h8]
  · exact (congrArg Recorder.rstAt (State.finish_steady (s.identify card).emmcSleep) :).trans (h5.trans hr)
  · rw [State.finish_now, h6, hn]

section
variable (hm : Memory.wf s.emmc = true) (ha : s.alive = true)
include hm ha

theorem runs_bookOpen (card : CardFacts) (hr : s.recd.st = .opening) :
    (flushAbandoned s = false → Runs (.bookOpen card) s fun t => Identified s t card ∧ t.now = s.now) ∧
    (flushAbandoned s = true → Runs (.bookOpen card) s fun t => t.recd.st = .opening ∧ t.emmc = s.emmc) := by
  refine ⟨fun hf => ?_, fun hf => ?_⟩
  all_goals
    refine runs_whenAlive (f := bookOpen card) rfl ha ?_
    rw [bookOpen, if_pos (by exact hr)]
  · obtain ⟨h1, -, h3⟩ := identified_openCard (s := s.begin) (card := card) hm hf
    exact ⟨h1, h3⟩
  · rw [State.openCard, if_pos (by exact hf), State.finish_recd_st, State.finish_emmc]
    exact ⟨hr, rfl⟩

theorem runs_emmcRetry (card : CardFacts) {i : Nat} (hi : s.recd.failedAt + sec 10 = i) (hr : s.recd.st = .noCard)
    (hf : flushAbandoned (s.reach i) = false) :
    Runs (.emmcRetry card) s fun t => Identified s t card ∧ t.now = Nat.max s.now i := by
  refine runs_whenAlive (f := emmcRetry card) rfl ha ?_
  have hi' : s.begin.recd.failedAt + sec 10 = i := hi
  rw [emmcRetry, if_pos (by exact hr), hi']
  obtain ⟨h1, -, h3⟩ := identified_openCard (s := s.begin.reach i) (card := card) hm hf
  exact ⟨h1, h3.trans (State.reach_now s.begin i)⟩

theorem runs_emmcResetReopen (card : CardFacts) {i : Nat} (hi : s.recd.failedAt + sec 10 = i) (hr : s.recd.st = .failed)
    (hf : flushAbandoned (s.reach i) = false) :
    Runs (.emmcResetReopen card) s fun t => Identified s t card ∧ t.now = Nat.max s.now i ∧
      t.recd.rstAt = some t.now := by
  refine runs_whenAlive (f := emmcResetReopen card) rfl ha ?_
  have hi' : s.begin.recd.failedAt + sec 10 = i := hi
  rw [emmcResetReopen, if_pos (by exact hr), hi']
  dsimp only
  obtain ⟨h1, h2, h3⟩ := identified_openCard
    (s := (s.begin.reach i).updRec (fun r => { r with rstAt := some (s.begin.reach i).now })) (card := card) hm hf
  exact ⟨h1, h3.trans (State.reach_now s.begin i), h2.trans (congrArg some h3.symm)⟩

end

end

/-- Settles O58: the recorder and its eMMC (R53, R454 to R458, R464, R466, R467, R470, R480, R481). -/
theorem recorderStorage : Obligations.RecorderStorage := by
  unfold Obligations.RecorderStorage
  exact fun s hm => ⟨fun ha card => ⟨fun hr => runs_bookOpen hm ha card hr,
      fun hr hf => runs_emmcRetry hm ha card rfl hr hf, fun hr hf => runs_emmcResetReopen hm ha card rfl hr hf⟩,
    fun d hs hd ho hr hw hsl hf => runs_sectorFlushDue hs hd ho hr hw hsl hf,
    fun l q rest n hs hr hw hl hq hn hf =>
      ⟨sectorCommands_eq hl hq hn hw, runs_sectorWriteDone_stored hl hq hn hs hr hw hf hm⟩,
    fun c hs hf hc => runs_sectorFailed hs hf hc, fun ok hf => runs_sectorWriteDone_abandoned ok hf,
    fun ha => runs_timeRecordDue ha rfl, fun a hs hl hr => runs_lossHoldExpiry hs hl hr rfl⟩

end Sys2Proof.Machine

/-! SUPPORT. The fatal handler and its dump; with them O46 (R358, R483, R485, R488, R490 to R492). -/

namespace Sys2Proof.Machine

-- the recorder of a stopped device
/-- A recorder that takes no more records is left by the end of a command (R488). -/
theorem State.finish_recd_of_stopped {s : State} (h : s.recd.stopped = true) : s.finish.recd = s.recd := by
  obtain hf | ⟨p, hf⟩ := s.finish_recd
  · exact hf
  · rw [hf]
    exact if_pos h

/-- What of the recorder the handler's first steps leave (R477, R483). -/
structure SameBook (s t : State) : Prop where
  st : t.recd.st = s.recd.st
  dump : t.recd.dump = s.recd.dump

theorem SameBook.trans {s t u : State} (h : SameBook s t) (k : SameBook t u) : SameBook s u :=
  ⟨k.st.trans h.st, k.dump.trans h.dump⟩

theorem SameBook.of_steady {s t : State} (h : t.recd.steady = s.recd.steady) : SameBook s t :=
  ⟨(congrArg Recorder.st h :), (congrArg Recorder.dump h :)⟩

theorem SameBook.of_keeps {l : List Part} {s t : State} (h : Keeps l s t) (hl : Part.recd ∉ l) : SameBook s t :=
  .of_steady (h.same .recd hl)

theorem sameBook_recHandler (s : State) : SameBook s s.recHandler := by
  have h : s.recHandler.recd.st = s.recd.st ∧ s.recHandler.recd.dump = s.recd.dump := by
    unfold State.recHandler State.updRec
    dsimp only
    split
    · obtain ⟨hs, -⟩ := settled_recDrain (recCtx s) false { s.recd with job := s.recd.job.filter RecJob.numbers, asleep := false }
      exact ⟨(congrArg Recorder.st hs :), (congrArg Recorder.dump hs :)⟩
    · exact ⟨rfl, rfl⟩
  exact ⟨h.1, h.2⟩

theorem State.fatalRecord_book (s : State) : SameBook s s.fatalRecord ∧ s.fatalRecord.recd.stopped = true := by
  unfold State.fatalRecord
  dsimp only
  split
  · have h (p : List Byte) := recFatal_steady (recCtx s) s.recd p
    exact ⟨⟨(congrArg Recorder.st (h _) :), (congrArg Recorder.dump (h _) :)⟩, rfl⟩
  · exact ⟨⟨rfl, rfl⟩, rfl⟩

-- the dump
/-- A dump that waits begins once no record is left to write (R483, R490, R491). -/
theorem dumpStart_writes {d : Dump} {b : DumpBlocks} (now : Nat) (h : d.next = some b) :
    DumpWrites d (dumpStart now d) b now := by
  unfold dumpStart
  rw [h]
  exact ⟨rfl, rfl, rfl, rfl, rfl, rfl⟩

theorem State.dumpReady_dump {s : State} {b : DumpBlocks} (h : s.recd.dump.next = some b) :
    (s.recd.queue = [] → DumpWrites s.recd.dump s.dumpReady.recd.dump b s.now) ∧
    (s.recd.queue ≠ [] → s.dumpReady.recd.dump = s.recd.dump) := by
  unfold State.dumpReady
  refine ⟨fun hq => ?_, fun hq => ?_⟩
  · rw [if_pos (by rw [hq]; rfl)]
    exact dumpStart_writes s.now h
  · rw [if_neg (by simpa using hq)]

/-- The contents of a dump are set aside, and it begins when no record is left to write (R483, R490). -/
theorem State.dumpBegin_dump (s : State) (published : List Byte) (queue : List Rec) (fatal : Nat) :
    (s.dumpBegin published queue fatal).recd.queue = s.recd.queue ∧
    (s.dumpBegin published queue fatal).recd.stopped = s.recd.stopped ∧
    ∃ b : DumpBlocks, b.config = activeBankBytes s.cfg ∧ b.sram = s.twin.sram ∧
      (s.recd.queue = [] → DumpWrites s.recd.dump (s.dumpBegin published queue fatal).recd.dump b s.now) ∧
      (s.recd.queue ≠ [] → (s.dumpBegin published queue fatal).recd.dump.next = some b ∧
        (s.dumpBegin published queue fatal).recd.dump.st = s.recd.dump.st ∧
        (s.dumpBegin published queue fatal).recd.dump.seq = s.recd.dump.seq) := by
  unfold State.dumpBegin
  dsimp only
  generalize hb : ({ core := coreBytes s, published := published, queue := queue.flatMap (fun q => recBytes q.body)
                     config := activeBankBytes s.cfg, sram := s.twin.sram, sramKey := s.twin.sramKey } : DumpBlocks) = b
  generalize hu : s.draw.updRec (fun r => { r with
    dump := { r.dump with next := some b, ecc := false, fatal := fatal, opTime := opTime s } }) = u
  have hq : u.recd.queue = s.recd.queue := by rw [← hu]; rfl
  have hs : u.recd.stopped = s.recd.stopped := by rw [← hu]; rfl
  have hn : u.now = s.now := by rw [← hu]; rfl
  have hd : u.recd.dump = { s.recd.dump with next := some b, ecc := false, fatal := fatal, opTime := opTime s } := by
    rw [← hu]
    rfl
  obtain ⟨h1, h2⟩ := State.dumpReady_dump (s := u) (b := b) (by rw [hd])
  obtain ⟨hr1, -, -⟩ := State.dumpReady_keeps (s := u)
  have hr2 : u.dumpReady.recd.stopped = u.recd.stopped := by
    unfold State.dumpReady
    split <;> rfl
  refine ⟨hr1.trans hq, hr2.trans hs, b, by rw [← hb], by rw [← hb], fun h0 => ?_, fun h0 => ?_⟩
  · obtain ⟨g1, g2, g3, g4, g5, g6⟩ := h1 (hq.trans h0)
    rw [hd] at g4
    rw [hn] at g5
    exact ⟨g1, g2, g3, g4, g5, g6⟩
  · rw [h2 (by rw [hq]; exact h0), hd]
    exact ⟨rfl, rfl, rfl⟩

-- the handler
section
variable (s : State)

/-- Steps 3 and 4 of the handler, up to the emergency (R483). -/
def State.handlerQuiet : State :=
  (bothCan.foldl (fun acc p => acc.setNmt p .preop)
    ({ s with power := { s.power with phase := .stopped }, twin := { s.twin with handler := true } } : State).stopAll.refuseHeld).emergency
      0x6100 0xFE none

/-- The handler up to the FATAL record (R483). -/
def State.handlerRecords : State :=
  ({ s.handlerQuiet with twin := { s.handlerQuiet.twin with frozen := frozenValues s.handlerQuiet } } : State).recHandler.fatalRecord

theorem enterHandler_eq : ∃ (p : List Byte) (q : List Rec) (f : Nat), s.enterHandler =
    if dumpCause s then (if s.recd.st = .ready then s.handlerRecords.dumpBegin p q f
      else s.handlerRecords.updRec (fun r => { r with dump := { r.dump with st := .notWritten, truncated := false } }))
    else s.handlerRecords := ⟨_, _, _, rfl⟩

theorem sourceStopped_st (now : Nat) (x : Source) :
    (sourceStopped now x).st = .off ∨ (sourceStopped now x).st = .discharging := by
  unfold sourceStopped
  cases h : x.st
  · exact .inl rfl
  · exact .inr rfl
  · exact .inr rfl
  · exact .inr rfl

/-- No source drives any more (R86, R483). -/
theorem State.stopAll_src (k : Fin 64) : (s.stopAll.src.get k).st = .off ∨ (s.stopAll.src.get k).st = .discharging := by
  obtain ⟨u, -, -, hg⟩ := foldl_allFin_at (view := fun (u : State) k => u.src.get k) (g := fun acc k => acc.issueStop k)
    (fun _ => True) (fun _ _ _ => trivial) (fun u i j h => State.issueStop_other u i h) (s := s) trivial k
  have hk : s.stopAll.src.get k = (u.issueStop k).src.get k := hg
  rw [hk, State.issueStop_get]
  exact sourceStopped_st ..

/-- No write is held any more (R504). -/
theorem State.refuseHeld_held : s.refuseHeld.net.held = [] := by
  unfold State.refuseHeld
  dsimp only
  have hfold {α : Type} (l : List α) (f : State → α → State) (hf : ∀ u a, Judged u (f u a)) (u : State) :
      Judged u (l.foldl f u) :=
    List.foldlRecOn (motive := Judged u) l f (.refl u) fun acc hacc a _ => hacc.trans (hf acc a)
  have h1 := hfold (allFin 4) (fun acc k => acc.updSession k Session.refuseParts)
    (fun u k => .of_keeps (keeps_updSession u k _) rfl) { s with net := { s.net with held := [] } }
  have h2 (u : State) := hfold s.net.held (fun acc w => acc.dropHeld w 0x08000000) (fun u w => by
    unfold State.dropHeld
    exact Judged.trans (.ite (.of_keeps (keeps_countBusy ..) rfl) (.refl u)) (judged_answerHeld _ w _)) u
  refine (hfold (allFin 4) _ (fun u k => ?_) _).1 ((h2 _).1 (h1.1 rfl))
  split
  · next t _ =>
    refine .ite ?_ (.refl u)
    exact Judged.trans (t := { u with net := { u.net with xfer := u.net.xfer.put k none } }) ⟨id, rfl⟩
      (.of_keeps (keeps_sdoAnswer ..) rfl)
  · exact .refl u

/-- What the handler's first steps leave (R483, R504). -/
structure Quieted (t : State) : Prop where
  phase : t.power.phase = .stopped
  twin : t.twin = { s.twin with handler := true, frozen := t.twin.frozen }
  now : t.now = s.now
  src : ∀ k, (t.src.get k).st = .off ∨ (t.src.get k).st = .discharging
  held : t.net.held = []
  can : ∀ p, (t.net.can.get (canIdx p)).nmt = .preop
  cfg : t.cfg = s.cfg
  book : SameBook s t

theorem quieted_handlerQuiet : Quieted s s.handlerQuiet := by
  unfold State.handlerQuiet
  generalize hu : ({ s with power := { s.power with phase := .stopped }, twin := { s.twin with handler := true } } : State) = u
  have hph : u.power.phase = .stopped := by rw [← hu]
  have htw : u.twin = { s.twin with handler := true } := by rw [← hu]
  have hnow : u.now = s.now := by rw [← hu]
  have hcfg : u.cfg = s.cfg := by rw [← hu]
  have hbook : SameBook s u := by rw [← hu]; exact ⟨rfl, rfl⟩
  have hsrc := u.stopAll_src
  have h1 : Keeps [.term, .src, .bell] u u.stopAll := keeps_stopAll u
  generalize u.stopAll = v at *
  have hheld := v.refuseHeld_held
  have h2 := keeps_refuseHeld v
  generalize v.refuseHeld = w at *
  have hcan (p : CanPort) : ((bothCan.foldl (fun acc p => acc.setNmt p .preop) w).net.can.get (canIdx p)).nmt = .preop := by
    cases p with
    | a => exact congrArg CanState.nmt ((State.updCan_other (w.setNmt .a .preop) (p := .b) (q := .a) _ (by decide)).trans
        (State.updCan_get w .a _))
    | b => exact congrArg CanState.nmt (State.updCan_get (w.setNmt .a .preop) .b _)
  have h3 : Keeps [.can] w (bothCan.foldl (fun acc p => acc.setNmt p .preop) w) :=
    Keeps.foldl_mem _ (fun acc p _ => keeps_setNmt acc p .preop) w
  generalize bothCan.foldl (fun acc p => acc.setNmt p .preop) w = x at *
  have h4 := keeps_emergency x 0x6100 0xFE none
  generalize x.emergency 0x6100 0xFE none = y at *
  have hall : Keeps [.term, .src, .bell, .tally, .permits, .sessions, .held, .ports, .stream, .xfer, .log, .sent, .can, .emcy] u y :=
    (((h1.mono rfl).trans (h2.mono rfl)).trans (h3.mono rfl)).trans (h4.mono rfl)
  have hsy : y.src = v.src := ((h2.mono (b := [.tally, .permits, .sessions, .held, .ports, .stream, .xfer, .log, .sent, .can, .emcy]) rfl).trans
    ((h3.mono rfl).trans (h4.mono rfl))).same .src (by decide)
  have hhy : y.net.held = w.net.held := ((h3.mono (b := [.can, .stream, .emcy, .sent]) rfl).trans (h4.mono rfl)).same .held (by decide)
  have hcy : y.net.can = x.net.can := h4.same .can (by decide)
  have htwy : y.twin = u.twin := hall.same .twin (by decide)
  refine ⟨?_, ?_, (hall.same .now (by decide) : y.now = u.now).trans hnow, fun k => ?_, hhy.trans hheld, fun p => ?_,
    (hall.same .cfg (by decide) : y.cfg = u.cfg).trans hcfg, hbook.trans (.of_keeps hall (by decide))⟩
  · rw [(hall.same .power (by decide) : y.power = u.power), hph]
  · rw [htwy, htw]
  · rw [hsy]
    exact hsrc k
  · rw [hcy]
    exact hcan p

theorem quieted_handlerRecords : Quieted s s.handlerRecords ∧ s.handlerRecords.recd.stopped = true := by
  unfold State.handlerRecords
  obtain ⟨h1, h2, h3, h4, h5, h6, h7, h8⟩ := quieted_handlerQuiet s
  generalize s.handlerQuiet = a at *
  generalize hb : ({ a with twin := { a.twin with frozen := frozenValues a } } : State) = b
  have hbt : b.twin = { s.twin with handler := true, frozen := b.twin.frozen } := by
    rw [← hb]
    show ({ a.twin with frozen := frozenValues a } : Twin) = _
    rw [h2]
  have hk : Keeps [.recd, .log] b b.recHandler.fatalRecord := (keeps_recHandler b).trans (keeps_fatalRecord _)
  have hbook : SameBook s b := by
    rw [← hb]
    exact h8.trans ⟨rfl, rfl⟩
  obtain ⟨hf, hstop⟩ := b.recHandler.fatalRecord_book
  have hall := (hbook.trans (sameBook_recHandler b)).trans hf
  generalize b.recHandler.fatalRecord = c at *
  have htc : c.twin = b.twin := hk.same .twin (by decide)
  refine ⟨⟨?_, ?_, ?_, fun k => ?_, ?_, fun p => ?_, ?_, hall⟩, hstop⟩
  · rw [(hk.same .power (by decide) : c.power = b.power), ← hb]
    exact h1
  · rw [htc]
    exact hbt
  · rw [(hk.same .now (by decide) : c.now = b.now), ← hb]
    exact h3
  · rw [(hk.same .src (by decide) : c.src = b.src), ← hb]
    exact h4 k
  · rw [(hk.same .held (by decide) : c.net.held = b.net.held), ← hb]
    exact h5
  · rw [(hk.same .can (by decide) : c.net.can = b.net.can), ← hb]
    exact h6 p
  · rw [(hk.same .cfg (by decide) : c.cfg = b.cfg), ← hb]
    exact h7

/-- The dump of a handled stop (R483, R485, R490, R491). -/
structure DumpHandled (t : State) : Prop where
  ready : dumpCause s = true → s.recd.st = .ready → ∃ b : DumpBlocks, b.config = activeBankBytes s.cfg ∧ b.sram = s.twin.sram ∧
    (t.recd.queue = [] → DumpWrites s.recd.dump t.recd.dump b s.now) ∧
    (t.recd.queue ≠ [] → t.recd.dump.next = some b ∧ t.recd.dump.st = s.recd.dump.st ∧ t.recd.dump.seq = s.recd.dump.seq)
  other : dumpCause s = true → s.recd.st ≠ .ready → t.recd.dump.st = .notWritten ∧ t.recd.dump.truncated = false
  none : dumpCause s = false → t.recd.dump = s.recd.dump

theorem dumpHandled_enterHandler : DumpHandled s s.enterHandler ∧ s.enterHandler.recd.stopped = true ∧
    Keeps [.fresh, .recd, .log] s.handlerRecords s.enterHandler := by
  obtain ⟨p, q, f, he⟩ := enterHandler_eq s
  obtain ⟨⟨-, htw, hnow, -, -, -, hcfg, hbook⟩, hstop⟩ := quieted_handlerRecords s
  rw [he]
  generalize s.handlerRecords = c at *
  cases hc : dumpCause s with
  | false =>
    rw [if_neg (by decide)]
    exact ⟨⟨fun h => absurd (hc.symm.trans h) (by decide), fun h => absurd (hc.symm.trans h) (by decide), fun _ => hbook.dump⟩,
      hstop, .refl _ c⟩
  | true =>
    rw [if_pos rfl]
    by_cases hr : s.recd.st = .ready
    · rw [if_pos hr]
      obtain ⟨hq, hs, b, hbc, hbs, h0, h1⟩ := c.dumpBegin_dump p q f
      have hsram : c.twin.sram = s.twin.sram := by rw [htw]
      rw [hbook.dump, hnow] at h0
      rw [hbook.dump] at h1
      refine ⟨⟨fun _ _ => ⟨b, by rw [hbc, hcfg], by rw [hbs, hsram], fun hq0 => h0 (by rw [← hq]; exact hq0),
        fun hq1 => h1 (by rw [← hq]; exact hq1)⟩, fun _ h => absurd hr h, fun h => absurd (hc.symm.trans h) (by decide)⟩,
        hs.trans hstop,
        (keeps_dumpBegin c p q f).mono rfl⟩
    · rw [if_neg hr]
      exact ⟨⟨fun _ h => absurd h hr, fun _ _ => ⟨rfl, rfl⟩, fun h => absurd (hc.symm.trans h) (by decide)⟩, hstop,
        (keeps_updRec c _).mono rfl⟩

theorem handled_enterHandler : Handled s s.enterHandler.finish ∧
    s.enterHandler.finish.twin = { s.twin with handler := true, frozen := s.enterHandler.finish.twin.frozen } := by
  obtain ⟨⟨d1, d2, d3⟩, hstop, hk⟩ := dumpHandled_enterHandler s
  obtain ⟨⟨h1, h2, h3, h4, h5, h6, h7, h8⟩, -⟩ := quieted_handlerRecords s
  have hrec := State.finish_recd_of_stopped hstop
  have hf := keeps_finish s.enterHandler
  generalize s.enterHandler = e at *
  generalize s.handlerRecords = c at *
  have hall : Keeps [.fresh, .recd, .log, .stream, .emcy, .sent] c e.finish := (hk.mono rfl).trans (hf.mono rfl)
  generalize e.finish = t at *
  have htw : t.twin = c.twin := hall.same .twin (by decide)
  refine ⟨⟨?_, ?_, ?_, fun k => ?_, ?_, fun p => ?_, ?_, fun hc hr => ?_, fun hc hr => ?_, fun hc => ?_⟩, ?_⟩
  · rw [(hall.same .power (by decide) : t.power = c.power), h1]
  · rw [htw, h2]
  · exact (hall.same .now (by decide) : t.now = c.now).trans h3
  · rw [(hall.same .src (by decide) : t.src = c.src)]
    exact h4 k
  · exact (hall.same .held (by decide) : t.net.held = c.net.held).trans h5
  · rw [(hall.same .can (by decide) : t.net.can = c.net.can)]
    exact h6 p
  · rw [hrec]
    exact hstop
  · rw [hrec]
    exact d1 hc hr
  · rw [hrec]
    exact d2 hc hr
  · rw [hrec]
    exact d3 hc
  · rw [htw]
    exact h2

end

-- the commands
section
variable {s : State}

theorem runs_fatalHandlerEntry (hh : s.twin.handler = false) (ha : s.alive = true) (hl : s.twin.stopLatch = true) :
    Runs .fatalHandlerEntry s (Handled s) := by
  refine runs_whenAlive (f := fatalHandlerEntry) rfl ha ?_
  rw [fatalHandlerEntry, if_pos (by rw [Bool.and_eq_true]; exact ⟨hl, by rw [show s.begin.twin.handler = false from hh]; rfl⟩)]
  exact (handled_enterHandler s.begin).1

theorem runs_debugExit_enters (hh : s.twin.handler = false) (hp : s.power.phase = .debugHalted) :
    Runs .debugExit s fun t => Handled s t ∧ t.twin.debugActive = false ∧
      t.twin.lockstep = s.twin.lockstep ∧ t.twin.stopLatch = s.twin.stopLatch := by
  refine runs_of_run (f := debugExit) rfl ?_
  rw [debugExit, if_pos (by exact hp)]
  dsimp only
  rw [if_neg (by rw [show s.begin.twin.handler = false from hh]; decide)]
  generalize hu : ({ s.begin with twin := { s.begin.twin with debugActive := false } } : State) = u
  obtain ⟨h, htw⟩ := handled_enterHandler u
  generalize u.enterHandler.finish = t at *
  have hs : Handled s t := by
    rw [← hu] at h
    exact h
  have hut : u.twin.debugActive = false ∧ u.twin.lockstep = s.twin.lockstep ∧ u.twin.stopLatch = s.twin.stopLatch := by
    rw [← hu]
    exact ⟨rfl, rfl, rfl⟩
  rw [htw]
  exact ⟨hs, hut⟩

theorem runs_debugExit_resumes (hh : s.twin.handler = true) (hp : s.power.phase = .debugHalted) :
    Runs .debugExit s fun t => t.power.phase = .stopped ∧ t.recd.dump = s.recd.dump := by
  refine runs_of_run (f := debugExit) rfl ?_
  rw [debugExit, if_pos (by exact hp)]
  dsimp only
  rw [if_pos (by exact hh), State.finish_power, State.finish_recd_dump]
  exact ⟨rfl, rfl⟩

/-- The end of a sector write of a stopped device, and the dump that waits for it (R483, R490, R491). -/
theorem runs_sectorWriteDone_dump {b : DumpBlocks} {l : Label} {q : Rec} {rest : List Rec} (hs : s.serving = true)
    (hr : s.recd.st = .ready) (hstop : s.recd.stopped = true) (hw : 0 < s.recd.writing) (hl : s.recd.label = some l)
    (hq : s.recd.queue = q :: rest) (hf : flushAbandoned s = false) (hn : s.recd.dump.next = some b) :
    Runs (.sectorWriteDone true) s fun t =>
      (s.recd.queue.drop s.recd.writing = [] → t.recd.queue = [] ∧ DumpWrites s.recd.dump t.recd.dump b s.now) ∧
      (s.recd.queue.drop s.recd.writing ≠ [] → t.recd.queue ≠ [] ∧ t.recd.dump = s.recd.dump) := by
  refine runs_guarded (b := State.serving) (f := sectorWriteDone true) rfl hs ?_
  have hf' : flushAbandoned s.begin = false := hf
  rw [sectorWriteDone, hf', if_neg (by decide), if_pos rfl,
    if_pos (by rw [Bool.and_eq_true, decide_eq_true_eq, beq_iff_eq]; exact ⟨hw, hr⟩)]
  have hl' : s.begin.recd.label = some l := hl
  have hq' : s.begin.recd.queue = q :: rest := hq
  have hstored : s.begin.sectorStored.recd.dump = s.recd.dump ∧ s.begin.sectorStored.recd.stopped = true ∧
      s.begin.sectorStored.now = s.now ∧ s.begin.sectorStored.recd.queue = s.recd.queue.drop s.recd.writing := by
    unfold State.sectorStored
    rw [hl', hq']
    refine ⟨rfl, hstop, rfl, ?_⟩
    show List.drop s.recd.writing s.begin.recd.queue = _
    rfl
  have hkick (r : Recorder) : (recKick (recCtx s.begin) r).dump = r.dump ∧ (recKick (recCtx s.begin) r).stopped = r.stopped ∧
      (recKick (recCtx s.begin) r).queue = r.queue := by
    unfold recKick
    split <;> exact ⟨rfl, rfl, rfl⟩
  generalize hv : s.begin.sectorStored.updRec (fun r => recKick (recCtx s.begin) r) = v
  have hvd : v.recd.dump = s.recd.dump := by rw [← hv]; exact (hkick _).1.trans hstored.1
  have hvs : v.recd.stopped = true := by rw [← hv]; exact (hkick _).2.1.trans hstored.2.1
  have hvn : v.now = s.now := by rw [← hv]; exact hstored.2.2.1
  have hvq : v.recd.queue = s.recd.queue.drop s.recd.writing := by rw [← hv]; exact (hkick _).2.2.trans hstored.2.2.2
  have hready : v.dumpReady.recd.stopped = v.recd.stopped := by
    unfold State.dumpReady
    split <;> rfl
  have hsleep : v.dumpReady.emmcSleep.recd.stopped = v.dumpReady.recd.stopped ∧
      v.dumpReady.emmcSleep.recd.dump = v.dumpReady.recd.dump := by
    unfold State.emmcSleep
    split <;> exact ⟨rfl, rfl⟩
  obtain ⟨h1, h2⟩ := State.dumpReady_dump (s := v) (b := b) (by rw [hvd, hn])
  rw [State.finish_recd_of_stopped (hsleep.1.trans (hready.trans hvs)), (State.emmcSleep_keeps (s := v.dumpReady)).1,
    (State.dumpReady_keeps (s := v)).1, hsleep.2, hvq]
  rw [hvq, hvd, hvn] at h1
  rw [hvq, hvd] at h2
  exact ⟨fun h => ⟨h, h1 h⟩, fun h => ⟨h, h2 h⟩⟩

/-- The dump ends, whole or truncated, with its header or without (R491). -/
theorem State.dumpEnd_dump (s : State) (n : Nat) (truncated ok : Bool) :
    (s.dumpEnd n truncated ok).recd.dump.st = (if ok then .valid else .notWritten) ∧
    (s.dumpEnd n truncated ok).recd.dump.blocks.written = n ∧
    (s.dumpEnd n truncated ok).recd.dump.truncated = (truncated && ok) := by
  unfold State.dumpEnd
  cases ok
  · exact ⟨rfl, rfl, (Bool.and_false _).symm⟩
  · exact ⟨rfl, rfl, (Bool.and_true _).symm⟩

theorem runs_dumpEnds (ok : Bool) (hs : s.serving = true) (hd : s.recd.dump.st = .writing) :
    Runs (.dumpWriteDone ok) s (fun t => t.recd.dump.st = (if ok then .valid else .notWritten) ∧
      t.recd.dump.blocks.written = dumpTotal s.recd.dump.blocks ∧ t.recd.dump.truncated = false) ∧
    Runs (.dumpTimeout ok) s (fun t => t.recd.dump.st = (if ok then .valid else .notWritten) ∧
      t.recd.dump.blocks.written ≤ dumpTotal s.recd.dump.blocks ∧ t.recd.dump.truncated = ok) := by
  refine ⟨?_, ?_⟩
  · refine runs_guarded (b := State.serving) (f := dumpWriteDone ok) rfl hs ?_
    rw [dumpWriteDone, if_pos (by exact hd), State.finish_recd_dump]
    exact State.dumpEnd_dump s.begin _ false ok
  · refine runs_guarded (b := State.serving) (f := dumpTimeout ok) rfl hs ?_
    rw [dumpTimeout, if_pos (by exact hd), State.finish_recd_dump]
    obtain ⟨h1, h2, h3⟩ := State.dumpEnd_dump s.begin.draw
      (Nat.min (Config.dumpWritten s.begin.fresh) (dumpTotal s.begin.recd.dump.blocks)) true ok
    exact ⟨h1, Nat.le_trans (Nat.le_of_eq h2) (Nat.min_le_right _ _), h3⟩

end

/-- Settles O46: the fatal handler and its dump (R358, R483, R485, R488, R490 to R492). -/
theorem fatalHandler : Obligations.FatalHandler := by
  unfold Obligations.FatalHandler
  exact ⟨fun s hh => ⟨fun ha hl => runs_fatalHandlerEntry hh ha hl, fun hp => runs_debugExit_enters hh hp⟩,
    fun s hh hp => runs_debugExit_resumes hh hp,
    fun s b l q rest hs hr hstop hw hl hq hf hn => runs_sectorWriteDone_dump hs hr hstop hw hl hq hf hn,
    fun s ok hs hd => runs_dumpEnds ok hs hd⟩

end Sys2Proof.Machine

/-! SUPPORT. What each phase of a Tally cycle makes of one section (R221 to R239). -/

namespace Sys2Proof.Machine

-- what the phases before counting and counting itself leave of a section
/-- The section keeps its state, and causes raised stay raised (R230). -/
structure Follows (x y : Section) : Prop where
  st : y.st = x.st
  unused : y.unused = x.unused
  raised : ∀ i : Nat, x.raised.getLsbD i = true → y.raised.getLsbD i = true

theorem Follows.refl (x : Section) : Follows x x := ⟨rfl, rfl, fun _ => id⟩

theorem Follows.trans {x y z : Section} (h : Follows x y) (g : Follows y z) : Follows x z :=
  ⟨g.st.trans h.st, g.unused.trans h.unused, fun i => g.raised i ∘ h.raised i⟩

theorem Follows.of_raised {x y : Section} (h1 : y.st = x.st) (h2 : y.unused = x.unused) (h3 : y.raised = x.raised) :
    Follows x y := ⟨h1, h2, fun i h => by rw [h3]; exact h⟩

theorem follows_raiseBits (b : BitVec 8) (x : Section) : Follows x (raiseBits b x) :=
  ⟨rfl, rfl, fun i h => by rw [raiseBits, BitVec.getLsbD_or, h, Bool.true_or]⟩

theorem follows_raised {b : BitVec 8} {x y : Section} (h : Follows x y) : Follows x (raiseBits b y) :=
  h.trans (follows_raiseBits b y)

theorem raiseBits_raised {b : BitVec 8} {i : Nat} (hb : b.getLsbD i = true) (x : Section) :
    (raiseBits b x).raised.getLsbD i = true := by rw [raiseBits, BitVec.getLsbD_or, hb, Bool.or_true]

/-- What it counts is left alone. -/
def Section.counts (x : Section) : Nat × Nat × Nat := (x.count, x.countIn, x.countOut)

/-- The request and its instant. -/
def Section.request (x : Section) : RState × Nat := (x.rstate, x.reqAt)

/-- Every section follows, and keeps what is viewed. -/
def Sections {β : Type} (v : Section → β) (s t : State) : Prop :=
  ∀ n, Follows (s.sect.get n) (t.sect.get n) ∧ v (t.sect.get n) = v (s.sect.get n)

section
variable {β : Type} {v : Section → β} {s t u : State}

theorem Sections.of_sect (h : t.sect = s.sect) : Sections v s t := fun n => by rw [h]; exact ⟨.refl _, rfl⟩

theorem Sections.trans (h : Sections v s t) (g : Sections v t u) : Sections v s u :=
  fun n => ⟨(h n).1.trans (g n).1, (g n).2.trans (h n).2⟩

theorem sections_updSect (s : State) (k : Fin 48) {f : Section → Section} (hf : ∀ x, Follows x (f x)) (hv : ∀ x, v (f x) = v x) :
    Sections v s (s.updSect k f) := by
  intro n
  by_cases h : n = k
  · subst h
    rw [State.updSect_get_self]
    exact ⟨hf _, hv _⟩
  · rw [State.updSect_get_other _ _ h]
    exact ⟨.refl _, rfl⟩

theorem sections_updSectOpt (s : State) (k : Option (Fin 48)) {f : Section → Section} (hf : ∀ x, Follows x (f x))
    (hv : ∀ x, v (f x) = v x) : Sections v s (s.updSectOpt k f) := by
  cases k with
  | none => exact .of_sect rfl
  | some k => exact sections_updSect s k hf hv

theorem sections_foldl {α : Type} {g : State → α → State} (hg : ∀ s a, Sections v s (g s a)) (l : List α) :
    ∀ s, Sections v s (l.foldl g s) := by
  induction l with
  | nil => exact fun _ => .of_sect rfl
  | cons a l ih => exact fun s => (hg s a).trans (ih _)

theorem sections_map {s t : State} {f : Section → Section} (hs : t.sect = Vector.map f s.sect) (hf : ∀ x, Follows x (f x))
    (hv : ∀ x, v (f x) = v x) : Sections v s t := by
  intro n
  have h : t.sect.get n = f (s.sect.get n) := by rw [hs]; exact Tab.get_map ..
  rw [h]
  exact ⟨hf _, hv _⟩

theorem sections_takeItem (h1 : ∀ x, v (openRef x) = v x) (h2 : ∀ t x, v (confirmRef t x) = v x)
    (h3 : ∀ t x, v (refuteRef t x) = v x) (s : State) (i : TallyItem) : Sections v s (s.takeItem i) := by
  have o (x : Section) : Follows x (openRef x) := .of_raised rfl rfl rfl
  have c (t : Nat) (x : Section) : Follows x (confirmRef t x) := .of_raised rfl rfl rfl
  have r (t : Nat) (x : Section) : Follows x (refuteRef t x) := .of_raised rfl rfl rfl
  unfold State.takeItem
  split
  · exact (sections_updSectOpt _ _ o h1).trans (sections_updSectOpt _ _ o h1)
  · split
    · exact (sections_updSectOpt _ _ (c _) (h2 _)).trans (sections_updSectOpt _ _ (c _) (h2 _))
    · exact .of_sect rfl
  · split
    · exact (sections_updSectOpt _ _ (r _) (h3 _)).trans (sections_updSectOpt _ _ (r _) (h3 _))
    · exact .of_sect rfl
  · exact .of_sect rfl

/-- A section whose request has ended (R235). -/
def Section.answered (r : RState) (k : Nat) (x : Section) : Section := { x with rstate := r, reason := k, reqBy := none }

/-- A section whose restore has been asked for (R234). -/
def Section.asked (o : Origin) (t : Nat) (x : Section) : Section :=
  { x with rstate := .pending, reason := 0, reqBy := some o, reqAt := t }

theorem State.endRequest_sect (s : State) (n : Fin 48) (r : RState) (k : Nat) (o : Option Origin) :
    (s.endRequest n r k o).sect = (s.updSect n (Section.answered r k)).sect := rfl

theorem sections_endRequest (s : State) (n : Fin 48) (r : RState) (k : Nat) (o : Option Origin) :
    Sections Section.counts s (s.endRequest n r k o) :=
  (sections_updSect s n (f := Section.answered r k) (fun _ => .of_raised rfl rfl rfl) fun _ => rfl).trans (.of_sect rfl)

theorem sections_takeRestore (s : State) (r : RestoreIn) : Sections Section.counts s (s.takeRestore r) := by
  unfold State.takeRestore
  split
  case h_1 n o t =>
    exact (sections_updSect s n (f := Section.asked o t) (fun _ => .of_raised rfl rfl rfl) fun _ => rfl).trans (.of_sect rfl)
  case h_2 n o =>
    split
    · exact sections_endRequest s n _ _ _
    · exact .of_sect rfl
  case h_3 o =>
    refine sections_foldl (fun acc n => ?_) _ s
    split
    · exact sections_endRequest acc n _ _ _
    · exact .of_sect rfl

theorem countExit_kept (t : Nat) (y : Section) : Follows y (countExit t y) ∧ (countExit t y).request = y.request := by
  unfold countExit
  dsimp only
  split
  · split
    · exact ⟨.of_raised rfl rfl rfl, rfl⟩
    · exact ⟨follows_raised (y := { y with countOut := satInc32 y.countOut }) (.of_raised rfl rfl rfl), rfl⟩
  · exact ⟨.of_raised rfl rfl rfl, rfl⟩

theorem countEntry_kept (y : Section) : Follows y (countEntry y) ∧ (countEntry y).request = y.request := by
  unfold countEntry
  dsimp only
  split
  · split
    · exact ⟨.of_raised rfl rfl rfl, rfl⟩
    · exact ⟨follows_raised (y := { y with countIn := satInc32 y.countIn }) (.of_raised rfl rfl rfl), rfl⟩
  · exact ⟨.of_raised rfl rfl rfl, rfl⟩

theorem sections_countAxle (s : State) (x : Crossed) : Sections Section.request s (s.countAxle x) :=
  (sections_updSectOpt s x.fromSec (fun y => (countExit_kept x.at_ y).1) fun y => (countExit_kept x.at_ y).2).trans
    (sections_updSectOpt _ x.toSec (fun y => (countEntry_kept y).1) fun y => (countEntry_kept y).2)

end

-- phase 1
section
variable {β : Type} {v : Section → β} (s : State) (d : Int)

/-- THERMAL_TRIP rises in a cycle that finds this die temperature (R38, R230). -/
def tripRises (s : State) (d : Int) : Bool := (takeTemperature d s.power).thermalTrip && !s.tally.tripTaken

/-- What the rise leaves of a section (R230). -/
def Section.tripped (x : Section) : Section := if x.unused then x else raiseBits causeFault x

theorem follows_tripped (x : Section) : Follows x x.tripped := by
  unfold Section.tripped
  split
  · exact .refl x
  · exact follows_raiseBits _ x

theorem State.takeThermal_sect :
    (s.takeThermal d).sect = if tripRises s d then Vector.map Section.tripped s.sect else s.sect := by
  unfold State.takeThermal tripRises
  dsimp only
  split
  · rw [(keeps_raiseSourceDown _).same .sect (by decide), (keeps_stopAll _).same .sect (by decide)]
    rfl
  · split
    · exact (keeps_startAll _).same .sect (by decide)
    · rfl

theorem sections_takeThermal (hv : ∀ x, v (Section.tripped x) = v x) : Sections v s (s.takeThermal d) := by
  by_cases h : tripRises s d = true
  · exact sections_map ((State.takeThermal_sect s d).trans (if_pos h)) follows_tripped hv
  · exact .of_sect ((State.takeThermal_sect s d).trans (if_neg h))

theorem sections_takeDisturb (hv : ∀ x, v (raiseBits causeCommand x) = v x) : Sections v s s.takeDisturb :=
  (sections_foldl (g := fun acc n => acc.updSect n (raiseBits causeCommand))
    (fun acc n => sections_updSect acc n (follows_raiseBits _) hv) s.tally.disturbIn s).trans (.of_sect rfl)

theorem State.takeDisturb_sect :
    s.takeDisturb.sect = (s.tally.disturbIn.foldl (fun acc n => acc.updSect n (raiseBits causeCommand)) s).sect := rfl

/-- A DISTURB_CMD write raises its cause (R230). -/
theorem State.takeDisturb_raised {n : Fin 48} (h : n ∈ s.tally.disturbIn) :
    (s.takeDisturb.sect.get n).raised.getLsbD 6 = true := by
  rw [State.takeDisturb_sect]
  refine foldl_reaches (fun _ => True) (fun u : State => (u.sect.get n).raised.getLsbD 6 = true) (fun _ _ _ => trivial)
    (fun u _ => ?_) (fun u k _ hu => ?_) s.tally.disturbIn s trivial h
  · rw [State.updSect_get_self]
    exact raiseBits_raised (by decide) _
  · exact (sections_updSect (v := fun _ => ()) u k (follows_raiseBits _) (fun _ => rfl) n).1.raised _ hu

/-- No other section is told of a DISTURB_CMD write (R230). -/
theorem State.takeDisturb_other {n : Fin 48} (h : n ∉ s.tally.disturbIn) : s.takeDisturb.sect.get n = s.sect.get n := by
  rw [State.takeDisturb_sect]
  exact foldl_same (fun u : State => u.sect.get n) s.tally.disturbIn s
    fun u k hk => State.updSect_get_other u _ fun e => h (by rw [e]; exact hk)

end
end Sys2Proof.Machine

/-! SUPPORT. What the guard leaves of Tally's inputs and of the heads that it has been told of (R134, R149, R150, R191). -/

namespace Sys2Proof.Machine

/-- Tally without what other units add to in its cycle: results, and HEAD records with what they were made from. -/
def Tally.told (x : Tally) : Tally := { x with inbox := [], headIn := [], shown := Tab.all {} }

/-- A step of the guard: it may add results and HEAD records, and a head that Tally is to be told of stays so. -/
structure GuardStep (s t : State) : Prop where
  tally : t.tally.told = s.tally.told
  hg : ∀ h, (s.hg.get h).raised = true → (t.hg.get h).raised = true
  head : ∀ h, (s.head.get h).raised = true → (t.head.get h).raised = true

section
variable {s t u : State}

theorem GuardStep.refl (s : State) : GuardStep s s := ⟨rfl, fun _ => id, fun _ => id⟩

theorem GuardStep.trans (h : GuardStep s t) (g : GuardStep t u) : GuardStep s u :=
  ⟨g.tally.trans h.tally, fun i => g.hg i ∘ h.hg i, fun i => g.head i ∘ h.head i⟩

theorem GuardStep.of_same (h1 : t.tally.told = s.tally.told) (h2 : t.hg = s.hg) (h3 : t.head = s.head) : GuardStep s t :=
  ⟨h1, fun h => by rw [h2]; exact id, fun h => by rw [h3]; exact id⟩

theorem GuardStep.of_keeps {l : List Part} (h : Keeps l s t) (h1 : subParts [.tally] l = false)
    (h2 : subParts [.hg] l = false) (h3 : subParts [.head] l = false) : GuardStep s t :=
  .of_same (congrArg Tally.told (h.same .tally (by simpa [subParts] using h1))) (h.same .hg (by simpa [subParts] using h2))
    (h.same .head (by simpa [subParts] using h3))

theorem guardStep_foldl {α : Type} {g : State → α → State} (hg : ∀ s a, GuardStep s (g s a)) (l : List α) :
    ∀ s, GuardStep s (l.foldl g s) := by
  induction l with
  | nil => exact fun s => .refl s
  | cons a l ih => exact fun s => (hg s a).trans (ih _)

theorem guardStep_updHg (s : State) (h : Fin 32) {f : HeadGuard → HeadGuard} (hf : ∀ x, x.raised = true → (f x).raised = true) :
    GuardStep s (s.updHg h f) := by
  refine ⟨rfl, fun j hj => ?_, fun _ => id⟩
  by_cases e : j = h
  · subst e
    rw [State.updHg_get]
    exact hf _ hj
  · rw [State.updHg_other _ _ _ e]
    exact hj

end

-- the end of the traversals of a head
theorem tryCapture_raised (c : CfgMap) (h : Nat) (l : List CaptureSample) (hd : Head) :
    (hd.tryCapture c h l).raised = hd.raised := by
  unfold Head.tryCapture
  split
  · dsimp only
    split
    · rfl
    · rfl
  · rfl

theorem endCapture_raised (c : CfgMap) (h : Nat) (i : Fin 2) (void : Bool) (hd : Head) :
    (hd.endCapture c h i void).raised = hd.raised := by
  unfold Head.endCapture
  split
  · dsimp only
    split
    · rfl
    · exact tryCapture_raised ..
  · rfl

theorem breakSlot_raised (x : WreCtx) (g : Nat) (i : Fin 2) (hd : Head) : (breakSlot x g i hd).raised = hd.raised := by
  unfold breakSlot
  split
  · rfl
  · split
    · rfl
    · exact endCapture_raised ..

section
variable (s : State) (h : Fin 32)

theorem guardStep_updHead {f : Head → Head} (hf : ∀ x, x.raised = true → (f x).raised = true) : GuardStep s (s.updHead h f) := by
  refine ⟨rfl, fun _ => id, fun j hj => ?_⟩
  by_cases e : j = h
  · subst e
    rw [State.updHead_get]
    exact hf _ hj
  · rw [State.updHead_other _ _ _ e]
    exact hj

theorem guardStep_closeGroup : GuardStep s (s.closeGroup h) := by
  refine .of_same ?_ ((keeps_closeGroup s h).same .hg (by decide)) (State.closeGroup_head s h)
  unfold State.closeGroup
  split
  · rfl
  · rfl

theorem guardStep_breakHead : GuardStep s (s.breakHead h) := by
  unfold State.breakHead
  dsimp only
  generalize hu : s.updHead h _ = u
  have h1 : GuardStep s u := by
    rw [← hu]
    refine guardStep_updHead s h fun x hx => ?_
    rw [breakSlot_raised, breakSlot_raised]
    exact hx
  have h2 : GuardStep u u.draw.draw := .of_same rfl rfl rfl
  exact (h1.trans h2).trans (guardStep_closeGroup _ h)

theorem guardStep_settleHead : GuardStep s (s.settleHead h) := by
  refine guardStep_updHead s h fun x hx => ?_
  dsimp only
  split
  · rfl
  · exact hx

theorem guardStep_noteHead : GuardStep s (s.noteHead h) := by
  unfold State.noteHead
  dsimp only
  split
  · exact .refl s
  · exact .of_same rfl rfl rfl

theorem guardStep_withDist {f : State → State} (hf : GuardStep s (f s)) : GuardStep s (s.withDist h f) := by
  unfold State.withDist
  dsimp only
  have hn := hf.trans (guardStep_noteHead (f s) h)
  split
  · exact hn.trans (guardStep_breakHead _ h)
  · split
    · exact (hn.trans (guardStep_settleHead _ h)).trans (guardStep_noteHead _ h)
    · exact hn

theorem guardStep_setGuard (g : GState) : GuardStep s (s.setGuard h g) :=
  guardStep_withDist s h (guardStep_updHg s h fun x hx => by rw [hx]; rfl)

theorem guardStep_requestCheck : GuardStep s (s.requestCheck h) :=
  .of_keeps (keeps_requestCheck s h) (by decide) (by decide) (by decide)

theorem guardStep_judgeLoads (ch : Fin 64) : GuardStep s (s.judgeLoads ch) := by
  refine guardStep_foldl (fun acc k => ?_) _ s
  split
  · exact guardStep_updHg acc k fun _ => id
  · exact .refl acc

theorem guardStep_withdraw (p : Offer → Bool) : GuardStep s (s.withdraw p) := .of_same rfl rfl rfl

theorem guardStep_causeRaised (ch : Fin 64) : GuardStep s (s.causeRaised ch) := by
  refine (guardStep_judgeLoads s ch).trans (guardStep_foldl (fun acc k => ?_) _ _)
  split
  · exact (guardStep_withdraw acc _).trans (guardStep_setGuard _ k _)
  · exact .refl acc

theorem guardStep_causeDropped (ch : Fin 64) : GuardStep s (s.causeDropped ch) := by
  refine (guardStep_judgeLoads s ch).trans (guardStep_foldl (fun acc k => ?_) _ _)
  split
  · exact (guardStep_setGuard acc k _).trans (guardStep_requestCheck _ k)
  · exact .refl acc

theorem guardStep_updCg (ch : Fin 64) (f : ChGuard → ChGuard) : GuardStep s (s.updCg ch f) := .of_same rfl rfl rfl

theorem guardStep_guardRecord (ch : Fin 64) : GuardStep s (s.guardRecord ch) :=
  .of_keeps (keeps_guardRecord s ch) (by decide) (by decide) (by decide)

/-- The monitors that watch a lost source add no more than the guard does (R134). -/
theorem guardStep_raiseSourceDown : GuardStep s s.raiseSourceDown := by
  refine guardStep_foldl (fun acc ch => ?_) _ s
  unfold guardCauseRaised
  split
  · exact (guardStep_updCg acc ch _).trans (guardStep_causeRaised _ ch)
  · exact .refl acc

theorem guardStep_rtdWindow (ch : Fin 64) : GuardStep s (s.rtdWindow ch) := by
  unfold State.rtdWindow
  dsimp only
  split
  · exact .refl s
  · split
    · generalize hu : s.updCg ch _ = u
      have h1 : GuardStep s u := by rw [← hu]; exact guardStep_updCg s ch _
      have judged (p q : Bool) :
          GuardStep u (if p = true then u.causeRaised ch else if q = true then u.causeDropped ch else u.judgeLoads ch) := by
        split
        · exact guardStep_causeRaised u ch
        · split
          · exact guardStep_causeDropped u ch
          · exact guardStep_judgeLoads u ch
      split
      · exact (h1.trans (judged _ _)).trans (guardStep_guardRecord _ ch)
      · exact h1.trans (judged _ _)
    · split
      · exact (guardStep_updCg s ch _).trans (guardStep_causeDropped _ ch)
      · exact .refl s

theorem guardStep_latchTau (ch : Fin 64) : GuardStep s (s.latchTau ch) :=
  .of_keeps (keeps_latchTau s ch) (by decide) (by decide) (by decide)

theorem guardStep_guardCycle : GuardStep s s.guardCycle :=
  (guardStep_foldl guardStep_rtdWindow _ s).trans (guardStep_foldl guardStep_latchTau _ _)

/-- Without an RTD channel the guard only latches temperatures (R134, R154). -/
theorem keeps_guardCycle_of_no_rtd (h : ∀ c : Fin 64, chRtd s.cfg.active c.val = false) : Keeps [.cg] s s.guardCycle := by
  unfold State.guardCycle
  have h1 : (allFin 64).foldl (fun acc ch => acc.rtdWindow ch) s = s := by
    have step (ch : Fin 64) : s.rtdWindow ch = s := by
      unfold State.rtdWindow
      dsimp only
      rw [h ch]
      rfl
    induction allFin 64 with
    | nil => rfl
    | cons a l ih => rw [List.foldl_cons, step a, ih]
  rw [h1]
  exact Keeps.foldl_mem _ (fun acc ch _ => keeps_latchTau acc ch) s

end
end Sys2Proof.Machine

/-! SUPPORT. The phases of a Tally cycle up to counting: what they take, and what they make of Tally and of a section
(R221, R222, R230, R370). -/

namespace Sys2Proof.Machine

-- the temperature
section
variable (s : State) (d : Int)

theorem takeThermal_power : (s.takeThermal d).power = takeTemperature d s.power := by
  unfold State.takeThermal
  dsimp only
  split
  · change (State.raiseSourceDown _).power = _
    rw [(keeps_raiseSourceDown _).same .power (by decide), (keeps_stopAll _).same .power (by decide)]
  · split
    · exact (keeps_startAll _).same .power (by decide)
    · rfl

/-- Where THERMAL_TRIP does not rise, the temperature changes neither the heads nor what Tally is told (R38). -/
theorem takeThermal_calm (h : tripRises s d = false) : (s.takeThermal d).hg = s.hg ∧ (s.takeThermal d).head = s.head ∧
    (s.takeThermal d).tally.inbox = s.tally.inbox := by
  unfold State.takeThermal
  dsimp only
  rw [if_neg (by rw [← tripRises, h]; decide)]
  split
  · refine ⟨(keeps_startAll _).same .hg (by decide), (keeps_startAll _).same .head (by decide), ?_⟩
    rw [(keeps_startAll _).same .tally (by decide)]
  · exact ⟨rfl, rfl, rfl⟩

/-- Whether the rise of THERMAL_TRIP stands as taken after a cycle that finds this die temperature (R38, R230). -/
def tripAfter (s : State) (d : Int) : Bool :=
  if tripRises s d then true
  else if s.power.thermalTrip && !(takeTemperature d s.power).thermalTrip then false else s.tally.tripTaken

theorem takeThermal_guardStep :
    ∃ t : State, GuardStep s t ∧ (s.takeThermal d).tally = { t.tally with tripTaken := tripAfter s d } ∧
      (s.takeThermal d).hg = t.hg ∧ (s.takeThermal d).head = t.head := by
  by_cases h : tripRises s d = true
  · refine ⟨({ s with power := takeTemperature d s.power } : State).stopAll.raiseSourceDown, ?_, ?_⟩
    · refine (GuardStep.of_same (t := ({ s with power := takeTemperature d s.power } : State).stopAll) ?_ ?_ ?_).trans
        (guardStep_raiseSourceDown _)
      · rw [(keeps_stopAll _).same .tally (by decide)]
      · rw [(keeps_stopAll _).same .hg (by decide)]
      · rw [(keeps_stopAll _).same .head (by decide)]
    · unfold State.takeThermal tripAfter
      dsimp only
      have hx : ((takeTemperature d s.power).thermalTrip && !s.tally.tripTaken) = true := h
      rw [if_pos hx, if_pos h]
      exact ⟨rfl, rfl, rfl⟩
  · rw [Bool.not_eq_true] at h
    obtain ⟨h1, h2, -⟩ := takeThermal_calm s d h
    refine ⟨s, .refl s, ?_, h1, h2⟩
    unfold State.takeThermal tripAfter
    dsimp only
    have hx : ¬((takeTemperature d s.power).thermalTrip && !s.tally.tripTaken) = true := Bool.eq_false_iff.mp h
    rw [if_neg hx, if_neg (Bool.eq_false_iff.mp h)]
    split
    · rw [(keeps_startAll _).same .tally (by decide)]
    · rfl

/-- The temperature and the guard, which come first in a cycle. -/
def State.cycleGuarded (s : State) (d : Int) : State :=
  (({ s with tally := { s.tally with inbox := [] } } : State).takeThermal d).guardCycle

theorem cycleGuarded_told :
    (s.cycleGuarded d).tally.told = { s.tally.told with tripTaken := tripAfter s d } ∧
    (∀ h, (s.hg.get h).raised = true → ((s.cycleGuarded d).hg.get h).raised = true) ∧
    ∀ h, (s.head.get h).raised = true → ((s.cycleGuarded d).head.get h).raised = true := by
  obtain ⟨t, ⟨h1, h2, h3⟩, ht, hg, hh⟩ := takeThermal_guardStep { s with tally := { s.tally with inbox := [] } } d
  obtain ⟨g1, g2, g3⟩ := guardStep_guardCycle (({ s with tally := { s.tally with inbox := [] } } : State).takeThermal d)
  refine ⟨?_, fun h hr => g2 h ?_, fun h hr => g3 h ?_⟩
  · refine g1.trans ?_
    rw [ht]
    exact congrArg (fun x : Tally => { x with tripTaken := tripAfter s d }) h1
  · rw [hg]
    exact h2 h hr
  · rw [hh]
    exact h3 h hr

theorem cycleGuarded_sect : (s.cycleGuarded d).sect = if tripRises s d then Vector.map Section.tripped s.sect else s.sect :=
  ((keeps_guardCycle _).same .sect (by decide)).trans (State.takeThermal_sect _ d)

theorem cycleGuarded_power : (s.cycleGuarded d).power = takeTemperature d s.power :=
  ((keeps_guardCycle _).same .power (by decide)).trans (takeThermal_power _ d)

/-- Without a rise of THERMAL_TRIP and without an RTD channel the heads and the results stay what they are. -/
theorem cycleGuarded_calm (h : tripRises s d = false) (hr : ∀ c : Fin 64, chRtd s.cfg.active c.val = false) :
    (s.cycleGuarded d).hg = s.hg ∧ (s.cycleGuarded d).head = s.head ∧ (s.cycleGuarded d).tally.inbox = [] := by
  obtain ⟨h1, h2, h3⟩ := takeThermal_calm { s with tally := { s.tally with inbox := [] } } d h
  have hk := keeps_guardCycle_of_no_rtd (({ s with tally := { s.tally with inbox := [] } } : State).takeThermal d)
    (by rw [(keeps_takeThermal _ d).same .cfg (by decide)]; exact hr)
  refine ⟨(hk.same .hg (by decide)).trans h1, (hk.same .head (by decide)).trans h2, ?_⟩
  rw [State.cycleGuarded, hk.same .tally (by decide), h3]

end

-- the results, the requests and the writes
section
variable (s : State) (d : Int)

theorem endRequest_tally (n : Fin 48) (r : RState) (k : Nat) (o : Option Origin) :
    ∃ l, (s.endRequest n r k o).tally = { s.tally with restoreRecs := l } := ⟨_, rfl⟩

theorem foldl_restoreRecs {α : Type} {g : State → α → State}
    (hg : ∀ s a, ∃ l, (g s a).tally = { s.tally with restoreRecs := l }) (l : List α) :
    ∀ s : State, ∃ r, (l.foldl g s).tally = { s.tally with restoreRecs := r } := by
  induction l with
  | nil => exact fun s => ⟨s.tally.restoreRecs, rfl⟩
  | cons a l ih =>
    intro s
    obtain ⟨r, hr⟩ := ih (g s a)
    obtain ⟨k, hk⟩ := hg s a
    exact ⟨r, by rw [List.foldl_cons, hr, hk]⟩

theorem takeRestore_tally (r : RestoreIn) : ∃ l, (s.takeRestore r).tally = { s.tally with restoreRecs := l } := by
  unfold State.takeRestore
  split
  · exact ⟨_, rfl⟩
  · split
    · exact ⟨_, rfl⟩
    · exact ⟨_, rfl⟩
  · refine foldl_restoreRecs (fun acc n => ?_) _ s
    split
    · exact ⟨_, rfl⟩
    · exact ⟨_, rfl⟩

theorem takeArms_tally (l : List ArmIn) : ∃ e, (l.foldl State.takeArm s).tally = { s.tally with ackEvents := e } ∧
    (l.foldl State.takeArm s).permits.inhibit = s.permits.inhibit := by
  induction l generalizing s with
  | nil => exact ⟨_, rfl, rfl⟩
  | cons a l ih =>
    obtain ⟨e, he, hi⟩ := ih (s.takeArm a)
    have ha : ∃ k, (s.takeArm a).tally = { s.tally with ackEvents := k } ∧ (s.takeArm a).permits.inhibit = s.permits.inhibit := by
      unfold State.takeArm
      split
      · exact ⟨_, rfl, rfl⟩
      · split
        · exact ⟨_, rfl, rfl⟩
        · exact ⟨_, rfl, rfl⟩
    obtain ⟨k, hk, hj⟩ := ha
    exact ⟨e, by rw [List.foldl_cons, he, hk], by rw [List.foldl_cons, hi, hj]⟩

theorem lockOut_inhibit (m : BitVec 16) (c : BitVec 4) : (s.lockOut m c).permits.inhibit = s.permits.inhibit := by
  refine foldl_same (fun u : State => u.permits.inhibit) _ s fun t a _ => ?_
  split
  · rfl
  · rfl

theorem takePermitWrites_tally : ∃ e, s.takePermitWrites.tally =
    { s.tally with ackEvents := e, inhibit := s.permits.inhibit, lockIn := 0#16, armIn := [] } := by
  unfold State.takePermitWrites
  dsimp only
  obtain ⟨e, he, hi⟩ := takeArms_tally (s.lockOut s.tally.lockIn 0x4#4) (s.lockOut s.tally.lockIn 0x4#4).tally.armIn
  refine ⟨e, ?_⟩
  rw [he, hi, lockOut_inhibit, (keeps_lockOut _ _ _).same .tally (by decide)]

/-- The tracker's results are taken. -/
def State.cycleItems (s : State) (d : Int) : State := s.tally.inbox.foldl State.takeItem (s.cycleGuarded d)

/-- The restore writes are taken. -/
def State.takeRequests (s : State) : State := s.tally.restoreIn.foldl State.takeRestore s

/-- No restore write is left to take. -/
def State.noRequests (s : State) : State := { s with tally := { s.tally with restoreIn := [] } }

/-- Phase 1 but for the heads (R221, R370). -/
def State.cycleTaken (s : State) (d : Int) : State :=
  (s.cycleItems d).takeRequests.noRequests.takePermitWrites.takeDisturb

theorem keeps_takeItems (l : List TallyItem) (s : State) : Keeps [.sect] s (l.foldl State.takeItem s) :=
  Keeps.foldl_mem l (fun acc i _ => keeps_takeItem acc i) s

theorem keeps_takeRequests (s : State) : Keeps [.sect, .tally] s s.takeRequests :=
  Keeps.foldl_mem s.tally.restoreIn (fun acc i _ => keeps_takeRestore acc i) s

theorem keeps_noRequests (s : State) : Keeps [.tally] s s.noRequests := keeps_set_tally s _

theorem keeps_cycleTaken : Keeps [.sect, .tally, .permits] (s.cycleGuarded d) (s.cycleTaken d) := by
  have h3 : Keeps [.sect, .tally, .permits] (s.cycleGuarded d) (s.cycleItems d) := (keeps_takeItems _ _).mono rfl
  have h4 := (h3.trans ((keeps_takeRequests _).mono rfl)).trans ((keeps_noRequests _).mono rfl)
  exact (h4.trans ((keeps_takePermitWrites _).mono rfl)).trans ((keeps_takeDisturb _).mono rfl)

theorem takeDisturb_tally : s.takeDisturb.tally = { s.tally with disturbIn := [] } := by
  unfold State.takeDisturb
  dsimp only
  rw [foldl_same (g := fun acc n => acc.updSect n (raiseBits causeCommand)) State.tally _ s fun _ _ _ => rfl]

theorem takeRequests_tally : ∃ r, s.takeRequests.tally = { s.tally with restoreRecs := r } :=
  foldl_restoreRecs takeRestore_tally _ s

theorem cycleTaken_tally : ∃ r e, (s.cycleTaken d).tally = { (s.cycleGuarded d).tally with
    restoreRecs := r, ackEvents := e, restoreIn := [], inhibit := (s.cycleGuarded d).permits.inhibit, lockIn := 0#16
    armIn := [], disturbIn := [] } := by
  have h3 : (s.cycleItems d).tally = (s.cycleGuarded d).tally := (keeps_takeItems _ _).same .tally (by decide)
  have p3 : (s.cycleItems d).permits = (s.cycleGuarded d).permits := (keeps_takeItems _ _).same .permits (by decide)
  obtain ⟨r, hr⟩ := takeRequests_tally (s.cycleItems d)
  have p4 := (keeps_takeRequests (s.cycleItems d)).same .permits (by decide)
  obtain ⟨e, he⟩ := takePermitWrites_tally (s.cycleItems d).takeRequests.noRequests
  refine ⟨r, e, ?_⟩
  rw [State.cycleTaken, takeDisturb_tally, he, State.noRequests]
  dsimp only
  rw [hr, p4, h3, p3]

end
end Sys2Proof.Machine

/-! SUPPORT. What a Tally cycle makes of a section up to phase 3: the causes that it takes, its count, and DISTURBED
(R222, R224, R227, R230, R231). -/

namespace Sys2Proof.Machine

section
variable (s : State) (d : Int) (n : Fin 48)

-- phase 1
theorem tripped_kept (x : Section) : x.tripped.counts = x.counts ∧ x.tripped.request = x.request := by
  unfold Section.tripped
  split
  · exact ⟨rfl, rfl⟩
  · exact ⟨rfl, rfl⟩

theorem sections_cycleGuarded {β : Type} {v : Section → β} (hv : ∀ x, v (Section.tripped x) = v x) :
    Sections v s (s.cycleGuarded d) := by
  refine Sections.trans (t := ({ s with tally := { s.tally with inbox := [] } } : State).takeThermal d) ?_
    (.of_sect ((keeps_guardCycle _).same .sect (by decide)))
  exact (Sections.of_sect (t := { s with tally := { s.tally with inbox := [] } }) rfl).trans (sections_takeThermal _ d hv)

theorem sections_cycleItems {β : Type} {v : Section → β} (h1 : ∀ x, v (openRef x) = v x := by exact fun _ => rfl)
    (h2 : ∀ t x, v (confirmRef t x) = v x := by exact fun _ _ => rfl)
    (h3 : ∀ t x, v (refuteRef t x) = v x := by exact fun _ _ => rfl) : Sections v (s.cycleGuarded d) (s.cycleItems d) :=
  sections_foldl (fun acc i => sections_takeItem h1 h2 h3 acc i) _ _

theorem sections_guarded_taken : Sections Section.counts (s.cycleGuarded d) (s.cycleTaken d) := by
  have h3 : Sections Section.counts (s.cycleGuarded d) (s.cycleItems d) := sections_cycleItems s d
  have h4 : Sections Section.counts (s.cycleItems d) (s.cycleItems d).takeRequests := sections_foldl sections_takeRestore _ _
  have h5 : Sections Section.counts (s.cycleItems d).takeRequests (s.cycleItems d).takeRequests.noRequests.takePermitWrites :=
    .of_sect ((keeps_takePermitWrites _).same .sect (by decide))
  exact ((h3.trans h4).trans h5).trans (sections_takeDisturb _ fun _ => rfl)

/-- Up to phase 1 no count has changed (R222). -/
theorem sections_cycleTaken : Sections Section.counts s (s.cycleTaken d) :=
  (sections_cycleGuarded s d fun x => (tripped_kept x).1).trans (sections_guarded_taken s d)

theorem cycleGuarded_restoreIn : (s.cycleGuarded d).tally.restoreIn = s.tally.restoreIn :=
  (congrArg Tally.restoreIn (cycleGuarded_told s d).1 :)

theorem cycleGuarded_disturbIn : (s.cycleGuarded d).tally.disturbIn = s.tally.disturbIn :=
  (congrArg Tally.disturbIn (cycleGuarded_told s d).1 :)

/-- A cycle that finds no restore write leaves every request as it was (R235). -/
theorem cycleTaken_request (hr : s.tally.restoreIn = []) :
    ((s.cycleTaken d).sect.get n).request = (s.sect.get n).request := by
  refine Eq.trans ?_ ((sections_cycleGuarded s d fun x => (tripped_kept x).2) n).2
  have hl : (s.cycleItems d).tally.restoreIn = [] := by
    rw [State.cycleItems, (keeps_takeItems _ _).same .tally (by decide), cycleGuarded_restoreIn, hr]
  have h4 : (s.cycleItems d).takeRequests = s.cycleItems d := by rw [State.takeRequests, hl]; rfl
  have h5 : Sections Section.request (s.cycleItems d) (s.cycleItems d).noRequests.takePermitWrites :=
    .of_sect ((keeps_takePermitWrites _).same .sect (by decide))
  rw [State.cycleTaken, h4]
  exact (((sections_cycleItems s d).trans h5).trans (sections_takeDisturb _ fun _ => rfl) n).2

/-- A rise of THERMAL_TRIP is a cause of every used section (R230). -/
theorem cycleTaken_tripped (h : tripRises s d = true) (hu : (s.sect.get n).unused = false) :
    ((s.cycleTaken d).sect.get n).raised.getLsbD 7 = true := by
  refine (sections_guarded_taken s d n).1.raised 7 ?_
  have hg : (s.cycleGuarded d).sect.get n = (s.sect.get n).tripped := by
    rw [cycleGuarded_sect, if_pos h]
    exact Tab.get_map ..
  rw [hg, Section.tripped, if_neg (by rw [hu]; decide)]
  exact raiseBits_raised (by decide) _

/-- The state whose DISTURB_CMD writes a cycle takes. -/
theorem cycleTaken_eq : ∃ u : State, s.cycleTaken d = u.takeDisturb ∧ u.tally.disturbIn = s.tally.disturbIn := by
  refine ⟨(s.cycleItems d).takeRequests.noRequests.takePermitWrites, rfl, ?_⟩
  obtain ⟨e, he⟩ := takePermitWrites_tally (s.cycleItems d).takeRequests.noRequests
  obtain ⟨r, hr⟩ := takeRequests_tally (s.cycleItems d)
  rw [he, State.noRequests]
  dsimp only
  rw [hr, State.cycleItems, (keeps_takeItems _ _).same .tally (by decide)]
  exact cycleGuarded_disturbIn s d

theorem cycleTaken_commanded (h : n ∈ s.tally.disturbIn) : ((s.cycleTaken d).sect.get n).raised.getLsbD 6 = true := by
  obtain ⟨u, hu, hd⟩ := cycleTaken_eq s d
  rw [hu]
  exact State.takeDisturb_raised u (hd ▸ h)

-- phase 2
/-- The sections after counting. -/
def State.cycleAxles (s : State) (d : Int) : State :=
  (s.cycleTaken d).countPhase (crossedOf (s.cycleTaken d) s.tally.inbox)

theorem countPhase_sect (l : List Crossed) : (s.countPhase l).sect = (l.foldl State.countAxle s).sect := by
  unfold State.countPhase
  dsimp only
  rw [(keeps_noteRoom _).same .sect (by decide)]
  exact (Keeps.foldl_mem _ (fun acc n _ => keeps_releaseSurplus 128 acc n _) _).same .sect (by decide)

theorem sections_cycleAxles : Sections Section.request (s.cycleTaken d) (s.cycleAxles d) := by
  refine Sections.trans (sections_foldl sections_countAxle (crossedOf (s.cycleTaken d) s.tally.inbox) _) (.of_sect ?_)
  exact countPhase_sect ..

theorem keeps_cycleAxles : Keeps [.sect, .tally, .trk, .permits] (s.cycleGuarded d) (s.cycleAxles d) :=
  ((keeps_cycleTaken s d).mono rfl).trans ((keeps_countPhase _ _).mono rfl)

theorem cycleAxles_tally : (s.cycleAxles d).tally = (s.cycleTaken d).tally := (keeps_countPhase _ _).same .tally (by decide)

theorem cycleAxles_cfg : (s.cycleAxles d).cfg = s.cfg :=
  ((keeps_cycleAxles s d).same .cfg (by decide)).trans
    (((keeps_guardCycle _).same .cfg (by decide)).trans ((keeps_takeThermal _ d).same .cfg (by decide)))

-- phase 3
/-- Every section is marked held or not (R227). -/
def State.allHeld (s : State) : State := { s with sect := Vector.map markHeld s.sect }

theorem allHeld_get : s.allHeld.sect.get n = markHeld (s.sect.get n) := Tab.get_map _ _ _

/-- Every section takes the causes raised (R230). -/
def State.allDisturbed (s : State) : State := { s with sect := Vector.map disturb s.sect }

theorem allDisturbed_get : s.allDisturbed.sect.get n = disturb (s.sect.get n) := Tab.get_map _ _ _

/-- Phases 1 to 3 but for the last step, in which the causes raised make a section DISTURBED. -/
def State.cycleCounted (s : State) (d : Int) : State :=
  (s.cycleAxles d).allHeld.takeHeads

theorem tallyTake_eq : s.tallyTake d = (s.cycleCounted d).allDisturbed := rfl

/-- Tally has been told of every head (R150, R191). -/
def State.headsTold (u : State) : State :=
  { u with
    hg := Vector.map (fun (x : HeadGuard) => { x with raised := false }) u.hg
    head := Vector.map (fun (x : Head) => { x with raised := false }) u.head }

theorem headsTold_sect (u : State) : u.headsTold.sect = u.sect := rfl

theorem State.takeHeads_eq :
    s.takeHeads = ((allFin 48).foldl (fun acc n => acc.updSect n (raiseBits (headBits s n))) s).headsTold := by
  unfold State.takeHeads
  generalize (allFin 48).foldl _ s = u
  rfl

theorem State.takeHeads_get : (s.takeHeads).sect.get n = raiseBits (headBits s n) (s.sect.get n) := by
  rw [State.takeHeads_eq, headsTold_sect]
  exact foldl_allFin (view := fun (u : State) n => u.sect.get n) (F := fun n x => raiseBits (headBits s n) x) (fun _ => True)
    (fun _ _ _ => trivial) (fun u i _ => State.updSect_get_self u i _) (fun u i j h => State.updSect_get_other u _ h) trivial n

theorem headBits_guard {h : Fin 32} (hb : h ∈ boundingHeads s.cfg.active n)
    (hg : (s.hg.get h).raised = true ∨ (s.sect.get n).st ≠ .disturbed ∧ guardDisturbed s h = true) :
    (headBits s n).getLsbD 2 = true := by
  refine foldl_reaches (fun _ => True) (fun acc : BitVec 8 => acc.getLsbD 2 = true) (fun _ _ _ => trivial)
    (fun acc _ => ?_) (fun acc k _ hacc => ?_) _ _ trivial hb
  · have hc : ((s.hg.get h).raised || ((s.sect.get n).st != .disturbed && guardDisturbed s h)) = true := by
      rcases hg with hg | ⟨h1, h2⟩
      · rw [hg, Bool.true_or]
      · rw [h2, bne_iff_ne.mpr h1, Bool.true_and, Bool.or_true]
    dsimp only
    rw [if_pos hc, BitVec.getLsbD_or, BitVec.getLsbD_or, show causeHeadGuard.getLsbD 2 = true by decide, Bool.or_true,
      Bool.true_or]
  · dsimp only
    rw [BitVec.getLsbD_or]
    split
    · rw [BitVec.getLsbD_or, hacc, Bool.true_or, Bool.true_or]
    · rw [hacc, Bool.true_or]

theorem headBits_wre {h : Fin 32} (hb : h ∈ boundingHeads s.cfg.active n)
    (hw : (s.head.get h).raised = true ∨ (s.sect.get n).st ≠ .disturbed ∧ wreDisturbed (s.head.get h) = true) :
    (headBits s n).getLsbD 3 = true := by
  refine foldl_reaches (fun _ => True) (fun acc : BitVec 8 => acc.getLsbD 3 = true) (fun _ _ _ => trivial)
    (fun acc _ => ?_) (fun acc k _ hacc => ?_) _ _ trivial hb
  · have hc : ((s.head.get h).raised || ((s.sect.get n).st != .disturbed && wreDisturbed (s.head.get h))) = true := by
      rcases hw with hw | ⟨h1, h2⟩
      · rw [hw, Bool.true_or]
      · rw [h2, bne_iff_ne.mpr h1, Bool.true_and, Bool.or_true]
    dsimp only
    rw [if_pos hc, BitVec.getLsbD_or, show causeHeadWre.getLsbD 3 = true by decide, Bool.or_true]
  · dsimp only
    rw [BitVec.getLsbD_or]
    split
    · rw [BitVec.getLsbD_or, hacc, Bool.true_or, Bool.true_or]
    · rw [hacc, Bool.true_or]

/-- Heads that are not disturbed and were not are no cause (R230). -/
theorem headBits_none (h : ∀ k ∈ boundingHeads s.cfg.active n, (s.hg.get k).raised = false ∧ (s.head.get k).raised = false ∧
    headDisturbed s k = false) : headBits s n = 0#8 := by
  refine foldl_same (fun acc : BitVec 8 => acc) (boundingHeads s.cfg.active n) 0#8 fun acc k hk => ?_
  obtain ⟨h1, h2, h3⟩ := h k hk
  obtain ⟨h4, h5⟩ := Bool.or_eq_false_iff.mp h3
  dsimp only
  rw [h1, h2, h4, h5, Bool.and_false, Bool.or_false, if_neg (by decide), if_neg (by decide), BitVec.or_zero]

/-- A section that takes the causes raised (R230, R231, R233). -/
theorem disturb_st (x : Section) : (disturb x).st = x.st ∨ (disturb x).st = .disturbed := by
  unfold disturb
  split
  · exact .inl rfl
  · split
    · exact .inl rfl
    · exact .inr rfl

theorem disturb_of_none {x : Section} (h : x.raised = 0#8) : disturb x = x := if_pos (by rw [h]; rfl)

theorem disturb_kept (x : Section) : (disturb x).counts = x.counts ∧ (disturb x).request = x.request ∧
    (disturb x).raised = x.raised ∧ (disturb x).unused = x.unused ∧ (disturb x).held = x.held ∧
    (disturb x).provRefs = x.provRefs := by
  unfold disturb
  split
  · exact ⟨rfl, rfl, rfl, rfl, rfl, rfl⟩
  · split
    · exact ⟨rfl, rfl, rfl, rfl, rfl, rfl⟩
    · exact ⟨rfl, rfl, rfl, rfl, rfl, rfl⟩

theorem disturb_raised {x : Section} {i : Nat} (hu : x.unused = false) (hr : x.raised.getLsbD i = true) :
    (disturb x).st = .disturbed ∧ (disturb x).distCause.getLsbD i = true := by
  have hn : ¬(x.raised = 0#8 || x.unused) = true := by
    rw [hu, Bool.or_false, decide_eq_true_iff]
    intro h
    rw [h, BitVec.getLsbD_zero] at hr
    cases hr
  unfold disturb
  rw [if_neg hn]
  split
  next h => exact ⟨eq_of_beq h, by rw [BitVec.getLsbD_or, hr, Bool.or_true]⟩
  next => exact ⟨rfl, hr⟩

/-- A section at the end of phase 3, which a cause that was raised has made DISTURBED. -/
theorem cycleCounted_get : (s.cycleCounted d).sect.get n =
    raiseBits (headBits (s.cycleAxles d).allHeld n) (markHeld ((s.cycleAxles d).sect.get n)) := by
  rw [State.cycleCounted, State.takeHeads_get, allHeld_get]

theorem follows_markHeld (x : Section) : Follows x (markHeld x) := .of_raised rfl rfl rfl

theorem follows_cycleCounted : Follows ((s.cycleAxles d).sect.get n) ((s.cycleCounted d).sect.get n) := by
  rw [cycleCounted_get]
  exact follows_raised (follows_markHeld _)

theorem follows_cycle : Follows (s.sect.get n) ((s.cycleCounted d).sect.get n) :=
  ((sections_cycleTaken s d n).1.trans (sections_cycleAxles s d n).1).trans (follows_cycleCounted s d n)

theorem tallyTake_get : (s.tallyTake d).sect.get n = disturb ((s.cycleCounted d).sect.get n) := by
  rw [tallyTake_eq, allDisturbed_get]

end
end Sys2Proof.Machine

/-! SUPPORT. The later phases of a Tally cycle for one section: the judgement of its restore, the table of its states, and
what the publication leaves (R226 to R228, R233, R236). -/

namespace Sys2Proof.Machine

-- phase 4
section
variable (s : State) (ack : Bool) (n : Fin 48)

/-- What phase 4 makes of a section with the request that it has (R235, R236). -/
def judgedSection (s : State) (ack : Bool) (n : Fin 48) : Section :=
  let x := s.sect.get n
  if x.rstate != .pending then x
  else if x.reqAt + sec 60 ≤ s.now then x.answered .expired 0
  else if !ack then x
  else match grantReason s n with
    | 0 => (granted x).answered .granted 0
    | r => x.answered .refused r

theorem endRequest_get (r : RState) (k : Nat) (o : Option Origin) :
    (s.endRequest n r k o).sect.get n = (s.sect.get n).answered r k := State.updSect_get_self s n _

theorem endRequest_other {j : Fin 48} (h : j ≠ n) (r : RState) (k : Nat) (o : Option Origin) :
    (s.endRequest n r k o).sect.get j = s.sect.get j := State.updSect_get_other s _ h

/-- A granted restore with the surplus that it releases (R233, R252). -/
def State.grantRestore (s : State) (n : Fin 48) : State :=
  (releaseSurplus 128 ((s.updSect n granted).endRequest n .granted 0 none) n none).noteRoom

theorem grantRestore_sect : (s.grantRestore n).sect = ((s.updSect n granted).endRequest n .granted 0 none).sect :=
  ((keeps_noteRoom _).same .sect (by decide)).trans ((keeps_releaseSurplus 128 _ n none).same .sect (by decide))

theorem grantRestore_tally : (s.grantRestore n).tally = ((s.updSect n granted).endRequest n .granted 0 none).tally :=
  ((keeps_noteRoom _).same .tally (by decide)).trans ((keeps_releaseSurplus 128 _ n none).same .tally (by decide))

theorem judgeRestore_eq : s.judgeRestore ack n =
    if (s.sect.get n).rstate != .pending then s
    else if (s.sect.get n).reqAt + sec 60 ≤ s.now then s.endRequest n .expired 0 none
    else if !ack then s
    else match grantReason s n with
      | 0 => s.grantRestore n
      | r => s.endRequest n .refused r none := rfl

theorem judgeRestore_get : (s.judgeRestore ack n).sect.get n = judgedSection s ack n := by
  rw [judgeRestore_eq]
  unfold judgedSection
  dsimp only
  split
  · rfl
  · split
    · exact endRequest_get ..
    · split
      · rfl
      · split
        · rw [grantRestore_sect, endRequest_get, State.updSect_get_self]
        · exact endRequest_get ..

theorem judgeRestore_other {j : Fin 48} (h : j ≠ n) : (s.judgeRestore ack n).sect.get j = s.sect.get j := by
  rw [judgeRestore_eq]
  split
  · rfl
  · split
    · exact endRequest_other s n h ..
    · split
      · rfl
      · split
        · rw [grantRestore_sect, endRequest_other _ n h, State.updSect_get_other _ _ h]
        · exact endRequest_other s n h ..

theorem grantReason_congr {s t : State} (hs : t.sect.get n = s.sect.get n) (hc : t.cfg = s.cfg) (hg : t.hg = s.hg)
    (hh : t.head = s.head) : grantReason t n = grantReason s n := by
  have hd : headDisturbed t = headDisturbed s := funext fun _ => headDisturbed_congr hc hg hh
  simp only [grantReason, hs, hc, hh, hd]

theorem judgedSection_congr {s t : State} (hs : t.sect.get n = s.sect.get n) (hn : t.now = s.now) (hc : t.cfg = s.cfg)
    (hg : t.hg = s.hg) (hh : t.head = s.head) : judgedSection t ack n = judgedSection s ack n := by
  simp only [judgedSection, hs, hn, grantReason_congr n hs hc hg hh]

/-- Every pending request is judged. -/
def State.judgeRestores (s : State) (ack : Bool) : State := (allFin 48).foldl (fun acc n => acc.judgeRestore ack n) s

/-- The acknowledge has been taken (R236, R294). -/
def State.noAck (s : State) : State := { s with tally := { s.tally with ackIn := false } }

/-- What the acknowledge removes is gone (R294). -/
def State.ackTaken (s : State) (ack : Bool) : State := (if ack then s.lockRemove else s).noAck

theorem restorePhase_eq : s.restorePhase = (s.judgeRestores s.tally.ackIn).ackTaken s.tally.ackIn := by
  unfold State.restorePhase State.judgeRestores State.ackTaken
  rfl

theorem keeps_ackTaken : Keeps [.permits, .tally] s (s.ackTaken ack) := by
  have h : Keeps [.permits, .tally] s (if ack then s.lockRemove else s) := by
    split
    · exact (keeps_lockRemove s).mono rfl
    · exact Keeps.refl _ _
  exact h.trans ((keeps_set_tally _ _).mono rfl)

theorem noAck_tally : s.noAck.tally = { s.tally with ackIn := false } := rfl

theorem ackTaken_tally : (s.ackTaken ack).tally = { s.tally with ackIn := false } := by
  rw [State.ackTaken, noAck_tally]
  split
  · rw [(keeps_lockRemove s).same .tally (by decide)]
  · rfl

/-- Every section is judged once, by what the heads show (R236). -/
theorem restorePhase_get : s.restorePhase.sect.get n = judgedSection s s.tally.ackIn n := by
  rw [restorePhase_eq, (keeps_ackTaken _ _).same .sect (by decide), State.judgeRestores]
  obtain ⟨u, ⟨hn, hc, hg, hh⟩, hu, hr⟩ := foldl_allFin_at (view := fun (u : State) n => u.sect.get n)
    (g := fun acc n => acc.judgeRestore s.tally.ackIn n)
    (fun u : State => u.now = s.now ∧ u.cfg = s.cfg ∧ u.hg = s.hg ∧ u.head = s.head)
    (fun u i ⟨h1, h2, h3, h4⟩ => ⟨((keeps_judgeRestore u _ i).same .now (by decide)).trans h1,
      ((keeps_judgeRestore u _ i).same .cfg (by decide)).trans h2, ((keeps_judgeRestore u _ i).same .hg (by decide)).trans h3,
      ((keeps_judgeRestore u _ i).same .head (by decide)).trans h4⟩)
    (fun u i j h => judgeRestore_other u _ i h) (s := s) ⟨rfl, rfl, rfl, rfl⟩ n
  exact hr.trans ((judgeRestore_get u _ n).trans (judgedSection_congr _ n hu hn hc hg hh))

theorem judgeRestore_tally : ∃ l, (s.judgeRestore ack n).tally = { s.tally with restoreRecs := l } := by
  rw [judgeRestore_eq]
  split
  · exact ⟨_, rfl⟩
  · split
    · exact ⟨_, rfl⟩
    · split
      · exact ⟨_, rfl⟩
      · split
        · rw [grantRestore_tally]
          exact ⟨_, rfl⟩
        · exact ⟨_, rfl⟩

theorem restorePhase_tally : ∃ l, s.restorePhase.tally = { s.tally with restoreRecs := l, ackIn := false } := by
  obtain ⟨l, hl⟩ := foldl_restoreRecs (fun u n => judgeRestore_tally u s.tally.ackIn n) (allFin 48) s
  exact ⟨l, by rw [restorePhase_eq, ackTaken_tally, State.judgeRestores, hl]⟩

end

-- phase 5
section
variable (s : State) (n : Fin 48)

/-- What phase 5 makes of a section (R233). -/
def evaluatedSection (s : State) (n : Fin 48) : Section :=
  if (s.sect.get n).unused then s.sect.get n
  else evaluate s.tally.startAt (clearDelay s.cfg.active n.val) (judgedAgain (s.tally.pub.sections.get n).st (s.sect.get n))

theorem evaluateAll_get : s.evaluateAll.sect.get n = evaluatedSection s n := by
  refine foldl_allFin (view := fun (u : State) n => u.sect.get n)
    (F := fun n x => if x.unused then x
      else evaluate s.tally.startAt (clearDelay s.cfg.active n.val) (judgedAgain (s.tally.pub.sections.get n).st x))
    (fun u : State => u.tally = s.tally ∧ u.cfg = s.cfg) ?_ ?_ ?_ ⟨rfl, rfl⟩ n
  · intro u i h
    split
    · exact h
    · exact h
  · rintro u i ⟨ht, hc⟩
    simp only [ht, hc]
    split
    · rfl
    · exact State.updSect_get_self ..
  · intro u i j h
    split
    · rfl
    · exact State.updSect_get_other _ _ h

/-- What the table of R233 does not change of a section. -/
structure Unevaluated (x y : Section) : Prop where
  counts : y.counts = x.counts
  request : y.request = x.request
  reason : y.reason = x.reason
  unused : y.unused = x.unused
  held : y.held = x.held
  provRefs : y.provRefs = x.provRefs
  sweepIn : y.sweepIn = x.sweepIn
  distCause : y.distCause = x.distCause

theorem Unevaluated.refl (x : Section) : Unevaluated x x := ⟨rfl, rfl, rfl, rfl, rfl, rfl, rfl, rfl⟩

theorem unevaluated_evaluate (start delay : Nat) (x : Section) : Unevaluated x (evaluate start delay x) := by
  unfold evaluate
  dsimp only
  split
  · exact ⟨rfl, rfl, rfl, rfl, rfl, rfl, rfl, rfl⟩
  · split
    · split
      · exact ⟨rfl, rfl, rfl, rfl, rfl, rfl, rfl, rfl⟩
      · exact ⟨rfl, rfl, rfl, rfl, rfl, rfl, rfl, rfl⟩
    · exact ⟨rfl, rfl, rfl, rfl, rfl, rfl, rfl, rfl⟩
  · split
    · exact ⟨rfl, rfl, rfl, rfl, rfl, rfl, rfl, rfl⟩
    · exact ⟨rfl, rfl, rfl, rfl, rfl, rfl, rfl, rfl⟩
  · split
    · exact ⟨rfl, rfl, rfl, rfl, rfl, rfl, rfl, rfl⟩
    · split
      · exact ⟨rfl, rfl, rfl, rfl, rfl, rfl, rfl, rfl⟩
      · exact ⟨rfl, rfl, rfl, rfl, rfl, rfl, rfl, rfl⟩
  · split
    · exact ⟨rfl, rfl, rfl, rfl, rfl, rfl, rfl, rfl⟩
    · exact .refl x

theorem judgedAgain_eq (p : SState) (x : Section) : judgedAgain p x = x ∨
    x.st = .clear ∧ judgedAgain p x = { x with st := .clearing } := by
  unfold judgedAgain
  split
  next h => exact .inr ⟨eq_of_beq (Bool.and_eq_true_iff.mp h).1, rfl⟩
  · exact .inl rfl

theorem unevaluated_judgedAgain (p : SState) (x : Section) : Unevaluated x (judgedAgain p x) := by
  rcases judgedAgain_eq p x with h | ⟨-, h⟩
  · rw [h]
    exact .refl x
  · rw [h]
    exact ⟨rfl, rfl, rfl, rfl, rfl, rfl, rfl, rfl⟩

theorem Unevaluated.trans {x y z : Section} (h : Unevaluated x y) (g : Unevaluated y z) : Unevaluated x z :=
  ⟨g.counts.trans h.counts, g.request.trans h.request, g.reason.trans h.reason, g.unused.trans h.unused,
    g.held.trans h.held, g.provRefs.trans h.provRefs, g.sweepIn.trans h.sweepIn, g.distCause.trans h.distCause⟩

theorem unevaluated_evaluatedSection : Unevaluated (s.sect.get n) (evaluatedSection s n) := by
  unfold evaluatedSection
  split
  · exact .refl _
  · exact (unevaluated_judgedAgain _ _).trans (unevaluated_evaluate _ _ _)

/-- A section becomes CLEAR out of CLEARING only, at T0 + CLEAR_DELAY or later, with no axle and not held (R226, R228). -/
theorem evaluate_clear {start delay : Nat} {x : Section} (h : (evaluate start delay x).st = .clear) (hx : x.st ≠ .clear) :
    x.st = .clearing ∧ x.count = 0 ∧ x.held = false ∧ (evaluate start delay x).t0 + ms delay ≤ start := by
  revert h
  unfold evaluate
  dsimp only
  split
  next e => exact fun h => by rw [e] at h; cases h
  next e =>
    split
    · split
      · exact fun h => (nomatch h)
      · exact fun h => (nomatch h)
    · exact fun h => by rw [e] at h; cases h
  next e =>
    split
    · exact fun h => by rw [e] at h; cases h
    · exact fun h => (nomatch h)
  next e =>
    split
    · exact fun h => (nomatch h)
    next hb =>
      split
      next ht =>
        obtain ⟨h1, h2⟩ := Bool.or_eq_false_iff.mp (Bool.eq_false_iff.mpr hb)
        exact fun _ => ⟨e, Nat.eq_zero_of_not_pos (of_decide_eq_false h1), h2, ht⟩
      · exact fun h => by rw [e] at h; cases h
  next e => exact absurd e hx

/-- A section leaves RESTORED-AWAITING-SWEEP by its sweep (R226, R233). -/
theorem evaluate_ras {start delay : Nat} {x : Section} (hx : x.st = .ras) : (evaluate start delay x).st = .ras ∨
    1 ≤ x.sweepIn ∧ x.count = 0 ∧ ((evaluate start delay x).st = .clearing ∨ (evaluate start delay x).st = .occupied) := by
  unfold evaluate
  dsimp only
  rw [hx]
  dsimp only
  split
  next h =>
    obtain ⟨h1, h2⟩ := Bool.and_eq_true_iff.mp h
    refine .inr ⟨of_decide_eq_true h1, of_decide_eq_true h2, ?_⟩
    split
    · exact .inr rfl
    · exact .inl rfl
  · exact .inl rfl

theorem evaluate_disturbed {start delay : Nat} {x : Section} (hx : x.st = .disturbed) :
    (evaluate start delay x).st = .disturbed := by
  unfold evaluate
  dsimp only
  rw [hx]

theorem evaluatedSection_clear (h : (evaluatedSection s n).st = .clear) (hx : (s.sect.get n).st ≠ .clear) :
    (s.sect.get n).st = .clearing ∧ (s.sect.get n).count = 0 ∧ (s.sect.get n).held = false ∧
      (evaluatedSection s n).t0 + ms (clearDelay s.cfg.active n.val) ≤ s.tally.startAt := by
  unfold evaluatedSection at h ⊢
  split at h
  · exact absurd h hx
  next hu =>
    rw [if_neg hu]
    rcases judgedAgain_eq (s.tally.pub.sections.get n).st (s.sect.get n) with hj | ⟨hj, -⟩
    · rw [hj] at h ⊢
      exact evaluate_clear h hx
    · exact absurd hj hx

theorem evaluatedSection_ras (hx : (s.sect.get n).st = .ras) : (evaluatedSection s n).st = .ras ∨
    1 ≤ (s.sect.get n).sweepIn ∧ (s.sect.get n).count = 0 ∧
      ((evaluatedSection s n).st = .clearing ∨ (evaluatedSection s n).st = .occupied) := by
  unfold evaluatedSection
  split
  · exact .inl hx
  · rcases judgedAgain_eq (s.tally.pub.sections.get n).st (s.sect.get n) with hj | ⟨hj, -⟩
    · rw [hj]
      exact evaluate_ras hx
    · rw [hx] at hj
      cases hj

theorem evaluatedSection_disturbed (hx : (s.sect.get n).st = .disturbed) : (evaluatedSection s n).st = .disturbed := by
  unfold evaluatedSection
  split
  · exact hx
  · rcases judgedAgain_eq (s.tally.pub.sections.get n).st (s.sect.get n) with hj | ⟨hj, -⟩
    · rw [hj]
      exact evaluate_disturbed hx
    · rw [hx] at hj
      cases hj

end

-- phase 6
section
variable (s : State) (n : Fin 48)

theorem noteHeadDist_get : ∃ b, s.noteHeadDist.sect.get n = { s.sect.get n with headDist := b } := by
  refine ⟨(boundingHeads s.cfg.active n).any (headDisturbed s), ?_⟩
  exact foldl_allFin (view := fun (u : State) n => u.sect.get n)
    (F := fun n x => { x with headDist := (boundingHeads s.cfg.active n).any (headDisturbed s) }) (fun _ => True)
    (fun _ _ _ => trivial) (fun u i _ => State.updSect_get_self u i _) (fun u i j h => State.updSect_get_other u _ h) trivial n

/-- What is published, with the records of the cycle and the refresh (R221). -/
def State.cyclePublished (s : State) (l : List TallyItem) (trip : Bool) : State :=
  let s2 := (s.provLoads.noteHeadDist.trackRecords l).headRecords
  ((allFin 48).foldl (fun acc n => acc.sectionRecords n) s2).ackRecords.publish.refreshPhase trip

/-- The fields of the running cycle start anew. -/
def State.freshSections (s : State) : State := { s with sect := Vector.map freshCycle s.sect }

theorem freshSections_get : s.freshSections.sect.get n = freshCycle (s.sect.get n) := Tab.get_map _ _ _

theorem tallyPublish_eq (l : List TallyItem) (trip : Bool) :
    s.tallyPublish l trip = (s.cyclePublished l trip).freshSections := rfl

theorem keeps_records (l : List TallyItem) :
    Keeps [.tally, .log] s ((allFin 48).foldl (fun acc n => acc.sectionRecords n) ((s.trackRecords l).headRecords)).ackRecords := by
  have h1 : Keeps [.tally, .log] s (s.trackRecords l).headRecords :=
    ((keeps_trackRecords s l).mono rfl).trans (keeps_headRecords _)
  exact (h1.trans ((Keeps.foldl_mem _ (fun acc n _ => keeps_sectionRecords acc n) _).mono rfl)).trans (keeps_ackRecords _)

theorem keeps_cyclePublished (l : List TallyItem) (trip : Bool) :
    Keeps [.tally, .trk, .permits, .engine, .twin, .log] s.provLoads.noteHeadDist (s.cyclePublished l trip) :=
  (((keeps_records _ l).mono rfl).trans ((keeps_publish _).mono rfl)).trans ((keeps_refreshPhase _ trip).mono rfl)

theorem tallyPublish_get (l : List TallyItem) (trip : Bool) :
    ∃ b, (s.tallyPublish l trip).sect.get n = freshCycle { s.sect.get n with headDist := b } := by
  obtain ⟨b, hb⟩ := noteHeadDist_get s.provLoads n
  refine ⟨b, ?_⟩
  rw [tallyPublish_eq, freshSections_get, (keeps_cyclePublished s l trip).same .sect (by decide), hb,
    (keeps_provLoads s).same .sect (by decide)]

end
end Sys2Proof.Machine

/-! SUPPORT. A section in a whole Tally cycle, with O30 (R20, R222, R223). -/

namespace Sys2Proof.Machine

section
variable (s : State) (d : Int) (n : Fin 48)

/-- A cycle starts. -/
def State.cycleAt (s : State) (t : Nat) : State :=
  { s.reach t with tally := { (s.reach t).tally with startAt := t } }

/-- The cycle after phase 5. -/
def State.cycleJudged (s : State) (d : Int) (t : Nat) : State := ((s.cycleAt t).tallyTake d).restorePhase.evaluateAll

theorem tallyCycle_eq {t : Nat} (ht : nextFrom (ms 1) s.power.bootAt s.now s.tally.startAt = t) : tallyCycle d s =
    (s.cycleJudged d t).tallyPublish (s.cycleAt t).tally.inbox
      (((s.cycleAt t).tallyTake d).tally.tripTaken && !(s.cycleAt t).tally.tripTaken) := by
  unfold tallyCycle State.cycleJudged
  extract_lets t0 s0 _ s1 trip0 s2 s3
  have h : t0 = t := ht
  clear_value t0
  subst h
  have e1 : s1 = s.cycleAt t0 := rfl
  have e2 : s2 = s1.tallyTake d := rfl
  have e3 : s3 = s2.restorePhase.evaluateAll := rfl
  have e4 : trip0 = s1.tally.tripTaken := rfl
  clear_value s3 trip0 s2 s1
  rw [e3, e4, e2, e1]

theorem keeps_cycleAt (t : Nat) : Keeps [.now, .tally] s (s.cycleAt t) :=
  ((keeps_reach s t).mono rfl).trans ((keeps_set_tally _ _).mono rfl)

theorem cycleAt_tally (t : Nat) : (s.cycleAt t).tally = { s.tally with startAt := t } := by
  rw [← State.reach_tally s t]
  rfl

theorem cycleAt_now (t : Nat) : (s.cycleAt t).now = Nat.max s.now t := State.reach_now s t

theorem allHeld_tally (u : State) : u.allHeld.tally = u.tally := rfl
theorem allDisturbed_tally (u : State) : u.allDisturbed.tally = u.tally := rfl

theorem tallyTake_tally : (s.tallyTake d).tally = (s.cycleTaken d).tally := by
  rw [tallyTake_eq, allDisturbed_tally, State.cycleCounted, (keeps_takeHeads _).same .tally (by decide), allHeld_tally,
    cycleAxles_tally]

theorem tallyTake_ackIn : (s.tallyTake d).tally.ackIn = s.tally.ackIn := by
  obtain ⟨r, e, hr⟩ := cycleTaken_tally s d
  rw [tallyTake_tally, hr]
  exact (congrArg Tally.ackIn (cycleGuarded_told s d).1 :)

/-- A section before phase 5. -/
theorem restored_get (t : Nat) : ((s.cycleAt t).tallyTake d).restorePhase.sect.get n =
    judgedSection ((s.cycleAt t).tallyTake d) s.tally.ackIn n := by
  rw [restorePhase_get, tallyTake_ackIn, cycleAt_tally]

/-- A section after a Tally cycle: judged, and taken through the table of its states (R233). -/
theorem tallyCycle_get {t : Nat} (ht : nextFrom (ms 1) s.power.bootAt s.now s.tally.startAt = t) :
    ∃ b, (tallyCycle d s).sect.get n =
      freshCycle { evaluatedSection ((s.cycleAt t).tallyTake d).restorePhase n with headDist := b } := by
  rw [tallyCycle_eq s d ht]
  obtain ⟨b, hb⟩ := tallyPublish_get (s.cycleJudged d t) n (s.cycleAt t).tally.inbox
    (((s.cycleAt t).tallyTake d).tally.tripTaken && !(s.cycleAt t).tally.tripTaken)
  refine ⟨b, hb.trans ?_⟩
  rw [State.cycleJudged, evaluateAll_get]

theorem judged_counts (ack : Bool) (h : ack = false) : (judgedSection s ack n).counts = (s.sect.get n).counts := by
  unfold judgedSection
  dsimp only
  rw [h]
  split
  · rfl
  · split
    · rfl
    · rfl

theorem raiseBits_counts (b : BitVec 8) (x : Section) : (raiseBits b x).counts = x.counts := rfl
theorem markHeld_counts (x : Section) : (markHeld x).counts = x.counts := rfl
theorem fresh_counts (x : Section) (b : Bool) : (freshCycle { x with headDist := b }).counts = x.counts := rfl

theorem takenSection_counts (t : Nat) :
    (((s.cycleAt t).tallyTake d).sect.get n).counts = (((s.cycleAt t).cycleAxles d).sect.get n).counts := by
  rw [tallyTake_get, (disturb_kept _).1, cycleCounted_get, raiseBits_counts, markHeld_counts]

/-- Without an acknowledge the counts of a section are those of phase 2 (R222). -/
theorem tallyCycle_counts {t : Nat} (ht : nextFrom (ms 1) s.power.bootAt s.now s.tally.startAt = t)
    (ha : s.tally.ackIn = false) :
    ((tallyCycle d s).sect.get n).counts = (((s.cycleAt t).cycleAxles d).sect.get n).counts := by
  obtain ⟨b, hb⟩ := tallyCycle_get s d n ht
  rw [hb, ← takenSection_counts, fresh_counts, (unevaluated_evaluatedSection _ n).counts, restored_get, judged_counts _ n _ ha]

/-- The one confirmed axle that a cycle takes (R223). -/
theorem crossedOf_single (u : State) (h : Fin 32) (v : VerdictRec) (e : Option (Fin 128)) (x g : Nat) (a b : Option (Fin 48)) :
    crossedOf u [TallyItem.confirmed h v e x g a b] =
      [{ at_ := pastGrid u v.exitTime, head := h, fromSec := a, toSec := b }] := rfl

theorem cycleAxles_single {h : Fin 32} {v : VerdictRec} {e : Option (Fin 128)} {x g : Nat} {a b : Option (Fin 48)}
    (hi : s.tally.inbox = [TallyItem.confirmed h v e x g a b]) : ∃ i : Nat, (s.cycleAxles d).sect =
      ((s.cycleTaken d).countAxle { at_ := i, head := h, fromSec := a, toSec := b }).sect :=
  ⟨pastGrid (s.cycleTaken d) v.exitTime, by rw [State.cycleAxles, hi, crossedOf_single, countPhase_sect]; rfl⟩

theorem countExit_counts {i : Nat} {x : Section} (hc : 0 < x.count) :
    (countExit i x).counts = (x.count - 1, x.countIn, satInc32 x.countOut) := by
  unfold countExit
  dsimp only
  rw [if_neg (Nat.ne_of_gt hc)]
  rfl

theorem countEntry_counts {x : Section} (hc : x.count < 4095) :
    (countEntry x).counts = (x.count + 1, satInc32 x.countIn, x.countOut) := by
  unfold countEntry
  dsimp only
  rw [if_neg (Nat.not_le.mpr hc)]
  rfl

/-- Both counts of one axle (R20, R222). -/
theorem countAxle_counts {i : Nat} {h : Fin 32} {a b : Fin 48} (hab : a ≠ b) (ha : 0 < (s.sect.get a).count)
    (hb : (s.sect.get b).count < 4095) (t : State)
    (ht : t.sect = (s.countAxle { at_ := i, head := h, fromSec := some a, toSec := some b }).sect) :
    (t.sect.get a).counts = ((s.sect.get a).count - 1, (s.sect.get a).countIn, satInc32 (s.sect.get a).countOut) ∧
    (t.sect.get b).counts = ((s.sect.get b).count + 1, satInc32 (s.sect.get b).countIn, (s.sect.get b).countOut) ∧
    ∀ k, k ≠ a → k ≠ b → t.sect.get k = s.sect.get k := by
  have hx (k : Fin 48) : t.sect.get k = ((s.updSect a (countExit i)).updSect b countEntry).sect.get k := by rw [ht]; rfl
  refine ⟨?_, ?_, fun k h1 h2 => ?_⟩
  · rw [hx, State.updSect_get_other _ _ hab, State.updSect_get_self, countExit_counts ha]
  · rw [hx, State.updSect_get_self, State.updSect_get_other _ _ hab.symm, countEntry_counts hb]
  · rw [hx, State.updSect_get_other _ _ h2, State.updSect_get_other _ _ h1]

theorem counted_of_counts {x : Section} {a b c : Nat} (h : x.counts = (a, b, c)) : x.count = a ∧ x.countIn = b ∧ x.countOut = c := by
  cases h
  exact ⟨rfl, rfl, rfl⟩

theorem finish_sendChanged_sect (u : State) : u.sendChanged.finish.sect = u.sect :=
  (State.finish_sect _).trans ((keeps_sendChanged u).same .sect (by decide))

end

/-- Settles O30: up to phase 2 no count has changed, one axle changes two, and no later phase changes one without an
acknowledge. -/
theorem confirmedAxleCounts : Obligations.ConfirmedAxleCounts := by
  unfold Obligations.ConfirmedAxleCounts
  intro s d h v e x g a b ha hab hk hi h0 h1
  refine runs_whenAlive (f := fun s => (tallyCycle d s).sendChanged) rfl ha ?_
  rw [finish_sendChanged_sect]
  generalize ht : nextFrom (ms 1) s.begin.power.bootAt s.begin.now s.begin.tally.startAt = t
  have hcyc (k : Fin 48) := tallyCycle_counts s.begin d k ht hk
  have hpre (k : Fin 48) : (((s.begin.cycleAt t).cycleTaken d).sect.get k).counts = (s.sect.get k).counts := by
    refine ((sections_cycleTaken _ d k).2).trans ?_
    rw [(keeps_cycleAt s.begin t).same .sect (by decide)]
    rfl
  obtain ⟨i, hs⟩ := cycleAxles_single (s.begin.cycleAt t) d (by rw [cycleAt_tally]; exact hi)
  obtain ⟨pa, -, pa'⟩ := counted_of_counts (hpre a)
  obtain ⟨pb, pb', -⟩ := counted_of_counts (hpre b)
  obtain ⟨ca, cb, co⟩ := countAxle_counts _ hab (by rw [pa]; exact h0) (by rw [pb]; exact h1) _ hs
  obtain ⟨ra, -, ra'⟩ := counted_of_counts ((hcyc a).trans ca)
  obtain ⟨rb, rb', -⟩ := counted_of_counts ((hcyc b).trans cb)
  refine ⟨?_, ?_, ?_, ?_, fun k hka hkb => ?_⟩
  · rw [ra, pa]
    exact Nat.sub_add_cancel h0
  · rw [rb, pb]
  · rw [ra', pa']
  · rw [rb', pb']
  · have hk := hcyc k
    rw [co k hka hkb, hpre k] at hk
    exact congrArg Prod.fst hk

end Sys2Proof.Machine

/-! SUPPORT. What the publication of a Tally cycle leaves of Tally (R221, R239, R244). -/

namespace Sys2Proof.Machine

section
variable (s : State)

-- the records of a cycle
/-- The state whose records have been created. -/
def State.cycleRecorded (s : State) (l : List TallyItem) : State :=
  ((allFin 48).foldl (fun acc n => acc.sectionRecords n) ((s.provLoads.noteHeadDist.trackRecords l).headRecords)).ackRecords

theorem cyclePublished_eq (l : List TallyItem) (trip : Bool) :
    s.cyclePublished l trip = (s.cycleRecorded l).publish.refreshPhase trip := rfl

theorem keeps_cycleRecorded (l : List TallyItem) : Keeps [.tally, .log] s.provLoads.noteHeadDist (s.cycleRecorded l) :=
  keeps_records _ l

theorem noteHead_tally (h : Fin 32) : ∃ sh hi, (s.noteHead h).tally = { s.tally with shown := sh, headIn := hi } := by
  unfold State.noteHead
  dsimp only
  split
  · exact ⟨_, _, rfl⟩
  · exact ⟨_, _, rfl⟩

theorem noteHeads_tally (l : List (Fin 32)) :
    ∃ sh hi, (l.foldl (fun acc h => acc.noteHead h) s).tally = { s.tally with shown := sh, headIn := hi } := by
  induction l generalizing s with
  | nil => exact ⟨_, _, rfl⟩
  | cons a l ih =>
    obtain ⟨sh, hi, h⟩ := ih (s.noteHead a)
    obtain ⟨sh', hi', h'⟩ := noteHead_tally s a
    exact ⟨sh, hi, by rw [List.foldl_cons, h, h']⟩

/-- No HEAD record waits any more. -/
def State.noHeadRecords (s : State) : State := { s with tally := { s.tally with headIn := [] } }

/-- The heads are noted, with the records that this makes. -/
def State.headsNoted (s : State) : State := (allFin 32).foldl (fun acc h => acc.noteHead h) s

def State.recordHeads (s : State) : State := s.tally.headIn.foldl (fun acc b => acc.record 0x21 b) s

theorem headRecords_eq : s.headRecords = s.headsNoted.recordHeads.noHeadRecords := by
  unfold State.headRecords
  extract_lets s1 s2
  have e1 : s1 = s.headsNoted := rfl
  have e2 : s2 = s1.recordHeads := rfl
  clear_value s2 s1
  rw [← e1, ← e2]
  rfl

theorem keeps_recordHeads : Keeps [.log] s s.recordHeads := Keeps.foldl_mem _ (fun acc b _ => keeps_record acc 0x21 b) s

theorem noHeadRecords_tally : s.noHeadRecords.tally = { s.tally with headIn := [] } := rfl

theorem headRecords_tally : ∃ sh, s.headRecords.tally = { s.tally with shown := sh, headIn := [] } := by
  obtain ⟨sh, hi, h⟩ := noteHeads_tally s (allFin 32)
  exact ⟨sh, by rw [headRecords_eq, noHeadRecords_tally, (keeps_recordHeads _).same .tally (by decide), State.headsNoted, h]⟩

/-- No ACK record waits any more. -/
def State.noAckEvents (s : State) : State := { s with tally := { s.tally with ackEvents := [] } }

def State.recordAcks (s : State) : State := s.tally.ackEvents.foldl (fun acc e =>
  acc.record 0x29 (leBytes 1 e.event ++ leBytes 2 e.press ++ originBytes e.by_)) s

theorem ackRecords_eq : s.ackRecords = s.recordAcks.noAckEvents := rfl

theorem noAckEvents_tally : s.noAckEvents.tally = { s.tally with ackEvents := [] } := rfl

theorem keeps_recordAcks : Keeps [.log] s s.recordAcks := Keeps.foldl_mem _ (fun acc _ _ => keeps_record acc 0x29 _) s

theorem ackRecords_tally : s.ackRecords.tally = { s.tally with ackEvents := [] } := by
  rw [ackRecords_eq, noAckEvents_tally, (keeps_recordAcks s).same .tally (by decide)]

theorem cycleRecorded_tally (l : List TallyItem) :
    ∃ sh, (s.cycleRecorded l).tally = { s.tally with shown := sh, headIn := [], ackEvents := [] } := by
  obtain ⟨sh, h⟩ := headRecords_tally (s.provLoads.noteHeadDist.trackRecords l)
  refine ⟨sh, ?_⟩
  have hr := (Keeps.foldl_mem (allFin 48) (fun acc n _ => keeps_sectionRecords acc n)
    (s.provLoads.noteHeadDist.trackRecords l).headRecords).same .tally (by decide)
  rw [State.cycleRecorded, ackRecords_tally, hr, h, (keeps_trackRecords _ l).same .tally (by decide),
    (keeps_noteHeadDist _).same .tally (by decide), (keeps_provLoads s).same .tally (by decide)]

-- the refresh
/-- What the drop tests, readback faults and stalls of a cycle were has been taken. -/
def State.refreshTaken (s : State) : State :=
  { s with tally := { s.tally with dropIn := 0#16, readbackIn := 0#16, stallIn := false } }

/-- The refresh of a cycle (R272). -/
def refreshOf (s : State) (trip : Bool) : Refresh :=
  { cond := permitBits (permitCondition (s.lockPhase trip)), force := forceMask s trip, test := s.tally.dropIn }

theorem refreshPhase_eq (trip : Bool) : s.refreshPhase trip =
    (((s.lockPhase trip).permitRecords (refreshOf s trip)).holdPermit (.refresh (refreshOf s trip))).refreshTaken := by
  unfold State.refreshPhase
  extract_lets s1 r s2
  have e1 : s1 = s.lockPhase trip := rfl
  have e2 : r = refreshOf s trip := rfl
  have e3 : s2 = (s1.permitRecords r).holdPermit (.refresh r) := rfl
  clear_value s2 r s1
  rw [← e1, ← e2, ← e3]
  rfl

theorem keeps_refreshPrepared (trip : Bool) :
    Keeps [.permits, .log] s ((s.lockPhase trip).permitRecords (refreshOf s trip)) :=
  ((keeps_lockPhase s trip).mono rfl).trans ((keeps_permitRecords _ _).mono rfl)

theorem refreshTaken_tally :
    s.refreshTaken.tally = { s.tally with dropIn := 0#16, readbackIn := 0#16, stallIn := false } := rfl

theorem refreshPhase_tally (trip : Bool) : (s.refreshPhase trip).tally =
    { s.tally with dropIn := 0#16, readbackIn := 0#16, stallIn := false } := by
  rw [refreshPhase_eq, refreshTaken_tally, (keeps_holdPermit _ _).same .tally (by decide),
    (keeps_refreshPrepared s trip).same .tally (by decide)]

-- the publication
/-- What a cycle publishes (R239, R244, R267). -/
def publishedNow (s : State) : Published :=
  { sections := s.sect, tracker := s.trk, untracked := Vector.map (untrackedOf s) (Vector.finRange 48)
    claimTies := headMap (fun h => (s.head.get h).claimTie), cycles := (s.tally.cycles + 1) % 2 ^ 32, any := true }

theorem publish_tally : s.publish.tally = { s.tally with
    cycles := (s.tally.cycles + 1) % 2 ^ 32, allRecords := false, restoreRecs := [], pub := publishedNow s } := rfl

theorem tallyPublish_tally (l : List TallyItem) (trip : Bool) : ∃ sh, (s.tallyPublish l trip).tally = { s.tally with
    shown := sh, headIn := [], ackEvents := [], cycles := (s.tally.cycles + 1) % 2 ^ 32, allRecords := false
    restoreRecs := [], pub := publishedNow (s.cycleRecorded l), dropIn := 0#16, readbackIn := 0#16, stallIn := false } := by
  obtain ⟨sh, h⟩ := cycleRecorded_tally s l
  refine ⟨sh, ?_⟩
  have ht : (s.tallyPublish l trip).tally = (s.cyclePublished l trip).tally := rfl
  rw [ht, cyclePublished_eq, refreshPhase_tally, publish_tally, h]

end

section
variable (s : State) (d : Int)

/-- Tally after phase 5. -/
theorem cycleJudged_tally (t : Nat) : ∃ r, (s.cycleJudged d t).tally =
    { ((s.cycleAt t).cycleTaken d).tally with restoreRecs := r, ackIn := false } := by
  obtain ⟨r, h⟩ := restorePhase_tally ((s.cycleAt t).tallyTake d)
  exact ⟨r, by rw [State.cycleJudged, (keeps_evaluateAll _).same .tally (by decide), h, tallyTake_tally]⟩

end
end Sys2Proof.Machine

/-! SUPPORT. Relations that losses of power, resets, boots and wakes keep (R32, R46, R48, R54, R56, R57). -/

namespace Sys2Proof.Machine

-- relations of the sections and the permits across losses of power and boots
/-- A relation that holds where neither the sections nor the permits change, across the loss of the volatile state and
across a boot. -/
structure PowerRel (R : State → State → Prop) : Prop where
  trans : ∀ {s t u : State}, R s t → R t u → R s u
  keeps : ∀ {l : List Part} {s t : State}, Keeps l s t → misses [.sect, .permits] l = true → R s t
  lost : ∀ (s : State) (p : Phase), R s (s.volatileLost p)
  boot : ∀ s : State, R s s.boot

section
variable {R : State → State → Prop} (hR : PowerRel R)
include hR

theorem PowerRel.refl (s : State) : R s s := hR.keeps (Keeps.refl [] s) rfl

theorem PowerRel.enterReset (s : State) : R s s.enterReset := by
  have h := hR.lost s .inReset
  unfold State.enterReset
  extract_lets s0 s1
  split
  · exact hR.trans h (hR.keeps (keeps_set_term s0 s.term) rfl)
  · exact hR.trans (hR.trans h (hR.keeps (keeps_excReset s0) rfl)) (hR.keeps (keeps_set_twin s1 _) rfl)

theorem PowerRel.addLatch (s : State) (b : BitVec 6) : R s (s.addLatch b) := hR.keeps (keeps_addLatch s b) rfl
theorem PowerRel.updPower (s : State) (f : Power → Power) : R s (s.updPower f) := hR.keeps (keeps_updPower s f) rfl

theorem PowerRel.resetnLow (s : State) : R s (Machine.resetnLow s) := by
  unfold Machine.resetnLow
  extract_lets s1
  have h : R s s1 := hR.updPower s _
  split
  · exact h
  · exact hR.trans (hR.trans h (hR.enterReset s1)) (hR.addLatch _ _)

theorem PowerRel.latchLost (s : State) : R s s.latchLost := by
  unfold State.latchLost
  extract_lets s1
  have h : R s s1 := hR.trans (hR.updPower s _) (hR.lost _ .unpowered)
  exact hR.trans h (hR.keeps (keeps_set_twin s1 _) rfl)

theorem PowerRel.brownout (r : RailDrop) (s : State) : R s (Machine.brownout r s) := by
  unfold Machine.brownout
  split
  · extract_lets s1 s2
    have h1 : R s s1 := hR.updPower s _
    have h2 : R s1 s2 := hR.trans (hR.trans (hR.enterReset s1) (hR.addLatch _ _)) (hR.addLatch _ _)
    split
    · exact hR.trans h1 (hR.latchLost s1)
    · split
      · exact h1
      · split
        · exact hR.trans (hR.trans h1 h2) (hR.keeps (keeps_switchesOpen s2) rfl)
        · exact hR.trans h1 h2
  · exact hR.refl s

theorem PowerRel.bootRow (s : State) : R s (Machine.boot s) := by
  unfold Machine.boot
  split
  · exact hR.boot s
  · exact hR.updPower s _

theorem PowerRel.beginBoot (s : State) (b : Bool) : R s (s.beginBoot b) := by
  unfold State.beginBoot
  split
  · exact hR.addLatch s _
  · split
    · exact hR.bootRow s
    · exact hR.keeps (keeps_bootPllLockTimeout s) rfl

theorem PowerRel.supplyRelease (b : Bool) (s : State) : R s (Machine.supplyRelease b s) := by
  unfold Machine.supplyRelease
  extract_lets s1
  have h1 : R s s1 := hR.updPower s _
  have hb : R s ((s1.updPower (fun p => { p with phase := .inReset })).beginBoot b) :=
    hR.trans (hR.trans h1 (hR.updPower s1 _)) (hR.beginBoot _ b)
  have he : R s (if entered s then s1 else s) := by
    split
    · exact h1
    · exact hR.refl s
  cases s.power.phase with
  | unpowered => exact hb
  | inReset => exact hb
  | hibernate => exact h1
  | running => exact he
  | stopped => exact he
  | clockHeld => exact he
  | debugHalted => exact he

theorem PowerRel.wakeUp (s : State) (b : Bool) : R s (s.wakeUp b) := by
  unfold State.wakeUp
  extract_lets s1
  have h1 : R s s1 := hR.addLatch s _
  generalize ht : s1.now + ms 2 = t
  exact hR.trans (hR.trans (hR.trans h1 (hR.keeps (keeps_reach s1 t) rfl)) (hR.updPower _ _)) (hR.beginBoot _ b)

theorem PowerRel.endEntry (s : State) : R s s.endEntry := by
  unfold State.endEntry
  generalize s.power.entryAt + entryNs = t
  exact hR.trans (hR.trans (hR.keeps (keeps_reach s t) rfl) (hR.lost _ .hibernate)) (hR.updPower _ _)

theorem PowerRel.settleEntry (s : State) : R s s.settleEntry := by
  unfold State.settleEntry
  split
  · extract_lets s1
    have h1 : R s s1 := hR.endEntry s
    clear_value s1
    split
    · exact hR.trans h1 (hR.wakeUp s1 _)
    · exact h1
  · exact hR.refl s

theorem PowerRel.latchWake (s : State) (b : Bool) : R s (s.latchWake b) := hR.updPower s _

theorem PowerRel.wake (b : Bool) (s : State) : R s (Machine.wake b s) := by
  unfold Machine.wake
  extract_lets s0
  have h0 : R s s0 := hR.settleEntry s
  clear_value s0
  split
  · split
    · exact hR.trans h0 (hR.wakeUp s0 b)
    · exact h0
  · split
    · exact hR.trans h0 (hR.latchWake s0 b)
    · exact h0

theorem PowerRel.stbynRise (w b : Bool) (s : State) : R s (Machine.stbynRise w b s) := by
  unfold Machine.stbynRise
  extract_lets s0 s1
  have h0 : R s s0 := hR.settleEntry s
  have h1 : R s0 s1 := hR.updPower s0 _
  clear_value s1 s0
  split
  · split
    · exact hR.trans (hR.trans h0 h1) (hR.wakeUp s1 b)
    · split
      · exact hR.trans (hR.trans h0 h1) (hR.latchWake s1 b)
      · exact hR.trans h0 h1
  · exact hR.trans h0 h1

theorem PowerRel.hibernateSupplyLoss (s : State) : R s (Machine.hibernateSupplyLoss s) := by
  unfold Machine.hibernateSupplyLoss
  split
  · exact hR.trans (hR.updPower s _) (hR.latchLost _)
  · exact hR.refl s

theorem PowerRel.run {f : State → State} (hf : ∀ u, R u (f u)) {s t : State} (h : run s f = .next t) : R s t := by
  unfold Machine.run at h
  cases h
  exact hR.trans (hR.trans (hR.keeps (keeps_begin s) rfl) (hf _)) (hR.keeps (keeps_finish _) rfl)

theorem PowerRel.whenAlive {f : State → State} (hf : ∀ u, R u (f u)) (u : State) : R u (u.whenAlive f) := by
  unfold State.whenAlive
  split
  · exact hf u
  · exact hR.refl u

/-- The rows of the supplies and of reset (R32, R46, R48, R54, R56, R57). -/
theorem PowerRel.powerRow {c : Instr} {s t : State} (h : exec c s = .next t)
    (hc : c = .resetnLow ∨ (∃ r, c = .brownout r) ∨ c = .hibernateSupplyLoss ∨ (∃ b, c = .wake b) ∨
      (∃ w b, c = .stbynRiseWake w b) ∨ (∃ b, c = .supplyRelease b) ∨ c = .boot) : R s t := by
  rcases hc with rfl | ⟨r, rfl⟩ | rfl | ⟨b, rfl⟩ | ⟨w, b, rfl⟩ | ⟨b, rfl⟩ | rfl
  · exact hR.run (fun u => hR.trans (hR.settleEntry u) (hR.resetnLow _)) h
  · exact hR.run (fun u => hR.trans (hR.settleEntry u) (hR.brownout r _)) h
  · exact hR.run (fun u => hR.trans (hR.settleEntry u) (hR.hibernateSupplyLoss _)) h
  · exact hR.run (hR.wake b) h
  · exact hR.run (hR.stbynRise w b) h
  · exact hR.run (fun u => hR.trans (hR.settleEntry u) (hR.supplyRelease b _)) h
  · exact hR.run (fun u => hR.trans (hR.settleEntry u) (hR.bootRow _)) h

end
end Sys2Proof.Machine

/-! SUPPORT. The states of a section through a Tally cycle and through every other command, with O31 (R226 to R228, R233,
R236). -/

namespace Sys2Proof.Machine

-- the judgement of a restore
section
variable (s : State) (ack : Bool) (n : Fin 48)

/-- Phase 4 leaves a section in its state, or grants its restore (R233, R235). -/
theorem judgedSection_st : (∃ r k, judgedSection s ack n = (s.sect.get n).answered r k) ∨
    judgedSection s ack n = s.sect.get n ∨ judgedSection s ack n = (granted (s.sect.get n)).answered .granted 0 := by
  unfold judgedSection
  dsimp only
  split
  · exact .inr (.inl rfl)
  · split
    · exact .inl ⟨_, _, rfl⟩
    · split
      · exact .inr (.inl rfl)
      · split
        · exact .inr (.inr rfl)
        · exact .inl ⟨_, _, rfl⟩

end

section
variable (s : State) (d : Int) (n : Fin 48)

theorem markHeld_provRefs {b : BitVec 8} {x : Section} (h : (raiseBits b (markHeld x)).held = false) :
    (raiseBits b (markHeld x)).provRefs = 0 :=
  Nat.eq_zero_of_not_pos (of_decide_eq_false (Bool.or_eq_false_iff.mp h).1)

/-- A section that is not held has no reference (R227). -/
theorem taken_provRefs (h : ((s.tallyTake d).sect.get n).held = false) : ((s.tallyTake d).sect.get n).provRefs = 0 := by
  obtain ⟨-, -, -, -, hh, hp⟩ := disturb_kept ((s.cycleCounted d).sect.get n)
  rw [tallyTake_get, hh, cycleCounted_get] at h
  rw [tallyTake_get, hp, cycleCounted_get]
  exact markHeld_provRefs h

theorem taken_st : ((s.tallyTake d).sect.get n).st = (s.sect.get n).st ∨ ((s.tallyTake d).sect.get n).st = .disturbed := by
  rw [tallyTake_get, ← (follows_cycle s d n).st]
  exact disturb_st _

/-- How the state of a section follows from its state before (R226, R233): `r` after the cycle that starts at `at_`. -/
structure SectionMoves (x r : Section) (delay at_ : Nat) : Prop where
  clear : r.st = .clear → x.st ≠ .clear →
    x.st = .clearing ∧ r.count = 0 ∧ r.provRefs = 0 ∧ r.held = false ∧ r.t0 + ms delay ≤ at_
  ras : x.st = .ras → r.st = .ras ∨ r.st = .disturbed ∨
    1 ≤ r.sweepIn ∧ r.count = 0 ∧ (r.st = .clearing ∨ r.st = .occupied)
  disturbed : x.st = .disturbed → r.st = .disturbed ∨ r.st = .ras ∧ r.rstate = .granted

theorem SectionMoves.of_eq {x y r r' : Section} {delay at_ : Nat} (h : SectionMoves x r delay at_) (hx : y.st = x.st)
    (hr : r'.st = r.st ∧ r'.count = r.count ∧ r'.provRefs = r.provRefs ∧ r'.held = r.held ∧ r'.t0 = r.t0 ∧
      r'.sweepIn = r.sweepIn ∧ r'.rstate = r.rstate) : SectionMoves y r' delay at_ := by
  obtain ⟨h1, h2, h3, h4, h5, h6, h7⟩ := hr
  refine ⟨fun a b => ?_, fun a => ?_, fun a => ?_⟩
  · rw [hx, h2, h3, h4, h5]
    exact h.clear (h1 ▸ a) (hx ▸ b)
  · rw [h1, h2, h6]
    exact h.ras (hx ▸ a)
  · rw [h1, h7]
    exact h.disturbed (hx ▸ a)

theorem unevaluated_counts {x y : Section} (h : Unevaluated x y) : y.count = x.count ∧ y.rstate = x.rstate :=
  ⟨(congrArg Prod.fst h.counts :), (congrArg Prod.fst h.request :)⟩

/-- From the end of phase 3 on: `w` is the section after phase 4. -/
theorem moves_evaluated {q : State} {z : Section} (hz : z.held = false → z.provRefs = 0)
    (hw : (∃ r k, q.sect.get n = z.answered r k) ∨ q.sect.get n = z ∨ q.sect.get n = (granted z).answered .granted 0) :
    SectionMoves z (evaluatedSection q n) (clearDelay q.cfg.active n.val) q.tally.startAt := by
  have hu := unevaluated_evaluatedSection q n
  obtain ⟨huc, hur⟩ := unevaluated_counts hu
  have kept (hst : (q.sect.get n).st = z.st) (hh : (q.sect.get n).held = z.held)
      (hp : (q.sect.get n).provRefs = z.provRefs) :
      SectionMoves z (evaluatedSection q n) (clearDelay q.cfg.active n.val) q.tally.startAt := by
    refine ⟨fun h hne => ?_, fun h => ?_, fun h => ?_⟩
    · obtain ⟨c1, c2, c3, c4⟩ := evaluatedSection_clear q n h (hst ▸ hne)
      exact ⟨hst ▸ c1, huc.trans c2, hu.provRefs.trans (hp.trans (hz (hh ▸ c3))), hu.held.trans c3, c4⟩
    · rw [hu.sweepIn, huc]
      exact (evaluatedSection_ras q n (hst.trans h)).imp_right .inr
    · exact .inl (evaluatedSection_disturbed q n (hst.trans h))
  rcases hw with ⟨r, k, hw⟩ | hw | hw
  · exact kept (by rw [hw]; rfl) (by rw [hw]; rfl) (by rw [hw]; rfl)
  · exact kept (by rw [hw]) (by rw [hw]) (by rw [hw])
  · have hras : (q.sect.get n).st = .ras := by rw [hw]; rfl
    have hsw : ¬1 ≤ (q.sect.get n).sweepIn := by rw [hw]; exact Nat.not_succ_le_zero 0
    have hst : (evaluatedSection q n).st = .ras :=
      (evaluatedSection_ras q n hras).resolve_right fun h => hsw h.1
    refine ⟨fun h => ?_, fun _ => .inl hst, fun _ => .inr ⟨hst, ?_⟩⟩
    · rw [hst] at h
      cases h
    · rw [hur, hw]
      rfl

/-- A Tally cycle takes a section through the table of R233. -/
theorem tallyCycle_moves {t : Nat} (ht : nextFrom (ms 1) s.power.bootAt s.now s.tally.startAt = t) :
    SectionMoves (s.sect.get n) ((tallyCycle d s).sect.get n) (clearDelay s.cfg.active n.val) t := by
  obtain ⟨b, hb⟩ := tallyCycle_get s d n ht
  have hz := taken_provRefs (s.cycleAt t) d n
  have hst := taken_st (s.cycleAt t) d n
  have hw := judgedSection_st ((s.cycleAt t).tallyTake d) s.tally.ackIn n
  rw [← restored_get s d n t] at hw
  rw [(keeps_cycleAt s t).same .sect (by decide)] at hst
  have hc : ((s.cycleAt t).tallyTake d).restorePhase.cfg = s.cfg := by
    rw [(keeps_restorePhase _).same .cfg (by decide), (keeps_tallyTake _ d).same .cfg (by decide),
      (keeps_cycleAt s t).same .cfg (by decide)]
  have hat : ((s.cycleAt t).tallyTake d).restorePhase.tally.startAt = t := by
    obtain ⟨r, hr⟩ := restorePhase_tally ((s.cycleAt t).tallyTake d)
    obtain ⟨r', e, he⟩ := cycleTaken_tally (s.cycleAt t) d
    rw [hr, tallyTake_tally, he]
    have h := (congrArg Tally.startAt (cycleGuarded_told (s.cycleAt t) d).1 :)
    exact h.trans (congrArg Tally.startAt (cycleAt_tally s t))
  have hm := moves_evaluated n hz hw
  rw [hc, hat] at hm
  rw [hb]
  generalize ((s.cycleAt t).tallyTake d).sect.get n = z at hm hst
  generalize evaluatedSection ((s.cycleAt t).tallyTake d).restorePhase n = r at hm
  have hf : SectionMoves z (freshCycle { r with headDist := b }) (clearDelay s.cfg.active n.val) t :=
    hm.of_eq rfl ⟨rfl, rfl, rfl, rfl, rfl, rfl, rfl⟩
  rcases hst with hst | hst
  · exact hf.of_eq hst.symm ⟨rfl, rfl, rfl, rfl, rfl, rfl, rfl⟩
  · refine ⟨fun h _ => ?_, fun _ => ?_, hf.disturbed ∘ fun _ => hst⟩
    · rcases hf.disturbed hst with h' | ⟨h', -⟩
      · rw [h'] at h
        cases h
      · rw [h'] at h
        cases h
    · exact (hf.disturbed hst).symm.imp And.left .inl

theorem tallyCycle_startAt {t : Nat} (ht : nextFrom (ms 1) s.power.bootAt s.now s.tally.startAt = t) :
    (tallyCycle d s).tally.startAt = t := by
  rw [tallyCycle_eq s d ht]
  obtain ⟨sh, h⟩ := tallyPublish_tally (s.cycleJudged d t) (s.cycleAt t).tally.inbox
    (((s.cycleAt t).tallyTake d).tally.tripTaken && !(s.cycleAt t).tally.tripTaken)
  obtain ⟨r, hr⟩ := cycleJudged_tally s d t
  obtain ⟨r', e, he⟩ := cycleTaken_tally (s.cycleAt t) d
  rw [h, hr, he]
  have h := (congrArg Tally.startAt (cycleGuarded_told (s.cycleAt t) d).1 :)
  exact h.trans (congrArg Tally.startAt (cycleAt_tally s t))

end

-- every other command
/-- Every section stays in its state or becomes DISTURBED. -/
def Falls (s t : State) : Prop := ∀ n, (t.sect.get n).st = .disturbed ∨ (t.sect.get n).st = (s.sect.get n).st

theorem Falls.of_sect {s t : State} (h : t.sect = s.sect) : Falls s t := fun n => .inr (by rw [h])

theorem falls_keeps {l : List Part} {s t : State} (h : Keeps l s t) (hm : misses [.sect, .permits] l = true) : Falls s t :=
  .of_sect (h.same .sect (by simpa using List.all_eq_true.mp hm .sect (by simp)))

theorem Falls.trans {s t u : State} (h : Falls s t) (g : Falls t u) : Falls s u := fun n =>
  (g n).elim .inl fun e => (h n).elim (fun h => .inl (e.trans h)) fun h => .inr (e.trans h)

theorem State.volatileLost_sect (s : State) (p : Phase) : (s.volatileLost p).sect = Tab.all {} := rfl

theorem powerRel_falls : PowerRel Falls where
  trans h g := h.trans g
  keeps h hm := falls_keeps h hm
  lost s p n := .inl (by rw [State.volatileLost_sect]; exact congrArg Section.st (Tab.get_all ..))
  boot s n := .inl (by rw [State.boot_sect, State.bootResources_sect])

theorem activationEffect_activates {s : State} {i : Nat} (hi : s.tally.startAt + ms 1 = i)
    (hj : s.cfg.job = some .activation) : ∃ u old, activationEffect true s = State.activateAll u old := by
  rw [activationEffect, if_pos hj]
  dsimp only
  rw [if_pos rfl, hi]
  exact ⟨_, _, rfl⟩

theorem falls_activationEffect (b : Bool) (s : State) : Falls s (activationEffect b s) := by
  by_cases hj : s.cfg.job = some .activation
  · cases b with
    | true =>
      obtain ⟨u, old, h⟩ := activationEffect_activates rfl hj
      rw [h]
      exact fun n => .inl ((activated_activateAll u old).sect n).1
    | false =>
      rw [activationEffect, if_pos hj]
      exact .of_sect rfl
  · rw [activationEffect, if_neg hj]
    exact .of_sect rfl

theorem falls_restoreExpiry (n : Fin 48) (s : State) : Falls s (restoreExpiry n s) := by
  intro m
  unfold restoreExpiry
  split
  · generalize (s.sect.get n).reqAt + sec 60 = i
    have h : (s.reach i).sect = s.sect := s.reach_sect i
    by_cases e : m = n
    · subst e
      rw [endRequest_get, h]
      exact .inr rfl
    · rw [endRequest_other _ _ e, h]
      exact .inr rfl
  · exact .inr rfl

/-- What O31 says of one command and one section. -/
def SectionStep (c : Instr) (s t : State) (n : Fin 48) : Prop :=
  ((t.sect.get n).st = .clear → (s.sect.get n).st ≠ .clear → (s.sect.get n).st = .clearing ∧
    (t.sect.get n).count = 0 ∧ (t.sect.get n).provRefs = 0 ∧
    ((∃ d, c = .tallyCycle d ∧ (t.sect.get n).held = false ∧
        (t.sect.get n).t0 + ms (clearDelay s.cfg.active n.val) ≤ t.tally.startAt) ∨
      c = .clearDelayExpiry n ∧ (t.sect.get n).t0 + ms (clearDelay s.cfg.active n.val) ≤ t.now)) ∧
  ((s.sect.get n).st = .ras → (t.sect.get n).st = .ras ∨ (t.sect.get n).st = .disturbed ∨
    (∃ d, c = .tallyCycle d) ∧ 1 ≤ (t.sect.get n).sweepIn ∧ (t.sect.get n).count = 0 ∧
      ((t.sect.get n).st = .clearing ∨ (t.sect.get n).st = .occupied)) ∧
  ((s.sect.get n).st = .disturbed → (t.sect.get n).st = .disturbed ∨
    (t.sect.get n).st = .ras ∧ (t.sect.get n).rstate = .granted)

theorem Falls.step {c : Instr} {s t : State} (h : Falls s t) (n : Fin 48) : SectionStep c s t n := by
  rcases h n with h | h
  · exact ⟨fun e => absurd (h.symm.trans e) (by decide), fun _ => .inr (.inl h), fun _ => .inl h⟩
  · exact ⟨fun e he => absurd (h.symm.trans e) he, fun e => .inl (h.trans e), fun e => .inl (h.trans e)⟩

theorem tallyCycle_step {s : State} (d : Int) (n : Fin 48) :
    SectionStep (.tallyCycle d) s (s.begin.whenAlive fun s => (tallyCycle d s).sendChanged).finish n := by
  unfold State.whenAlive
  split
  · generalize ht : nextFrom (ms 1) s.begin.power.bootAt s.begin.now s.begin.tally.startAt = t
    obtain ⟨m1, m2, m3⟩ := tallyCycle_moves s.begin d n ht
    have hat := tallyCycle_startAt s.begin d ht
    unfold SectionStep
    rw [finish_sendChanged_sect, State.finish_tally, (keeps_sendChanged _).same .tally (by decide), hat]
    refine ⟨fun h hne => ?_, fun h => ?_, m3⟩
    · obtain ⟨c1, c2, c3, c4, c5⟩ := m1 h hne
      exact ⟨c1, c2, c3, .inl ⟨d, rfl, c4, c5⟩⟩
    · exact (m2 h).imp_right (Or.imp_right fun h => ⟨⟨d, rfl⟩, h⟩)
  · exact (Falls.of_sect (s := s) (by rw [State.finish_sect]; rfl)).step n

/-- The start of a cycle at or after an instant of the grid (R228). -/
theorem le_grid_after (p a due : Nat) (hp : 0 < p) : due ≤ a + (due - a + p - 1) / p * p := by
  have h := Nat.div_add_mod (due - a + p - 1) p
  have hm := Nat.mod_lt (due - a + p - 1) hp
  rw [Nat.mul_comm] at h
  omega

/-- A section whose clearing delay has passed (R228). -/
def Section.cleared (x : Section) : Section := { x with st := .clear, clearRemain := 0 }

theorem clearDelayExpiry_step {s : State} (m n : Fin 48) :
    SectionStep (.clearDelayExpiry m) s (s.begin.whenAlive (clearDelayExpiry m)).finish n := by
  have same {u : State} (h : (u.sect.get n).st = (s.sect.get n).st) : SectionStep (.clearDelayExpiry m) s u n :=
    ⟨fun e he => absurd (h.symm.trans e) he, fun e => .inl (h.trans e), fun e => .inl (h.trans e)⟩
  by_cases hc : (s.sect.get m).st = .clearing ∧ (s.sect.get m).count = 0 ∧ (s.sect.get m).provRefs = 0
  · obtain ⟨h1, h2, h3⟩ := hc
    unfold State.whenAlive
    split
    · generalize ht : clearStart s.begin m = t
      rw [clearDelayExpiry_eq (s := s.begin) h1 h2 h3 ht]
      change SectionStep _ s ((s.begin.reach t).updSect m Section.cleared).finish n
      have hsect : ((s.begin.reach t).updSect m Section.cleared).finish.sect = (s.begin.updSect m Section.cleared).sect := by
        rw [State.finish_sect]
        exact congrArg (fun x : Tab 48 Section => x.upd m Section.cleared) (State.reach_sect s.begin t)
      by_cases e : n = m
      · subst e
        have hn : ((s.begin.reach t).updSect n Section.cleared).finish.now = Nat.max s.now t := by
          rw [State.finish_now, State.updSect_now]
          exact State.reach_now s.begin t
        unfold SectionStep
        rw [hsect, State.updSect_get_self, hn]
        refine ⟨fun _ _ => ⟨h1, h2, h3, .inr ⟨rfl, ?_⟩⟩, fun h => ?_, fun h => ?_⟩
        · refine Nat.le_trans ?_ (Nat.le_max_right _ _)
          rw [← ht]
          exact le_grid_after _ _ _ (by decide)
        · exact absurd (h1.symm.trans h) (by decide)
        · exact absurd (h1.symm.trans h) (by decide)
      · refine same ?_
        rw [hsect, State.updSect_get_other _ _ e]
        rfl
    · exact same (by rw [State.finish_sect]; rfl)
  · refine same ?_
    have h : clearDelayExpiry m s.begin = s.begin := by
      unfold clearDelayExpiry
      dsimp only
      refine if_neg fun hb => hc ?_
      obtain ⟨hb, h3⟩ := Bool.and_eq_true_iff.mp hb
      obtain ⟨h1, h2⟩ := Bool.and_eq_true_iff.mp hb
      exact ⟨eq_of_beq h1, of_decide_eq_true h2, of_decide_eq_true h3⟩
    unfold State.whenAlive
    split
    · rw [State.finish_sect, h]
      rfl
    · rw [State.finish_sect]
      rfl

/-- Settles O31: but for a Tally cycle and the end of a clearing delay, a section stays in its state or becomes
DISTURBED. -/
theorem sectionTransitions : Obligations.SectionTransitions := by
  unfold Obligations.SectionTransitions
  intro c s t n h
  change SectionStep c s t n
  have alive (f : State → State) (hf : ∀ u, Falls u (f u)) (hx : run s (fun s => s.whenAlive f) = .next t) : Falls s t :=
    powerRel_falls.run (powerRel_falls.whenAlive hf) hx
  cases c with
  | tallyCycle d =>
    cases (show Host.Outcome.next _ = Host.Outcome.next t from h)
    exact tallyCycle_step d n
  | clearDelayExpiry m =>
    cases (show Host.Outcome.next _ = Host.Outcome.next t from h)
    exact clearDelayExpiry_step m n
  | restoreExpiry m => exact (alive _ (falls_restoreExpiry m) h).step n
  | activationEffect b => exact (alive _ (falls_activationEffect b) h).step n
  | resetnLow => exact (powerRel_falls.powerRow h (by simp)).step n
  | brownout r => exact (powerRel_falls.powerRow h (by simp)).step n
  | hibernateSupplyLoss => exact (powerRel_falls.powerRow h (by simp)).step n
  | wake b => exact (powerRel_falls.powerRow h (by simp)).step n
  | stbynRiseWake w b => exact (powerRel_falls.powerRow h (by simp)).step n
  | supplyRelease b => exact (powerRel_falls.powerRow h (by simp)).step n
  | boot => exact (powerRel_falls.powerRow h (by simp)).step n
  | _ =>
    have hk : t.sect = s.sect := (exec_frame_rivals h).same .sect (by simp [touches, rivals, reports])
    exact (Falls.of_sect hk).step n

end Sys2Proof.Machine

/-! SUPPORT. What a whole Tally cycle leaves: its input, the heads, the refresh that it hands over, and the residues (R221,
R272, R301, R304, R347). -/

namespace Sys2Proof.Machine

-- the refresh
section
variable (s : State)

theorem getLsbD_permitBits (f : Fin 16 → Bool) (p : Fin 16) : (permitBits f).getLsbD p.val = f p := by
  have h : permitMap f = mapBits 16 (fun i => if h : i < 16 then f ⟨i, h⟩ else false) := by
    unfold permitMap
    rfl
  rw [permitBits, BitVec.getLsbD_ofNat, h, testBit_mapBits]
  simp

theorem lockKept_record (r : Refresh) (p q : Fin 16) :
    ((s.permitRecord r p).permits.po.get q).lock = (s.permits.po.get q).lock := by
  unfold State.permitRecord
  extract_lets x y was lk s1
  have h1 : s1.permits = s.permits := by
    change (ite _ _ s : State).permits = _
    split
    · exact (keeps_record s _ _).same .permits (by decide)
    · rfl
  clear_value s1
  by_cases e : q = p
  · subst e
    rw [State.updPermit_self, h1]
  · rw [State.updPermit_other _ _ e, h1]

theorem lockKept_records (r : Refresh) (q : Fin 16) :
    ((s.permitRecords r).permits.po.get q).lock = (s.permits.po.get q).lock :=
  foldl_same (fun u : State => (u.permits.po.get q).lock) (allFin 16) s fun u p _ => lockKept_record u r p q

theorem permitCondition_congr {s t : State} {p : Fin 16} (hc : t.cfg = s.cfg) (h1 : t.tally.pub = s.tally.pub)
    (h2 : t.tally.inhibit = s.tally.inhibit) (hw : t.twin.debugTaint = s.twin.debugTaint)
    (hl : (t.permits.po.get p).lock = (s.permits.po.get p).lock) : permitCondition t p = permitCondition s p := by
  have hct : clearTerm t = clearTerm s := funext fun n => by simp only [clearTerm, h1]
  simp only [permitCondition, hc, h2, hw, hl, hct]

theorem forceMask_congr {s t : State} (hc : t.cfg = s.cfg) (h : t.tally.readbackIn = s.tally.readbackIn) (trip : Bool) :
    forceMask t trip = forceMask s trip := by simp only [forceMask, hc, h]

theorem State.holdPermit_held (w : PermitWrite) (h : s.twin.stopLatch = false) :
    (s.holdPermit w).twin = { s.twin with held := s.twin.held ++ [(retireWindow s, w)] } := by
  rw [State.holdPermit, if_neg (by rw [h]; decide)]

/-- The refresh of phase 6 goes to the Reeve with the permit conditions of the cycle (R272, R347). -/
theorem refreshPhase_held (trip : Bool) (h : s.twin.stopLatch = false) :
    (s.refreshPhase trip).twin = { s.twin with held := s.twin.held ++ [(retireWindow s, .refresh (refreshOf s trip))] } ∧
    ∀ p : Fin 16, (refreshOf s trip).cond.getLsbD p.val = permitCondition (s.refreshPhase trip) p := by
  have hk := keeps_refreshPrepared s trip
  have htw : ((s.lockPhase trip).permitRecords (refreshOf s trip)).twin = s.twin := hk.same .twin (by decide)
  have hnow : ((s.lockPhase trip).permitRecords (refreshOf s trip)).now = s.now := hk.same .now (by decide)
  have htwin : (s.refreshPhase trip).twin =
      { s.twin with held := s.twin.held ++ [(retireWindow s, .refresh (refreshOf s trip))] } := by
    rw [refreshPhase_eq]
    have ht (u : State) : u.refreshTaken.twin = u.twin := rfl
    rw [ht, State.holdPermit_held _ _ (by rw [htw, h]), htw, retireWindow_congr hnow (by rw [htw]) (by rw [htw])]
  refine ⟨htwin, fun p => ?_⟩
  have hl := keeps_lockPhase s trip
  have hper : (s.refreshPhase trip).permits = ((s.lockPhase trip).permitRecords (refreshOf s trip)).permits := by
    rw [refreshPhase_eq]
    exact (keeps_holdPermit _ _).same .permits (by decide)
  refine (getLsbD_permitBits _ p).trans (permitCondition_congr ?_ ?_ ?_ ?_ ?_).symm
  · rw [(keeps_refreshPhase s trip).same .cfg (by decide), hl.same .cfg (by decide)]
  · rw [refreshPhase_tally, hl.same .tally (by decide)]
  · rw [refreshPhase_tally, hl.same .tally (by decide)]
  · rw [htwin, hl.same .twin (by decide)]
  · rw [hper, lockKept_records]

-- the residues
theorem residueShed_le (k u : Nat) (r : Residue) (h : r.n ≤ k + u) : (residueShed k u r).n ≤ u := by
  induction k generalizing r with
  | zero => simpa [residueShed] using h
  | succ k ih =>
    unfold residueShed
    split
    · exact Nat.zero_le u
    · split
      next hn =>
        refine ih _ ?_
        change r.n - 1 ≤ k + u
        omega
      next hn => exact Nat.le_of_not_lt hn

theorem residueShed_zero (k : Nat) (r : Residue) : residueShed (k + 1) 0 r = {} := by
  unfold residueShed
  exact if_pos rfl

/-- A residue holds no more axles than its section has untracked ones, and none is left of a section without them (R304). -/
theorem residuesNow_get (n : Fin 48) : ((residuesNow s).get n).n ≤ untrackedOf s n ∧
    (untrackedOf s n = 0 → (residuesNow s).get n = {}) := by
  unfold residuesNow
  extract_lets t
  clear_value t
  have h : ((allFin 48).foldl (fun acc n => acc.upd n (fun r => residueShed (r.n + 1) (untrackedOf s n) r)) t).get n =
      residueShed ((t.get n).n + 1) (untrackedOf s n) (t.get n) :=
    foldl_allFin (view := fun (u : Tab 48 Residue) n => u.get n)
      (F := fun n r => residueShed (r.n + 1) (untrackedOf s n) r) (fun _ => True) (fun _ _ _ => trivial)
      (fun u i _ => Tab.get_upd_self ..) (fun u i j h => Tab.get_upd_other _ _ _ _ h) trivial n
  rw [h]
  refine ⟨residueShed_le _ _ _ (by omega), fun hu => ?_⟩
  rw [hu]
  exact residueShed_zero _ _

end
end Sys2Proof.Machine

/-! SUPPORT. A whole Tally cycle, with O29 (R38, R221, R224, R230, R233, R235, R236, R242, R272, R276, R304, R347). -/

namespace Sys2Proof.Machine

section
variable (s : State) (d : Int) (n : Fin 48) {t : Nat} (ht : nextFrom (ms 1) s.power.bootAt s.now s.tally.startAt = t)

theorem tripRises_cycleAt (t : Nat) : tripRises (s.cycleAt t) d = tripRises s d := by
  rw [tripRises, tripRises, (keeps_cycleAt s t).same .power (by decide), cycleAt_tally]

theorem tripAfter_cycleAt (t : Nat) : tripAfter (s.cycleAt t) d = tripAfter s d := by
  rw [tripAfter, tripAfter, tripRises_cycleAt, (keeps_cycleAt s t).same .power (by decide), cycleAt_tally]

/-- THERMAL_TRIP did not rise in a cycle that leaves its taking as it was. -/
theorem tripRises_of_same (h : tripAfter s d = s.tally.tripTaken) : tripRises s d = false := by
  refine Bool.eq_false_iff.mpr fun hn => ?_
  rw [tripAfter, if_pos hn] at h
  obtain ⟨-, h2⟩ := Bool.and_eq_true_iff.mp hn
  rw [← h] at h2
  cases h2

theorem tripRises_of_hot (h : 1500 ≤ d) (ht : s.tally.tripTaken = false) : tripRises s d = true := by
  rw [tripRises, ht, takeTemperature]
  simp only [if_pos h, Bool.not_false, Bool.and_true]

-- what it leaves of Tally
include ht

/-- Tally after a cycle. -/
theorem tallyCycle_tally : (tallyCycle d s).tally.cycles = (s.tally.cycles + 1) % 2 ^ 32 ∧
    (tallyCycle d s).tally.restoreIn = [] ∧ (tallyCycle d s).tally.disturbIn = [] ∧
    (tallyCycle d s).tally.ackIn = false ∧ (tallyCycle d s).tally.tripTaken = tripAfter s d ∧
    (tallyCycle d s).tally.inbox = ((s.cycleAt t).cycleGuarded d).tally.inbox ∧
    (tallyCycle d s).tally.inhibit = s.permits.inhibit ∧
    (tallyCycle d s).tally.pub = publishedNow ((s.cycleJudged d t).cycleRecorded (s.cycleAt t).tally.inbox) := by
  rw [tallyCycle_eq s d ht]
  obtain ⟨sh, h⟩ := tallyPublish_tally (s.cycleJudged d t) (s.cycleAt t).tally.inbox
    (((s.cycleAt t).tallyTake d).tally.tripTaken && !(s.cycleAt t).tally.tripTaken)
  obtain ⟨r, hr⟩ := cycleJudged_tally s d t
  obtain ⟨r', e, he⟩ := cycleTaken_tally (s.cycleAt t) d
  have hg := (cycleGuarded_told (s.cycleAt t) d).1
  rw [h]
  dsimp only
  rw [hr]
  dsimp only
  rw [he]
  dsimp only
  refine ⟨?_, rfl, rfl, rfl, ?_, rfl, ?_, rfl⟩
  · have hc : ((s.cycleAt t).cycleGuarded d).tally.cycles = (s.cycleAt t).tally.cycles := (congrArg Tally.cycles hg :)
    rw [hc, cycleAt_tally]
  · have hc : ((s.cycleAt t).cycleGuarded d).tally.tripTaken = tripAfter (s.cycleAt t) d := (congrArg Tally.tripTaken hg :)
    rw [hc, tripAfter_cycleAt]
  · have hp : ((s.cycleAt t).cycleGuarded d).permits = s.permits := by
      rw [State.cycleGuarded, (keeps_guardCycle _).same .permits (by decide), (keeps_takeThermal _ d).same .permits (by decide)]
      exact (keeps_cycleAt s t).same .permits (by decide)
    rw [hp]

theorem keeps_tallyCycle_judged : Keeps [.sect, .tally, .trk, .permits, .engine, .twin, .log] (s.cycleJudged d t) (tallyCycle d s) := by
  rw [tallyCycle_eq s d ht]
  exact keeps_tallyPublish ..

omit ht in
theorem keeps_cycleJudged : Keeps [.sect, .tally, .trk, .permits] ((s.cycleAt t).tallyTake d) (s.cycleJudged d t) :=
  (keeps_restorePhase _).trans ((keeps_evaluateAll _).mono rfl)

theorem tallyCycle_now : (tallyCycle d s).now = Nat.max s.now t := by
  rw [(keeps_tallyCycle_judged s d ht).same .now (by decide), (keeps_cycleJudged s d).same .now (by decide),
    (keeps_tallyTake _ d).same .now (by decide)]
  exact cycleAt_now s t

omit ht in
theorem tallyCycle_cfg : (tallyCycle d s).cfg = s.cfg := (keeps_tallyCycle d s).same .cfg (by decide)

theorem tallyCycle_dieTemp : (tallyCycle d s).power.dieTemp = d := by
  rw [(keeps_tallyCycle_judged s d ht).same .power (by decide), (keeps_cycleJudged s d).same .power (by decide), tallyTake_eq]
  have h : ((s.cycleAt t).cycleCounted d).allDisturbed.power = takeTemperature d (s.cycleAt t).power := by
    have h1 (u : State) : u.allDisturbed.power = u.power := rfl
    have h2 (u : State) : u.allHeld.power = u.power := rfl
    rw [h1, State.cycleCounted, (keeps_takeHeads _).same .power (by decide), h2, (keeps_cycleAxles _ d).same .power (by decide),
      cycleGuarded_power]
  rw [h]
  rfl

-- what it leaves of the heads
omit ht in
theorem tallyTake_heads (h : Fin 32) :
    (s.tallyTake d).hg.get h = { (s.cycleGuarded d).hg.get h with raised := false } ∧
    (s.tallyTake d).head.get h = { (s.cycleGuarded d).head.get h with raised := false } := by
  have hk := keeps_cycleAxles s d
  have told (u : State) : u.headsTold.hg.get h = { u.hg.get h with raised := false } ∧
      u.headsTold.head.get h = { u.head.get h with raised := false } := ⟨Tab.get_map _ _ _, Tab.get_map _ _ _⟩
  have h1 (u : State) : u.allDisturbed.hg = u.hg ∧ u.allDisturbed.head = u.head := ⟨rfl, rfl⟩
  have h2 (u : State) : u.allHeld.hg = u.hg ∧ u.allHeld.head = u.head := ⟨rfl, rfl⟩
  have hf (u : State) : Keeps [.sect] u ((allFin 48).foldl (fun acc n => acc.updSect n (raiseBits (headBits u n))) u) :=
    Keeps.foldl_mem _ (fun acc n _ => keeps_updSect acc n _) u
  rw [tallyTake_eq, (h1 _).1, (h1 _).2, State.cycleCounted, State.takeHeads_eq, (told _).1, (told _).2,
    (hf _).same .hg (by decide), (hf _).same .head (by decide), (h2 _).1, (h2 _).2, hk.same .hg (by decide),
    hk.same .head (by decide)]
  exact ⟨rfl, rfl⟩

theorem tallyCycle_heads : (tallyCycle d s).hg = ((s.cycleAt t).tallyTake d).hg ∧
    (tallyCycle d s).head = ((s.cycleAt t).tallyTake d).head := by
  have h1 := keeps_tallyCycle_judged s d ht
  have h2 := keeps_cycleJudged s d (t := t)
  exact ⟨(h1.same .hg (by decide) : _ = _).trans (h2.same .hg (by decide)),
    (h1.same .head (by decide) : _ = _).trans (h2.same .head (by decide))⟩

omit ht in
theorem cycleAt_guarded_raised (h : Fin 32) :
    ((s.hg.get h).raised = true → (((s.cycleAt t).cycleGuarded d).hg.get h).raised = true) ∧
    ((s.head.get h).raised = true → (((s.cycleAt t).cycleGuarded d).head.get h).raised = true) := by
  obtain ⟨-, h1, h2⟩ := cycleGuarded_told (s.cycleAt t) d
  refine ⟨fun hr => h1 h ?_, fun hr => h2 h ?_⟩
  · rw [(keeps_cycleAt s t).same .hg (by decide)]
    exact hr
  · rw [(keeps_cycleAt s t).same .head (by decide)]
    exact hr

-- a section with a cause
omit ht in
/-- A cause that is raised refuses the restore (R236). -/
theorem judged_of_raised (ack : Bool) (h : (s.sect.get n).raised ≠ 0#8) :
    (judgedSection s ack n).st = (s.sect.get n).st ∧ (judgedSection s ack n).distCause = (s.sect.get n).distCause := by
  have hg : grantReason s n = 1 := by
    unfold grantReason
    dsimp only
    exact if_pos (bne_iff_ne.mpr h)
  unfold judgedSection
  dsimp only
  rw [hg]
  split
  · exact ⟨rfl, rfl⟩
  · split
    · exact ⟨rfl, rfl⟩
    · split
      · exact ⟨rfl, rfl⟩
      · exact ⟨rfl, rfl⟩

/-- A used section with a cause raised is DISTURBED after the cycle, with its bit of DIST_CAUSE (R230, R242). -/
theorem tallyCycle_disturbed {i : Nat} (hu : (s.sect.get n).unused = false)
    (hr : (((s.cycleAt t).cycleCounted d).sect.get n).raised.getLsbD i = true) : Disturbed (tallyCycle d s) n i := by
  obtain ⟨b, hb⟩ := tallyCycle_get s d n ht
  have hun : (((s.cycleAt t).cycleCounted d).sect.get n).unused = false := by
    rw [(follows_cycle _ d n).unused, (keeps_cycleAt s t).same .sect (by decide)]
    exact hu
  obtain ⟨z1, z2⟩ := disturb_raised hun hr
  have z3 : (((s.cycleAt t).tallyTake d).sect.get n).raised ≠ 0#8 := by
    rw [tallyTake_get, (disturb_kept _).2.2.1]
    intro h
    rw [h, BitVec.getLsbD_zero] at hr
    cases hr
  obtain ⟨w1, w2⟩ := judged_of_raised _ n s.tally.ackIn z3
  rw [← restored_get s d n t, tallyTake_get] at w1 w2
  have e1 := evaluatedSection_disturbed _ n (w1.trans z1)
  have e2 := (unevaluated_evaluatedSection ((s.cycleAt t).tallyTake d).restorePhase n).distCause
  unfold Disturbed
  rw [hb]
  generalize evaluatedSection ((s.cycleAt t).tallyTake d).restorePhase n = r at e1 e2
  refine ⟨e1, ?_⟩
  have hd : (freshCycle { r with headDist := b }).distCause = r.distCause := rfl
  rw [hd, e2, w2]
  exact z2

omit ht in
theorem counted_of_taken {i : Nat} (h : ((s.cycleTaken d).sect.get n).raised.getLsbD i = true) :
    ((s.cycleCounted d).sect.get n).raised.getLsbD i = true :=
  (follows_cycleCounted s d n).raised i ((sections_cycleAxles s d n).1.raised i h)

omit ht in
/-- A bounding head that is disturbed, or was since the cycle before, is a cause (R150, R191, R230). -/
theorem counted_of_head {h : Fin 32} (hb : h ∈ boundingHeads s.cfg.active n) :
    ((((s.cycleGuarded d).hg.get h).raised = true ∨
        (s.sect.get n).st ≠ .disturbed ∧ guardDisturbed (s.tallyTake d) h = true) →
      ((s.cycleCounted d).sect.get n).raised.getLsbD 2 = true) ∧
    ((((s.cycleGuarded d).head.get h).raised = true ∨
        (s.sect.get n).st ≠ .disturbed ∧ wreDisturbed ((s.tallyTake d).head.get h) = true) →
      ((s.cycleCounted d).sect.get n).raised.getLsbD 3 = true) := by
  obtain ⟨t1, t2⟩ := tallyTake_heads s d h
  have hk := keeps_cycleAxles s d
  have hu (u : State) : u.allHeld.hg = u.hg ∧ u.allHeld.head = u.head ∧ u.allHeld.cfg = u.cfg := ⟨rfl, rfl, rfl⟩
  have hst : ((s.cycleAxles d).allHeld.sect.get n).st = (s.sect.get n).st := by
    rw [allHeld_get, (follows_markHeld _).st, (sections_cycleAxles s d n).1.st, (sections_cycleTaken s d n).1.st]
  have hcfg : (s.cycleAxles d).allHeld.cfg = s.cfg := by rw [(hu _).2.2, cycleAxles_cfg]
  have hg : (s.cycleAxles d).allHeld.hg = (s.cycleGuarded d).hg := by rw [(hu _).1, hk.same .hg (by decide)]
  have hh : (s.cycleAxles d).allHeld.head = (s.cycleGuarded d).head := by rw [(hu _).2.1, hk.same .head (by decide)]
  have hgd : guardDisturbed (s.tallyTake d) h = guardDisturbed (s.cycleAxles d).allHeld h := by
    have hc : (s.tallyTake d).cfg = s.cfg := (keeps_tallyTake s d).same .cfg (by decide)
    simp only [guardDisturbed, t1, hcfg, hg, hc]
  have hwd : wreDisturbed ((s.tallyTake d).head.get h) = wreDisturbed ((s.cycleAxles d).allHeld.head.get h) := by
    rw [t2, hh]
    rfl
  rw [cycleCounted_get, hgd, hwd, ← hst]
  rw [← hg, ← hh]
  refine ⟨fun h' => ?_, fun h' => ?_⟩
  · exact raiseBits_raised (headBits_guard _ n (by rw [hcfg]; exact hb) h') _
  · exact raiseBits_raised (headBits_wre _ n (by rw [hcfg]; exact hb) h') _

end
end Sys2Proof.Machine

/-! SUPPORT. Underflow and overflow, the judgement of restores in a whole Tally cycle, and with them O29 (R38, R221, R224,
R230, R233, R235, R236, R242, R272, R276, R304, R347). -/

namespace Sys2Proof.Machine

-- underflow and overflow
section
variable (s : State) (d : Int) (n : Fin 48)

theorem countExit_underflow {i : Nat} {x : Section} (hs : x.st ≠ .disturbed) (hc : x.count = 0) :
    (countExit i x).raised.getLsbD 4 = true := by
  unfold countExit
  dsimp only
  rw [if_pos hc, if_neg (by simpa using hs)]
  exact raiseBits_raised (by decide) _

theorem countEntry_overflow {x : Section} (hs : x.st ≠ .disturbed) (hc : 4095 ≤ x.count) :
    (countEntry x).raised.getLsbD 5 = true := by
  unfold countEntry
  dsimp only
  rw [if_pos hc, if_neg (by simpa using hs)]
  exact raiseBits_raised (by decide) _

/-- An exit out of a section without an axle (R224). -/
theorem cycleAxles_underflow {h : Fin 32} {v : VerdictRec} {e : Option (Fin 128)} {x g : Nat} {b : Option (Fin 48)}
    (hi : s.tally.inbox = [TallyItem.confirmed h v e x g (some n) b]) (hs : (s.sect.get n).st ≠ .disturbed)
    (hc : (s.sect.get n).count = 0) : ((s.cycleAxles d).sect.get n).raised.getLsbD 4 = true := by
  obtain ⟨i, hk⟩ := cycleAxles_single s d hi
  rw [hk]
  have hpre := sections_cycleTaken s d n
  have hcount : ((s.cycleTaken d).sect.get n).count = (s.sect.get n).count := congrArg Prod.fst hpre.2
  have hexit : (((s.cycleTaken d).updSect n (countExit i)).sect.get n).raised.getLsbD 4 = true := by
    rw [State.updSect_get_self]
    exact countExit_underflow (by rw [hpre.1.st]; exact hs) (hcount.trans hc)
  have hent : Sections (fun _ => ()) ((s.cycleTaken d).updSect n (countExit i))
      (((s.cycleTaken d).updSect n (countExit i)).updSectOpt b countEntry) :=
    sections_updSectOpt _ b (fun y => (countEntry_kept y).1) fun _ => rfl
  exact (hent n).1.raised 4 hexit

/-- An entry into a section that is full (R224). -/
theorem cycleAxles_overflow {h : Fin 32} {v : VerdictRec} {e : Option (Fin 128)} {x g : Nat} {a : Option (Fin 48)}
    (hi : s.tally.inbox = [TallyItem.confirmed h v e x g a (some n)]) (ha : a ≠ some n)
    (hs : (s.sect.get n).st ≠ .disturbed) (hc : (s.sect.get n).count = 4095) :
    ((s.cycleAxles d).sect.get n).raised.getLsbD 5 = true := by
  obtain ⟨i, hk⟩ := cycleAxles_single s d hi
  rw [hk]
  have hpre := sections_cycleTaken s d n
  have hcount : ((s.cycleTaken d).sect.get n).count = (s.sect.get n).count := congrArg Prod.fst hpre.2
  have hsame : ((s.cycleTaken d).updSectOpt a (countExit i)).sect.get n = (s.cycleTaken d).sect.get n := by
    cases a with
    | none => rfl
    | some k => exact State.updSect_get_other _ _ fun e => ha (congrArg some e.symm)
  change ((((s.cycleTaken d).updSectOpt a (countExit i)).updSect n countEntry).sect.get n).raised.getLsbD 5 = true
  rw [State.updSect_get_self, hsame]
  exact countEntry_overflow (by rw [hpre.1.st]; exact hs) (Nat.le_of_eq (hcount.trans hc).symm)

end

-- restores
section
variable (s : State) (d : Int) (n : Fin 48)

/-- The conditions of R236 in their order. -/
theorem grantReason_cases : (grantReason s n = 1 ∧ (s.sect.get n).raised ≠ 0#8) ∨ ((s.sect.get n).raised = 0#8 ∧
    ((grantReason s n = 2 ∧ ∃ h ∈ boundingHeads s.cfg.active n, headDisturbed s h = true) ∨
      (∀ h ∈ boundingHeads s.cfg.active n, headDisturbed s h = false) ∧
      ((grantReason s n = 3 ∧ ∃ h ∈ boundingHeads s.cfg.active n, anySlot (s.head.get h) = true) ∨
        (∀ h ∈ boundingHeads s.cfg.active n, anySlot (s.head.get h) = false) ∧
        ((grantReason s n = 4 ∧ (s.sect.get n).held = true) ∨ (grantReason s n = 0 ∧ (s.sect.get n).held = false))))) := by
  have none {f : Fin 32 → Bool} (h : ¬(boundingHeads s.cfg.active n).any f = true) :
      ∀ k ∈ boundingHeads s.cfg.active n, f k = false := by
    intro k hk
    exact Bool.eq_false_iff.mpr fun hf => h (List.any_eq_true.mpr ⟨k, hk, hf⟩)
  unfold grantReason
  dsimp only
  split
  next h => exact .inl ⟨rfl, bne_iff_ne.mp h⟩
  next h =>
    refine .inr ⟨by simpa using h, ?_⟩
    split
    next h2 => exact .inl ⟨rfl, List.any_eq_true.mp h2⟩
    next h2 =>
      refine .inr ⟨none h2, ?_⟩
      split
      next h3 => exact .inl ⟨rfl, List.any_eq_true.mp h3⟩
      next h3 =>
        refine .inr ⟨none h3, ?_⟩
        split
        next h4 => exact .inl ⟨rfl, h4⟩
        next h4 => exact .inr ⟨rfl, Bool.eq_false_iff.mpr h4⟩

/-- A pending request that an acknowledge meets in its 60 s (R235, R236). -/
theorem judgedSection_acked (hp : (s.sect.get n).rstate = .pending) (ht : s.now < (s.sect.get n).reqAt + sec 60) :
    (grantReason s n = 0 → judgedSection s true n = (granted (s.sect.get n)).answered .granted 0) ∧
    (grantReason s n ≠ 0 → judgedSection s true n = (s.sect.get n).answered .refused (grantReason s n)) := by
  unfold judgedSection
  dsimp only
  rw [hp, if_neg (by decide), if_neg (Nat.not_le.mpr ht), if_neg (by decide)]
  refine ⟨fun h => ?_, fun h => ?_⟩
  · rw [h]
    rfl
  · split
    · contradiction
    · rfl

theorem judgedSection_waiting (hp : (s.sect.get n).rstate = .pending) (ht : s.now < (s.sect.get n).reqAt + sec 60) :
    judgedSection s false n = s.sect.get n := by
  unfold judgedSection
  dsimp only
  rw [hp, if_neg (by decide), if_neg (Nat.not_le.mpr ht), if_pos (by decide)]

theorem judgedSection_expired (ack : Bool) (hp : (s.sect.get n).rstate = .pending)
    (ht : (s.sect.get n).reqAt + sec 60 ≤ s.now) : judgedSection s ack n = (s.sect.get n).answered .expired 0 := by
  unfold judgedSection
  dsimp only
  rw [hp, if_neg (by decide), if_pos ht]

/-- A cycle that finds no restore write leaves every request as it was up to phase 4 (R235). -/
theorem tallyTake_request (hr : s.tally.restoreIn = []) :
    ((s.tallyTake d).sect.get n).request = (s.sect.get n).request := by
  have hb (b : BitVec 8) (x : Section) : (raiseBits b (markHeld x)).request = x.request := rfl
  rw [tallyTake_get, (disturb_kept _).2.1, cycleCounted_get, hb, (sections_cycleAxles s d n).2, cycleTaken_request s d n hr]

variable {t : Nat} (ht : nextFrom (ms 1) s.power.bootAt s.now s.tally.startAt = t)

/-- What a section is after a cycle, by what phase 4 has left of it. -/
structure FromJudged (w r : Section) : Prop where
  rstate : r.rstate = w.rstate
  reason : r.reason = w.reason
  held : r.held = w.held
  count : r.count = w.count
  disturbed : w.st = .disturbed → r.st = .disturbed
  ras : w.st = .ras → w.sweepIn = 0 → r.st = .ras

theorem fromJudged_evaluated (b : Bool) :
    FromJudged (s.sect.get n) (freshCycle { evaluatedSection s n with headDist := b }) := by
  have hu := unevaluated_evaluatedSection s n
  obtain ⟨h1, h2⟩ := unevaluated_counts hu
  have h3 := evaluatedSection_disturbed s n
  have h4 := evaluatedSection_ras s n
  have h5 := hu.reason
  have h6 := hu.held
  generalize evaluatedSection s n = r at *
  refine ⟨h2, h5, h6, h1, h3, fun hs hw => (h4 hs).resolve_right fun h => ?_⟩
  rw [hw] at h
  exact absurd h.1 (by decide)

include ht in
theorem tallyCycle_fromJudged :
    FromJudged (judgedSection ((s.cycleAt t).tallyTake d) s.tally.ackIn n) ((tallyCycle d s).sect.get n) := by
  obtain ⟨b, hb⟩ := tallyCycle_get s d n ht
  rw [hb, ← restored_get]
  exact fromJudged_evaluated _ n b

/-- A DISTURBED section leaves that state by a granted restore alone (R226, R233). -/
theorem FromJudged.stays {q : State} {ack : Bool} {r : Section} (h : FromJudged (judgedSection q ack n) r)
    (hd : (q.sect.get n).st = .disturbed) : r.st = .disturbed ∨ r.st = .ras ∧ r.rstate = .granted ∧ r.count = 0 := by
  rcases judgedSection_st q ack n with ⟨a, k, hw⟩ | hw | hw
  · exact .inl (h.disturbed (by rw [hw]; exact hd))
  · exact .inl (h.disturbed (by rw [hw]; exact hd))
  · refine .inr ⟨h.ras (by rw [hw]; rfl) (by rw [hw]; rfl), ?_, ?_⟩
    · rw [h.rstate, hw]
      rfl
    · rw [h.count, hw]
      rfl

/-- An acknowledged request of a DISTURBED section is granted or refused by the first condition that fails (R236). -/
theorem FromJudged.judged {q u : State} (hf : FromJudged (judgedSection q true n) (u.sect.get n))
    (hd : (q.sect.get n).st = .disturbed) (hp : (q.sect.get n).rstate = .pending)
    (hn : q.now < (q.sect.get n).reqAt + sec 60) (hc : q.cfg.active = s.cfg.active)
    (hh : ∀ h, headDisturbed u h = headDisturbed q h ∧ anySlot (u.head.get h) = anySlot (q.head.get h))
    (hl : n ∈ s.tally.disturbIn → (q.sect.get n).raised ≠ 0#8) : RestoreJudged s u n := by
  obtain ⟨j0, jk⟩ := judgedSection_acked q n hp hn
  have refused {k : Nat} (hk : grantReason q n = k) (h0 : k ≠ 0) : (u.sect.get n).rstate = .refused ∧
      (u.sect.get n).st = .disturbed ∧ (u.sect.get n).reason = k ∧ (u.sect.get n).held = (q.sect.get n).held := by
    rw [jk (hk ▸ h0), hk] at hf
    exact ⟨hf.rstate, hf.disturbed hd, hf.reason, hf.held⟩
  have free (h : (q.sect.get n).raised = 0#8) : n ∉ s.tally.disturbIn := fun hm => hl hm h
  unfold RestoreJudged
  dsimp only
  rw [← hc]
  simp only [(hh _).1, (hh _).2]
  rcases grantReason_cases q n with ⟨h1, -⟩ | ⟨hz, ⟨h2, hx⟩ | ⟨hy, ⟨h3, hx⟩ | ⟨hs, ⟨h4, hx⟩ | ⟨h0, hx⟩⟩⟩⟩
  · obtain ⟨r1, r2, r3, -⟩ := refused h1 (by decide)
    exact .inr ⟨r1, r2, .inl r3⟩
  · obtain ⟨r1, r2, r3, -⟩ := refused h2 (by decide)
    exact .inr ⟨r1, r2, .inr ⟨free hz, .inl ⟨r3, hx⟩⟩⟩
  · obtain ⟨r1, r2, r3, -⟩ := refused h3 (by decide)
    exact .inr ⟨r1, r2, .inr ⟨free hz, .inr ⟨hy, .inl ⟨r3, hx⟩⟩⟩⟩
  · obtain ⟨r1, r2, r3, r4⟩ := refused h4 (by decide)
    exact .inr ⟨r1, r2, .inr ⟨free hz, .inr ⟨hy, .inr ⟨hs, r3, r4.trans hx⟩⟩⟩⟩
  · rw [j0 h0] at hf
    exact .inl ⟨hf.rstate, hf.ras rfl rfl, hf.reason, free hz, fun h hm => ⟨hy h hm, hs h hm⟩, hf.held.trans hx⟩

/-- Where nothing is taken that concerns it, a section comes to phase 4 as it was, and not held. -/
theorem tallyTake_calm (h1 : tripRises s d = false) (h2 : ∀ c : Fin 64, chRtd s.cfg.active c.val = false)
    (h3 : s.tally.inbox = []) (h4 : s.tally.restoreIn = []) (h5 : n ∉ s.tally.disturbIn)
    (h6 : ∀ h ∈ boundingHeads s.cfg.active n, (s.hg.get h).raised = false ∧ (s.head.get h).raised = false ∧
      headDisturbed s h = false) (h7 : (s.sect.get n).raised = 0#8) (h8 : (s.sect.get n).provRefs = 0)
    (h9 : (s.sect.get n).touched = false) :
    (s.tallyTake d).sect.get n = { s.sect.get n with held := false } ∧
    ∀ h, headDisturbed (s.tallyTake d) h = headDisturbed s h ∧
      anySlot ((s.tallyTake d).head.get h) = anySlot (s.head.get h) := by
  obtain ⟨g1, g2, -⟩ := cycleGuarded_calm s d h1 h2
  have hcfg : (s.tallyTake d).cfg = s.cfg := (keeps_tallyTake s d).same .cfg (by decide)
  have hitems : s.cycleItems d = s.cycleGuarded d := by rw [State.cycleItems, h3]; rfl
  have hreq : (s.cycleItems d).takeRequests = s.cycleItems d := by
    rw [State.takeRequests, hitems, cycleGuarded_restoreIn, h4]
    rfl
  have htaken : (s.cycleTaken d).sect.get n = s.sect.get n := by
    obtain ⟨e, he⟩ := takePermitWrites_tally (s.cycleItems d).takeRequests.noRequests
    rw [State.cycleTaken, State.takeDisturb_other]
    · rw [(keeps_takePermitWrites _).same .sect (by decide), (keeps_noRequests _).same .sect (by decide), hreq, hitems,
        cycleGuarded_sect, h1]
      rfl
    · rw [he]
      dsimp only
      rw [hreq, hitems]
      change n ∉ (s.cycleGuarded d).tally.disturbIn
      rw [cycleGuarded_disturbIn]
      exact h5
  have haxles : (s.cycleAxles d).sect.get n = s.sect.get n := by
    rw [State.cycleAxles, countPhase_sect, h3]
    exact htaken
  have hk := keeps_cycleAxles s d
  have hu (u : State) : u.allHeld.hg = u.hg ∧ u.allHeld.head = u.head ∧ u.allHeld.cfg = u.cfg := ⟨rfl, rfl, rfl⟩
  have hbits : headBits (s.cycleAxles d).allHeld n = 0#8 := by
    refine headBits_none _ n fun k hkm => ?_
    have hc : (s.cycleAxles d).allHeld.cfg = s.cfg := by rw [(hu _).2.2, cycleAxles_cfg]
    have hg : (s.cycleAxles d).allHeld.hg = s.hg := by rw [(hu _).1, hk.same .hg (by decide), g1]
    have hh : (s.cycleAxles d).allHeld.head = s.head := by rw [(hu _).2.1, hk.same .head (by decide), g2]
    rw [hc] at hkm
    rw [headDisturbed_congr hc hg hh, hg, hh]
    exact h6 k hkm
  refine ⟨?_, fun h => ?_⟩
  · rw [tallyTake_get, cycleCounted_get, hbits, haxles]
    have hb : raiseBits 0#8 (markHeld (s.sect.get n)) = { s.sect.get n with held := false } := by
      unfold raiseBits markHeld
      dsimp only
      rw [h7, h8, h9]
      rfl
    rw [hb]
    exact disturb_of_none h7
  · obtain ⟨t1, t2⟩ := tallyTake_heads s d h
    rw [g1] at t1
    rw [g2] at t2
    simp only [headDisturbed, guardDisturbed, hcfg, t1, t2]
    exact ⟨rfl, rfl⟩

end
end Sys2Proof.Machine

/-! SUPPORT. What is sent at the end of a Tally cycle changes nothing of it; O29 (R38, R221, R224, R230, R233, R235, R236,
R242, R272, R276, R304, R347). -/

namespace Sys2Proof.Machine

section
variable {s : State} {d : Int} {t : Nat} (ht : nextFrom (ms 1) s.power.bootAt s.now s.tally.startAt = t) {x : State}
  (hx : Keeps [.stream, .pdo, .sent, .emcy, .log] (tallyCycle d s) x)
include ht hx

theorem cycle_input : x.tally.startAt = t ∧ x.now = Nat.max s.now t ∧ x.tally.cycles = (s.tally.cycles + 1) % 2 ^ 32 ∧
    x.tally.pub.cycles = x.tally.cycles ∧ x.power.dieTemp = d ∧ x.tally.restoreIn = [] ∧ x.tally.disturbIn = [] ∧
    x.tally.ackIn = false := by
  obtain ⟨h1, h2, h3, h4, -, -, -, h8⟩ := tallyCycle_tally s d ht
  rw [hx.same .tally (by decide), hx.same .now (by decide), hx.same .power (by decide), tallyCycle_startAt s d ht,
    tallyCycle_now s d ht, tallyCycle_dieTemp s d ht, h1, h2, h3, h4, h8]
  refine ⟨rfl, rfl, rfl, ?_, rfl, rfl, rfl, rfl⟩
  obtain ⟨sh, h⟩ := cycleRecorded_tally (s.cycleJudged d t) (s.cycleAt t).tally.inbox
  obtain ⟨r, hr⟩ := cycleJudged_tally s d t
  obtain ⟨r', e, he⟩ := cycleTaken_tally (s.cycleAt t) d
  rw [publishedNow, h]
  dsimp only
  rw [hr]
  dsimp only
  rw [he]
  dsimp only
  have hc : ((s.cycleAt t).cycleGuarded d).tally.cycles = (s.cycleAt t).tally.cycles :=
    (congrArg Tally.cycles (cycleGuarded_told (s.cycleAt t) d).1 :)
  rw [hc, cycleAt_tally]

theorem cycle_tripTaken : x.tally.tripTaken = tripAfter s d := by
  rw [hx.same .tally (by decide)]
  exact (tallyCycle_tally s d ht).2.2.2.2.1

theorem cycle_inbox (h1 : x.tally.tripTaken = s.tally.tripTaken) (h2 : ∀ c : Fin 64, chRtd s.cfg.active c.val = false) :
    x.tally.inbox = [] := by
  obtain ⟨-, -, -, -, -, h, -, -⟩ := tallyCycle_tally s d ht
  rw [cycle_tripTaken ht hx] at h1
  rw [hx.same .tally (by decide), h]
  refine (cycleGuarded_calm _ d ?_ ?_).2.2
  · rw [tripRises_cycleAt]
    exact tripRises_of_same s d h1
  · rw [(keeps_cycleAt s t).same .cfg (by decide)]
    exact h2

theorem cycle_refresh (hl : s.twin.stopLatch = false) :
    ∃ r : Refresh, x.twin.held = s.twin.held ++ [(retireWindow x, .refresh r)] ∧
      (∀ p : Fin 16, r.cond.getLsbD p.val = permitCondition x p) ∧ x.tally.inhibit = s.permits.inhibit ∧
      r.force = forceMask s (x.tally.tripTaken && !s.tally.tripTaken) ∧ r.test = s.tally.dropIn := by
  have htrip := cycle_tripTaken ht hx
  obtain ⟨-, -, -, -, -, -, hinh, -⟩ := tallyCycle_tally s d ht
  have hin : x.tally.inhibit = s.permits.inhibit := by rw [hx.same .tally (by decide), hinh]
  obtain ⟨sh, hrec⟩ := cycleRecorded_tally (s.cycleJudged d t) (s.cycleAt t).tally.inbox
  obtain ⟨r, hr⟩ := cycleJudged_tally s d t
  obtain ⟨r', e, he⟩ := cycleTaken_tally (s.cycleAt t) d
  have hg := (cycleGuarded_told (s.cycleAt t) d).1
  have hback : ((s.cycleAt t).cycleGuarded d).tally.readbackIn = (s.cycleAt t).tally.readbackIn :=
    (congrArg Tally.readbackIn hg :)
  have hdrop : ((s.cycleAt t).cycleGuarded d).tally.dropIn = (s.cycleAt t).tally.dropIn := (congrArg Tally.dropIn hg :)
  have htr : (((s.cycleAt t).tallyTake d).tally.tripTaken && !(s.cycleAt t).tally.tripTaken) =
      (x.tally.tripTaken && !s.tally.tripTaken) := by
    have h : ((s.cycleAt t).cycleGuarded d).tally.tripTaken = tripAfter (s.cycleAt t) d := (congrArg Tally.tripTaken hg :)
    rw [tallyTake_tally, he, htrip, ← tripAfter_cycleAt s d t, ← h, cycleAt_tally]
  have heq := tallyCycle_eq s d ht
  rw [tallyPublish_eq, cyclePublished_eq, htr] at heq
  generalize (x.tally.tripTaken && !s.tally.tripTaken) = trip at heq ⊢
  generalize hp : ((s.cycleJudged d t).cycleRecorded (s.cycleAt t).tally.inbox).publish = p at heq
  have hkp : Keeps [.sect, .tally, .trk, .permits, .engine, .log] ((s.cycleAt t).tallyTake d) p := by
    rw [← hp]
    have h1 := (keeps_cycleJudged s d (t := t)).mono (b := [.sect, .tally, .trk, .permits, .engine, .log]) rfl
    have h2 := h1.trans ((keeps_provLoads _).mono rfl)
    have h3 := h2.trans ((keeps_noteHeadDist _).mono rfl)
    exact (h3.trans ((keeps_cycleRecorded _ _).mono rfl)).trans ((keeps_publish _).mono rfl)
  have htw : p.twin = s.twin := by
    rw [hkp.same .twin (by decide), (keeps_tallyTake _ d).same .twin (by decide), (keeps_cycleAt s t).same .twin (by decide)]
  have hcfg : p.cfg = s.cfg := by
    rw [hkp.same .cfg (by decide), (keeps_tallyTake _ d).same .cfg (by decide), (keeps_cycleAt s t).same .cfg (by decide)]
  have hptally : p.tally.readbackIn = s.tally.readbackIn ∧ p.tally.dropIn = s.tally.dropIn := by
    rw [← hp, publish_tally, hrec]
    dsimp only
    rw [hr]
    dsimp only
    rw [he]
    dsimp only
    rw [hback, hdrop, cycleAt_tally]
    exact ⟨rfl, rfl⟩
  obtain ⟨r1, r2⟩ := refreshPhase_held p trip (by rw [htw]; exact hl)
  have hfresh (u : State) : u.freshSections.twin = u.twin ∧ u.freshSections.now = u.now ∧ u.freshSections.cfg = u.cfg ∧
      u.freshSections.tally = u.tally ∧ u.freshSections.permits = u.permits := ⟨rfl, rfl, rfl, rfl, rfl⟩
  obtain ⟨f1, f2, f3, f4, f5⟩ := hfresh (p.refreshPhase trip)
  have hxtw : x.twin = (p.refreshPhase trip).twin := by
    rw [hx.same .twin (by decide), heq, f1]
  have hwin : retireWindow x = retireWindow p := by
    refine retireWindow_congr ?_ (by rw [hxtw, r1]) (by rw [hxtw, r1])
    rw [hx.same .now (by decide), heq, f2]
    exact (keeps_refreshPhase p _).same .now (by decide)
  refine ⟨refreshOf p trip, ?_, fun k => ?_, hin, ?_, ?_⟩
  · rw [hwin, hxtw, r1, htw]
  · rw [r2 k]
    refine (permitCondition_congr ?_ ?_ ?_ ?_ ?_).symm
    · rw [hx.same .cfg (by decide), heq, f3]
    · rw [hx.same .tally (by decide), heq, f4]
    · rw [hx.same .tally (by decide), heq, f4]
    · rw [hxtw]
    · rw [hx.same .permits (by decide), heq, f5]
  · exact forceMask_congr hcfg hptally.1 _
  · exact hptally.2

theorem cycle_heads (h : Fin 32) : guardDisturbed x h = guardDisturbed ((s.cycleAt t).tallyTake d) h ∧
    x.head.get h = ((s.cycleAt t).tallyTake d).head.get h ∧
    headDisturbed x h = headDisturbed ((s.cycleAt t).tallyTake d) h := by
  obtain ⟨h1, h2⟩ := tallyCycle_heads s d ht
  have hg : x.hg = ((s.cycleAt t).tallyTake d).hg := by rw [hx.same .hg (by decide), h1]
  have hh : x.head = ((s.cycleAt t).tallyTake d).head := by rw [hx.same .head (by decide), h2]
  have hc : x.cfg = ((s.cycleAt t).tallyTake d).cfg := by
    rw [hx.same .cfg (by decide), tallyCycle_cfg, (keeps_tallyTake _ d).same .cfg (by decide),
      (keeps_cycleAt s t).same .cfg (by decide)]
  refine ⟨?_, by rw [hh], headDisturbed_congr hc hg hh⟩
  simp only [guardDisturbed, hc, hg]

theorem cycle_published (n : Fin 48) : (x.tally.pub.sections.get n).st = (x.sect.get n).st ∧
    (x.tally.pub.sections.get n).count = (x.sect.get n).count := by
  obtain ⟨-, -, -, -, -, -, -, hpub⟩ := tallyCycle_tally s d ht
  rw [hx.same .tally (by decide), hx.same .sect (by decide), hpub, tallyCycle_eq s d ht, tallyPublish_eq, freshSections_get,
    (keeps_cyclePublished _ _ _).same .sect (by decide)]
  have hp (u : State) : (publishedNow u).sections = u.sect := rfl
  rw [hp, (keeps_cycleRecorded _ _).same .sect (by decide)]
  generalize (s.cycleJudged d t).provLoads.noteHeadDist.sect.get n = y
  exact ⟨rfl, rfl⟩

theorem cycle_taken (n : Fin 48) : FromJudged (judgedSection ((s.cycleAt t).tallyTake d) s.tally.ackIn n) (x.sect.get n) := by
  rw [hx.same .sect (by decide)]
  exact tallyCycle_fromJudged s d n ht

omit ht hx in
theorem taken_disturbed (n : Fin 48) (h : (s.sect.get n).st = .disturbed) :
    (((s.cycleAt t).tallyTake d).sect.get n).st = .disturbed := by
  have hst := taken_st (s.cycleAt t) d n
  rw [(keeps_cycleAt s t).same .sect (by decide)] at hst
  exact hst.elim (·.trans h) id

theorem cycle_stays (n : Fin 48) (h : (s.sect.get n).st = .disturbed) : (x.sect.get n).st = .disturbed ∨
    (x.sect.get n).st = .ras ∧ (x.sect.get n).rstate = .granted ∧ (x.sect.get n).count = 0 :=
  (cycle_taken ht hx n).stays n (taken_disturbed n h)

theorem cycle_disturbed {n : Fin 48} {i : Nat} (hu : (s.sect.get n).unused = false)
    (hr : (((s.cycleAt t).cycleCounted d).sect.get n).raised.getLsbD i = true) : Disturbed x n i := by
  unfold Disturbed
  rw [hx.same .sect (by decide)]
  exact tallyCycle_disturbed s d n ht hu hr

theorem cycle_commanded {n : Fin 48} (hu : (s.sect.get n).unused = false) (h : n ∈ s.tally.disturbIn) : Disturbed x n 6 := by
  refine cycle_disturbed ht hx hu (counted_of_taken _ d n (cycleTaken_commanded _ d n ?_))
  rw [cycleAt_tally]
  exact h

theorem cycle_head {n : Fin 48} (hu : (s.sect.get n).unused = false) {h : Fin 32} (hb : h ∈ boundingHeads s.cfg.active n) :
    ((s.hg.get h).raised = true → Disturbed x n 2) ∧ ((s.head.get h).raised = true → Disturbed x n 3) ∧
      ((s.sect.get n).st ≠ .disturbed →
        (guardDisturbed x h = true → Disturbed x n 2) ∧ (wreDisturbed (x.head.get h) = true → Disturbed x n 3)) := by
  obtain ⟨c1, c2⟩ := counted_of_head (s.cycleAt t) d n (h := h)
    (by rw [(keeps_cycleAt s t).same .cfg (by decide)]; exact hb)
  obtain ⟨g1, g2⟩ := cycleAt_guarded_raised s d (t := t) h
  obtain ⟨h1, h2, -⟩ := cycle_heads ht hx h
  have hs : (s.cycleAt t).sect = s.sect := (keeps_cycleAt s t).same .sect (by decide)
  rw [hs] at c1 c2
  rw [h1, h2]
  have done {i : Nat} (hr : (((s.cycleAt t).cycleCounted d).sect.get n).raised.getLsbD i = true) : Disturbed x n i :=
    cycle_disturbed ht hx hu hr
  exact ⟨fun hr => done (c1 (.inl (g1 hr))), fun hr => done (c2 (.inl (g2 hr))),
    fun hst => ⟨fun hg => done (c1 (.inr ⟨hst, hg⟩)), fun hw => done (c2 (.inr ⟨hst, hw⟩))⟩⟩

theorem cycle_underflow {n : Fin 48} (hu : (s.sect.get n).unused = false) {h : Fin 32} {v : VerdictRec}
    {e : Option (Fin 128)} {k g : Nat} {b : Option (Fin 48)} (hs : (s.sect.get n).st ≠ .disturbed)
    (hi : s.tally.inbox = [TallyItem.confirmed h v e k g (some n) b]) (hc : (s.sect.get n).count = 0) : Disturbed x n 4 := by
  have hsect : (s.cycleAt t).sect = s.sect := (keeps_cycleAt s t).same .sect (by decide)
  refine cycle_disturbed ht hx hu ((follows_cycleCounted _ d n).raised 4 ?_)
  exact cycleAxles_underflow _ d n (by rw [cycleAt_tally]; exact hi) (by rw [hsect]; exact hs) (by rw [hsect]; exact hc)

theorem cycle_overflow {n : Fin 48} (hu : (s.sect.get n).unused = false) {h : Fin 32} {v : VerdictRec}
    {e : Option (Fin 128)} {k g : Nat} {a : Option (Fin 48)} (hs : (s.sect.get n).st ≠ .disturbed)
    (hi : s.tally.inbox = [TallyItem.confirmed h v e k g a (some n)]) (ha : a ≠ some n) (hc : (s.sect.get n).count = 4095) :
    Disturbed x n 5 := by
  have hsect : (s.cycleAt t).sect = s.sect := (keeps_cycleAt s t).same .sect (by decide)
  refine cycle_disturbed ht hx hu ((follows_cycleCounted _ d n).raised 5 ?_)
  exact cycleAxles_overflow _ d n (by rw [cycleAt_tally]; exact hi) ha (by rw [hsect]; exact hs) (by rw [hsect]; exact hc)

theorem cycle_tripped {n : Fin 48} (hu : (s.sect.get n).unused = false) (h : 1500 ≤ d) (hr : s.tally.tripTaken = false) :
    Disturbed x n 7 := by
  refine cycle_disturbed ht hx hu (counted_of_taken _ d n (cycleTaken_tripped _ d n ?_ ?_))
  · rw [tripRises_cycleAt]
    exact tripRises_of_hot s d h hr
  · rw [(keeps_cycleAt s t).same .sect (by decide)]
    exact hu

theorem cycle_residues (n : Fin 48) : (x.engine.residues.get n).n ≤ x.tally.pub.untracked.get n ∧
    (x.tally.pub.untracked.get n = 0 → x.engine.residues.get n = {}) := by
  obtain ⟨-, -, -, -, -, -, -, hpub⟩ := tallyCycle_tally s d ht
  have hres : x.engine.residues = residuesNow ((s.cycleJudged d t).cycleRecorded (s.cycleAt t).tally.inbox) := by
    rw [hx.same .engine (by decide), tallyCycle_eq s d ht, tallyPublish_eq, cyclePublished_eq]
    have hf (u : State) : u.freshSections.engine = u.engine := rfl
    rw [hf, (keeps_refreshPhase _ _).same .engine (by decide)]
    rfl
  have hun : x.tally.pub.untracked.get n = untrackedOf ((s.cycleJudged d t).cycleRecorded (s.cycleAt t).tally.inbox) n := by
    rw [hx.same .tally (by decide), hpub]
    exact Tab.get_map_finRange _ n
  rw [hres, hun]
  exact residuesNow_get _ n

/-- What a restore of a DISTURBED section meets in a cycle without restore writes. -/
theorem taken_restore {n : Fin 48} (hr : s.tally.restoreIn = []) (hd : (s.sect.get n).st = .disturbed)
    (hp : (s.sect.get n).rstate = .pending) : (((s.cycleAt t).tallyTake d).sect.get n).st = .disturbed ∧
      (((s.cycleAt t).tallyTake d).sect.get n).rstate = .pending ∧
      (((s.cycleAt t).tallyTake d).sect.get n).reqAt = (s.sect.get n).reqAt ∧ ((s.cycleAt t).tallyTake d).now = x.now := by
  have hq := tallyTake_request (s.cycleAt t) d n (by rw [cycleAt_tally]; exact hr)
  rw [(keeps_cycleAt s t).same .sect (by decide)] at hq
  refine ⟨taken_disturbed n hd, (congrArg Prod.fst hq).trans hp, congrArg Prod.snd hq, ?_⟩
  rw [(keeps_tallyTake _ d).same .now (by decide), cycleAt_now, (cycle_input ht hx).2.1]

theorem cycle_restored {n : Fin 48} (hr : s.tally.restoreIn = []) (hd : (s.sect.get n).st = .disturbed)
    (hp : (s.sect.get n).rstate = .pending) :
    (x.now < (s.sect.get n).reqAt + sec 60 → s.tally.ackIn = true → RestoreJudged s x n) ∧
    (x.now < (s.sect.get n).reqAt + sec 60 → s.tally.ackIn = false → (x.sect.get n).rstate = .pending) ∧
    ((s.sect.get n).reqAt + sec 60 ≤ x.now → (x.sect.get n).rstate = .expired) := by
  obtain ⟨z1, z2, z3, z4⟩ := taken_restore ht hx hr hd hp
  have hf := cycle_taken ht hx n
  refine ⟨fun hn ha => ?_, fun hn ha => ?_, fun hn => ?_⟩
  · rw [ha] at hf
    refine hf.judged s n z1 z2 (by rw [z3, z4]; exact hn) ?_ (fun h => ?_) (fun hm hz => ?_)
    · rw [(keeps_tallyTake _ d).same .cfg (by decide), (keeps_cycleAt s t).same .cfg (by decide)]
    · obtain ⟨-, h2, h3⟩ := cycle_heads ht hx h
      exact ⟨h3, by rw [h2]⟩
    · have hc := counted_of_taken (s.cycleAt t) d n (cycleTaken_commanded _ d n (by rw [cycleAt_tally]; exact hm))
      rw [tallyTake_get, (disturb_kept _).2.2.1] at hz
      rw [hz, BitVec.getLsbD_zero] at hc
      cases hc
  · rw [ha, judgedSection_waiting _ n z2 (by rw [z3, z4]; exact hn)] at hf
    exact hf.rstate.trans z2
  · rw [judgedSection_expired _ n _ z2 (by rw [z3, z4]; exact hn)] at hf
    exact hf.rstate

theorem cycle_granted {n : Fin 48} (hr : s.tally.restoreIn = []) (hd : (s.sect.get n).st = .disturbed)
    (hp : (s.sect.get n).rstate = .pending) (hn : x.now < (s.sect.get n).reqAt + sec 60) (ha : s.tally.ackIn = true)
    (h0 : (s.sect.get n).raised = 0#8) (hc : n ∉ s.tally.disturbIn) (hi : s.tally.inbox = [])
    (htr : x.tally.tripTaken = s.tally.tripTaken) (hrtd : ∀ c : Fin 64, chRtd s.cfg.active c.val = false)
    (hh : ∀ h ∈ boundingHeads s.cfg.active n, (s.hg.get h).raised = false ∧ (s.head.get h).raised = false ∧
      headDisturbed s h = false ∧ anySlot (s.head.get h) = false)
    (h1 : (s.sect.get n).provRefs = 0) (h2 : (s.sect.get n).touched = false) :
    (x.sect.get n).st = .ras ∧ (x.sect.get n).rstate = .granted := by
  obtain ⟨-, z2, z3, z4⟩ := taken_restore ht hx hr hd hp
  have hf := cycle_taken ht hx n
  have hk := keeps_cycleAt s t
  have hcfg : (s.cycleAt t).cfg = s.cfg := hk.same .cfg (by decide)
  have hhg : (s.cycleAt t).hg = s.hg := hk.same .hg (by decide)
  have hhd : (s.cycleAt t).head = s.head := hk.same .head (by decide)
  have hsect : (s.cycleAt t).sect = s.sect := hk.same .sect (by decide)
  have htally := cycleAt_tally s t
  have hdist (h : Fin 32) : headDisturbed (s.cycleAt t) h = headDisturbed s h := headDisturbed_congr hcfg hhg hhd
  obtain ⟨c1, c2⟩ := tallyTake_calm (s.cycleAt t) d n
    (by rw [tripRises_cycleAt]; exact tripRises_of_same s d ((cycle_tripTaken ht hx).symm.trans htr))
    (by rw [hcfg]; exact hrtd) (by rw [htally]; exact hi) (by rw [htally]; exact hr) (by rw [htally]; exact hc)
    (by
      rw [hcfg, hhg, hhd]
      exact fun h hm => ⟨(hh h hm).1, (hh h hm).2.1, (hdist h).trans (hh h hm).2.2.1⟩)
    (by rw [hsect]; exact h0) (by rw [hsect]; exact h1) (by rw [hsect]; exact h2)
  have hqc : ((s.cycleAt t).tallyTake d).cfg = s.cfg := by
    rw [(keeps_tallyTake _ d).same .cfg (by decide), hcfg]
  have hg : grantReason ((s.cycleAt t).tallyTake d) n = 0 := by
    have free (h : Fin 32) (hm : h ∈ boundingHeads ((s.cycleAt t).tallyTake d).cfg.active n) :
        headDisturbed ((s.cycleAt t).tallyTake d) h = false ∧ anySlot (((s.cycleAt t).tallyTake d).head.get h) = false := by
      rw [hqc] at hm
      rw [(c2 h).1, (c2 h).2, hdist, hhd]
      exact ⟨(hh h hm).2.2.1, (hh h hm).2.2.2⟩
    rcases grantReason_cases ((s.cycleAt t).tallyTake d) n with ⟨-, hz⟩ | ⟨-, ⟨-, h, hm, hz⟩ | ⟨-, ⟨-, h, hm, hz⟩ |
      ⟨-, ⟨-, hz⟩ | ⟨hz, -⟩⟩⟩⟩
    · rw [c1, hsect] at hz
      exact absurd h0 hz
    · rw [(free h hm).1] at hz
      cases hz
    · rw [(free h hm).2] at hz
      cases hz
    · rw [c1] at hz
      cases hz
    · exact hz
  rw [ha, (judgedSection_acked _ n z2 (by rw [z3, z4]; exact hn)).1 hg] at hf
  exact ⟨hf.ras rfl rfl, hf.rstate⟩

end

/-- Settles O29. -/
theorem tallyCycleCompletes : Obligations.TallyCycleCompletes := by
  unfold Obligations.TallyCycleCompletes
  intro s d ha
  refine runs_whenAlive (f := fun s => (tallyCycle d s).sendChanged) rfl ha ?_
  have hx : Keeps [.stream, .pdo, .sent, .emcy, .log] (tallyCycle d s.begin) (tallyCycle d s.begin).sendChanged.finish :=
    ((keeps_sendChanged _).mono rfl).trans ((keeps_finish _).mono rfl)
  generalize (tallyCycle d s.begin).sendChanged.finish = x at hx
  generalize ht : nextFrom (ms 1) s.power.bootAt s.now s.tally.startAt = t
  have ht' : nextFrom (ms 1) s.begin.power.bootAt s.begin.now s.begin.tally.startAt = t := ht
  obtain ⟨i1, i2, i3, i4, i5, i6, i7, i8⟩ := cycle_input ht' hx
  refine ⟨i1, i2.trans (by rw [i1]; rfl), i3, i4, i5, i6, i7, i8, cycle_inbox ht' hx, cycle_refresh ht' hx,
    cycle_published ht' hx, cycle_stays ht' hx, fun n hu => ⟨cycle_commanded ht' hx hu, fun h hb => cycle_head ht' hx hu hb,
      fun h v e k g b hs hi hc => cycle_underflow ht' hx hu hs hi hc,
      fun h v e k g a hs hi hn hc => cycle_overflow ht' hx hu hs hi hn hc, cycle_tripped ht' hx hu⟩,
    fun n => cycle_restored ht' hx,
    fun n h1 h2 h3 h4 h5 h6 h7 h8 _ h10 h11 h12 h13 h14 => cycle_granted ht' hx h1 h2 h3 h4 h5 h6 h7 h8 h10 h11 h12 h13 h14,
    cycle_residues ht' hx⟩

end Sys2Proof.Machine

/-! SUPPORT. A permit starts only under its condition: what each operation of the permit hardware and of a Tally cycle does
to the permits that are RUNNING (R272, R277). -/

namespace Sys2Proof.Machine

-- the relation
/-- A permit that is RUNNING has its condition, or was RUNNING before with the condition as it was (R272, R277). -/
def Permit.RunsOn (x y : Permit) : Prop := y.st = .running → y.cond = true ∨ (x.st = .running ∧ y.cond = x.cond)

theorem Permit.RunsOn.refl (x : Permit) : x.RunsOn x := fun h => .inr ⟨h, rfl⟩

theorem Permit.RunsOn.trans {x y z : Permit} (h : x.RunsOn y) (g : y.RunsOn z) : x.RunsOn z := fun hz =>
  (g hz).elim .inl fun ⟨hy, hc⟩ => (h hy).elim (fun h => .inl (hc.trans h)) fun h => .inr ⟨h.1, hc.trans h.2⟩

/-- Same state, same condition. -/
theorem Permit.RunsOn.of_eq {x y : Permit} (hst : y.st = x.st) (hc : y.cond = x.cond) : x.RunsOn y := fun h =>
  .inr ⟨hst ▸ h, hc⟩

theorem Permit.RunsOn.of_ne {x y : Permit} (h : y.st ≠ .running) : x.RunsOn y := fun h' => absurd h' h

/-- Every permit that is RUNNING in `t` has its condition or was RUNNING in `s` (R272, R277). -/
def RunsOn (s t : State) : Prop := ∀ p : Fin 16, (s.permits.po.get p).RunsOn (t.permits.po.get p)

theorem RunsOn.of_po {s t : State} (h : t.permits.po = s.permits.po) : RunsOn s t := fun _ => h ▸ .refl _

theorem RunsOn.refl (s : State) : RunsOn s s := .of_po rfl

theorem RunsOn.trans {s t u : State} (h : RunsOn s t) (g : RunsOn t u) : RunsOn s u := fun p => (h p).trans (g p)

theorem RunsOn.keeps {l : List Part} {s t : State} (h : Keeps l s t) (hm : misses [.permits] l = true) : RunsOn s t :=
  .of_po (congrArg Permits.po (h.same .permits (by simpa using List.all_eq_true.mp hm .permits (by simp))))

theorem RunsOn.foldl {α : Type} {f : State → α → State} (hf : ∀ acc x, RunsOn acc (f acc x)) :
    ∀ (xs : List α) (s : State), RunsOn s (xs.foldl f s)
  | [], s => .refl s
  | x :: xs, s => (hf s x).trans (RunsOn.foldl hf xs (f s x))

theorem RunsOn.ite {c : Prop} [Decidable c] {s a b : State} (ha : RunsOn s a) (hb : RunsOn s b) :
    RunsOn s (if c then a else b) := by
  split
  · exact ha
  · exact hb

theorem RunsOn.updPermit {s : State} {p : Fin 16} {f : Permit → Permit} (hf : ∀ x : Permit, x.RunsOn (f x)) :
    RunsOn s (s.updPermit p f) := by
  intro q
  by_cases e : q = p
  · subst e
    rw [State.updPermit_self]
    exact hf _
  · rw [State.updPermit_other s f e]
    exact .refl _

theorem RunsOn.map {s : State} {f : Permit → Permit} {x : Permits} (hx : x.po = Vector.map f s.permits.po)
    (hf : ∀ y : Permit, y.RunsOn (f y)) {t : State} (ht : t.permits = x) : RunsOn s t := by
  intro p
  rw [ht, hx, Tab.get_map]
  exact hf _

theorem RunsOn.whenAlive {f : State → State} (hf : ∀ u, RunsOn u (f u)) (s : State) : RunsOn s (s.whenAlive f) := .ite (hf s) (.refl s)

theorem RunsOn.guarded {f : State → State} {b : Bool} (hf : ∀ u, RunsOn u (f u)) (s : State) : RunsOn s (s.guarded b f) := .ite (hf s) (.refl s)

theorem RunsOn.run {f : State → State} (hf : ∀ u, RunsOn u (f u)) {s t : State} (h : run s f = .next t) : RunsOn s t := by
  unfold Machine.run at h
  cases h
  exact (RunsOn.trans (.keeps (keeps_begin s) rfl) (hf _)).trans (.keeps (keeps_finish _) rfl)

-- one permit
theorem runsOn_permitForceLow (now : Nat) (x : Permit) : x.RunsOn (permitForceLow now x) := by
  unfold permitForceLow
  cases hx : x.st with
  | running => exact .of_ne (by simp)
  | dropping =>
    dsimp only
    split
    · exact .of_eq hx.symm rfl
    · exact .refl x
  | off => exact .refl x
  | highz => exact .refl x

theorem permitForceLow_not_running (now : Nat) (x : Permit) : (permitForceLow now x).st ≠ .running := by
  unfold permitForceLow
  cases hx : x.st with
  | running => simp
  | dropping =>
    dsimp only
    split <;> simp [hx]
  | off => simp [hx]
  | highz => simp [hx]

/-- A refresh leaves a permit RUNNING only under its condition (R272, R277). -/
theorem permitRefresh_running (now : Nat) (cond force test : Bool) (x : Permit)
    (h : (permitRefresh now cond force test x).st = .running) : (permitRefresh now cond force test x).cond = true := by
  generalize hz : permitRefresh now cond force test x = z at h ⊢
  unfold permitRefresh at hz
  extract_lets w y _ at hz
  have hy : y.cond = cond := rfl
  clear_value y
  cases hst : y.st with
  | running =>
    simp only [hst] at hz
    split at hz
    · subst hz
      cases h
    · split at hz
      · exact hz ▸ hy.trans ‹cond = true›
      · subst hz
        cases h
  | off =>
    simp only [hst] at hz
    split at hz
    · exact hz ▸ hy.trans ‹cond = true›
    · rw [← hz, hst] at h
      cases h
  | highz =>
    simp only [hst] at hz
    rw [← hz] at h
    cases h
  | dropping =>
    simp only [hst] at hz
    split at hz
    · rw [← hz] at h
      cases h
    · rw [← hz, hst] at h
      cases h

theorem runsOn_permitTakes (now : Nat) (e : Bool) (r : Refresh) (p : Fin 16) (x : Permit) :
    x.RunsOn (permitTakes now e r p x) := fun h => .inl (permitRefresh_running _ _ _ _ x h)

theorem runsOn_permitStalled (now : Nat) (x : Permit) : x.RunsOn (permitStalled now x) := by
  unfold permitStalled
  cases hx : x.st with
  | highz => exact .refl x
  | off => exact .of_ne (by simp)
  | running => exact .of_ne (permitForceLow_not_running now x)
  | dropping => exact .of_ne (permitForceLow_not_running now x)

theorem runsOn_permitHighz (x : Permit) : x.RunsOn (permitHighz x) := .of_ne (by simp [permitHighz])

theorem runsOn_permitActivated (a : Bool) (now : Nat) (x : Permit) : x.RunsOn (permitActivated a now x) := by
  cases a
  · exact .of_ne (by simp [permitActivated, permitHighz])
  · exact .of_ne (by simp [permitActivated])

theorem runsOn_permitUnlocked (a : Bool) (x : Permit) : x.RunsOn (permitUnlocked a x) := by
  cases a
  · exact .of_eq rfl rfl
  · exact .refl x

theorem runsOn_permitEdge (now : Nat) (x : Permit) : x.RunsOn (permitEdge now x) := by
  unfold permitEdge
  cases hx : x.st with
  | highz => exact .refl x
  | off => exact .of_eq hx.symm rfl
  | running =>
    dsimp only
    split <;> exact .of_eq hx.symm rfl
  | dropping =>
    dsimp only
    split <;> exact .of_eq hx.symm rfl

-- the output hardware
theorem runsOn_permitsLow (s : State) : RunsOn s s.permitsLow := .map rfl (runsOn_permitStalled s.now) rfl

theorem runsOn_permitsHighz (s : State) : RunsOn s s.permitsHighz := .map rfl runsOn_permitHighz rfl

theorem runsOn_applyRefresh (s : State) (r : Refresh) : RunsOn s (s.applyRefresh r) := by
  unfold State.applyRefresh
  extract_lets u
  have h : RunsOn s u := .foldl (fun acc p => .ite (.updPermit (runsOn_permitTakes _ _ r p)) (.refl acc)) _ s
  exact h.trans (.of_po rfl)

theorem runsOn_permitOutputs (s : State) (m : BitVec 16) : RunsOn s (s.permitOutputs m) :=
  .ite (.refl s) (.foldl (fun _ _ => .updPermit (runsOn_permitActivated _ _)) _ s)

theorem runsOn_unlockUnassigned (s : State) : RunsOn s s.unlockUnassigned :=
  .foldl (fun _ _ => .updPermit (runsOn_permitUnlocked _)) _ s

theorem runsOn_permitActivate (s : State) : RunsOn s s.permitActivate :=
  (runsOn_unlockUnassigned s).trans (.keeps (keeps_holdPermit _ _) rfl)

theorem runsOn_permitDueEdge (p : Fin 16) (s : State) : RunsOn s (permitDueEdge p s) := by
  unfold permitDueEdge
  extract_lets t s0
  exact RunsOn.trans (.keeps (keeps_reach s t) rfl) (.updPermit fun x => (runsOn_permitEdge _ x).trans (.of_eq rfl rfl))

/-- A drop ends in RUNNING only under the condition (R277). -/
theorem runsOn_dropElapsed (p : Fin 16) (s : State) : RunsOn s (dropElapsed p s) := by
  unfold dropElapsed
  generalize (s.permits.po.get p).dropAt + ms (permitDrop s.cfg.active p.val) = i
  refine .ite (.trans (.keeps (keeps_reach s i) rfl) (.updPermit fun x => ?_)) (.refl s)
  split
  · rename_i h
    exact fun _ => .inl (by simp [permitStart, (Bool.and_eq_true_iff.mp h).2])
  · exact .of_ne (by simp)

theorem runsOn_readbackSample (p : Fin 16) (level : Bool) (s : State) : RunsOn s (readbackSample p level s) := by
  unfold readbackSample
  generalize nextEdge s p - us 10 = i
  extract_lets c s0 bit _ s1
  have h0 : RunsOn s s0 := .keeps (keeps_reach s i) rfl
  have h1 : RunsOn s s1 := h0.trans (.of_po rfl)
  clear_value s1
  split
  · exact h1
  · split
    · exact h1.trans (.updPermit fun x => .of_eq rfl rfl)
    · exact h1.trans (.updPermit fun x => .of_eq rfl rfl)

theorem runsOn_readbackFault (p : Fin 16) (s : State) : RunsOn s (readbackFault p s) := by
  unfold readbackFault
  extract_lets x s1
  have h1 : RunsOn s s1 := .updPermit fun x => .of_eq rfl rfl
  exact .ite (h1.trans (.of_po rfl)) (.refl s)

theorem runsOn_tallyStall (s : State) : RunsOn s (tallyStall s) := by
  unfold tallyStall
  generalize s.permits.refreshedAt + us 1500 = i
  extract_lets s0
  exact .ite (.refl s) (.trans (.keeps (keeps_reach s i) rfl) (.map (x := { s0.permits with
    stalled := true, po := Vector.map (permitStalled s0.now) s0.permits.po }) rfl (runsOn_permitStalled s0.now) rfl))

-- the acknowledge input
theorem runsOn_updAck (s : State) (f : Ack → Ack) : RunsOn s (s.updAck f) := .of_po rfl

theorem runsOn_ackEvent (s : State) (e n : Nat) (o : Option Origin) : RunsOn s (s.ackEvent e n o) := .of_po rfl

theorem runsOn_setStuck (s : State) : RunsOn s s.setStuck := .ite (.refl s) (.of_po rfl)

theorem runsOn_ackEdge (pressed : Bool) (s : State) : RunsOn s (ackEdge pressed s) := by
  refine .ite (.refl s) (.ite (runsOn_updAck s _) ?_)
  unfold ackRelease
  extract_lets len s1 up s2
  have h1 : RunsOn s s1 := .ite (runsOn_setStuck s) (.refl s)
  exact .ite (h1.trans (.of_po rfl)) (h1.trans (.of_po rfl))

theorem runsOn_ackStuckSet (s : State) : RunsOn s (ackStuckSet s) := by
  unfold ackStuckSet
  generalize s.permits.ack.pressAt + sec 5 = i
  exact .ite (.trans (.keeps (keeps_reach s i) rfl) (runsOn_setStuck _)) (.refl s)

theorem runsOn_ackHighQualified (s : State) : RunsOn s (ackHighQualified s) := by
  unfold ackHighQualified
  cases s.permits.ack.highFrom with
  | none => exact .refl s
  | some t =>
    dsimp only
    generalize t + sec 1 = i
    have h0 : RunsOn s ((s.reach i).updAck fun a => { a with highQualified := true }) :=
      RunsOn.trans (.keeps (keeps_reach s i) rfl) (runsOn_updAck _ _)
    generalize (s.reach i).updAck _ = u at h0 ⊢
    exact .ite (h0.trans (.trans (runsOn_updAck u _) (runsOn_ackEvent _ 7 0 none))) h0

theorem runsOn_ackArmExpiry (s : State) : RunsOn s (ackArmExpiry s) := by
  unfold ackArmExpiry
  generalize s.permits.ack.armedAt + sec 60 = i
  cases s.permits.ack.armedBy with
  | none => exact .refl s
  | some o => exact .trans (.keeps (keeps_reach s i) rfl) (.trans (runsOn_updAck _ _) (runsOn_ackEvent _ 4 0 (some o)))

-- the phases of a Tally cycle
theorem runsOn_lockOut (s : State) (m : BitVec 16) (c : BitVec 4) : RunsOn s (s.lockOut m c) := by
  unfold State.lockOut
  refine .foldl (fun acc p => ?_) _ s
  split
  · exact .updPermit fun x => .of_eq rfl rfl
  · exact .refl acc

theorem runsOn_lockReadback (s : State) (q : Fin 16) : RunsOn s (s.lockReadback q) := by
  unfold State.lockReadback
  extract_lets mask
  refine .foldl (fun acc p => ?_) _ s
  split
  · exact .updPermit fun x => .of_eq rfl rfl
  · exact .refl acc

theorem runsOn_lockRemove (s : State) : RunsOn s s.lockRemove := by
  unfold State.lockRemove
  refine .foldl (fun acc p => ?_) _ s
  extract_lets keep
  exact .updPermit fun x => .of_eq rfl rfl

theorem runsOn_permitRecords (s : State) (r : Refresh) : RunsOn s (s.permitRecords r) := by
  refine .foldl (fun acc p => ?_) _ s
  unfold State.permitRecord
  extract_lets x y was lk s1
  have h1 : RunsOn acc s1 := .ite (.keeps (keeps_record acc _ _) rfl) (.refl acc)
  exact h1.trans (.updPermit fun _ => .of_eq rfl rfl)

theorem runsOn_takeArm (s : State) (x : ArmIn) : RunsOn s (s.takeArm x) := by
  cases x with
  | arm o t => exact .of_po rfl
  | withdraw o => exact .ite (.of_po rfl) (.refl s)

theorem runsOn_takePermitWrites (s : State) : RunsOn s s.takePermitWrites := by
  unfold State.takePermitWrites
  extract_lets s1 s2
  have h1 : RunsOn s s1 := runsOn_lockOut s _ _
  have h2 : RunsOn s1 s2 := .foldl runsOn_takeArm _ s1
  exact (h1.trans h2).trans (.of_po rfl)

theorem runsOn_restorePhase (s : State) : RunsOn s s.restorePhase := by
  unfold State.restorePhase
  extract_lets ack s1 s2
  have h1 : RunsOn s s1 := .foldl (fun acc n => .keeps (keeps_judgeRestore acc ack n) rfl) _ s
  have h2 : RunsOn s1 s2 := .ite (runsOn_lockRemove s1) (.refl s1)
  exact (h1.trans h2).trans (.of_po rfl)

theorem runsOn_lockPhase (s : State) (trip : Bool) : RunsOn s (s.lockPhase trip) := by
  unfold State.lockPhase
  extract_lets s1 s2
  have h1 : RunsOn s s1 := .ite (runsOn_lockOut s _ _) (.refl s)
  have h2 : RunsOn s1 s2 := .foldl (fun acc p => .ite (runsOn_lockReadback acc p) (.refl acc)) _ s1
  exact .ite ((h1.trans h2).trans (runsOn_lockOut s2 _ _)) (h1.trans h2)

theorem runsOn_refreshPhase (s : State) (trip : Bool) : RunsOn s (s.refreshPhase trip) := by
  unfold State.refreshPhase
  extract_lets s1 r s2
  have h1 : RunsOn s s1 := runsOn_lockPhase s trip
  have h2 : RunsOn s1 s2 := (runsOn_permitRecords s1 r).trans (.keeps (keeps_holdPermit _ _) rfl)
  exact (h1.trans h2).trans (.of_po rfl)

theorem runsOn_tallyTake (s : State) (d : Int) : RunsOn s (s.tallyTake d) := by
  unfold State.tallyTake
  extract_lets l _ s1 s2 s3 s4 _ s5 s6 s7 s8 s9
  have h2 : RunsOn s1 s2 := RunsOn.trans (.keeps (keeps_takeThermal s1 d) rfl) (.keeps (keeps_guardCycle _) rfl)
  have h3 : RunsOn s2 s3 := .foldl (fun acc x => .keeps (keeps_takeItem acc x) rfl) _ s2
  have h4 : RunsOn s3 s4 := .foldl (fun acc x => .keeps (keeps_takeRestore acc x) rfl) _ s3
  have h6 : RunsOn s5 s6 := (runsOn_takePermitWrites s5).trans (.keeps (keeps_takeDisturb _) rfl)
  have h7 : RunsOn s6 s7 := .keeps (keeps_countPhase s6 _) rfl
  have h9 : RunsOn s8 s9 := .keeps (keeps_takeHeads s8) rfl
  clear_value s9 s7 s6
  have h89 : RunsOn s7 s9 := (RunsOn.of_po rfl : RunsOn s7 s8).trans h9
  clear_value s8
  have h57 : RunsOn s4 s7 := (RunsOn.of_po rfl : RunsOn s4 s5).trans (h6.trans h7)
  clear_value s5 s4 s3 s2
  have h14 : RunsOn s s4 := ((RunsOn.of_po rfl : RunsOn s s1).trans h2).trans (h3.trans h4)
  exact (h14.trans h57).trans (h89.trans (.of_po rfl))

theorem runsOn_publish (s : State) : RunsOn s s.publish := .of_po rfl

theorem runsOn_tallyPublish (s : State) (l : List TallyItem) (trip : Bool) : RunsOn s (s.tallyPublish l trip) := by
  unfold State.tallyPublish
  extract_lets s1 s2 s3 s4
  have h1 : RunsOn s s1 := RunsOn.trans (.keeps (keeps_provLoads s) rfl) (.keeps (keeps_noteHeadDist _) rfl)
  have h2 : RunsOn s1 s2 := RunsOn.trans (.keeps (keeps_trackRecords s1 l) rfl) (.keeps (keeps_headRecords _) rfl)
  have h3 : RunsOn s2 s3 :=
    RunsOn.trans (.foldl (fun acc n => .keeps (keeps_sectionRecords acc n) rfl) _ s2) (.keeps (keeps_ackRecords _) rfl)
  have h4 : RunsOn s3 s4 := (runsOn_publish s3).trans (runsOn_refreshPhase _ trip)
  clear_value s4
  exact ((h1.trans h2).trans (h3.trans h4)).trans (.of_po rfl)

theorem runsOn_tallyCycle (d : Int) (s : State) : RunsOn s (tallyCycle d s) := by
  unfold tallyCycle
  generalize nextFrom (ms 1) s.power.bootAt s.now s.tally.startAt = t
  extract_lets t s0 _ s1 trip0 s2 s3
  have h0 : RunsOn s s0 := .keeps (keeps_reach s t) rfl
  have h1 : RunsOn s s1 := h0.trans (.of_po rfl)
  have h2 : RunsOn s1 s2 := runsOn_tallyTake s1 d
  clear_value s2
  have h3 : RunsOn s2 s3 := (runsOn_restorePhase s2).trans (.keeps (keeps_evaluateAll _) rfl)
  exact ((h1.trans h2).trans h3).trans (runsOn_tallyPublish s3 _ _)

end Sys2Proof.Machine

/-! SUPPORT. A permit starts only under its condition: what the Reeve, the stop path, an activation, a HIBERNATE entry and
the supplies do to the permits that are RUNNING (R53, R272, R277, R347, R348). -/

namespace Sys2Proof.Machine

-- the stop latch and the Reeve
theorem runsOn_stopLatch (s : State) (c : Nat) (g : Option (BitVec 32 × BitVec 32)) : RunsOn s (s.stopLatch c g) := by
  unfold State.stopLatch
  extract_lets bit sg _ s1
  split
  · exact .of_po rfl
  · have h1 : RunsOn s s1 := .of_po rfl
    exact h1.trans (runsOn_permitsHighz s1)

theorem runsOn_checkStages (s : State) : RunsOn s s.checkStages := .ite (.refl s) (runsOn_stopLatch s 1 none)

theorem runsOn_applyPermitWrite (s : State) (w : PermitWrite) : RunsOn s (s.applyPermitWrite w) := by
  cases w with
  | refresh r => exact runsOn_applyRefresh s r
  | activation a => exact runsOn_permitOutputs s a

theorem runsOn_reevePass (s : State) (n : Nat) : RunsOn s (s.reevePass n) := by
  unfold State.reevePass
  extract_lets s1
  have h1 : RunsOn s s1 := .foldl runsOn_applyPermitWrite _ s
  clear_value s1
  exact h1.trans (.of_po rfl)

theorem runsOn_windowDone (s : State) (n : Nat) : RunsOn s (s.windowDone n) := .of_po rfl

theorem runsOn_reeveCompare (a b : CoreWindow) (d0 d1 : BitVec 224) (s : State) : RunsOn s (reeveCompare a b d0 d1 s) := by
  unfold reeveCompare
  generalize compareAt s.twin = i
  extract_lets n sg ended s0 stop s1 _
  have h0 : RunsOn s s0 := (RunsOn.of_po rfl : RunsOn s ended).trans (.keeps (keeps_reach ended i) rfl)
  clear_value s0
  have hpass : RunsOn s ((s0.reevePass n).windowDone n) := h0.trans ((runsOn_reevePass s0 n).trans (runsOn_windowDone _ n))
  have hstop (cause : Nat) : RunsOn s (stop cause) :=
    h0.trans ((runsOn_stopLatch s0 cause _).trans (runsOn_windowDone _ n))
  clear_value stop
  refine .ite ?_ (.ite ?_ (.refl s))
  · cases reeveOutcome s.twin n (sg.1 ^^^ sg.2) with
    | matched => exact hpass
    | caught =>
      have h1 : RunsOn s s1 := hpass
      clear_value s1
      exact h1.trans (.of_po rfl)
    | mismatch => exact hstop 4
    | kaMissed => exact hstop 5
    | stopTest => exact hstop 9
    | stopTestMismatch => exact (hstop 4).trans (runsOn_stopLatch _ 9 none)
  · cases outcomeCause (reeveOutcome s.twin n (sg.1 ^^^ sg.2)) with
    | none => exact .refl s
    | some c => exact runsOn_stopLatch s c none

theorem runsOn_delayParityError (second : Bool) (d : BitVec 224) (p : BitVec 28) (s : State) :
    RunsOn s (delayParityError second d p s) := .trans (.of_po rfl) (runsOn_checkStages _)

-- reads of Core A and the scrubber
theorem runsOn_eccDouble (s : State) (c : Nat) : RunsOn s (s.eccDouble c) := by
  unfold State.eccDouble
  extract_lets s1
  have h1 : RunsOn s s1 := runsOn_stopLatch s c none
  clear_value s1
  exact .ite (h1.trans (.of_po rfl)) h1

theorem runsOn_coreRead (s : State) (w : BitVec 32) : RunsOn s (s.coreRead w) := by
  unfold State.coreRead
  extract_lets s1
  have h1 : RunsOn s s1 := runsOn_checkStages s
  clear_value s1
  exact h1.trans (.of_po rfl)

theorem runsOn_sramFault (s : State) (word : Nat) : RunsOn s (s.sramFault word) := .ite (runsOn_eccDouble s 2) (.refl s)

theorem runsOn_sramRead (s : State) (word : Nat) : RunsOn s (s.sramRead word) :=
  (runsOn_coreRead s _).trans (runsOn_sramFault _ word)

theorem runsOn_flashFault (s : State) (p : FlashPlace) : RunsOn s (s.flashFault p) := .ite (runsOn_eccDouble s 3) (.refl s)

theorem runsOn_flashWord (s : State) (p : FlashPlace) (x : BitVec 39) : RunsOn s (s.flashWord p x) := by
  cases p <;> exact .of_po rfl

theorem runsOn_scrubNext (s : State) : RunsOn s s.scrubNext := .of_po rfl

theorem runsOn_scrubRead (r : MemRead) (s : State) : RunsOn s (scrubRead r s) := by
  cases r with
  | clean => exact (runsOn_sramFault s _).trans (runsOn_scrubNext _)
  | coreAccess reads => exact .ite (runsOn_sramRead s _) (.refl s)
  | single => exact .of_po rfl
  | singleThenStore mask data => exact .of_po rfl
  | double x => exact (RunsOn.of_po rfl : RunsOn s (s.sramWord _ x)).trans ((runsOn_eccDouble _ 2).trans (runsOn_scrubNext _))
  | coreClean a => exact runsOn_sramRead s _
  | coreSingle a => exact .trans (.of_po rfl) (runsOn_coreRead _ _)
  | coreDouble a x =>
    exact (RunsOn.of_po rfl : RunsOn s (s.sramWord _ x)).trans ((runsOn_coreRead _ _).trans (runsOn_eccDouble _ 2))
  | flashClean p => exact (runsOn_coreRead s _).trans (runsOn_flashFault _ p)
  | flashSingle p => exact (RunsOn.of_po rfl : RunsOn s (s.flashCorrected p)).trans (runsOn_coreRead _ _)
  | flashDouble p x => exact (runsOn_flashWord s p x).trans ((runsOn_coreRead _ _).trans (runsOn_eccDouble _ 3))

theorem runsOn_pulseTimeout (s : State) : RunsOn s (pulseTimeout s) := by
  unfold pulseTimeout
  generalize s.twin.pulseAt + pulseNs = i
  exact .ite (.trans (.keeps (keeps_reach s i) rfl) (runsOn_stopLatch _ 6 none)) (.ite (runsOn_stopLatch s 6 none) (.refl s))

theorem runsOn_debugRequest (high : Bool) (s : State) : RunsOn s (debugRequest high s) := by
  unfold debugRequest
  extract_lets s0 _ s1
  have h0 : RunsOn s s0 := runsOn_checkStages s
  clear_value s0
  have h1 : RunsOn s0 s1 := RunsOn.trans (t := { s0.draw with twin := s0.twin.shift (stageDebug s0.fresh) }) (.of_po rfl)
    (runsOn_stopLatch _ 8 none)
  clear_value s1
  exact .ite ((h0.trans h1).trans (.of_po rfl)) (.refl s)

theorem runsOn_clockFault (s : State) : RunsOn s (clockFault s) := by
  have h : RunsOn s s.clockFault := by
    unfold State.clockFault
    extract_lets s1
    have h1 : RunsOn s s1 := (runsOn_stopLatch s 7 none).trans
      (.trans (.keeps (keeps_excReset _) rfl) (.keeps (keeps_addLatch _ _) rfl))
    clear_value s1
    exact h1.trans (.of_po rfl)
  unfold Machine.clockFault
  refine .ite (.refl s) ?_
  cases s.power.phase with
  | running => exact h
  | stopped => exact h
  | debugHalted => exact h
  | unpowered => exact .refl s
  | inReset => exact .refl s
  | hibernate => exact .refl s
  | clockHeld => exact .refl s

-- an activation
theorem runsOn_activateAll (s : State) (old : CfgMap) : RunsOn s (s.activateAll old) := by
  unfold State.activateAll
  extract_lets s1 s2
  have h1 : RunsOn s s1 := RunsOn.trans (.trans (.keeps (keeps_wreActivate old s) rfl) (.keeps (keeps_bellActivate _) rfl))
    (.foldl (fun acc ch => .keeps (keeps_channelActivate acc old ch) rfl) _ _)
  have h2 : RunsOn s1 s2 := RunsOn.trans (.foldl (fun acc k => .keeps (keeps_excActivate acc old k) rfl) _ s1)
    (.keeps (keeps_switchSense _) rfl)
  clear_value s2
  have h3 : RunsOn s2 s2.guardActivate.trackerActivate.tallyActivate :=
    RunsOn.trans (.trans (.keeps (keeps_guardActivate s2) rfl) (.keeps (keeps_trackerActivate _) rfl))
      (.keeps (keeps_tallyActivate _) rfl)
  exact (h1.trans h2).trans (h3.trans ((runsOn_permitActivate _).trans (.keeps (keeps_engineActivate _) rfl)))

theorem runsOn_activationEffect (b : Bool) (s : State) : RunsOn s (activationEffect b s) := by
  unfold activationEffect
  generalize s.tally.startAt + ms 1 = i
  refine .ite (.ite ?_ (.of_po rfl)) (.refl s)
  extract_lets s0 old _ s1
  have h0 : RunsOn s s0 := .keeps (keeps_reach s i) rfl
  clear_value s0
  have h1 : RunsOn s0 s1 := .of_po rfl
  clear_value s1
  exact (h0.trans h1).trans (.trans (.keeps (keeps_configRecord s1 _ _) rfl) (runsOn_activateAll _ old))

-- the supplies and HIBERNATE
theorem volatileLost_not_running (s : State) (p : Phase) (q : Fin 16) :
    ((s.volatileLost p).permits.po.get q).st ≠ .running := by
  have h : (s.volatileLost p).permits.po = Tab.all {} := rfl
  rw [h, Tab.get_all]
  decide

theorem runsOn_boot (s : State) : RunsOn s s.boot := by
  have hc : s.bootConfigured.permits.po = s.permits.po := by
    unfold State.bootConfigured
    extract_lets _ _ _ s1 s2
    have h : s2.permits = s1.permits := (keeps_reach s1 _).same .permits (by decide)
    clear_value s2
    exact congrArg Permits.po h
  have ht (u : State) : u.bootTables.permits.po = u.permits.po := rfl
  have hb : RunsOn s.bootConfigured s.bootConfigured.bootResources := by
    rw [State.bootResources_eq]
    generalize s.bootConfigured = u
    exact (RunsOn.of_po (ht u)).trans ((runsOn_permitOutputs _ _).trans (.keeps (keeps_noteRoom _) rfl))
  exact (RunsOn.of_po hc).trans (hb.trans (.of_po (State.boot_po s)))

theorem powerRel_runsOn : PowerRel RunsOn where
  trans h g := h.trans g
  keeps h hm := .of_po (congrArg Permits.po (h.same .permits (by simpa using List.all_eq_true.mp hm .permits (by simp))))
  lost s p q := .of_ne (volatileLost_not_running s p q)
  boot := runsOn_boot

theorem runsOn_enterHibernate (s : State) (trigger : Nat) (o : Option Origin) : RunsOn s (s.enterHibernate trigger o) := by
  unfold State.enterHibernate
  extract_lets s1 s2 s3
  have h1 : RunsOn s s1 := .keeps (keeps_updPower s _) rfl
  have h2 : RunsOn s1 s2 := (runsOn_permitsLow s1).trans (.keeps (keeps_stopAll _) rfl)
  clear_value s2
  have h3 : RunsOn s2 s3 := .keeps (keeps_record s2 _ _) rfl
  clear_value s3
  exact .ite (.refl s) ((h1.trans (h2.trans h3)).trans
    (.trans (.keeps (keeps_updRec s3 _) rfl) (.keeps (keeps_emmcSleep _) rfl)))

theorem runsOn_stbynLow (s : State) : RunsOn s (stbynLow s) :=
  .trans (.keeps (keeps_updPower s _) rfl) (.guarded (fun u => runsOn_enterHibernate u 1 none) _)

end Sys2Proof.Machine

/-! SUPPORT. A permit starts only under its condition: the end of a session, the fatal handler and the writes leave the
permits as they are, but for HIBERNATE_CMD (R53, R272, R277, R292, R372, R378, R483). -/

namespace Sys2Proof.Machine

-- the end of a session
theorem runsOn_armLost (s : State) (o : Origin) : RunsOn s (s.armLost o) := by
  unfold State.armLost
  extract_lets mine s1 _ s2
  have h1 : RunsOn s s1 := .foldl (fun acc _ => runsOn_ackEvent acc 5 0 (some o)) _ s
  clear_value s1
  have h2 : RunsOn s s2 := h1.trans (.of_po rfl)
  clear_value s2
  exact .ite (h2.trans ((runsOn_updAck s2 _).trans (runsOn_ackEvent _ 5 0 (some o)))) h2

theorem runsOn_endSession (s : State) (k : Fin 4) : RunsOn s (s.endSession k) := by
  unfold State.endSession
  cases s.net.sessions.get k with
  | none => exact .refl s
  | some x =>
    have h1 : RunsOn s (s.sessionRecord x 3) := .keeps (keeps_sessionRecord s x 3) rfl
    refine h1.trans (.trans ?_ (.keeps (keeps_putSession _ k none) rfl))
    unfold State.dropSession
    exact (runsOn_armLost _ _).trans (.of_po rfl)

theorem runsOn_endCanSessions (s : State) (p : CanPort) : RunsOn s (s.endCanSessions p) := by
  refine .foldl (fun acc k => ?_) _ s
  cases acc.net.sessions.get k with
  | none => exact .refl acc
  | some x => exact .ite (runsOn_endSession acc k) (.refl acc)

theorem runsOn_openTakeover (h : Hdr) (target : Nat) (s : State) : RunsOn s (openTakeover h target s) := by
  unfold openTakeover
  refine .ite ?_ (.refl s)
  split
  · rename_i k _
    cases s.net.sessions.get k with
    | none => exact .refl s
    | some x =>
      dsimp only
      have h1 (y : Session) (b : List Byte) : RunsOn s (((s.endSession k).openAt k y).reply h 0x01 y.number 0x00 b) :=
        (runsOn_endSession s k).trans (.trans (.keeps (keeps_openAt _ k y) rfl) (.keeps (keeps_reply _ h _ _ _ _) rfl))
      exact .ite (h1 _ _) ((h1 _ _).trans (.keeps (keeps_resend _ k) rfl))
  · exact .keeps (keeps_reply s h _ _ _ _) rfl

theorem runsOn_request {f : Fin 4 → State → State} (hf : ∀ k u, RunsOn u (f k u)) (s : State) (h : Hdr) (typ : Nat) :
    RunsOn s (s.request h typ f) := by
  have hu (u : State) (k : Fin 4) (e : Session → Session) : RunsOn u (u.updSession k e) := .keeps (keeps_updSession u k e) rfl
  have hr (u : State) (a b : Nat) (c : List Byte) : RunsOn u (u.reply h typ a b c) := .keeps (keeps_reply u h typ a b c) rfl
  unfold State.request
  refine .ite ?_ (.refl s)
  cases hdrSlot s h with
  | none => exact hr s _ _ _
  | some k =>
    dsimp only
    cases s.net.sessions.get k with
    | none => exact .refl s
    | some x =>
      dsimp only
      refine .ite (.ite ((hu s k _).trans (hr _ _ _ _)) ?_) (.ite (.ite (hu s k _) ?_) ?_)
      · exact ((hu s k _).trans (hu _ k _)).trans (hf k _)
      · exact (hu s k _).trans (.keeps (keeps_resend _ k) rfl)
      · exact (hu s k _).trans (.trans (.keeps (keeps_countSeqError _ _) rfl) (hr _ _ _ _))

theorem runsOn_closeSession (h : Hdr) (s : State) : RunsOn s (closeSession h s) :=
  runsOn_request (fun k u => .trans (.keeps (keeps_respond u k _ _ _) rfl) (runsOn_endSession _ k)) s h 0x02

theorem runsOn_sessionTimeout (k : Fin 4) (s : State) : RunsOn s (sessionTimeout k s) := by
  unfold sessionTimeout
  cases s.net.sessions.get k with
  | none => exact .refl s
  | some x =>
    dsimp only
    generalize x.lastAt + sec (portTimeout s.cfg.active x.port) = i
    exact .trans (.keeps (keeps_reach s i) rfl) (runsOn_endSession _ k)

theorem runsOn_nmtStop (p : CanPort) (s : State) : RunsOn s (nmtStop p s) :=
  .trans (.keeps (keeps_setNmt s p .stopped) rfl) (runsOn_endCanSessions _ p)

theorem runsOn_nmtResetCommunication (p : CanPort) (s : State) : RunsOn s (nmtResetCommunication p s) := by
  unfold nmtResetCommunication
  extract_lets x s1 _ s2 s3
  have h1 : RunsOn s s1 := (runsOn_endCanSessions s p).trans (.keeps (keeps_updCan _ p freshCan) rfl)
  clear_value s1
  have h2 : RunsOn s1 s2 := .of_po rfl
  clear_value s2
  have h3 : RunsOn s2 s3 := .ite (.refl s2) (.ite (.keeps (keeps_busRejoin s2 p) rfl) (.keeps (keeps_updCan s2 p _) rfl))
  clear_value s3
  exact (h1.trans (h2.trans h3)).trans (.keeps (keeps_bootUp s3 p) rfl)

theorem runsOn_closeRequest (s : State) (k : Fin 4) : RunsOn s (s.closeRequest k) := by
  unfold State.closeRequest
  cases (s.net.sessions.get k).bind (fun x => x.request) with
  | none => exact .refl s
  | some r =>
    have h1 : RunsOn s ((s.updSession k (fun x => { x with request := none })).respond k 0x04 r.seq (writeBody r.items)) :=
      .trans (.keeps (keeps_updSession s k _) rfl) (.keeps (keeps_respond _ k _ _ _) rfl)
    exact .ite (.ite (h1.trans (runsOn_endSession _ k)) h1) (.refl s)

-- the answers to held writes
theorem runsOn_answerHeld (s : State) (w : HeldWrite) (a : Nat) : RunsOn s (s.answerHeld w a) := by
  unfold State.answerHeld
  refine .ite (.keeps (keeps_say s _) rfl) (.ite (.refl s) ?_)
  cases canChannel w.by_ with
  | some c => exact .keeps (keeps_sdoAnswer s _ _ _ _ _ _) rfl
  | none =>
    cases sessionSlot s w.by_ with
    | none => exact .refl s
    | some k => exact .trans (.keeps (keeps_updSession s k _) rfl) (runsOn_closeRequest _ k)

theorem runsOn_dropHeld (s : State) (w : HeldWrite) (a : Nat) : RunsOn s (s.dropHeld w a) :=
  .trans (.ite (.keeps (keeps_countBusy s _) rfl) (.refl s)) (runsOn_answerHeld _ w a)

theorem runsOn_refuseHeld (s : State) : RunsOn s s.refuseHeld := by
  unfold State.refuseHeld
  extract_lets _ s1 s2 s3
  have h1 : RunsOn s s1 := .of_po rfl
  have h2 : RunsOn s1 s2 := .foldl (fun acc k => .keeps (keeps_updSession acc k _) rfl) _ s1
  clear_value s2
  have h3 : RunsOn s2 s3 := .foldl (fun acc w => runsOn_dropHeld acc w _) _ s2
  clear_value s3
  refine (h1.trans (h2.trans h3)).trans (.foldl (fun acc k => ?_) _ s3)
  cases acc.net.xfer.get k with
  | none => exact .refl acc
  | some t =>
    exact .ite (.trans (t := { acc with net := { acc.net with xfer := acc.net.xfer.put k none } }) (.of_po rfl)
      (.keeps (keeps_sdoAnswer _ _ _ _ _ _ _) rfl)) (.refl acc)

theorem runsOn_enterHandler (s : State) : RunsOn s s.enterHandler := by
  unfold State.enterHandler
  extract_lets _ _ s1 s2 s3 _ s4 s5
  have h1 : RunsOn s s1 := .of_po rfl
  clear_value s1
  have h2 : RunsOn s1 s2 := RunsOn.trans (.trans (.keeps (keeps_stopAll s1) rfl) (runsOn_refuseHeld _))
    (.foldl (fun acc p => .keeps (keeps_setNmt acc p .preop) rfl) _ _)
  clear_value s2
  have h3 : RunsOn s2 s3 := .keeps (keeps_emergency s2 _ _ _) rfl
  clear_value s3
  have h4 : RunsOn s3 s4 := RunsOn.trans (t := { s3 with twin := { s3.twin with frozen := frozenValues s3 } }) (.of_po rfl)
    (.keeps (keeps_recHandler _) rfl)
  have h5 : RunsOn s4 s5 := .keeps (keeps_fatalRecord s4) rfl
  clear_value s5
  have h15 : RunsOn s s5 := (h1.trans h2).trans (h3.trans (h4.trans h5))
  exact .ite (.ite (h15.trans (.keeps (keeps_dumpBegin s5 _ _ _) rfl)) (h15.trans (.keeps (keeps_updRec s5 _) rfl))) h15

theorem runsOn_fatalHandlerEntry (s : State) : RunsOn s (fatalHandlerEntry s) := .ite (runsOn_enterHandler s) (.refl s)

theorem runsOn_debugExit (s : State) : RunsOn s (debugExit s) := by
  unfold debugExit
  extract_lets _ s1
  have h1 : RunsOn s s1 := .of_po rfl
  clear_value s1
  exact .ite (.ite (h1.trans (.of_po rfl)) (h1.trans (runsOn_enterHandler s1))) (.refl s)

-- writes
theorem runsOn_liveWrite (s : State) (o : Origin) (i sub v : Nat) (data : List Byte) :
    RunsOn s (s.liveWrite o i sub v data) := by
  have he {α : Type} (x : Option α) (f : α → State) (hf : ∀ k, RunsOn s (f k)) : RunsOn s (x.elim s f) := by
    cases x with
    | none => exact .refl s
    | some k => exact hf k
  unfold State.liveWrite
  refine .ite (.keeps (keeps_clearHistory s) rfl) <| .ite (runsOn_enterHibernate s 0 _) <|
    .ite (he _ _ fun k => .keeps (keeps_captureArm k v s) rfl) <|
    .ite (he _ _ fun n => .keeps (keeps_sectionWrite s o n sub v) rfl) <| .ite ?_ <|
    .ite (.keeps (keeps_engineWrite s i sub v) rfl) <| .ite (.keeps (keeps_terminalWrite s sub v) rfl) <|
    .ite (.ite (.keeps (keeps_correlateWrite s o v) rfl) (.keeps (keeps_recCommand s o v) rfl)) <|
    .ite (.keeps (keeps_cfgWrite s sub v data) rfl) <|
    .ite (.ite (.keeps (keeps_stopTestWrite s) rfl) (.keeps (keeps_checkNow v s) rfl)) <|
    .ite (.keeps (keeps_installKey s v) rfl) (.refl s)
  exact .ite (.of_po rfl) (.ite (.keeps (keeps_armWrite s o v) rfl) (.ite (.of_po rfl) (.ite (.of_po rfl) (.refl s))))

theorem runsOn_applyWrite (s : State) (o : Origin) (i sub : Nat) (data : List Byte) : RunsOn s (s.applyWrite o i sub data) := by
  unfold State.applyWrite
  cases objInfo i sub with
  | none => exact .refl s
  | some x => exact .ite (.keeps (keeps_stage s _ _ _) rfl) (runsOn_liveWrite s _ _ _ _ _)

theorem runsOn_refuseWrite (s : State) (w : HeldWrite) (a : Nat) : RunsOn s (s.refuseWrite w a) :=
  .trans (.keeps (keeps_judgeRefusal s _ _ _ _) rfl) (runsOn_dropHeld _ w a)

theorem runsOn_refuseBusy (s : State) (w : HeldWrite) : RunsOn s (s.refuseBusy w) :=
  .trans (.ite (.refl s) (.keeps (keeps_countBusy s _) rfl)) (runsOn_refuseWrite _ w _)

theorem runsOn_grantWrite (s : State) (w : HeldWrite) : RunsOn s (s.grantWrite w) := by
  unfold State.grantWrite
  extract_lets a
  exact .ite (.ite (runsOn_refuseWrite s w a) ((runsOn_answerHeld s w 0).trans (runsOn_applyWrite _ _ _ _ _))) (.refl s)

theorem runsOn_judgePart (s : State) (ws : List (HeldWrite × Nat)) : RunsOn s (s.judgePart ws) := by
  unfold State.judgePart
  extract_lets ok
  refine .foldl (fun acc w => ?_) _ s
  exact .ite (runsOn_refuseWrite acc _ _) (.ite (runsOn_refuseBusy acc _) (runsOn_grantWrite acc _))

theorem runsOn_judgeObject (s : State) (i sub : Nat) : RunsOn s (s.judgeObject i sub) := by
  unfold State.judgeObject
  extract_lets mine _ s1
  exact (RunsOn.of_po rfl : RunsOn s s1).trans (runsOn_judgePart s1 _)

theorem runsOn_writeJudgement (s : State) : RunsOn s (writeJudgement s) := by
  have h (u : State) : RunsOn u u.judgeAll := by
    unfold State.judgeAll
    extract_lets ws _ s1 s2 s3
    have h1 : RunsOn u s1 := .of_po rfl
    have h2 : RunsOn s1 s2 := runsOn_judgePart s1 _
    have h3 : RunsOn s2 s3 := runsOn_judgePart s2 _
    exact (h1.trans h2).trans (h3.trans (runsOn_judgePart s3 _))
  exact .trans (.keeps (keeps_tickInstant s _) rfl) (h _)

theorem runsOn_takeWrite (s : State) (k : Fin 4) (x : Session) (i sub : Nat) (data : List Byte) :
    RunsOn s (s.takeWrite k x i sub data).1 := by
  unfold State.takeWrite
  extract_lets o a r s1
  split
  · exact .trans (.keeps (keeps_receiptRefusal s _ _ _ _) rfl) (.keeps (keeps_answer _ _ _ _ _) rfl)
  · split
    · have h1 : RunsOn s s1 := RunsOn.trans (.keeps (keeps_sessionWrite s k i sub data) rfl) (.keeps (keeps_answer _ _ _ _ _) rfl)
      exact .ite (h1.trans (runsOn_endSession s1 k)) h1
    · exact .of_po rfl

theorem runsOn_rowReceive (s : State) (o : Origin) (i sub : Nat) (data : List Byte) :
    RunsOn s (s.rowReceive o i sub data).1 := by
  unfold State.rowReceive
  have ht (k : Fin 4) : RunsOn s (s.touch k) := .keeps (keeps_touch s k) rfl
  split
  · cases sessionSlot s o with
    | none => exact .refl s
    | some k =>
      dsimp only
      cases s.net.sessions.get k with
      | none => exact .refl s
      | some x =>
        dsimp only
        split
        · exact (ht k).trans (.keeps (keeps_say _ _) rfl)
        · exact (ht k).trans (runsOn_takeWrite _ k x i sub data)
  · exact .refl s

theorem runsOn_rowWrite (s : State) (o : Origin) (i sub : Nat) (data : List Byte) : RunsOn s (s.rowWrite o i sub data) := by
  unfold State.rowWrite
  extract_lets r
  have hr : RunsOn s r.1 := runsOn_rowReceive s o i sub data
  exact .ite (hr.trans (runsOn_judgeObject r.1 i sub)) hr

theorem runsOn_writeRequest (h : Hdr) (items : List WriteItem) (s : State) : RunsOn s (writeRequest h items s) :=
  runsOn_request (fun k u => .trans (.trans (.trans (.keeps (keeps_updSession u k _) rfl) (.keeps (keeps_writeAll _ _ _ _ _) rfl))
    (.keeps (keeps_updSession _ k _) rfl)) (runsOn_closeRequest _ k)) s h 0x04

-- SDO transfers and SPI frames
theorem runsOn_sdoWrite (s : State) (p : CanPort) (k j : Fin 4) (i sub : Nat) (data : List Byte) :
    RunsOn s (s.sdoWrite p k j i sub data) := by
  unfold State.sdoWrite
  extract_lets r
  have hr : RunsOn s r.1 := .keeps (keeps_receive s j 0 i sub data) rfl
  cases r.2 with
  | none => exact hr
  | some a =>
    have h1 : RunsOn s (r.1.sdoAnswer p k i sub a []) := hr.trans (.keeps (keeps_sdoAnswer _ _ _ _ _ _ _) rfl)
    exact .ite (h1.trans (runsOn_endSession _ j)) h1

theorem runsOn_sdoWriteSegment (s : State) (p : CanPort) (k j : Fin 4) (t : SdoXfer) (toggle : Bool) (data : List Byte)
    (last : Bool) : RunsOn s (s.sdoWriteSegment p k j t toggle data last) := by
  have ha (a b c : Nat) : RunsOn s (s.abortXfer p k a b c) := .keeps (keeps_abortXfer s p k a b c) rfl
  have hp (x : Option SdoXfer) : RunsOn s (s.putXfer k x) := .keeps (keeps_putXfer s k x) rfl
  exact .ite (ha _ _ _) <| .ite (ha _ _ _) <| .ite (ha _ _ _) <|
    .ite (.ite (ha _ _ _) ((hp none).trans (runsOn_sdoWrite _ _ _ _ _ _ _)))
      ((hp _).trans (.keeps (keeps_sdoAnswer _ _ _ _ _ _ _) rfl))

theorem runsOn_sdoServe (s : State) (p : CanPort) (k j : Fin 4) (r : SdoReq) : RunsOn s (s.sdoServe p k j r) := by
  have ha (a b c : Nat) : RunsOn s (s.abortXfer p k a b c) := .keeps (keeps_abortXfer s p k a b c) rfl
  have hp (x : Option SdoXfer) : RunsOn s (s.putXfer k x) := .keeps (keeps_putXfer s k x) rfl
  have hs (u : State) (a b c : Nat) : RunsOn u (u.sdoAnswer p k a b c []) := .keeps (keeps_sdoAnswer u _ _ _ _ _ _) rfl
  unfold State.sdoServe
  split
  · exact .keeps (keeps_sdoRead s _ _ _ _ _) rfl
  · exact (hp none).trans (runsOn_sdoWrite _ _ _ _ _ _ _)
  · exact .ite (ha _ _ _) ((hp _).trans (hs _ _ _ _))
  · exact runsOn_sdoWriteSegment s _ _ _ _ _ _ _
  · exact .keeps (keeps_sdoReadSegment s _ _ _ _) rfl
  · exact hs s _ _ _
  · exact hs s _ _ _
  · exact hs s _ _ _
  · exact ha _ _ _
  · exact hp none

theorem runsOn_sdoRequest (p : CanPort) (k : Fin 4) (r : SdoReq) (s : State) : RunsOn s (sdoRequest p k r s) := by
  have hs (u : State) (a b c : Nat) : RunsOn u (u.sdoAnswer p k a b c []) := .keeps (keeps_sdoAnswer u _ _ _ _ _ _) rfl
  unfold sdoRequest
  extract_lets o
  cases channelSession s k with
  | some c => exact .ite (.trans (.keeps (keeps_touch s _) rfl) (runsOn_sdoServe _ p k _ r)) (.ite (.refl s) (hs s _ _ _))
  | none =>
    refine .ite (.refl s) ?_
    cases freeSession s with
    | none => exact .trans (.keeps (keeps_refuseSession s) rfl) (hs _ _ _ _)
    | some j => exact .trans (.keeps (keeps_openChannel s p k j) rfl) (runsOn_sdoServe _ p k j r)

theorem runsOn_takeDatagram (s : State) (bs : List Byte) : RunsOn s (s.takeDatagram bs) := by
  unfold State.takeDatagram
  extract_lets typ h body bad
  have hb : RunsOn s bad := .keeps (keeps_malformed h typ .badHeader s) rfl
  refine .ite (.keeps (keeps_malformed _ _ _ s) rfl) <| .ite hb <| .ite (.ite hb (.ite (runsOn_openTakeover _ _ s) ?_)) <|
    .ite (.ite (runsOn_closeSession h s) hb) <| .ite ?_ <| .ite ?_ <|
    .ite (.ite (.keeps (keeps_nopRequest h s) rfl) hb) (.keeps (keeps_malformed _ _ _ s) rfl)
  · exact .keeps (keeps_openPlain h s) rfl
  · split
    · exact .keeps (keeps_readRequest h _ s) rfl
    · exact hb
  · split
    · exact runsOn_writeRequest h _ s
    · exact hb

theorem runsOn_spiFrame (bytes : List Byte) (s : State) : RunsOn s (spiFrame bytes s) := by
  have hc : RunsOn s s.spiCrcError := .keeps (keeps_spiCrcError s) rfl
  exact .ite (.refl s) <| .ite hc <| .ite (.ite (.refl s) hc) <| .ite hc <| .ite (runsOn_takeDatagram s _) hc

end Sys2Proof.Machine

/-! SUPPORT. A permit starts only under its condition, whatever command is carried out: O36 (R272, R277). -/

namespace Sys2Proof.Machine

theorem RunsOn.rowWrite {o : Origin} {i sub : Nat} {data : List Byte} {s t : State}
    (h : Machine.run s (fun u => u.rowWrite o i sub data) = .next t) : RunsOn s t :=
  RunsOn.run (fun u => runsOn_rowWrite u o i sub data) h

/-- Where a command lists the permits neither itself nor by the answers to held writes. -/
theorem RunsOn.untouched {c : Instr} {s t : State} (h : exec c s = .next t) (hc : rowObject c = none)
    (hm : misses [.permits] (touches c ++ reports) = true) : RunsOn s t := by
  have hk := exec_frame h
  rw [touchesIn, contested, hc] at hk
  simp only [Bool.false_eq_true, if_false, List.append_nil] at hk
  exact .keeps hk hm

theorem runsOn_checked (a b : CoreWindow) (d0 d1 : BitVec 224) (s : State) :
    RunsOn s (reeveCompare a b d0 d1 s.checkStages) := (runsOn_checkStages s).trans (runsOn_reeveCompare a b d0 d1 _)

/-- No command makes a permit RUNNING but under its condition (R272, R277). -/
theorem runsOn_exec {c : Instr} {s t : State} (h : exec c s = .next t) : RunsOn s t := by
  have guarded {b : State → Bool} {f : State → State} (hf : ∀ u, RunsOn u (f u))
      (h : run s (fun u => u.guarded (b u) f) = .next t) : RunsOn s t := .run (fun u => .guarded hf u) h
  have alive {f : State → State} (hf : ∀ u, RunsOn u (f u)) (h : run s (fun u => u.whenAlive f) = .next t) : RunsOn s t :=
    .run (fun u => .whenAlive hf u) h
  cases c with
  | resetnLow | brownout _ | hibernateSupplyLoss | wake _ | stbynRiseWake _ _ | supplyRelease _ | boot =>
    exact powerRel_runsOn.powerRow h (by simp)
  | clkinMissing | clockFreqError | pllLockLoss => exact .run runsOn_clockFault h
  | stbynLowQualified => exact .run runsOn_stbynLow h
  | clfClearWrite o k v live =>
    refine RunsOn.run (f := fun s => (s.guarded s.serving (fun s => s.setClamps k live)).rowWrite o 0x2700 (0x81 + k.val)
      (leBytes 4 v)) (fun u => .trans (.guarded (fun v => .keeps (keeps_setClamps v k live) rfl) u) (runsOn_rowWrite _ _ _ _ _)) h
  | hibernateCommand _ _ | excHoldWrite _ _ _ | checkNow _ _ | captureCmdArm _ _ _ | restoreRequest _ _ _
    | restoreWithdraw _ _ _ | disturbCmd _ _ _ | droptestCmd _ _ | inhibitWrite _ _ | lockoutCmd _ _ | ackArm _ _
    | ackArmWithdraw _ _ | modeCmdFollow _ | modeCmdHold _ | modeCmdOff _ | modeCmdFade _ | lawEnableWrite _ _
    | lawReset _ _ | stopTestCmd _ _ | sessionEnd _ _ | authRequest _ _ | authResponse _ _ | deviceKey _ _
    | errorHistoryClear _ _ | cfgCheck _ | cfgDiscard _ | cfgStore _ | cfgActivate _ | cfgAdopt _ | cfgLoadShadow _
    | cfgImageWrite _ _ | expectedDigestWrite _ _ | epochArm _ _ | epochDisarm _ _ | recClear _ | recFound _
    | correlate _ _ => exact .rowWrite h
  | genericWrite o i sub data => exact .run (fun u => runsOn_rowReceive u o i sub data) h
  | tallyCycle d => exact alive (fun u => (runsOn_tallyCycle d u).trans (.keeps (keeps_sendChanged _) rfl)) h
  | dropElapsed p => exact guarded (runsOn_dropElapsed p) h
  | permitDueEdge p => exact guarded (runsOn_permitDueEdge p) h
  | readbackSample p l => exact guarded (runsOn_readbackSample p l) h
  | readbackFault p => exact guarded (runsOn_readbackFault p) h
  | ackDebouncedEdge b => exact alive (runsOn_ackEdge b) h
  | tallyStall => exact alive runsOn_tallyStall h
  | ackStuckSet => exact alive runsOn_ackStuckSet h
  | ackHighQualified => exact alive runsOn_ackHighQualified h
  | ackArmExpiry => exact alive runsOn_ackArmExpiry h
  | reeveCompare a b d0 d1 => exact guarded (b := fun s => s.alive || s.stopCycle) (runsOn_checked a b d0 d1) h
  | pulseTimeout => exact guarded (b := fun s => s.serving || s.stopCycle) runsOn_pulseTimeout h
  | delayParityError x d p => exact guarded (b := fun s => s.serving || s.stopCycle) (runsOn_delayParityError x d p) h
  | scrubRead r => exact guarded (b := fun s => s.serving || s.stopCycle) (runsOn_scrubRead r) h
  | debugRequest b => exact guarded (runsOn_debugRequest b) h
  | debugExit => exact .run runsOn_debugExit h
  | fatalHandlerEntry => exact alive runsOn_fatalHandlerEntry h
  | sdoRequest p k r => exact guarded (b := fun s => sdoServed s p k) (runsOn_sdoRequest p k r) h
  | spiFrameReceived b => exact guarded (runsOn_spiFrame b) h
  | writeJudgement => exact alive runsOn_writeJudgement h
  | writeItems x l => exact .run (f := fun s => writeRequest x l s) (runsOn_writeRequest x l) h
  | nmtStop p => exact guarded (b := fun s => canTakes s p) (runsOn_nmtStop p) h
  | nmtResetCommunication p =>
    exact guarded (b := fun s => s.serving && canEnabled s.cfg.active p) (runsOn_nmtResetCommunication p) h
  | openTakeover x n => exact .run (f := fun s => openTakeover x n s) (runsOn_openTakeover x n) h
  | closeSession x => exact .run (f := fun s => closeSession x s) (runsOn_closeSession x) h
  | sessionTimeout k => exact guarded (runsOn_sessionTimeout k) h
  | activationEffect b => exact alive (runsOn_activationEffect b) h
  | _ => exact .untouched h rfl rfl

/-- Settles O36: a refresh alone starts a permit out of OFF, and the end of a drop one whose condition is still true; every
other operation keeps state and condition of a permit that is RUNNING, or ends it. -/
theorem runningNeedsCondition : Obligations.RunningNeedsCondition := by
  unfold Obligations.RunningNeedsCondition
  intro c s t p h hr
  exact (runsOn_exec h p hr).symm.imp And.left id

end Sys2Proof.Machine

/-! SUPPORT. A committed tick of the moment engine: its writes, its mode, its outputs (R310, R315, R317, R320, R322, R327). -/

namespace Sys2Proof.Machine

-- the end of a fade and the warm-up, as steps of a commit
/-- The engine after step 2 of a tick: a fade may have ended (R320, R321). -/
def commitFaded (c : CfgMap) (e0 : Engine) (x : TickIn) : Engine := fadeEnd c (x.e.mode != e0.mode || e0.handover) x.e

/-- The engine after the warm-up has counted this tick (R322). -/
def commitWarmed (c : CfgMap) (e0 : Engine) (x : TickIn) : Engine :=
  let e1 := commitFaded c e0 x
  warmStep (e1.mode == .follow && (e0.mode == .off || (e0.mode == .fade && x.e.mode != e1.mode))) e1

section
variable (s : State) (e0 : Engine) (x : TickIn) (n : Nat)

theorem tickCommit_mode : (tickCommit s e0 x n).1.mode = (commitWarmed s.cfg.active e0 x).mode := rfl
theorem tickCommit_warming : (tickCommit s e0 x n).1.warming = (commitWarmed s.cfg.active e0 x).warming := rfl
theorem tickCommit_live : (tickCommit s e0 x n).1.live = (commitWarmed s.cfg.active e0 x).live := rfl
theorem tickCommit_waiting : (tickCommit s e0 x n).1.waiting = (commitWarmed s.cfg.active e0 x).waiting := rfl
theorem tickCommit_tickSeq :
    (tickCommit s e0 x n).1.tickSeq = ((commitWarmed s.cfg.active e0 x).tickSeq + 1) % 2 ^ 32 := rfl
theorem tickCommit_outSeq : (tickCommit s e0 x n).1.outSeq = (tickCommit s e0 x n).1.tickSeq := rfl
theorem tickCommit_lastCycles : (tickCommit s e0 x n).1.lastCycles = n := rfl
theorem tickCommit_residues : (tickCommit s e0 x n).1.residues = s.engine.residues := rfl
theorem tickCommit_ledger :
    (tickCommit s e0 x n).1.ledger = ledgerOf s.cfg.active (ledgerAxles s) s.engine.residues := rfl
theorem tickCommit_laws : (tickCommit s e0 x n).1.laws =
    (lawsStep s.cfg.active (commitWarmed s.cfg.active e0 x) (ledgerOf s.cfg.active (ledgerAxles s) s.engine.residues)
      ((commitWarmed s.cfg.active e0 x).mode == .follow || (commitWarmed s.cfg.active e0 x).mode == .hold)).1 := rfl

theorem tickCommit_target (a : Fin 6) : (tickCommit s e0 x n).1.target.get a =
    axisTarget s.cfg.active (commitWarmed s.cfg.active e0 x) (tickCommit s e0 x n).1.laws a := Tab.get_map_finRange _ a

theorem tickCommit_offset (a : Fin 6) : ∃ hand, (tickCommit s e0 x n).1.offset.get a =
    axisOffset (commitWarmed s.cfg.active e0 x) hand ((tickCommit s e0 x n).1.target.get a) a :=
  ⟨_, Tab.get_map_finRange _ a⟩

/-- Each output is the target plus the offset, saturated (R310, R317). -/
theorem tickCommit_out (a : Fin 6) : (tickCommit s e0 x n).1.out.get a =
    (sat32 ((tickCommit s e0 x n).1.target.get a + (tickCommit s e0 x n).1.offset.get a)).1 := by
  refine (Tab.get_map _ _ a).trans (congrArg Prod.fst (Tab.get_map_finRange _ a))

/-- In OFF every output is 0 (R317, R320). -/
theorem tickCommit_out_of_off (h : (tickCommit s e0 x n).1.mode = .off) (a : Fin 6) :
    (tickCommit s e0 x n).1.out.get a = 0 := by
  obtain ⟨hand, ho⟩ := tickCommit_offset s e0 x n a
  rw [tickCommit_mode] at h
  rw [tickCommit_out, ho, tickCommit_target]
  generalize commitWarmed s.cfg.active e0 x = w at h
  simp [axisTarget, axisOffset, h, sat32, satS]

end

-- what the steps of a tick leave of the engine
/-- `f` has the number, the waiting writes and the live values of `e`. -/
def Engine.SameQueue (e f : Engine) : Prop := f.tickSeq = e.tickSeq ∧ f.waiting = e.waiting

theorem Engine.SameQueue.trans {e f g : Engine} (h : e.SameQueue f) (k : f.SameQueue g) : e.SameQueue g :=
  ⟨k.1.trans h.1, k.2.trans h.2⟩

theorem enterFromOff_queue (c : CfgMap) (m : EMode) (e : Engine) : e.SameQueue (enterFromOff c m e) := by
  cases m <;> exact ⟨rfl, rfl⟩

theorem modeCommand_queue (c : CfgMap) (m : EMode) (e : Engine) : e.SameQueue (modeCommand c m e) := by
  unfold modeCommand
  cases e.mode <;> cases m <;> exact ⟨rfl, rfl⟩

/-- Of the index of an FB_VALUE only its value is used: the sixteen are told apart. -/
theorem setFeedback_queue (e : Engine) {i : Nat} (v : Nat) (h : 0x2501 ≤ i ∧ i ≤ 0x2510) :
    e.SameQueue (setFeedback e i v) := by
  obtain ⟨h1, h2⟩ := h
  have hi : i = 0x2501 ∨ i = 0x2502 ∨ i = 0x2503 ∨ i = 0x2504 ∨ i = 0x2505 ∨ i = 0x2506 ∨ i = 0x2507 ∨ i = 0x2508 ∨
      i = 0x2509 ∨ i = 0x250A ∨ i = 0x250B ∨ i = 0x250C ∨ i = 0x250D ∨ i = 0x250E ∨ i = 0x250F ∨ i = 0x2510 := by
    omega
  rcases hi with rfl | rfl | rfl | rfl | rfl | rfl | rfl | rfl | rfl | rfl | rfl | rfl | rfl | rfl | rfl | rfl <;>
    exact ⟨rfl, rfl⟩

theorem isFeedback_bounds {i sub : Nat} (h : isFeedback i sub = true) : 0x2501 ≤ i ∧ i ≤ 0x2510 := by
  have h := (Bool.and_eq_true_iff.mp h).1
  simpa [within] using h

theorem takeLive_queue (c : CfgMap) (x : TickIn) (w : LiveWrite) : x.e.SameQueue (takeLive c x w).e := by
  unfold takeLive
  split
  · exact modeCommand_queue c (emodeOf w.value) x.e
  · split
    · exact ⟨rfl, rfl⟩
    · split
      · rename_i hf
        have h := setFeedback_queue x.e w.value (isFeedback_bounds hf)
        generalize setFeedback x.e w.index w.value = f at h ⊢
        exact h
      · exact ⟨rfl, rfl⟩

theorem overrunFade_queue (e : Engine) : e.SameQueue (overrunFade e) := by
  unfold overrunFade
  split
  · split <;> exact ⟨rfl, rfl⟩
  · exact ⟨rfl, rfl⟩

/-- What step 1 of a tick leaves of the writes: those that are not due (R315). -/
theorem tickWrites_queue (c : CfgMap) (e : Engine) (n : Nat) :
    (tickWrites c e n).e.tickSeq = e.tickSeq ∧
    (tickWrites c e n).e.waiting = e.waiting.filter (fun w => !decide (w.due ≤ n)) := by
  have fold : ∀ (l : List LiveWrite) (x : TickIn), x.e.SameQueue (l.foldl (takeLive c) x).e := by
    intro l
    induction l with
    | nil => exact fun _ => ⟨rfl, rfl⟩
    | cons w l ih => exact fun x => (takeLive_queue c x w).trans (ih _)
  exact (overrunFade_queue _).trans (fold _ ⟨_, 0#6⟩)

theorem fadeEnd_queue (c : CfgMap) (hand : Bool) (e : Engine) : e.SameQueue (fadeEnd c hand e) := by
  unfold fadeEnd
  extract_lets zero off
  split
  · have h : e.SameQueue off := ⟨rfl, rfl⟩
    split
    · exact h.trans (enterFromOff_queue c _ off)
    · exact h.trans (enterFromOff_queue c _ off)
    · exact h
  · exact ⟨rfl, rfl⟩

theorem commitWarmed_queue (c : CfgMap) (e0 : Engine) (x : TickIn) : x.e.SameQueue (commitWarmed c e0 x) := by
  have h := fadeEnd_queue c (x.e.mode != e0.mode || e0.handover) x.e
  unfold commitWarmed warmStep
  extract_lets e1
  split
  · exact h.trans ⟨rfl, rfl⟩
  · exact h

-- the mode
/-- A fade that a tick begins does not end at it (R320, R321). -/
theorem commitFaded_of_not_fading {c : CfgMap} {e0 : Engine} {x : TickIn} (h : e0.mode ≠ .fade) :
    commitFaded c e0 x = x.e := by
  unfold commitFaded fadeEnd
  refine if_neg fun hf => ?_
  simp only [Bool.and_eq_true, beq_iff_eq, Bool.not_eq_true', Bool.or_eq_false_iff, bne_eq_false_iff_eq] at hf
  exact h (hf.1.2.1 ▸ hf.1.1)

theorem warmStep_mode (b : Bool) (e : Engine) : (warmStep b e).mode = e.mode := by
  unfold warmStep
  split <;> rfl

theorem warmStep_initDue (b : Bool) (e : Engine) : (warmStep b e).initDue = e.initDue := by
  unfold warmStep
  split <;> rfl

theorem warmStep_laws (b : Bool) (e : Engine) : (warmStep b e).laws = e.laws := by
  unfold warmStep
  split <;> rfl

theorem emodeOf_emodeCode (m : EMode) : emodeOf (emodeCode m) = m := by cases m <;> rfl

theorem modeCommand_mode_of_off {c : CfgMap} {m : EMode} {e : Engine} (h : e.mode = .off) :
    (modeCommand c m e).mode = if m = .fade then .off else m := by
  cases m <;> simp [modeCommand, h, enterFromOff]

theorem modeCommand_mode_of_on {c : CfgMap} {m : EMode} {e : Engine} (h : e.mode = .follow ∨ e.mode = .hold) :
    (modeCommand c m e).mode = if m = .off then .fade else m := by
  rcases h with h | h <;> cases m <;> simp [modeCommand, h]

/-- One write alone that is due is taken (R315). -/
theorem tickWrites_one {c : CfgMap} {e : Engine} {w : LiveWrite} {n : Nat} (hw : e.waiting = [w]) (hd : w.due ≤ n) :
    tickWrites c e n = takeLive c { e := overrunFade { e with waiting := [] }, axes := 0#6 } w := by
  unfold tickWrites
  rw [hw]
  simp [hd]

theorem tickWrites_none {c : CfgMap} {e : Engine} {n : Nat} (hw : e.waiting = []) (hf : e.fadeDue = false) :
    (tickWrites c e n).e = e := by
  unfold tickWrites
  rw [hw]
  simp only [List.filter_nil, List.foldl_nil]
  rw [overrunFade, if_neg (by simp [hf]), ← hw]

/-- A MODE_CMD alone in the queue (R320). -/
theorem mode_of_modeCommand {c : CfgMap} {e : Engine} {m : EMode} {d n : Nat} (hw : e.waiting = [⟨0x2500, 4, emodeCode m, d⟩])
    (hd : d ≤ n) (hf : e.fadeDue = false) :
    (e.mode = .off → (commitWarmed c e (tickWrites c e n)).mode = if m = .fade then .off else m) ∧
    (e.mode = .follow ∨ e.mode = .hold → (commitWarmed c e (tickWrites c e n)).mode = if m = .off then .fade else m) := by
  have hx : (tickWrites c e n).e = modeCommand c m { e with waiting := [] } := by
    rw [tickWrites_one hw hd, takeLive, if_pos ⟨rfl, rfl⟩, emodeOf_emodeCode, overrunFade, if_neg (by simp [hf])]
  have hc (h : e.mode ≠ .fade) : (commitWarmed c e (tickWrites c e n)).mode = (modeCommand c m { e with waiting := [] }).mode := by
    unfold commitWarmed
    rw [warmStep_mode, commitFaded_of_not_fading h, hx]
  refine ⟨fun h => ?_, fun h => ?_⟩
  · exact (hc (by rw [h]; decide)).trans (modeCommand_mode_of_off h)
  · exact (hc (by rcases h with h | h <;> rw [h] <;> decide)).trans (modeCommand_mode_of_on h)

-- the laws
/-- In a mode that runs no law, a law is as it was, or initialised (R314). -/
theorem lawsStep_get_of_idle (c : CfgMap) (e : Engine) (l : Ledger) (n : Fin 16) : (lawsStep c e l false).1.get n =
    if e.initDue.getLsbD n.val then lawInit (lawSignal e l n (lawInput c n.val)) (e.laws.get n) else e.laws.get n := by
  unfold lawsStep
  exact foldl_allFin (view := fun (acc : Tab 16 Law × Bool) k => acc.1.get k)
    (F := fun k x => if e.initDue.getLsbD k.val then lawInit (lawSignal e l k (lawInput c k.val)) x else x)
    (fun _ => True) (fun _ _ _ => trivial) (fun s i _ => Tab.get_put_self ..)
    (fun s i j h => Tab.get_put_other _ _ _ _ h) trivial n

/-- LAW_RESET in OFF initialises its laws (R327). -/
theorem laws_of_lawReset {s : State} {v d n m : Nat} {l : Fin 16} (hw : s.engine.waiting = [⟨0x2500, 8, v, d⟩])
    (hd : d ≤ n) (ho : s.engine.mode = .off) (hl : v.testBit l.val = true) :
    ∃ u x, (tickCommit s s.engine (tickWrites s.cfg.active s.engine n) m).1.laws.get l = lawInit u x := by
  have hx : (tickWrites s.cfg.active s.engine n).e.mode = .off ∧
      (tickWrites s.cfg.active s.engine n).e.initDue = s.engine.initDue ||| BitVec.ofNat 16 v := by
    rw [tickWrites_one hw hd, takeLive, if_neg (by simp), if_pos ⟨rfl, rfl⟩, overrunFade]
    split
    · simp only [ho]
      exact ⟨trivial, trivial⟩
    · exact ⟨ho, rfl⟩
  have hc : commitFaded s.cfg.active s.engine (tickWrites s.cfg.active s.engine n) = (tickWrites s.cfg.active s.engine n).e :=
    commitFaded_of_not_fading (by rw [ho]; decide)
  generalize tickWrites s.cfg.active s.engine n = x at hx hc ⊢
  have hm : (commitWarmed s.cfg.active s.engine x).mode = .off := by
    unfold commitWarmed
    rw [warmStep_mode, hc, hx.1]
  have hi : (commitWarmed s.cfg.active s.engine x).initDue.getLsbD l.val = true := by
    unfold commitWarmed
    rw [warmStep_initDue, hc, hx.2, BitVec.getLsbD_or, BitVec.getLsbD_ofNat, hl]
    simp [l.isLt]
  rw [tickCommit_laws, hm, show (EMode.off == EMode.follow || EMode.off == EMode.hold) = false from rfl,
    lawsStep_get_of_idle, if_pos hi]
  exact ⟨_, _, rfl⟩

end Sys2Proof.Machine

/-! SUPPORT. The mass ledger of one confirmed axle alone, and of residues alone (R301 to R308). -/

namespace Sys2Proof.Machine

-- lists with one element
/-- Where `f` gives a value at one element alone, that value is all that is left. -/
theorem filterMap_eq_singleton {α β : Type} {f : α → Option β} {i : α} {b : β} (hb : f i = some b)
    (hn : ∀ j, j ≠ i → f j = none) : ∀ {l : List α}, l.Nodup → i ∈ l → l.filterMap f = [b]
  | [], _, hi => absurd hi List.not_mem_nil
  | a :: l, hl, hi => by
    obtain ⟨ha, hl⟩ := List.nodup_cons.mp hl
    by_cases e : a = i
    · subst e
      rw [List.filterMap_cons_some hb, List.filterMap_eq_nil_iff.mpr fun j hj => hn j fun e => ha (e ▸ hj)]
    · rw [List.filterMap_cons_none (hn a e)]
      exact filterMap_eq_singleton hb hn hl ((List.mem_cons.mp hi).resolve_left (Ne.symm e))

theorem filterMap_allFin {n : Nat} {β : Type} {f : Fin n → Option β} {i : Fin n} {b : β} (hb : f i = some b)
    (hn : ∀ j, j ≠ i → f j = none) : (allFin n).filterMap f = [b] :=
  filterMap_eq_singleton hb hn (List.nodup_finRange n) (List.mem_finRange i)

theorem filterMap_allFin_none {n : Nat} {β : Type} {f : Fin n → Option β} (hn : ∀ j, f j = none) :
    (allFin n).filterMap f = [] := List.filterMap_eq_nil_iff.mpr fun j _ => hn j

-- rounding
theorem roundAway_intCast (z : Int) : roundAway (z : Rat) = z := by
  have h (w : Int) : ((w : Rat) + 1 / 2).floor = w := by
    rw [Rat.add_comm, Rat.floor_add_intCast, show (1 / 2 : Rat).floor = 0 by decide +kernel, Int.zero_add]
  unfold roundAway
  split
  · exact h z
  · rw [← Rat.intCast_neg, h, Int.neg_neg]

theorem satS_roundAway_zero : satS 32 (roundAway 0) = 0 := by
  rw [show (0 : Rat) = ((0 : Int) : Rat) from rfl, roundAway_intCast]
  decide

-- the axles
/-- A confirmed axle of a load in units of 10 kg on section `m` (R302, R303). -/
def loadedAxle (m : Fin 48) (pos : Rat) (load : Nat) : Axle :=
  { sec := m, pos := pos, mass := ((10 * load : Nat) : Rat), acc := 0, prov := false, dflt := false, setP := false }

theorem ledgerAxles_of_one {s : State} {i : Fin 128} {m : Fin 48} {load : Nat} (h : OneAxle s i m load) :
    ∃ pos, ledgerAxles s = [loadedAxle m pos load] := by
  obtain ⟨hfree, hst, hsec, hload, -⟩ := h
  have hi : ∃ pos, entryAxle s i = some (loadedAxle m pos load) := by
    unfold entryAxle
    dsimp only
    rw [hst, hsec]
    dsimp only
    rw [hload]
    exact ⟨_, rfl⟩
  obtain ⟨pos, hi⟩ := hi
  refine ⟨pos, filterMap_allFin hi fun j hj => ?_⟩
  unfold entryAxle
  dsimp only
  rw [hfree j hj]

theorem ledgerAxles_of_none {s : State} (h : ∀ j, (s.tally.pub.tracker.entries.get j).st = .free) : ledgerAxles s = [] := by
  refine filterMap_allFin_none fun j => ?_
  unfold entryAxle
  dsimp only
  rw [h j]

-- the sums
theorem residueAxle_none {t : Tab 48 Residue} {n : Fin 48} (h : (t.get n).n = 0) : residueAxle t n = none := if_pos h

section
variable (c : CfgMap) (m : Fin 48) (pos : Rat) (load : Nat)

theorem sumOver_nil (f : Axle → Rat) : sumOver [] f = 0 := rfl
theorem sumOver_one (a : Axle) (f : Axle → Rat) : sumOver [a] f = f a := Rat.zero_add _

theorem sectionSum_one (k : Fin 48) : sectionSum [loadedAxle m pos load] k = if k = m then satS 32 (10 * (load : Int)) else 0 := by
  unfold sectionSum
  by_cases e : k = m
  · subst e
    rw [if_pos rfl, List.filter_cons_of_pos (by simp [loadedAxle]), List.filter_nil, sumOver_one]
    have hm : (loadedAxle k pos load).mass = ((10 * (load : Int) : Int) : Rat) := by
      show ((10 * load : Nat) : Rat) = _
      push_cast
      rfl
    rw [hm, roundAway_intCast]
  · rw [if_neg e, List.filter_cons_of_neg (by simpa [loadedAxle] using Ne.symm e), List.filter_nil]
    exact satS_roundAway_zero

theorem sectionSum_nil (k : Fin 48) : sectionSum [] k = 0 := satS_roundAway_zero

theorem modelSum_nil (k : Nat) : modelSum c [] k = 0 := by
  unfold modelSum
  dsimp only
  rw [sumOver_nil, Rat.div_def, Rat.zero_mul, ite_self, satS_roundAway_zero]

theorem vesselSum_nil : vesselSum c [] = 0 := by
  unfold vesselSum
  rw [sumOver_nil, satS_roundAway_zero]

/-- The vessel mass and the vertical force of one axle on a DECK section (R305, R307, R308). -/
theorem deckSums (h : frameKind c m.val = 1) : vesselSum c [loadedAxle m pos load] = satS 32 (10 * (load : Int)) ∧
    modelSum c [loadedAxle m pos load] 2 = satS 32 (roundAway (-(10 * (load : Rat)) * (980665 / 100000))) := by
  refine ⟨?_, ?_⟩
  · unfold vesselSum
    have hm : vesselShare c (loadedAxle m pos load) = ((10 * (load : Int) : Int) : Rat) := by
      have hs : vesselShare c (loadedAxle m pos load) = ((10 * load : Nat) : Rat) := if_pos h
      rw [hs]
      push_cast
      rfl
    rw [sumOver_one, hm, roundAway_intCast]
  · unfold modelSum
    dsimp only
    rw [if_pos (by decide), sumOver_one]
    have hm : axleModel c (loadedAxle m pos load) 2 = -(10 * (load : Rat)) * (980665 / 100000) := by
      obtain ⟨f, hf, hz⟩ : ∃ f, axleForce c (loadedAxle m pos load) = some f ∧
          f.z = -(((10 * load : Nat) : Rat) * gravity) - ((10 * load : Nat) : Rat) * 0 * ((frameU c m.val 2 : Rat) / 16384) :=
        ⟨_, if_pos h, rfl⟩
      rw [axleModel, hf]
      show f.z = _
      rw [hz, gravity]
      push_cast
      grind
    rw [hm]

/-- An axle on a SHORE section is no load of the hull (R305, R307). -/
theorem shoreSums (h : frameKind c m.val = 0) : vesselSum c [loadedAxle m pos load] = 0 ∧
    ∀ k, modelSum c [loadedAxle m pos load] k = 0 := by
  have h1 : ¬frameKind c m.val = 1 := by rw [h]; decide
  have h2 : ¬frameKind c m.val = 2 := by rw [h]; decide
  refine ⟨?_, fun k => ?_⟩
  · unfold vesselSum
    have hm : vesselShare c (loadedAxle m pos load) = 0 := (if_neg h1).trans (if_neg h2)
    rw [sumOver_one, hm, satS_roundAway_zero]
  · unfold modelSum
    dsimp only
    have hm : axleModel c (loadedAxle m pos load) k = 0 := by
      have hf : axleForce c (loadedAxle m pos load) = none := (if_neg h1).trans (if_neg h2)
      rw [axleModel, hf]
    rw [sumOver_one, hm, Rat.div_def, Rat.zero_mul, ite_self, satS_roundAway_zero]

/-- The ledger of one confirmed axle without a residue (R308). -/
theorem ledgerOf_one {res : Tab 48 Residue} (hr : ∀ k, (res.get k).n = 0) :
    LedgerOfOne c (ledgerOf c [loadedAxle m pos load] res) m load := by
  have hres : (allFin 48).filterMap (residueAxle res) = [] := filterMap_allFin_none fun k => residueAxle_none (hr k)
  have hq : ([loadedAxle m pos load].filter fun a => !a.setP) ++ (allFin 48).filterMap (residueAxle res) =
      [loadedAxle m pos load] := by rw [hres]; rfl
  have hp : ([loadedAxle m pos load].filter fun a => a.setP) = [] := rfl
  unfold ledgerOf
  rw [hq, hp]
  refine ⟨rfl, rfl, rfl, fun k => ?_, fun k => ?_, vesselSum_nil c, fun a => ?_, fun h => ?_, fun h => ?_⟩
  · exact (Tab.get_map_finRange _ k).trans (sectionSum_one m pos load k)
  · exact (Tab.get_map_finRange _ k).trans (sectionSum_nil k)
  · exact (Tab.get_map_finRange _ a).trans (modelSum_nil c _)
  · obtain ⟨h1, h2⟩ := deckSums c m pos load h
    exact ⟨h1, (Tab.get_map_finRange _ 2).trans h2⟩
  · obtain ⟨h1, h2⟩ := shoreSums c m pos load h
    exact ⟨h1, fun a => (Tab.get_map_finRange _ a).trans (h2 a.val)⟩

/-- The ledger of residues alone (R304, R308). -/
theorem ledgerOf_none (res : Tab 48 Residue) : (ledgerOf c [] res).axles = 0 ∧ ∀ k, (ledgerOf c [] res).secC.get k =
    satS 32 (roundAway (if (res.get k).n = 0 then 0 else (res.get k).mass)) := by
  refine ⟨rfl, fun k => (Tab.get_map_finRange _ k).trans ?_⟩
  rw [List.filter_nil, List.nil_append, sectionSum, List.filter_filterMap]
  have hother (j : Fin 48) (hj : j ≠ k) : (residueAxle res j).filter (fun a => a.sec == k) = none := by
    unfold residueAxle
    dsimp only
    split
    · rfl
    · simp [hj]
  by_cases h : (res.get k).n = 0
  · rw [if_pos h, filterMap_allFin_none fun j => ?_, sumOver_nil]
    · by_cases e : j = k
      · rw [e, residueAxle_none h]
        rfl
      · exact hother j e
  · obtain ⟨a, ha, hs, hm⟩ : ∃ a, residueAxle res k = some a ∧ a.sec = k ∧ a.mass = (res.get k).mass :=
      ⟨_, if_neg h, rfl, rfl⟩
    have hf : (residueAxle res k).filter (fun a => a.sec == k) = some a := by
      rw [ha]
      simp [hs]
    rw [if_neg h, filterMap_allFin hf hother, sumOver_one, hm]

end
end Sys2Proof.Machine

/-! SUPPORT. The ticks of the moment engine: O39 (R310, R315 to R317, R320, R322, R327). -/

namespace Sys2Proof.Machine

-- the beginning of a tick
theorem keeps_beginTick (s : State) (src : TickSource) :
    Keeps [.now, .engine, .tickInst, .ports, .stream, .emcy, .cfg, .sent, .can, .pdo] s (s.beginTick src) :=
  (((keeps_openInstant s src).mono rfl).trans ((keeps_takeSync _ src).mono rfl)).trans ((keeps_sendAtTick _).mono rfl)

theorem State.beginTick_tickOpen (s : State) (src : TickSource) : (s.beginTick src).net.tickOpen = false := by
  have h1 := ((keeps_sendAtTick ((s.openInstant src).takeSync src)).same .tickInst (by decide)).2
  have h2 := ((keeps_takeSync (s.openInstant src) src).same .tickInst (by decide)).2
  exact h1.trans (h2.trans rfl)

theorem State.beginTick_pdSeq_le (s : State) (src : TickSource) : s.net.pdSeq ≤ (s.beginTick src).net.pdSeq := by
  have h1 := ((keeps_sendAtTick ((s.openInstant src).takeSync src)).same .tickInst (by decide)).1
  have h2 := ((keeps_takeSync (s.openInstant src) src).same .tickInst (by decide)).1
  have h3 : s.net.pdSeq ≤ (s.openInstant src).net.pdSeq := by
    unfold State.openInstant State.tickInstant
    generalize s.engine.tickAt + tickNs s.cfg.active = i
    cases s.net.tickOpen with
    | true => exact Nat.le_refl _
    | false =>
      cases src == .timer with
      | true => exact Nat.le_succ _
      | false => exact Nat.le_succ _
  exact Nat.le_trans h3 (Nat.le_of_eq (h1.trans h2).symm)

-- a committed tick
/-- The engine that a tick commits out of the state `b` that its beginning leaves. -/
def State.committed (b : State) (n : Nat) : Engine :=
  (tickCommit b b.engine (tickWrites b.cfg.active b.engine b.net.pdSeq) n).1

section
variable (b : State) (n : Nat)

theorem State.committed_tickSeq : (b.committed n).tickSeq = (b.engine.tickSeq + 1) % 2 ^ 32 := by
  rw [State.committed, tickCommit_tickSeq, (commitWarmed_queue ..).1, (tickWrites_queue ..).1]

theorem State.committed_waiting :
    (b.committed n).waiting = b.engine.waiting.filter (fun w => !decide (w.due ≤ b.net.pdSeq)) := by
  rw [State.committed, tickCommit_waiting, (commitWarmed_queue ..).2, (tickWrites_queue ..).2]

theorem State.committed_ledger_of_one {i : Fin 128} {m : Fin 48} {load : Nat} (h : OneAxle b i m load) :
    LedgerOfOne b.cfg.active (b.committed n).ledger m load := by
  obtain ⟨pos, hl⟩ := ledgerAxles_of_one h
  obtain ⟨-, -, -, -, hres⟩ := h
  rw [State.committed, tickCommit_ledger, hl]
  exact ledgerOf_one _ m pos load hres

theorem State.committed_ledger_of_none (h : ∀ j, (b.tally.pub.tracker.entries.get j).st = .free) :
    (b.committed n).ledger.axles = 0 ∧ ∀ k, (b.committed n).ledger.secC.get k =
      satS 32 (roundAway (if (b.engine.residues.get k).n = 0 then 0 else (b.engine.residues.get k).mass)) := by
  rw [State.committed, tickCommit_ledger, ledgerAxles_of_none h]
  exact ledgerOf_none _ _

end

/-- What a tick reads of the state before its beginning. -/
structure Begun (s b : State) : Prop where
  active : b.cfg.active = s.cfg.active
  tally : b.tally = s.tally
  engine : s.engine.SameButInstants b.engine
  pdSeq : s.net.pdSeq ≤ b.net.pdSeq

theorem begun_beginTick (s : State) (src : TickSource) : Begun s (s.begin.beginTick src) where
  active := s.begin.beginTick_active src
  tally := (keeps_beginTick s.begin src).same .tally (by decide)
  engine := s.begin.beginTick_engine src
  pdSeq := s.begin.beginTick_pdSeq_le src

/-- The rows of a tick that commits (R315, R322). -/
theorem runs_committed {c : Instr} {s : State} {src : TickSource} {n : Nat} {f : State → State}
    (hc : exec c s = run s fun s => s.whenAlive f) (hf : f s.begin = tick src n s.begin) (ha : s.alive = true)
    (hsrc : tickFrom s src = true) (hn : n ≤ allowance s.cfg.active) {post : State → Prop}
    (h : ∀ b t, Begun s b → t.engine = b.committed n → t.net.pdSeq = b.net.pdSeq → t.net.tickOpen = false → post t) :
    Runs c s post := by
  refine runs_whenAlive hc ha ?_
  have hb : tickFrom s.begin src = true := by rw [State.begin_tickFrom, hsrc]
  rw [hf, tick_of_le_allowance hb hn]
  have hk := (keeps_engineTick (s.begin.beginTick src) (s.begin.beginTick src).net.pdSeq n).same .tickInst (by decide)
  refine h _ _ (begun_beginTick s src) ?_ ?_ ?_
  · rw [State.finish_engine, State.engineTick_engine]
    rfl
  · rw [State.finish_net_pdSeq, hk.1]
  · rw [State.finish_net_tickOpen, hk.2, State.beginTick_tickOpen]

/-- Of the engine beside its laws a target takes the live values alone (R317). -/
theorem lawTargetSum_congr {c : CfgMap} {e f : Engine} (h : f.live = e.live) (laws : Tab 16 Law) (a : Nat) :
    lawTargetSum c e laws a = lawTargetSum c f laws a := by
  unfold lawTargetSum lawEnabled liveGet
  rw [h]

/-- The end of the warm-up: the targets are the sums of the enabled laws (R317, R322). -/
theorem committed_of_warmed {b : State} (n : Nat) (hw : b.engine.warming = true) (hl : b.engine.warmLeft = 1)
    (hm : b.engine.mode = .follow) (hf : b.engine.fadeDue = false) (hq : b.engine.waiting = []) :
    (b.committed n).warming = false ∧ (b.committed n).mode = .follow ∧ ∀ a : Fin 6, (b.committed n).target.get a =
      lawTargetSum b.cfg.active (b.committed n) (b.committed n).laws a.val := by
  have hx := tickWrites_none (c := b.cfg.active) (n := b.net.pdSeq) hq hf
  have hlive := tickCommit_live b b.engine (tickWrites b.cfg.active b.engine b.net.pdSeq) n
  have htarget := tickCommit_target b b.engine (tickWrites b.cfg.active b.engine b.net.pdSeq) n
  have hmode := tickCommit_mode b b.engine (tickWrites b.cfg.active b.engine b.net.pdSeq) n
  have hwarm := tickCommit_warming b b.engine (tickWrites b.cfg.active b.engine b.net.pdSeq) n
  change (b.committed n).live = _ at hlive
  change ∀ a, (b.committed n).target.get a = axisTarget _ _ (b.committed n).laws a at htarget
  change (b.committed n).mode = _ at hmode
  change (b.committed n).warming = _ at hwarm
  generalize b.committed n = r at *
  generalize tickWrites b.cfg.active b.engine b.net.pdSeq = x at *
  have hw2 : (commitWarmed b.cfg.active b.engine x).mode = .follow ∧ (commitWarmed b.cfg.active b.engine x).warming = false := by
    unfold commitWarmed
    rw [commitFaded_of_not_fading (by rw [hm]; decide), hx]
    refine ⟨(warmStep_mode ..).trans hm, ?_⟩
    unfold warmStep
    rw [if_pos (by simp [hw, hm]), hl]
    rfl
  refine ⟨hwarm.trans hw2.2, hmode.trans hw2.1, fun a => ?_⟩
  rw [htarget]
  unfold axisTarget
  rw [hw2.1, hw2.2]
  dsimp only
  rw [if_neg (by decide)]
  exact lawTargetSum_congr hlive r.laws a.val

/-- SYNC_LOST (R316, R320): `i` is 2.5 tick periods after the latest SYNC. -/
theorem syncLost_runs {s : State} {p : PortId} {i : Nat} (hi : s.engine.syncAt + 5 * tickNs s.cfg.active / 2 = i)
    (ha : s.alive = true) (hp : tickPort s.cfg.active = some p) (hl : s.engine.flags.syncLost = false) :
    Runs .syncLost s fun t => t.now = Nat.max s.now i ∧ t.engine.flags.syncLost = true ∧
      (s.engine.mode = .follow ∨ s.engine.mode = .hold → t.engine.mode = .fade ∧ t.engine.flags.fadeSync = true) ∧
      (s.engine.mode = .off ∨ s.engine.mode = .fade → t.engine.mode = s.engine.mode) ∧ t.engine.out = s.engine.out := by
  refine runs_whenAlive (f := syncLost) rfl ha ?_
  have hs : s.begin.engine.syncAt + 5 * tickNs s.begin.cfg.active / 2 = i := hi
  unfold syncLost
  rw [show tickPort s.begin.cfg.active = some p from hp, show s.begin.engine.flags.syncLost = false from hl, hs]
  dsimp only
  have h0 : (s.begin.reach i).engine = s.engine := s.begin.reach_engine i
  rw [State.finish_now, State.finish_engine, State.engineRecord_engine, State.fadeAgain_engine,
    (keeps_engineRecord _ _ _).same .now (by decide), (keeps_fadeAgain _ _).same .now (by decide), h0]
  refine ⟨s.begin.reach_now i, rfl, fun h => ?_, fun h => ?_, ?_⟩
  · rcases h with h | h <;> simp [fadeNow, h]
  · rcases h with h | h <;> simp [fadeNow, h]
  · cases h : s.engine.mode <;> simp [fadeNow, h]

/-- Settles O39: a committed tick is `tickCommit` of what `tickWrites` leaves, whose steps keep the number and the writes
that are not due; the end of a fade and the warm-up alone touch the mode after the commands. -/
theorem engineTicks : Obligations.EngineTicks := by
  unfold Obligations.EngineTicks
  refine ⟨fun s src n ha hsrc hn => ?_, fun s src n ha hsrc hn hw hl hm hf hq => ?_, fun s p ha hp hl => syncLost_runs rfl ha hp hl⟩
  · refine runs_committed (f := tick src n) rfl rfl ha hsrc hn fun b t hb he hpd hopen => ?_
    obtain ⟨hact, htally, ⟨ta, sa, lost, heng⟩, hseq⟩ := hb
    have hmode : b.engine.mode = s.engine.mode := by rw [heng]
    have hwait : b.engine.waiting = s.engine.waiting := by rw [heng]
    have hfade : b.engine.fadeDue = s.engine.fadeDue := by rw [heng]
    have hres : b.engine.residues = s.engine.residues := by rw [heng]
    have htick : b.engine.tickSeq = s.engine.tickSeq := by rw [heng]
    rw [he, hpd, ← htick, ← hwait, ← hres, ← hmode, ← hfade, ← htally]
    refine ⟨b.committed_tickSeq n, rfl, rfl, rfl, rfl, hopen, b.committed_waiting n, fun a => tickCommit_out .., fun h a => ?_,
      fun m d hq hd hf => ?_, fun v d l hq hd hm hv => ?_, rfl, fun i m l h => ?_, fun h => ?_⟩
    · exact tickCommit_out_of_off _ _ _ _ h a
    · exact mode_of_modeCommand hq (Nat.le_trans hd hseq) hf
    · obtain ⟨u, x, hx⟩ := laws_of_lawReset (m := n) hq (Nat.le_trans hd hseq) hm hv
      rw [State.committed, hx]
      exact ⟨rfl, rfl, rfl⟩
    · obtain ⟨h1, h2, h3, h4, h5⟩ := h
      rw [← hact]
      exact b.committed_ledger_of_one n ⟨htally ▸ h1, htally ▸ h2, htally ▸ h3, htally ▸ h4, hres ▸ h5⟩
    · exact b.committed_ledger_of_none n h
  · refine runs_committed (f := warmupEnd src n) rfl ?_ ha hsrc hn fun b t hb he _ _ => ?_
    · exact if_pos (by simp [hw, hl, hn])
    · obtain ⟨hact, -, ⟨ta, sa, lost, heng⟩, -⟩ := hb
      rw [he, ← hact]
      exact committed_of_warmed n (by rw [heng]; exact hw) (by rw [heng]; exact hl) (by rw [heng]; exact hm)
        (by rw [heng]; exact hf) (by rw [heng]; exact hq)

end Sys2Proof.Machine

/-! SUPPORT. A step of the Bellringer before it judges the offers: what carrying out, requests, abandonments and the look at
the heads leave of the offers and of what is rung (R85, R114, R143, R168, R201, R207, R209). -/

namespace Sys2Proof.Machine

-- the relation
/-- Nothing is rung, no count and no head's coordinates change, and each pending offer was pending or is offered now. -/
structure Waits (s t : State) : Prop where
  now : t.now = s.now
  trk : t.trk = s.trk
  heads : t.bell.heads = s.bell.heads
  rung : t.bell.rung = s.bell.rung
  stepAt : t.bell.stepAt = s.bell.stepAt
  counts : (t.bell.rungExc, t.bell.rungRange, t.bell.rungCheck, t.bell.rungRebase) =
    (s.bell.rungExc, s.bell.rungRange, s.bell.rungCheck, s.bell.rungRebase)
  offers : ∀ f ∈ t.bell.offers, f ∈ s.bell.offers ∨ f.offeredAt = s.now

theorem Waits.of_bell {s t : State} (hn : t.now = s.now) (ht : t.trk = s.trk) (hb : t.bell = s.bell) : Waits s t where
  now := hn
  trk := ht
  heads := by rw [hb]
  rung := by rw [hb]
  stepAt := by rw [hb]
  counts := by rw [hb]
  offers f h := .inl (hb ▸ h)

theorem Waits.refl (s : State) : Waits s s := .of_bell rfl rfl rfl

theorem Waits.keeps {l : List Part} {s t : State} (h : Keeps l s t) (hm : misses [.now, .trk, .bell] l = true) : Waits s t :=
  have same (p : Part) (hp : p ∈ [Part.now, .trk, .bell]) : p.same s t :=
    h.same p (by simpa using List.all_eq_true.mp hm p hp)
  .of_bell (same .now (by simp)) (same .trk (by simp)) (same .bell (by simp))

theorem Waits.trans {s t u : State} (h : Waits s t) (g : Waits t u) : Waits s u where
  now := g.now.trans h.now
  trk := g.trk.trans h.trk
  heads := g.heads.trans h.heads
  rung := g.rung.trans h.rung
  stepAt := g.stepAt.trans h.stepAt
  counts := g.counts.trans h.counts
  offers f hf := (g.offers f hf).elim (h.offers f) fun e => .inr (e.trans h.now)

theorem Waits.ite {c : Prop} [Decidable c] {s a b : State} (ha : Waits s a) (hb : Waits s b) :
    Waits s (if c then a else b) := by
  split
  · exact ha
  · exact hb

theorem Waits.foldl {α : Type} {f : State → α → State} (hf : ∀ acc x, Waits acc (f acc x)) :
    ∀ (xs : List α) (s : State), Waits s (xs.foldl f s)
  | [], s => .refl s
  | x :: xs, s => (hf s x).trans (Waits.foldl hf xs (f s x))

/-- The spans and the counts of abandonments and intrusions are the Bellringer's own matter. -/
theorem waits_spans (s : State) (l : List Span) (a i : Nat) :
    Waits s { s with bell := { s.bell with spans := l, abandoned := a, intrusions := i } } :=
  ⟨rfl, rfl, rfl, rfl, rfl, rfl, fun _ h => .inl h⟩

theorem waits_withdraw (s : State) (p : Offer → Bool) : Waits s (s.withdraw p) :=
  ⟨rfl, rfl, rfl, rfl, rfl, rfl, fun _ h => .inl (List.mem_filter.mp h).1⟩

theorem waits_offer (s : State) {o : Offer} (h : o.offeredAt = s.now) : Waits s (s.offer o) :=
  ⟨rfl, rfl, rfl, rfl, rfl, rfl, fun _ hf =>
    (List.mem_append.mp hf).imp_right fun hf => by rw [List.mem_singleton.mp hf, h]⟩

-- range changes and requests
theorem waits_changeRange (s : State) (ch : Fin 64) (g : Nat) (b : Bool) : Waits s (s.changeRange ch g b) :=
  (waits_withdraw s _).trans (.keeps (keeps_updCh _ ch _) rfl)

theorem waits_oneRange (s : State) (ch : Fin 64) (b : Bool) : Waits s (s.oneRange ch b) :=
  .ite (.ite (waits_changeRange ..) (.refl s)) (.ite (waits_changeRange ..) (.refl s))

theorem waits_resumeRange (s : State) (ch : Fin 64) : Waits s (s.resumeRange ch) :=
  .ite (.ite (waits_oneRange ..) (.ite (waits_oneRange ..) (.refl s))) (.refl s)

theorem waits_requestCheck (s : State) (h : Fin 32) : Waits s (s.requestCheck h) := .ite (.refl s) (waits_offer s rfl)

theorem waits_requestRebase (s : State) (h : Fin 32) : Waits s (s.requestRebase h) := .ite (.refl s) (waits_offer s rfl)

-- abandonments
theorem waits_takeFinding (s : State) (ch : Fin 64) (f : Finding) (r : CheckFields) : Waits s (s.takeFinding ch f r) := by
  unfold State.takeFinding
  extract_lets s1 s2
  have h1 : Waits s s1 := .keeps (keeps_updCg s ch _) rfl
  clear_value s1
  have h2 : Waits s1 s2 := Waits.trans (.keeps (keeps_judgeLoads s1 ch) rfl) (waits_resumeRange _ ch)
  clear_value s2
  exact .ite (h1.trans h2) ((h1.trans h2).trans (.keeps (keeps_guardRecord s2 ch) rfl))

/-- An incomplete check of a head that is not DISTURBED is requested again (R137). -/
theorem waits_headChecked (s : State) (h : Fin 32) (b : Bool) : Waits s (s.headChecked h false b) := by
  unfold State.headChecked
  extract_lets g _
  rw [if_neg (by decide)]
  exact .ite (.refl s) (waits_requestCheck s h)

theorem waits_abandonCheck (s : State) (h : Fin 32) (l : List (Fin 64)) : Waits s (s.abandonCheck h l) := by
  unfold State.abandonCheck
  extract_lets c s1 s2 _ s3
  have h1 : Waits s s1 := .foldl (fun acc ch => .keeps (keeps_updCh acc ch _) rfl) l s
  clear_value s1
  have h2 : Waits s1 s2 := .foldl (fun acc ch => waits_takeFinding acc ch .void {}) l s1
  clear_value s2
  have h3 : Waits s2 s3 := waits_spans s2 _ _ _
  clear_value s3
  exact (h1.trans h2).trans (h3.trans (waits_headChecked s3 h false))

theorem waits_abandonRebase (s : State) (h : Fin 32) : Waits s (s.abandonRebase h) := by
  unfold State.abandonRebase
  extract_lets s1 _ s2
  have h1 : Waits s s1 := .keeps (keeps_updHead s h _) rfl
  clear_value s1
  have h2 : Waits s1 s2 := waits_spans s1 _ _ _
  clear_value s2
  exact (h1.trans h2).trans (waits_requestRebase s2 h)

theorem waits_freeLost (s : State) (h : Fin 32) : Waits s (s.freeLost h) := by
  unfold State.freeLost
  extract_lets _ s1
  have h1 : Waits s s1 := .ite (waits_spans s _ _ _) (.refl s)
  clear_value s1
  refine h1.trans (.foldl (fun acc p => .ite ?_ (.refl acc)) _ s1)
  cases p.cls with
  | check => exact .ite (waits_abandonCheck acc _ _) (.refl acc)
  | rebase => exact waits_abandonRebase acc _
  | excitation => exact .refl acc
  | range => exact .refl acc

-- carrying out
theorem waits_startCheck (s : State) (h : Fin 32) : Waits s (s.startCheck h) := by
  unfold State.startCheck
  extract_lets c cand go out s1 inj
  have h1 : Waits s s1 := .foldl (fun acc ch => .keeps (keeps_inject acc out ch) rfl) go s
  clear_value s1
  exact h1.trans (waits_spans s1 _ _ _)

theorem waits_carry (s : State) (o : Offer) : Waits s (s.carry o) := by
  unfold State.carry
  cases o.cls with
  | excitation =>
    dsimp only
    split
    · exact .keeps (keeps_startNow s _) rfl
    · exact .keeps (keeps_applyCurrent s _ _) rfl
    · exact .refl s
  | range =>
    dsimp only
    cases o.ch with
    | none => exact .refl s
    | some ch => exact waits_oneRange s ch _
  | check => exact waits_startCheck s _
  | rebase => exact .keeps (keeps_updHead s _ _) rfl

-- the look at the heads
/-- As `Waits`, but for the coordinates of the heads. -/
structure Looked (s t : State) : Prop where
  now : t.now = s.now
  trk : t.trk = s.trk
  rung : t.bell.rung = s.bell.rung
  stepAt : t.bell.stepAt = s.bell.stepAt
  counts : (t.bell.rungExc, t.bell.rungRange, t.bell.rungCheck, t.bell.rungRebase) =
    (s.bell.rungExc, s.bell.rungRange, s.bell.rungCheck, s.bell.rungRebase)
  offers : ∀ f ∈ t.bell.offers, f ∈ s.bell.offers ∨ f.offeredAt = s.now

theorem Waits.looked {s t : State} (h : Waits s t) : Looked s t := ⟨h.now, h.trk, h.rung, h.stepAt, h.counts, h.offers⟩

theorem Looked.trans {s t u : State} (h : Looked s t) (g : Looked t u) : Looked s u where
  now := g.now.trans h.now
  trk := g.trk.trans h.trk
  rung := g.rung.trans h.rung
  stepAt := g.stepAt.trans h.stepAt
  counts := g.counts.trans h.counts
  offers f hf := (g.offers f hf).elim (h.offers f) fun e => .inr (e.trans h.now)

/-- The coordinates of one head are written. -/
def State.putBell (s : State) (h : Fin 32) (b : BellHead) : State :=
  { s with bell := { s.bell with heads := s.bell.heads.put h b } }

theorem looked_putBell (s : State) (h : Fin 32) (b : BellHead) : Looked s (s.putBell h b) :=
  ⟨rfl, rfl, rfl, rfl, rfl, fun _ hf => .inl hf⟩

/-- A look at a head: its coordinates are written, and, where it stops being FREE, what ran on it is judged (R205, R209). -/
theorem lookHead_cases (s : State) (h : Fin 32) : s.lookHead h = s ∨ ∃ b, s.lookHead h = s.putBell h b ∨
    ((s.bell.heads.get h).free = true ∧ b.free = false ∧ s.lookHead h = (s.putBell h b).freeLost h) := by
  unfold State.lookHead
  split
  · exact .inl rfl
  · extract_lets free b b1 _ s1
    refine .inr ⟨b1, ?_⟩
    split
    · rename_i hf
      obtain ⟨h1, h2⟩ := Bool.and_eq_true_iff.mp hf
      exact .inr ⟨h1, by simpa using h2, rfl⟩
    · exact .inl rfl

theorem looked_lookHead (s : State) (h : Fin 32) : Looked s (s.lookHead h) := by
  obtain e | ⟨b, e | ⟨-, -, e⟩⟩ := lookHead_cases s h
  · rw [e]; exact (Waits.refl s).looked
  · rw [e]; exact looked_putBell s h b
  · rw [e]; exact (looked_putBell s h b).trans (waits_freeLost _ h).looked

theorem lookHead_heads_other (s : State) {h k : Fin 32} (hk : k ≠ h) :
    (s.lookHead h).bell.heads.get k = s.bell.heads.get k := by
  have hput (b : BellHead) : (s.putBell h b).bell.heads.get k = s.bell.heads.get k := Tab.get_put_other _ _ _ _ hk
  obtain e | ⟨b, e | ⟨-, -, e⟩⟩ := lookHead_cases s h
  · rw [e]
  · rw [e]; exact hput b
  · rw [e, (waits_freeLost _ h).heads]; exact hput b

/-- The look at the heads of a list. -/
theorem looked_lookHeads (l : List (Fin 32)) : ∀ s : State, Looked s (l.foldl (fun acc h => acc.lookHead h) s) := by
  induction l with
  | nil => exact fun s => (Waits.refl s).looked
  | cons h l ih => exact fun s => (looked_lookHead s h).trans (ih _)

theorem lookHeads_heads_other {k : Fin 32} (l : List (Fin 32)) (hk : k ∉ l) :
    ∀ s : State, (l.foldl (fun acc h => acc.lookHead h) s).bell.heads.get k = s.bell.heads.get k := by
  induction l with
  | nil => exact fun s => rfl
  | cons h l ih =>
    exact fun s => (ih (List.not_mem_of_not_mem_cons hk) _).trans (lookHead_heads_other s (List.ne_of_not_mem_cons hk))

/-- Where no head stops being FREE, the look at the heads changes their coordinates alone. -/
theorem lookHeads_of_free (l : List (Fin 32)) (hl : l.Nodup) : ∀ s : State,
    (∀ h ∈ l, (s.bell.heads.get h).free = true →
      ((l.foldl (fun acc h => acc.lookHead h) s).bell.heads.get h).free = true) →
    Keeps [.bell] s (l.foldl (fun acc h => acc.lookHead h) s) := by
  induction l with
  | nil => exact fun s _ => .refl _ s
  | cons h l ih =>
    intro s hs
    obtain ⟨hh, hl⟩ := List.nodup_cons.mp hl
    rw [List.foldl_cons] at hs ⊢
    have h1 : Keeps [.bell] s (s.lookHead h) := by
      obtain e | ⟨b, e | ⟨hf, hb, e⟩⟩ := lookHead_cases s h
      · rw [e]; exact .refl _ s
      · rw [e]; exact keeps_set_bell s _
      · have := hs h List.mem_cons_self hf
        rw [lookHeads_heads_other l hh, e, (waits_freeLost _ h).heads] at this
        have hp : (s.putBell h b).bell.heads.get h = b := Tab.get_put_self ..
        rw [hp, hb] at this
        cases this
    refine h1.trans (ih hl _ fun k hk hf => hs k (List.mem_cons_of_mem _ hk) ?_)
    have hne : k ≠ h := fun e => hh (e ▸ hk)
    rw [← lookHead_heads_other s hne]
    exact hf

end Sys2Proof.Machine

/-! SUPPORT. The judgement of the offers at a step of the Bellringer: what is rung, and what is left pending (R207, R210). -/

namespace Sys2Proof.Machine

-- the offers of a head and class
theorem mem_offerInsert {o x : Offer} : ∀ {l : List Offer}, x ∈ offerInsert o l ↔ x = o ∨ x ∈ l
  | [] => by simp [offerInsert]
  | y :: ys => by
    unfold offerInsert
    split
    · simp
    · rw [List.mem_cons, mem_offerInsert, List.mem_cons]
      exact or_left_comm

theorem mem_offersOf {s : State} {h : Fin 32} {cls : OfferClass} {f : Offer} :
    f ∈ offersOf s h cls ↔ f ∈ s.bell.offers ∧ f.head = h ∧ f.cls = cls := by
  have fold : ∀ (l acc : List Offer), f ∈ l.foldl (fun acc o => offerInsert o acc) acc ↔ f ∈ acc ∨ f ∈ l := by
    intro l
    induction l with
    | nil => simp
    | cons o l ih =>
      intro acc
      rw [List.foldl_cons, ih, mem_offerInsert, List.mem_cons, or_left_comm, or_assoc]
  unfold offersOf
  rw [fold, List.mem_filter]
  simp

-- ringing
/-- The span of a rung offer (R207). -/
def ringSpan (s : State) (o : Offer) : Span :=
  { cls := o.cls, own := o.head, heads := offerHeads s.cfg.active o, endAt := s.now + gridNs + o.span
    injEnd := s.now + gridNs + o.span, chans := [], active := o.cls == .check || o.cls == .rebase }

/-- A span runs at an instant. -/
def Span.runs (now : Nat) (p : Span) : Prop := p.active = true ∨ now < p.endAt

/-- A count of rings is all that is counted. -/
theorem countRing_same (b : Bell) (c : OfferClass) : countRing b c =
    { b with rungExc := (countRing b c).rungExc, rungRange := (countRing b c).rungRange,
             rungCheck := (countRing b c).rungCheck, rungRebase := (countRing b c).rungRebase } := by
  cases c <;> rfl

section
variable (s : State) (o : Offer)

theorem ring_cfg : (s.ring o).cfg = s.cfg := rfl
theorem ring_now : (s.ring o).now = s.now := rfl
theorem ring_cg : (s.ring o).cg = s.cg := rfl
theorem ring_trk : (s.ring o).trk = s.trk := rfl
theorem ring_offers : (s.ring o).bell.offers = s.bell.offers.filter (fun x => x != o) :=
  (congrArg (fun b : Bell => b.offers.filter (fun x => x != o)) (countRing_same s.bell o.cls) :)
theorem ring_rung : (s.ring o).bell.rung = s.bell.rung ++ [o] :=
  (congrArg (fun b : Bell => b.rung ++ [o]) (countRing_same s.bell o.cls) :)
theorem ring_spans : (s.ring o).bell.spans = s.bell.spans ++ [ringSpan s o] :=
  (congrArg (fun b : Bell => b.spans ++ [ringSpan s o]) (countRing_same s.bell o.cls) :)
theorem ring_heads : (s.ring o).bell.heads = s.bell.heads := (congrArg Bell.heads (countRing_same s.bell o.cls) :)
theorem ring_stepAt : (s.ring o).bell.stepAt = s.bell.stepAt := (congrArg Bell.stepAt (countRing_same s.bell o.cls) :)

theorem ringSpan_runs : (ringSpan s o).runs s.now := .inr (by
  show s.now < s.now + gridNs + o.span
  have : 0 < gridNs := by decide
  omega)

end

theorem spanRuns_iff {s : State} {a b : OfferClass} {h : Fin 32} :
    spanRuns s a b h = true ↔ ∃ p ∈ s.bell.spans, (p.cls = a ∨ p.cls = b) ∧ p.heads.contains h = true ∧ p.runs s.now := by
  unfold spanRuns Span.runs
  simp only [List.any_eq_true, Bool.and_eq_true, Bool.or_eq_true, beq_iff_eq, decide_eq_true_eq, and_assoc]

theorem spanRuns_ring {s : State} {o : Offer} {a b : OfferClass} {h : Fin 32} (hr : spanRuns s a b h = true) :
    spanRuns (s.ring o) a b h = true := by
  obtain ⟨p, hp, hc⟩ := spanRuns_iff.mp hr
  exact spanRuns_iff.mpr ⟨p, ring_spans s o ▸ List.mem_append_left _ hp, hc⟩

/-- What makes an offer RINGABLE (R207). -/
theorem ringable_iff {s : State} {o : Offer} : ringable s o = true ↔
    (∀ h ∈ offerHeads s.cfg.active o, (s.bell.heads.get h).free = true ∧
      (∀ g, (s.bell.heads.get h).gap = some g → o.span ≤ g) ∧ spanRuns s .check .rebase h = false) ∧
    (o.cls = .check ∨ o.cls = .rebase → ∀ h ∈ offerHeads s.cfg.active o, spanRuns s .excitation .range h = false) ∧
    (o.cls = .range → ∀ c, o.ch = some c → (s.cg.get c).checkRunning = false) := by
  have hgap (x : Option Nat) : (match x with | none => true | some g => decide (o.span ≤ g)) = true ↔
      ∀ g, x = some g → o.span ≤ g := by
    cases x <;> simp
  have hch (x : Option (Fin 64)) : (match x with | some ch => !(s.cg.get ch).checkRunning | none => true) = true ↔
      ∀ c, x = some c → (s.cg.get c).checkRunning = false := by
    cases x <;> simp
  unfold ringable
  dsimp only
  simp only [Bool.and_eq_true, List.all_eq_true, Bool.not_eq_true', and_assoc]
  refine and_congr (forall₂_congr fun h _ => ?_) (and_congr ?_ ?_)
  · exact and_congr_right fun _ => and_congr_left fun _ => hgap _
  · simp only [Bool.or_eq_true, beq_iff_eq]
    split
    · rename_i hc
      simp [hc]
    · rename_i hc
      simp [hc]
  · simp only [beq_iff_eq]
    split
    · rename_i hc
      simp only [hc, true_implies]
      exact hch _
    · rename_i hc
      simp [hc]

/-- A ring takes no offer back into being RINGABLE. -/
theorem ringable_of_ring {s : State} {o f : Offer} (h : ringable (s.ring o) f = true) : ringable s f = true := by
  have back {a b : OfferClass} {k : Fin 32} (hr : spanRuns (s.ring o) a b k = false) : spanRuns s a b k = false :=
    Bool.eq_false_iff.mpr fun e => Bool.eq_false_iff.mp hr (spanRuns_ring e)
  obtain ⟨h1, h2, h3⟩ := ringable_iff.mp h
  refine ringable_iff.mpr ⟨fun k hk => ?_, fun hc k hk => back (h2 hc k hk), h3⟩
  obtain ⟨a, b, c⟩ := h1 k hk
  rw [ring_heads] at a b
  exact ⟨a, b, back c⟩

-- the judgement
/-- What holds while the offers of the state `u` are judged: `v` differs from it in the Bellringer alone, and what is rung
keeps the rules of R207 and has a span that runs. -/
structure Judging (u v : State) : Prop where
  keeps : Keeps [.bell] u v
  heads : v.bell.heads = u.bell.heads
  stepAt : v.bell.stepAt = u.bell.stepAt
  offers : ∀ f ∈ v.bell.offers, f ∈ u.bell.offers
  rung : ∀ f ∈ v.bell.rung, f ∈ u.bell.offers ∧ RungWell v f
  spans : ∀ f ∈ v.bell.rung, ∃ p ∈ v.bell.spans, p.cls = f.cls ∧ p.heads = offerHeads v.cfg.active f ∧ p.runs v.now

theorem Judging.start {u : State} (h : u.bell.rung = []) : Judging u u where
  keeps := .refl _ u
  heads := rfl
  stepAt := rfl
  offers _ hf := hf
  rung f hf := by rw [h] at hf; cases hf
  spans f hf := by rw [h] at hf; cases hf

/-- A check or a rebase runs on none of the heads of a RINGABLE offer (R207). -/
theorem ringable_clear {v : State} {o : Offer} (ho : ringable v o = true) {h : Fin 32} (hh : h ∈ offerHeads v.cfg.active o)
    {p : Span} (hp : p ∈ v.bell.spans) (hc : p.heads.contains h = true) (hr : p.runs v.now)
    (hcls : p.cls = .check ∨ p.cls = .rebase ∨ o.cls = .check ∨ o.cls = .rebase) : False := by
  obtain ⟨h1, h2, -⟩ := ringable_iff.mp ho
  obtain ⟨-, -, hs⟩ := h1 h hh
  have long (hl : p.cls = .check ∨ p.cls = .rebase) : False := by
    rw [spanRuns_iff.mpr ⟨p, hp, hl, hc, hr⟩] at hs
    cases hs
  have short (hl : p.cls = .excitation ∨ p.cls = .range) (hoc : o.cls = .check ∨ o.cls = .rebase) : False := by
    have := h2 hoc h hh
    rw [spanRuns_iff.mpr ⟨p, hp, hl, hc, hr⟩] at this
    cases this
  cases hcp : p.cls with
  | check => exact long (.inl hcp)
  | rebase => exact long (.inr hcp)
  | excitation => exact short (.inl hcp) (by simpa [hcp] using hcls)
  | range => exact short (.inr hcp) (by simpa [hcp] using hcls)

/-- An offer that is RINGABLE is rung as R207 asks. -/
theorem rungWell_ring_self {v : State} {o : Offer} (ho : ringable v o = true) : RungWell (v.ring o) o := by
  obtain ⟨h1, -, h3⟩ := ringable_iff.mp ho
  refine ⟨fun h hh => ?_, h3⟩
  obtain ⟨a, b, -⟩ := h1 h hh
  rw [ring_heads, ring_spans]
  refine ⟨a, b, fun p hp hc hr hcls => ?_⟩
  rcases List.mem_append.mp hp with hp | hp
  · exact (ringable_clear ho hh hp hc hr hcls).elim
  · rw [List.mem_singleton.mp hp]
    exact ⟨rfl, rfl⟩

/-- What was rung before stays rung as R207 asks. -/
theorem rungWell_ring {v : State} {o f : Offer} (ho : ringable v o = true) (hf : RungWell v f)
    (hs : ∃ p ∈ v.bell.spans, p.cls = f.cls ∧ p.heads = offerHeads v.cfg.active f ∧ p.runs v.now) : RungWell (v.ring o) f := by
  obtain ⟨q, hq, hqc, hqh, hqr⟩ := hs
  obtain ⟨h1, h2⟩ := hf
  refine ⟨fun h hh => ?_, h2⟩
  obtain ⟨a, b, c⟩ := h1 h hh
  rw [ring_heads, ring_spans]
  refine ⟨a, b, fun p hp hc hr hcls => ?_⟩
  rcases List.mem_append.mp hp with hp | hp
  · exact c p hp hc hr hcls
  · rw [List.mem_singleton.mp hp] at hc hcls
    have hho : h ∈ offerHeads v.cfg.active o := by simpa [ringSpan] using hc
    have hhq : q.heads.contains h = true := by
      rw [hqh]
      exact List.contains_iff_mem.mpr hh
    refine (ringable_clear ho hho hq hhq hqr ?_).elim
    rw [hqc]
    rcases hcls with h | h | h | h
    · exact .inr (.inr (.inl h))
    · exact .inr (.inr (.inr h))
    · exact .inl h
    · exact .inr (.inl h)

theorem Judging.ring {u v : State} (h : Judging u v) {o : Offer} (ho : o ∈ u.bell.offers) (hr : ringable v o = true) :
    Judging u (v.ring o) where
  keeps := h.keeps.trans (keeps_ring v o)
  heads := (ring_heads v o).trans h.heads
  stepAt := (ring_stepAt v o).trans h.stepAt
  offers f hf := h.offers f (List.mem_filter.mp (ring_offers v o ▸ hf)).1
  rung f hf := by
    rw [ring_rung] at hf
    rcases List.mem_append.mp hf with hf | hf
    · obtain ⟨h1, h2⟩ := h.rung f hf
      exact ⟨h1, rungWell_ring hr h2 (h.spans f hf)⟩
    · rw [List.mem_singleton.mp hf]
      exact ⟨ho, rungWell_ring_self hr⟩
  spans f hf := by
    rw [ring_rung] at hf
    rw [ring_spans]
    rcases List.mem_append.mp hf with hf | hf
    · obtain ⟨p, hp, hc⟩ := h.spans f hf
      exact ⟨p, List.mem_append_left _ hp, hc⟩
    · rw [List.mem_singleton.mp hf]
      exact ⟨ringSpan v o, List.mem_append_right _ (List.mem_singleton_self _), rfl, rfl, ringSpan_runs v o⟩

-- the loops of the judgement
/-- One offer is judged. -/
def State.judgeOffer (s : State) (o : Offer) : State := if ringable s o then s.ring o else s

/-- The offers of one class on one head are judged. -/
def State.judgeClass (s : State) (h : Fin 32) (cls : OfferClass) : State := (offersOf s h cls).foldl State.judgeOffer s

/-- The offers on one head are judged. -/
def State.judgeHead (s : State) (h : Fin 32) : State :=
  [OfferClass.excitation, .range, .check, .rebase].foldl (fun a cls => a.judgeClass h cls) s

theorem judgeOffers_eq {s : State} (h : s.trk.full = false) : s.judgeOffers = (allFin 32).foldl State.judgeHead s :=
  if_neg (by rw [h]; exact Bool.false_ne_true)

theorem Judging.judgeClass {u v : State} (h : Judging u v) (k : Fin 32) (cls : OfferClass) : Judging u (v.judgeClass k cls) := by
  have fold : ∀ (l : List Offer) (w : State), (∀ o ∈ l, o ∈ u.bell.offers) → Judging u w → Judging u (l.foldl State.judgeOffer w) := by
    intro l
    induction l with
    | nil => exact fun w _ hw => hw
    | cons o l ih =>
      intro w hl hw
      refine ih _ (fun x hx => hl x (List.mem_cons_of_mem _ hx)) ?_
      unfold State.judgeOffer
      split
      · rename_i hr
        exact hw.ring (hl o List.mem_cons_self) hr
      · exact hw
  exact fold _ v (fun o ho => h.offers o (mem_offersOf.mp ho).1) h

theorem Judging.judgeHead {u v : State} (h : Judging u v) (k : Fin 32) : Judging u (v.judgeHead k) :=
  (((h.judgeClass k .excitation).judgeClass k .range).judgeClass k .check).judgeClass k .rebase

theorem judging_judgeOffers {u : State} (hu : u.bell.rung = []) (hf : u.trk.full = false) : Judging u u.judgeOffers := by
  rw [judgeOffers_eq hf]
  exact List.foldlRecOn (allFin 32) _ (Judging.start hu) fun v hv k _ => hv.judgeHead k

-- what is left pending
/-- An offer is pending only while it is not RINGABLE. -/
def LeftPending (f : Offer) (v : State) : Prop := f ∈ v.bell.offers → ringable v f = false

theorem LeftPending.judgeOffer {f : Offer} {v : State} (h : LeftPending f v) (o : Offer) : LeftPending f (v.judgeOffer o) := by
  unfold State.judgeOffer
  split
  · intro hf
    rw [ring_offers] at hf
    exact Bool.eq_false_iff.mpr fun e => Bool.eq_false_iff.mp (h (List.mem_filter.mp hf).1) (ringable_of_ring e)
  · exact h

theorem leftPending_judgeOffer_self (f : Offer) (v : State) : LeftPending f (v.judgeOffer f) := by
  unfold State.judgeOffer
  split
  · intro hf
    rw [ring_offers] at hf
    exact absurd (List.mem_filter.mp hf).2 (by simp)
  · rename_i h
    exact fun _ => Bool.eq_false_iff.mpr h

theorem LeftPending.judgeClass {f : Offer} {v : State} (h : LeftPending f v) (k : Fin 32) (cls : OfferClass) :
    LeftPending f (v.judgeClass k cls) := List.foldlRecOn _ _ h fun _ hw o _ => hw.judgeOffer o

theorem leftPending_judgeClass_self (f : Offer) (v : State) : LeftPending f (v.judgeClass f.head f.cls) := by
  by_cases hf : f ∈ v.bell.offers
  · exact foldl_reaches (fun _ => True) (LeftPending f) (fun _ _ _ => trivial) (fun w _ => leftPending_judgeOffer_self f w)
      (fun w o _ hw => hw.judgeOffer o) _ v trivial (mem_offersOf.mpr ⟨hf, rfl, rfl⟩)
  · exact LeftPending.judgeClass (fun h => absurd h hf) f.head f.cls

theorem LeftPending.judgeHead {f : Offer} {v : State} (h : LeftPending f v) (k : Fin 32) : LeftPending f (v.judgeHead k) :=
  List.foldlRecOn _ _ h fun _ hw cls _ => hw.judgeClass k cls

theorem leftPending_judgeHead_self (f : Offer) (v : State) : LeftPending f (v.judgeHead f.head) :=
  foldl_reaches (fun _ => True) (LeftPending f) (i := f.cls) (fun _ _ _ => trivial)
    (fun w _ => leftPending_judgeClass_self f w) (fun w cls _ hw => hw.judgeClass f.head cls) _ v trivial (by cases f.cls <;> simp)

/-- Every offer left pending is not RINGABLE (R207). -/
theorem leftPending_judgeOffers {u : State} (hf : u.trk.full = false) (f : Offer) : LeftPending f u.judgeOffers := by
  rw [judgeOffers_eq hf]
  exact foldl_reaches (fun _ => True) (LeftPending f) (i := f.head) (fun _ _ _ => trivial)
    (fun w _ => leftPending_judgeHead_self f w) (fun w k _ hw => hw.judgeHead k) _ u trivial (List.mem_finRange _)

end Sys2Proof.Machine

/-! SUPPORT. A step of the Bellringer: what is carried out, and O28 (R85, R114, R137, R168, R207, R209, R212). -/

namespace Sys2Proof.Machine

-- the parts of a step
/-- The instant of a step has come and nothing is rung any more (R207). -/
def State.bellAt (s : State) (i : Nat) : State := { s.reach i with bell := { s.bell with rung := [] } }

/-- What was rung has been carried out (R207). -/
def State.bellCarried (s : State) (i : Nat) : State := s.bell.rung.foldl State.carry (s.bellAt i)

/-- Spans that have ended are gone (R207). -/
def State.bellCleared (s : State) (i : Nat) : State :=
  let c := s.bellCarried i
  { c with bell := { c.bell with stepAt := i, spans := c.bell.spans.filter (fun p => p.active || decide (c.now < p.endAt)) } }

/-- The heads have been looked at (R204 to R206). -/
def State.bellLooked (s : State) (i : Nat) : State := (allFin 32).foldl (fun acc h => acc.lookHead h) (s.bellCleared i)

section
variable (s : State) (i : Nat)

theorem bellStep_eq (hi : nextStep s.power.bootAt s.now s.bell.stepAt = i) : bellStep s = (s.bellLooked i).judgeOffers := by
  unfold bellStep
  rw [hi]
  have h : (s.reach i).carryAll = s.bellCarried i := by
    unfold State.carryAll State.bellCarried State.bellAt
    rw [s.reach_bell i]
  dsimp only
  rw [h]
  rfl

theorem bellAt_now : (s.bellAt i).now = Nat.max s.now i := s.reach_now i

theorem waits_bellCarried : Waits (s.bellAt i) (s.bellCarried i) := .foldl waits_carry _ _

theorem keeps_bellCleared : Keeps [.bell] (s.bellCarried i) (s.bellCleared i) := keeps_set_bell _ _

theorem looked_bellLooked : Looked (s.bellCleared i) (s.bellLooked i) := looked_lookHeads _ _

theorem bellCleared_heads : (s.bellCleared i).bell.heads = s.bell.heads := (waits_bellCarried s i).heads

theorem bellLooked_now : (s.bellLooked i).now = Nat.max s.now i :=
  (looked_bellLooked s i).now.trans ((waits_bellCarried s i).now.trans (bellAt_now s i))

theorem bellLooked_trk : (s.bellLooked i).trk = s.trk :=
  (looked_bellLooked s i).trk.trans ((waits_bellCarried s i).trk.trans (s.reach_trk i))

theorem bellLooked_rung : (s.bellLooked i).bell.rung = [] :=
  (looked_bellLooked s i).rung.trans (waits_bellCarried s i).rung

theorem bellLooked_stepAt : (s.bellLooked i).bell.stepAt = i := (looked_bellLooked s i).stepAt

theorem bellLooked_counts : ((s.bellLooked i).bell.rungExc, (s.bellLooked i).bell.rungRange, (s.bellLooked i).bell.rungCheck,
    (s.bellLooked i).bell.rungRebase) = (s.bell.rungExc, s.bell.rungRange, s.bell.rungCheck, s.bell.rungRebase) :=
  (looked_bellLooked s i).counts.trans (waits_bellCarried s i).counts

/-- Each offer that is judged was pending before the step or is made at it. -/
theorem bellLooked_offers : ∀ f ∈ (s.bellLooked i).bell.offers, f ∈ s.bell.offers ∨ f.offeredAt = Nat.max s.now i := by
  intro f hf
  rcases (looked_bellLooked s i).offers f hf with h | h
  · rcases (waits_bellCarried s i).offers f h with h | h
    · exact .inl h
    · exact .inr (h.trans (bellAt_now s i))
  · exact .inr (h.trans ((waits_bellCarried s i).now.trans (bellAt_now s i)))

theorem bellLooked_src : (s.bellLooked i).src = (s.bellCarried i).src := by
  have h := (Keeps.foldl_mem (allFin 32) (fun acc h _ => keeps_lookHead acc h) (s.bellCleared i)).same .src (by decide)
  exact h.trans ((keeps_bellCleared s i).same .src (by decide))

/-- Where no head stops being FREE, the step leaves what was carried out. -/
theorem keeps_bellLooked (hf : ∀ h, (s.bell.heads.get h).free = true → ((s.bellLooked i).bell.heads.get h).free = true) :
    Keeps [.bell] (s.bellCarried i) (s.bellLooked i) :=
  (keeps_bellCleared s i).trans (lookHeads_of_free _ (List.nodup_finRange 32) _ fun h _ hh =>
    hf h (by rw [← bellCleared_heads s i]; exact hh))

end

-- what is carried out
section
variable (u : State) (f : Offer)

/-- A rung start of a free source (R85). -/
theorem carry_start {k : Fin 64} (hc : f.cls = .excitation) (hk : f.src = some k) (hn : f.newCurrent = none)
    (ho : (u.src.get k).st = .off) (hh : srcHeld u k = false) (hv : u.power.vexcLow = false) (he : u.power.entering = false)
    (hx : excEnabled u.cfg.active k.val = true) : ((u.carry f).src.get k).st = .settling := by
  unfold State.carry
  rw [hc, hk, hn]
  dsimp only
  rw [State.startNow, if_neg (by simp [ho, hh, he, hx]), if_neg (by simp [hv]), State.runStart_src, Tab.get_upd_self]
  rfl

/-- A rung change of current (R85). -/
theorem carry_current {k : Fin 64} {i : Nat} (hc : f.cls = .excitation) (hk : f.src = some k) (hn : f.newCurrent = some i)
    (ho : (u.src.get k).st = .on) : ((u.carry f).src.get k).st = .on ∧ ((u.carry f).src.get k).current = i ∧
      ((u.carry f).src.get k).seqAt = u.now ∧ ((u.carry f).src.get k).base = levelAt (u.src.get k) u.now := by
  unfold State.carry
  rw [hc, hk, hn]
  dsimp only
  rw [State.applyCurrent, if_pos (by simp [ho]), (keeps_unsettle _ k).same .src (by decide), State.updSrc_get]
  exact ⟨ho, rfl, rfl, rfl⟩

/-- A rung range change (R114). -/
theorem carry_range {c : Fin 64} (hc : f.cls = .range) (hk : f.ch = some c) : ((u.carry f).ch.get c).gain =
    if f.finer = true then (if (u.ch.get c).gain < chGainMax u.cfg.active c.val then (u.ch.get c).gain + 1 else (u.ch.get c).gain)
    else if chGainMin u.cfg.active c.val < (u.ch.get c).gain then (u.ch.get c).gain - 1 else (u.ch.get c).gain := by
  have hg (g : Nat) : ((u.changeRange c g false).ch.get c).gain = g := by
    rw [State.changeRange, State.updCh_get]
  unfold State.carry
  rw [hc, hk]
  dsimp only
  unfold State.oneRange
  dsimp only
  split
  · split
    · exact hg _
    · rfl
  · split
    · exact hg _
    · rfl

/-- A rung rebase begins to average (R168). -/
theorem carry_rebase (hc : f.cls = .rebase) : ((u.carry f).head.get f.head).rebase = some { startAt := u.now } := by
  unfold State.carry
  rw [hc]
  dsimp only
  rw [State.updHead_get]

/-- An injection runs on a channel since an instant. -/
def Injects (n : Nat) (c : Fin 64) (w : State) : Prop := (w.cg.get c).checkRunning = true ∧ (w.ch.get c).injFrom = some n

theorem injects_inject_self {w : State} (v : Bool) (c : Fin 64) : Injects w.now c (w.inject v c) := by
  unfold State.inject Injects
  rw [State.updCh_get]
  refine ⟨?_, rfl⟩
  rw [(keeps_updCh _ c _).same .cg (by decide), State.updCg_get]

theorem Injects.inject {w : State} {n : Nat} {c : Fin 64} (h : Injects n c w) (hn : w.now = n) (v : Bool) (a : Fin 64) :
    Injects n c (w.inject v a) := by
  by_cases e : c = a
  · subst e
    exact hn ▸ injects_inject_self v c
  · obtain ⟨h1, h2⟩ := h
    unfold State.inject Injects
    refine ⟨?_, ?_⟩
    · rw [(keeps_updCh _ a _).same .cg (by decide)]
      exact (congrArg ChGuard.checkRunning (Tab.get_upd_other _ _ _ _ e)).trans h1
    · exact (congrArg Channel.injFrom (Tab.get_upd_other _ _ _ _ e)).trans h2

/-- A rung check injects into every channel that can be started (R137). -/
theorem carry_check (hc : f.cls = .check) {c : Fin 64} (hr : c ∈ reachedChans u.cfg.active (chansOf u.cfg.active f.head.val))
    (hs : startable u c = true) : Injects u.now c (u.carry f) := by
  unfold State.carry
  rw [hc]
  dsimp only
  unfold State.startCheck
  extract_lets cfg cand go out s1 inj
  have h : Injects u.now c s1 :=
    foldl_reaches (g := fun acc ch => acc.inject out ch) (fun w => w.now = u.now) (Injects u.now c) (fun w a hw => hw) (fun w hw => hw ▸ injects_inject_self out c)
      (fun w a hw hq => hq.inject hw out a) go u rfl (List.mem_filter.mpr ⟨hr, hs⟩)
  exact h

end

theorem startable_congr {u v : State} (hcfg : u.cfg = v.cfg) (hcg : u.cg = v.cg) (hhg : u.hg = v.hg) (hch : u.ch = v.ch)
    (hsrc : u.src = v.src) (hn : u.now = v.now) (c : Fin 64) : startable u c = startable v c := by
  unfold startable inUnsettled chSourceOn srcOn
  rw [hcfg, hcg, hhg, hch, hsrc, hn]

theorem RungWell.congr {u v : State} (hcfg : v.cfg = u.cfg) (hcg : v.cg = u.cg) (hb : v.bell = u.bell) (hn : v.now = u.now)
    {f : Offer} (h : RungWell u f) : RungWell v f := by
  unfold RungWell at h ⊢
  rw [hcfg, hcg, hb, hn]
  exact h

theorem ringable_congr {u v : State} (hcfg : v.cfg = u.cfg) (hcg : v.cg = u.cg) (hb : v.bell = u.bell) (hn : v.now = u.now)
    (f : Offer) : ringable v f = ringable u f := by
  unfold ringable spanRuns
  rw [hcfg, hcg, hb, hn]

-- the step
/-- What a step carries out where no head stops being FREE. `u` is the state with the instant of the step, `t` differs from
the one after carrying out in the Bellringer alone. -/
theorem carriedOut_of_carry {s u t : State} {f : Offer} (hu : Keeps [.now, .bell, .sent] s u) (hn : t.now = u.now)
    (hch : t.ch = (u.carry f).ch) (hcg : t.cg = (u.carry f).cg) (hhead : t.head = (u.carry f).head)
    (hsrc : t.src = (u.carry f).src) : CarriedOut s t f := by
  have hcfg : u.cfg = s.cfg := hu.same .cfg (by decide)
  have hch0 : u.ch = s.ch := hu.same .ch (by decide)
  have hsrc0 : u.src = s.src := hu.same .src (by decide)
  refine ⟨fun c hc hk => ?_, fun hc c hr hs => ?_, fun hc => ?_, fun k i hc hk hi ho => ?_⟩
  · rw [hch, carry_range u f hc hk, hcfg, hch0]
  · have hs' : startable u c = true := by
      rw [startable_congr (v := { s with now := t.now }) hcfg (hu.same .cg (by decide)) (hu.same .hg (by decide)) hch0 hsrc0
        hn.symm, hs]
    obtain ⟨h1, h2⟩ := carry_check u f hc (hcfg ▸ hr) hs'
    rw [hcg, hch, hn]
    exact ⟨h1, h2⟩
  · rw [hhead, hn]
    exact carry_rebase u f hc
  · have h := carry_current u f hc hk hi (hsrc0 ▸ ho)
    rw [hsrc, hn, ← hsrc0]
    exact h

theorem keeps_bellAt (s : State) (i : Nat) : Keeps [.now, .bell] s (s.bellAt i) :=
  ((keeps_reach s i).mono rfl).trans ((keeps_set_bell (s.reach i) _).mono rfl)

theorem bellStep_of_full {s : State} {i : Nat} (h : s.trk.full = true) : (s.bellLooked i).judgeOffers = s.bellLooked i :=
  if_pos (by rw [bellLooked_trk, h])

theorem bellStep_of_room {s : State} (i : Nat) (h : s.trk.full = false) :
    Judging (s.bellLooked i) (s.bellLooked i).judgeOffers :=
  judging_judgeOffers (bellLooked_rung s i) (by rw [bellLooked_trk, h])

/-- Of the Bellringer's step the judgement leaves the coordinates and the instant of the step. -/
theorem judgeOffers_seen {s : State} (i : Nat) : (s.bellLooked i).judgeOffers.bell.heads = (s.bellLooked i).bell.heads ∧
    (s.bellLooked i).judgeOffers.bell.stepAt = i := by
  cases h : s.trk.full with
  | true =>
    rw [bellStep_of_full h]
    exact ⟨rfl, bellLooked_stepAt s i⟩
  | false =>
    have hj := bellStep_of_room i h
    exact ⟨hj.heads, hj.stepAt.trans (bellLooked_stepAt s i)⟩

/-- What O28 says of a step at the instant `i`. -/
theorem bellStep_runs {s : State} {i : Nat} (hi : nextStep s.power.bootAt s.now s.bell.stepAt = i) (ha : s.alive = true) :
    Runs .bellringerStep s fun t =>
    t.bell.stepAt = i ∧ t.now = Nat.max s.now t.bell.stepAt ∧
    (∀ (f : Offer) (k : Fin 64), s.bell.rung = [f] → f.cls = .excitation → f.src = some k → f.newCurrent = none →
      (s.src.get k).st = .off → srcHeld s k = false → s.power.vexcLow = false → s.power.entering = false →
      excEnabled s.cfg.active k.val = true → (t.src.get k).st = .settling) ∧
    (∀ f : Offer, s.bell.rung = [f] → (∀ h, (s.bell.heads.get h).free = true → (t.bell.heads.get h).free = true) →
      CarriedOut s t f) ∧
    (∀ f ∈ t.bell.rung, (f ∈ s.bell.offers ∨ f.offeredAt = t.now) ∧ RungWell t f) ∧
    (t.trk.full = false → ∀ f ∈ t.bell.offers, ringable t f = false) ∧
    (s.trk.full = true → t.bell.rung = [] ∧ t.bell.rungExc = s.bell.rungExc ∧ t.bell.rungRange = s.bell.rungRange ∧
      t.bell.rungCheck = s.bell.rungCheck ∧ t.bell.rungRebase = s.bell.rungRebase) := by
  refine runs_whenAlive (f := bellStep) rfl ha ?_
  rw [bellStep_eq s.begin i hi]
  have hkj := keeps_judgeOffers (s.begin.bellLooked i)
  obtain ⟨hheads, hstep⟩ := judgeOffers_seen (s := s.begin) i
  have hnow : (s.begin.bellLooked i).judgeOffers.now = Nat.max s.now i :=
    (hkj.same .now (by decide)).trans (bellLooked_now s.begin i)
  have htrk : (s.begin.bellLooked i).judgeOffers.trk = s.trk :=
    (hkj.same .trk (by decide)).trans (bellLooked_trk s.begin i)
  have hsrc : (s.begin.bellLooked i).judgeOffers.src = (s.begin.bellCarried i).src :=
    (hkj.same .src (by decide)).trans (bellLooked_src s.begin i)
  have hone (f : Offer) (hf : s.bell.rung = [f]) : s.begin.bellCarried i = (s.begin.bellAt i).carry f := by
    unfold State.bellCarried
    rw [show s.begin.bell.rung = [f] from hf]
    rfl
  have hu : Keeps [.now, .bell, .sent] s (s.begin.bellAt i) :=
    ((keeps_begin s).mono rfl).trans ((keeps_bellAt s.begin i).mono rfl)
  have hun : (s.begin.bellAt i).now = Nat.max s.now i := bellAt_now s.begin i
  refine ⟨?_, ?_, fun f k hf hc hk hn ho hh hv he hx => ?_, fun f hf hfree => ?_, fun f hf => ?_, fun hfull f hf => ?_,
    fun hfull => ?_⟩
  · rw [State.finish_bell, hstep]
  · rw [State.finish_now, State.finish_bell, hstep, hnow]
  · rw [State.finish_src, hsrc, hone f hf]
    have hp : (s.begin.bellAt i).power = s.power := hu.same .power (by decide)
    refine carry_start _ f hc hk hn (by rw [hu.same .src (by decide), ho]) ?_ (by rw [hp, hv]) (by rw [hp, he])
      (by rw [hu.same .cfg (by decide), hx])
    rw [srcHeld, hu.same .term (by decide), hp]
    exact hh
  · rw [State.finish_bell, hheads] at hfree
    have hk : Keeps [.bell] (s.begin.bellCarried i) (s.begin.bellLooked i).judgeOffers :=
      (keeps_bellLooked s.begin i hfree).trans hkj
    rw [hone f hf] at hk
    refine carriedOut_of_carry hu (by rw [State.finish_now, hnow, hun]) ?_ ?_ ?_ ?_
    · rw [State.finish_ch]; exact hk.same .ch (by decide)
    · rw [State.finish_cg]; exact hk.same .cg (by decide)
    · rw [State.finish_head]; exact hk.same .head (by decide)
    · rw [State.finish_src]; exact hk.same .src (by decide)
  · rw [State.finish_bell] at hf
    cases hfull : s.trk.full with
    | true =>
      rw [bellStep_of_full (s := s.begin) hfull, bellLooked_rung] at hf
      cases hf
    | false =>
      obtain ⟨h1, h2⟩ := (bellStep_of_room (s := s.begin) i hfull).rung f hf
      refine ⟨?_, h2.congr (State.finish_cfg _) (State.finish_cg _) (State.finish_bell _) (State.finish_now _)⟩
      rw [State.finish_now, hnow]
      exact bellLooked_offers s.begin i f h1
  · rw [State.finish_bell] at hf
    rw [ringable_congr (State.finish_cfg _) (State.finish_cg _) (State.finish_bell _) (State.finish_now _)]
    rw [State.finish_trk, htrk] at hfull
    exact leftPending_judgeOffers (u := s.begin.bellLooked i) (by rw [bellLooked_trk]; exact hfull) f hf
  · rw [State.finish_bell, bellStep_of_full (s := s.begin) hfull]
    refine ⟨bellLooked_rung s.begin i, ?_⟩
    obtain ⟨h1, h2, h3, h4⟩ : _ ∧ _ ∧ _ ∧ _ := by simpa only [Prod.mk.injEq] using bellLooked_counts s.begin i
    exact ⟨h1, h2, h3, h4⟩

/-- Settles O28: what is rung is carried out first, the heads are looked at, and then the offers are judged; a ring only adds
a span, so that what was rung keeps the rules of R207 and what was not RINGABLE stays so. -/
theorem bellringerSteps : Obligations.BellringerSteps := by
  unfold Obligations.BellringerSteps
  intro s ha
  exact bellStep_runs rfl ha

end Sys2Proof.Machine

/-! SUPPORT. An output sample of a channel, and O19 (R99, R100, R103, R105, R113, R114, R120, R121, R128). -/

namespace Sys2Proof.Machine

-- what the signal path reads
section
variable {s t : State} (hcfg : t.cfg = s.cfg) (hsrc : t.src = s.src)

include hcfg hsrc in
theorem sourceOnAt_congr (c i : Nat) : sourceOnAt t c i = sourceOnAt s c i := by
  unfold sourceOnAt
  rw [hcfg, hsrc]

include hcfg hsrc in
theorem chopOf_congr (c : Nat) : chopOf t c = chopOf s c := by
  unfold chopOf
  rw [hcfg, hsrc]

include hcfg hsrc in
theorem inputRatio_congr (c out : Nat) (x : SampleIn) : inputRatio t c out x = inputRatio s c out x := by
  unfold inputRatio
  rw [chopOf_congr hcfg hsrc, hcfg]

variable (hch : t.ch = s.ch)

include hcfg hch in
theorem sweepOf_congr (k : Fin 64) : sweepOf t k = sweepOf s k := by
  unfold sweepOf
  rw [hcfg, hch]

include hcfg hch in
theorem pairSweep_congr (k : Fin 64) : pairSweep t k = pairSweep s k := by
  unfold pairSweep
  rw [sweepOf_congr hcfg hch, sweepOf_congr hcfg hch]

include hcfg hch in
theorem generatorFreq_congr (k : Fin 64) (i : Nat) : generatorFreq t k i = generatorFreq s k i := by
  unfold generatorFreq
  rw [pairSweep_congr hcfg hch, hcfg]

include hch in
theorem rangeAt_congr (c : Fin 64) (out k : Nat) : rangeAt t c out k = rangeAt s c out k := by
  unfold rangeAt
  rw [hch]

include hcfg hsrc hch

theorem modulatorOut_congr (c : Fin 64) (out : Nat) (x : SampleIn) : modulatorOut t c out x = modulatorOut s c out x := by
  funext k
  unfold modulatorOut
  rw [hch, inputRatio_congr hcfg hsrc, rangeAt_congr hch]

theorem gainComp_congr (c : Fin 64) (out : Nat) (x : SampleIn) : gainComp t c out x = gainComp s c out x := by
  funext k
  unfold gainComp
  rw [modulatorOut_congr hcfg hsrc hch, rangeAt_congr hch, hcfg]

theorem stage1_congr (c : Fin 64) (out : Nat) (x : SampleIn) : stage1 t c out x = stage1 s c out x := by
  unfold stage1
  rw [gainComp_congr hcfg hsrc hch, hcfg]

theorem monitorReading_congr (c : Fin 64) (out : Nat) (x : SampleIn) :
    monitorReading t c out x = monitorReading s c out x := by
  unfold monitorReading
  rw [modulatorOut_congr hcfg hsrc hch]

theorem overloadAt_congr (c : Fin 64) (out : Nat) (x : SampleIn) : overloadAt t c out x = overloadAt s c out x := by
  unfold overloadAt
  rw [monitorReading_congr hcfg hsrc hch]

theorem clippedAt_congr (c : Fin 64) (out : Nat) (x : SampleIn) : clippedAt t c out x = clippedAt s c out x := by
  unfold clippedAt
  rw [monitorReading_congr hcfg hsrc hch, hcfg]

theorem bridgeValue_congr (c : Fin 64) (out : Nat) (x : SampleIn) : bridgeValue t c out x = bridgeValue s c out x := by
  unfold bridgeValue
  rw [stage1_congr hcfg hsrc hch, hcfg]

omit hsrc
variable (hpow : t.power = s.power)
include hpow

theorem carrierTurns_congr (k : Fin 64) (i : Nat) : carrierTurns t k i = carrierTurns s k i := by
  unfold carrierTurns
  rw [pairSweep_congr hcfg hch, hcfg, hpow]

theorem demodReference_congr (c out : Nat) (q : Rat) : demodReference t c out q = demodReference s c out q := by
  funext j
  unfold demodReference
  dsimp only
  rw [hcfg]
  congr 1
  funext k
  rw [generatorFreq_congr hcfg hch, carrierTurns_congr hcfg hch hpow]

include hsrc

theorem inPhase_congr (c : Fin 64) (out : Nat) (x : SampleIn) : inPhase t c out x = inPhase s c out x := by
  unfold inPhase
  rw [demodReference_congr hcfg hch hpow, stage1_congr hcfg hsrc hch, hcfg]

theorem quadrature_congr (c : Fin 64) (out : Nat) (x : SampleIn) : quadrature t c out x = quadrature s c out x := by
  unfold quadrature
  rw [demodReference_congr hcfg hch hpow, stage1_congr hcfg hsrc hch, hcfg]

end

-- the range monitor
/-- A step keeps what a channel delivers: it changes at most the range of one channel (R114). -/
structure RangeOnly (c : Fin 64) (s t : State) : Prop where
  sampleA : (t.ch.get c).sampleA = (s.ch.get c).sampleA
  sampleP : (t.ch.get c).sampleP = (s.ch.get c).sampleP
  lastCentre : (t.ch.get c).lastCentre = (s.ch.get c).lastCentre
  overload : (t.ch.get c).overload = (s.ch.get c).overload
  others : ∀ j, j ≠ c → t.ch.get j = s.ch.get j

section
variable {c : Fin 64}

theorem RangeOnly.refl (s : State) : RangeOnly c s s := ⟨rfl, rfl, rfl, rfl, fun _ _ => rfl⟩

theorem RangeOnly.trans {s t u : State} (h : RangeOnly c s t) (h' : RangeOnly c t u) : RangeOnly c s u :=
  ⟨h'.sampleA.trans h.sampleA, h'.sampleP.trans h.sampleP, h'.lastCentre.trans h.lastCentre, h'.overload.trans h.overload,
    fun j hj => (h'.others j hj).trans (h.others j hj)⟩

theorem RangeOnly.of_upd {s t : State} {f : Channel → Channel} (h : t.ch = s.ch.upd c f)
    (hf : ∀ x, (f x).sampleA = x.sampleA ∧ (f x).sampleP = x.sampleP ∧ (f x).lastCentre = x.lastCentre ∧
      (f x).overload = x.overload) : RangeOnly c s t := by
  obtain ⟨ha, hp, hl, ho⟩ := hf (s.ch.get c)
  refine ⟨?_, ?_, ?_, ?_, fun j hj => by rw [h, Tab.get_upd_other _ _ _ _ hj]⟩ <;> rw [h, Tab.get_upd_self]
  · exact ha
  · exact hp
  · exact hl
  · exact ho

theorem RangeOnly.ite {p : Prop} [Decidable p] {s t u : State} (ht : RangeOnly c s t) (hu : RangeOnly c s u) :
    RangeOnly c s (if p then t else u) := by
  split
  · exact ht
  · exact hu

variable (s : State)

theorem rangeOnly_changeRange (g : Nat) (forced : Bool) : RangeOnly c s (s.changeRange c g forced) :=
  .of_upd (s.changeRange_ch c g forced) fun _ => ⟨rfl, rfl, rfl, rfl⟩

theorem rangeOnly_updCh {f : Channel → Channel} (hf : ∀ x, (f x).sampleA = x.sampleA ∧ (f x).sampleP = x.sampleP ∧
    (f x).lastCentre = x.lastCentre ∧ (f x).overload = x.overload) : RangeOnly c s (s.updCh c f) :=
  .of_upd (State.updCh_ch ..) hf

theorem rangeOnly_dropRange : RangeOnly c s (s.dropRange c) := .of_upd (s.dropRange_ch c) fun _ => ⟨rfl, rfl, rfl, rfl⟩

theorem rangeOnly_oneRange (finer : Bool) : RangeOnly c s (s.oneRange c finer) := by
  unfold State.oneRange
  exact .ite (.ite (rangeOnly_changeRange ..) (.refl _)) (.ite (rangeOnly_changeRange ..) (.refl _))

theorem rangeOnly_carryRange : RangeOnly c s (s.carryRange c) := by
  unfold State.carryRange
  exact .ite (rangeOnly_oneRange ..) (.ite (rangeOnly_oneRange ..) (.refl _))

theorem rangeOnly_raiseRange (finer : Bool) : RangeOnly c s (s.raiseRange c finer) := by
  unfold State.raiseRange
  dsimp only
  refine .trans (rangeOnly_updCh s (f := fun x => { x with pendFiner := finer, pendCoarser := !finer, pendSince := s.now })
    fun _ => ⟨rfl, rfl, rfl, rfl⟩) ?_
  split
  · exact ⟨rfl, rfl, rfl, rfl, fun _ _ => rfl⟩
  · exact .ite (.refl _) (rangeOnly_carryRange _)

theorem rangeOnly_rangeMonitor (m : StageOut) : RangeOnly c s (s.rangeMonitor c m) := by
  unfold State.rangeMonitor
  extract_lets k s0 s1 x
  have h0 : RangeOnly c s s0 := .ite (rangeOnly_updCh s fun _ => ⟨rfl, rfl, rfl, rfl⟩) (.refl _)
  have h1 : RangeOnly c s s1 := .ite (h0.trans (rangeOnly_dropRange s0)) h0
  clear_value s0 s1 x
  exact .ite h0 (.ite (.ite (h1.trans (rangeOnly_carryRange s1)) h1) (.ite (h1.trans (rangeOnly_raiseRange s1 false)) h1))

end

-- the sample
/-- Saturation keeps the sign (R112). -/
theorem satS_nonneg {n : Nat} {x : Int} (h : 0 ≤ x) : 0 ≤ satS n x := by
  have hp : (0 : Int) < 2 ^ (n - 1) := Int.pow_pos (by decide)
  unfold satS
  split
  · omega
  · split <;> omega

theorem envelopeAmp_nonneg (i q : Rat) : 0 ≤ envelopeAmp i q := Int.natCast_nonneg _

/-- What the heads make of a sample leaves the channels and the clock alone (R167, R169). -/
theorem keeps_deliverToHeads (s : State) (c : CfgMap) (k now : Nat) (m : HeadSample) :
    Keeps [.fresh, .head, .tally, .trk] s ((allFin 32).foldl (fun acc h =>
      if onHead c h.val k then
        let a1 := acc.updHead h (deliverSample c now h.val k m)
        if countingOf c h.val k then a1.wreSample h else a1
      else acc) s) := by
  refine Keeps.foldl_mem _ (fun acc h _ => .ite (fun _ => ?_) fun _ => .refl _ _) s
  have h1 : Keeps [.fresh, .head, .tally, .trk] acc (acc.updHead h (deliverSample c now h.val k m)) :=
    (keeps_updHead ..).mono rfl
  exact .ite (fun _ => h1.trans ((keeps_wreSample _ h).mono rfl)) fun _ => h1

section
variable (u : State) (c : Fin 64) (i : Nat) (m : StageOut)

/-- The flags of a sample (R120). -/
def sampleFlagsOf : SampleFlags :=
  { unsettled := !sourceOnAt u c.val i || unsettledAt (u.ch.get c) i
    seam := (u.ch.get c).seams.any (fun e => seamAt u.power.bootAt (samplePeriod u.cfg.active c.val) i e.1)
    clipped := m.clipped
    testing := testingAt (u.ch.get c) (groupDelay u.cfg.active c.val) i
    gain := gainAt i (u.ch.get c).seams (u.ch.get c).gain }

/-- Its value before the floor of an inductive channel (R112, R113, R121). -/
def rawValueOf : Int :=
  if !sourceOnAt u c.val i then 0 else if m.clipped then (Config.clippedValue u.fresh).toInt else satS 24 m.a

/-- Its value (R127). -/
def sampleValueOf : Int :=
  if chInductive u.cfg.active c.val && decide (rawValueOf u c i m < 0) then 0 else rawValueOf u c i m

/-- The phase of an inductive channel (R105). -/
def samplePhaseOf : Int :=
  if !sourceOnAt u c.val i || !chInductive u.cfg.active c.val then 0
  else if m.clipped then (Config.clippedValue (u.fresh + 1)).toInt else satS 24 m.p

/-- The channel with its sample (R127, R128). -/
def sampledChannel (y : Channel) : Channel :=
  overloadStep u.cfg.active c.val m.overload
    { y with sampleA := sampleWord (sampleValueOf u c i m) (sampleFlagsOf u c i m)
             sampleP := if chInductive u.cfg.active c.val then sampleWord (samplePhaseOf u c i m) (sampleFlagsOf u c i m)
               else 0#32
             rtdMohm := if chRtd u.cfg.active c.val then rtdMohm u.cfg.active c.val (sampleValueOf u c i m) else 0
             lastCentre := some i }

/-- The channel has its sample, and its range monitor has looked at it (R114, R127). -/
def State.channelSampled (g : ChGuard → ChGuard) : State :=
  ((u.draw.draw.draw.updCh c (sampledChannel u c i m)).updCg c g).rangeMonitor c m

theorem rangeOnly_channelSampled (g : ChGuard → ChGuard) :
    RangeOnly c (u.updCh c (sampledChannel u c i m)) (u.channelSampled c i m g) :=
  .trans (t := (u.draw.draw.draw.updCh c (sampledChannel u c i m)).updCg c g) ⟨rfl, rfl, rfl, rfl, fun _ _ => rfl⟩
    (rangeOnly_rangeMonitor _ m)

theorem channelSampled_now (g : ChGuard → ChGuard) : (u.channelSampled c i m g).now = u.now :=
  (keeps_rangeMonitor _ c m).same .now (by decide)

end

section
variable {s u : State} {c : Fin 64} {x : SampleIn} {i o : Nat}

/-- An output sample is taken at its output instant and goes to the heads of its channel (R100, R167, R169). -/
theorem keeps_channelSampled (hm : chMode s.cfg.active c.val ≠ 0) (hi : nextCentre s c = i)
    (ho : i + groupDelay s.cfg.active c.val = o) (hu : s.reach o = u) :
    ∃ g, Keeps [.fresh, .head, .tally, .trk] (u.channelSampled c i (stageOut u c o x) g) (channelSample c x s) := by
  have hcfg : s.cfg = u.cfg := by rw [← hu, State.reach_cfg]
  have hpow : s.power = u.power := by rw [← hu, State.reach_power]
  unfold channelSample
  rw [if_neg hm, hi]
  dsimp only
  rw [ho, hu, hcfg, hpow]
  exact ⟨_, keeps_deliverToHeads _ _ _ _ _⟩

end

section
variable {u : State} {c : Fin 64} {i : Nat} {m : StageOut}

/-- With its source off a sample has the value 0 (R121). -/
theorem sampleValueOf_off (h : sourceOnAt u c.val i = false) : sampleValueOf u c i m = 0 := by
  have hr : rawValueOf u c i m = 0 := by rw [rawValueOf, h]; rfl
  rw [sampleValueOf, hr, ite_self]

theorem rawValueOf_on (h : sourceOnAt u c.val i = true) (hc : m.clipped = false) : rawValueOf u c i m = satS 24 m.a := by
  rw [rawValueOf, h, hc]
  rfl

theorem sampleValueOf_bridge (hb : chInductive u.cfg.active c.val = false) (h : sourceOnAt u c.val i = true)
    (hc : m.clipped = false) : sampleValueOf u c i m = satS 24 m.a := by
  rw [sampleValueOf, hb, rawValueOf_on h hc]
  rfl

/-- The amplitude of an inductive channel needs no floor: a saturated magnitude is not negative (R105). -/
theorem sampleValueOf_inductive (h : sourceOnAt u c.val i = true) (hc : m.clipped = false) (ha : 0 ≤ m.a) :
    sampleValueOf u c i m = satS 24 m.a := by
  have hn : ¬ (chInductive u.cfg.active c.val && decide (satS 24 m.a < 0)) = true := by
    simp [Int.not_lt.mpr (satS_nonneg ha)]
  rw [sampleValueOf, rawValueOf_on h hc, if_neg hn]

theorem samplePhaseOf_inductive (hi : chInductive u.cfg.active c.val = true) (h : sourceOnAt u c.val i = true)
    (hc : m.clipped = false) : samplePhaseOf u c i m = satS 24 m.p := by
  rw [samplePhaseOf, hi, h, hc]
  rfl

end

/-- Settles O19: a sample is what the signal path makes of the state of its output instant, and the range monitor
leaves it alone. -/
theorem channelSample_holds : Obligations.ChannelSample := by
  unfold Obligations.ChannelSample
  refine fun s c x o hal hm ho => runs_whenAlive (f := channelSample c x) rfl hal ?_
  rw [State.finish_now, State.finish_ch]
  generalize hi : nextCentre s c = i at ho ⊢
  generalize hu : s.begin.reach o = u
  obtain ⟨g, hk⟩ := keeps_channelSampled (s := s.begin) (x := x) hm hi ho.symm hu
  have hcfg : u.cfg = s.cfg := by rw [← hu, State.reach_cfg, State.begin_cfg]
  have hsrc : u.src = s.src := by rw [← hu, State.reach_src, State.begin_src]
  have hch : u.ch = s.ch := by rw [← hu, State.reach_ch, State.begin_ch]
  have hpow : u.power = s.power := by rw [← hu, State.reach_power, State.begin_power]
  have hr := rangeOnly_channelSampled u c i (stageOut u c o x) g
  rw [hk.same .now (by decide), hk.same .ch (by decide), channelSampled_now, ← hcfg, ← hch,
    ← overloadAt_congr hcfg hsrc hch, ← clippedAt_congr hcfg hsrc hch, ← bridgeValue_congr hcfg hsrc hch,
    ← inPhase_congr hcfg hsrc hch hpow, ← quadrature_congr hcfg hsrc hch hpow, ← sourceOnAt_congr hcfg hsrc]
  refine ⟨by rw [← hu, State.reach_now, State.begin_now], ?_, ?_, ?_, ?_, ?_⟩
  · rw [hr.lastCentre, State.updCh_get]
    rfl
  · rw [hr.overload, State.updCh_get]
    rfl
  · refine ⟨sampleValueOf u c i (stageOut u c o x), sampleFlagsOf u c i (stageOut u c o x), ?_, rfl, rfl, sampleValueOf_off,
      fun hon hclip => ⟨fun hb => ?_, fun hind => ?_⟩⟩
    · rw [hr.sampleA, State.updCh_get]
      rfl
    · have ha : (stageOut u c o x).a = bridgeValue u c o x := if_neg (by rw [hb]; decide)
      rw [sampleValueOf_bridge hb hon hclip, ha]
    · have ha : (stageOut u c o x).a = envelopeAmp (inPhase u c o x) (quadrature u c o x) := if_pos hind
      have hp : (stageOut u c o x).p = envelopePhase (inPhase u c o x) (quadrature u c o x) := if_pos hind
      have hnn : 0 ≤ (stageOut u c o x).a := ha ▸ envelopeAmp_nonneg _ _
      refine ⟨by rw [sampleValueOf_inductive hon hclip hnn, ha], ?_⟩
      rw [hr.sampleP, State.updCh_get, ← hp, ← samplePhaseOf_inductive hind hon hclip]
      exact if_pos hind
  · intro hb
    rw [hr.sampleP, State.updCh_get]
    exact if_neg (by rw [hb]; decide)
  · intro j hj
    rw [hr.others j hj, State.updCh_other _ _ _ hj]

end Sys2Proof.Machine
